-- ==== Sys2Proof/Word.lean ====
section
/-! DEFINITION. The word types of the module: bytes, tables keyed by a number, the 8-bit statuses of R10 and
the message header fields every sessioned request carries (R419). -/

namespace Sys2Proof

/-- One byte, the smallest addressable unit (R176). -/
abbrev Byte := BitVec 8

/-- A byte string: a message payload, a digest, a row of a tile. -/
abbrev Bytes := List Byte

/-- A table of records under their numbers, the numbers strictly rising. -/
abbrev Tab (α : Type) := List (Nat × α)

/-- The byte memory: the bytes that differ from zero under their local offsets (R176), rising. -/
abbrev Memory := List Host.Cell

/-- The statuses of R10; values 0x0D to 0xFF are reserved and never returned. -/
inductive Status where
  | ok | busy | state | range | access | noctx | deadline | profile | width | auth | integrity | lost | taken
  deriving DecidableEq, Repr

/-- The 8-bit code of a status (R10). -/
def Status.code : Status → Nat
  | .ok => 0 | .busy => 1 | .state => 2 | .range => 3 | .access => 4 | .noctx => 5 | .deadline => 6
  | .profile => 7 | .width => 8 | .auth => 9 | .integrity => 10 | .lost => 11 | .taken => 12

/-- What a sessioned Bamcen request carries beside its payload (R419): the context number, the SEQ, the
Ethernet port it came in on, whether its KMAC256 tag verifies (R421), the UDP port it was sent to, its payload's length, and the source
address with its UDP port, as a number (R423). -/
structure Hdr where
  ctx : Nat
  seq : Nat
  port : Nat
  tagOk : Bool
  udp : Nat
  len : Nat
  source : Nat
  deriving DecidableEq, Repr

end Sys2Proof
end

