-- ==== Sys2Proof/Config.lean ====
section
/-! DEFINITION. What the image and its Almanac declare (chapters 02 to 11), and the constants the manual
leaves open: free values and the functions other standards define, all without a body. -/

namespace Sys2Proof

/-- One code region of a station (R242): its first instruction address and its words. -/
structure CodeRegion where
  station : Nat
  start : Nat
  words : List Nat
  deriving DecidableEq, Repr

/-- A declared descriptor-table entry (R251, R252). -/
structure DescDecl where
  station : Nat
  entry : Nat
  value : Nat
  deriving DecidableEq, Repr

/-- A declared semaphore (R215, R216, R354, R503): its owner is a master ID, or a binding slot when `slot`. -/
structure SemDecl where
  field : Nat
  num : Nat
  cap : Nat
  count : Nat
  owner : Nat
  slot : Bool
  gate : Bool
  commit : Bool
  deriving DecidableEq, Repr

/-- A declared scale-table entry (R59, R60, R65). `fmt` is the tag: 1 E4M3, 2 E5M2. -/
structure ScaleDecl where
  entry : Nat
  fmt : Nat
  h : Nat
  margin : Nat
  init : Int
  shared : Bool
  dbuf : Bool
  deriving DecidableEq, Repr

/-- A tensor with a working copy (R143, R148): format tag, scale entry, stage, index range, offset of
buffer A, optimizer group. -/
structure TensorDecl where
  num : Nat
  fmt : Nat
  scale : Nat
  stage : Nat
  start : Nat
  length : Nat
  wc : Nat
  group : Nat
  deriving DecidableEq, Repr

/-- An optimizer group (R149); the FP32 fields are bit patterns. `decay`: 0 NONE, 1 DECOUPLED, 2 L2. -/
structure OptGroup where
  num : Nat
  beta1 : Nat
  beta2 : Nat
  eps : Nat
  lambda : Nat
  decay : Nat
  bias : Bool
  gradMult : Nat
  sched : Nat
  clipMax : Nat
  deriving DecidableEq, Repr

/-- A learning-rate schedule (R150): points of a step number and an FP32 pattern. -/
structure Sched where
  num : Nat
  points : List (Nat × Nat)
  deriving DecidableEq, Repr

/-- A shard of a stage (R140, R142): holders are (module, failure domain, primary); `mine` says this module
holds it, with its region bases. -/
structure ShardDecl where
  stage : Nat
  start : Nat
  blocks : Nat
  holders : List (Nat × Nat × Bool)
  mine : Bool
  primary : Bool
  master : Nat
  moment1 : Nat
  moment2 : Nat
  grad0 : Nat
  grad1 : Nat
  deriving DecidableEq, Repr

/-- A gradient bucket (R160). -/
structure BucketDecl where
  stage : Nat
  start : Nat
  length : Nat
  fmt : Nat
  redno : Nat
  deriving DecidableEq, Repr

/-- The kinds of a reduction (R318). -/
inductive RedKind where
  | sum | max | permute
  deriving DecidableEq, Repr

/-- One move of a permutation (R342): source module and offset, destination module and offset, length,
staging offset at the destination. -/
structure Move where
  srcMod : Nat
  src : Nat
  dstMod : Nat
  dst : Nat
  length : Nat
  staging : Nat
  deriving DecidableEq, Repr

/-- An entry of the reduction table (R318). `fmt` is the tag of the source format; `amaxOf` names the scale
entry whose die-wide amax a max-combine reads (R64); `vote` marks the commit vote (R162). -/
structure RedDecl where
  redno : Nat
  kind : RedKind
  chain : Bool
  channel : Nat
  fmt : Nat
  n : Nat
  source : Nat
  amaxOf : Option Nat
  ready : Option (Nat × Nat × Nat)
  result : Option Nat
  slot : Nat
  seed : Nat
  mask : Bool
  first : Nat
  moves : List Move
  arrival : Option (Nat × Nat)
  vote : Bool
  norm : Option Nat
  sem : Option Nat
  deriving DecidableEq, Repr

/-- An entry of the channel table (R319). -/
structure ChannelDecl where
  num : Nat
  field : Nat
  participants : List Nat
  fanin : Nat
  copyHolder : Option Nat
  stagingBase : Nat
  stagingSize : Nat
  deriving DecidableEq, Repr

/-- A declared reference slot (R324). -/
structure RefSlotDecl where
  slot : Nat
  eInit : Int
  hlen : Nat
  fixed : Bool
  g : Nat
  deriving DecidableEq, Repr

/-- A multicast module group (R344, R346): members are (module, flow); DETACH_TIME in units of 1,024 ticks. -/
structure ModGroup where
  num : Nat
  members : List (Nat × Nat)
  detachTime : Nat
  deriving DecidableEq, Repr

/-- A K-split group of the mapping (R91, R122): the owner's station and collecting tile, the split s, the K tiles, the add mode's
code (R252), and for each distance the instruction addresses of that station's MMAs of the group (log entry 13). -/
structure KSplit where
  owner : Nat
  tile : Nat
  s : Nat
  kTiles : Nat
  mode : Nat
  runs : List (List Nat)
  deriving DecidableEq, Repr

/-- The memories of the buffer map (R379). -/
inductive MemKind where
  | station (g : Nat) | slice (k : Nat) | hbm | imem (g : Nat)
  deriving DecidableEq, Repr

/-- A buffer of the buffer map (R379): offset within its memory, size, producers, template and frame range. -/
structure BufDecl where
  mem : MemKind
  base : Nat
  size : Nat
  producers : List Nat
  template : Nat
  first : Nat
  last : Nat
  deriving DecidableEq, Repr

/-- A segment entry of a frame template (R353). -/
structure SegEntry where
  station : Nat
  offset : Nat
  entry : Nat
  close : Nat
  deriving DecidableEq, Repr

/-- A gate of a frame template (R354). -/
structure GateDecl where
  field : Nat
  sem : Nat
  n : Nat
  deriving DecidableEq, Repr

/-- The owner of a slot of one port and direction (R283): a flow number of the Almanac. -/
structure SlotOwner where
  port : Nat
  out : Bool
  slot : Nat
  flow : Nat
  bytes : Nat
  deriving DecidableEq, Repr

/-- A transit entry (R297): an incoming port and slot mapped to an outgoing port and slot, and the bytes declared for it (R283). -/
structure TransitEntry where
  inPort : Nat
  slot : Nat
  outPort : Nat
  outSlot : Nat
  srcMod : Nat
  dstMod : Nat
  bytes : Nat
  deriving DecidableEq, Repr

/-- A frame template (R350): VOTE with its tick offset, LOOP with its new length, DFW with the lent tile and
plane (R130). -/
structure Template where
  segments : List SegEntry
  gates : List GateDecl
  slots : List SlotOwner
  transit : List TransitEntry
  vote : Option Nat
  loop : Option Nat
  dfw : Option (Nat × Nat)
  deriving DecidableEq, Repr

/-- A link of a route (R297, R299): from a module's port to a module, with the declared propagation bound. -/
structure LinkDecl where
  src : Nat
  port : Nat
  dst : Nat
  bound : Nat
  deriving DecidableEq, Repr

/-- A fabric flow of the Almanac (R291, R297, R301): the peer, the local issuers it carries, its routes. -/
structure FlowDecl where
  num : Nat
  peer : Nat
  issuers : List Nat
  routes : List (List LinkDecl)
  deriving DecidableEq, Repr

/-- A work window (R350): kind (0 stream, 1 RED, 2 UPD, 3 host input, 4 remote transfer), unit, template, earliest start and latest
end tick, and the semaphore that signals its end, as field × 4,096 + number. -/
structure Window where
  template : Nat
  kind : Nat
  unit : Nat
  start : Nat
  stop : Nat
  sem : Nat
  deriving DecidableEq, Repr

/-- The place of a module of the job (R140, R314): its replica, its stage, its failure domain. -/
structure Member where
  module : Nat
  replica : Nat
  stage : Nat
  domain : Nat
  deriving DecidableEq, Repr

/-- The Decsor image and its Almanac, as the fields of their sections (R350, R357). -/
structure Image where
  code : List CodeRegion
  desc : List DescDecl
  sems : List SemDecl
  watchRes : List (Nat × Nat)
  scales : List ScaleDecl
  tensors : List TensorDecl
  wcDelta : Nat
  groups : List OptGroup
  scheds : List Sched
  shards : List ShardDecl
  maskBase : Nat
  buckets : List BucketDecl
  ties : List (List Nat)
  reds : List RedDecl
  channels : List ChannelDecl
  refSlots : List RefSlotDecl
  modGroups : List ModGroup
  recvSets : List (Nat × List Nat)
  widths : List Nat
  ksplits : List KSplit
  buffers : List BufDecl
  access : List (Nat × Nat)
  bindings : List Nat
  auditK : Nat
  retained : Nat
  frameTicks : Nat
  mMin : Nat
  mMax : Nat
  reserve : Nat
  loop : Nat
  domain : Nat
  lMax : Nat
  jobModules : List Nat
  members : List Member
  templates : List Template
  prologue : List Nat
  cycle : List Nat
  flows : List FlowDecl
  windows : List Window
  deriving DecidableEq, Repr

/-- A section-table entry of the container (R357), with whether its bytes match its digest. -/
structure Section where
  typ : Nat
  offset : Nat
  len : Nat
  zeros : Bool
  digestOk : Bool
  deriving DecidableEq, Repr

/-- The image container in the load buffer (R356 to R359), as its fields: `zeros` says the reserved header
fields are zero, `sigOk` whether the owner signature section verifies. -/
structure Container where
  magic : Nat
  version : Nat
  profile : Nat
  flags : Nat
  length : Nat
  uwidth : Nat
  zeros : Bool
  sections : List Section
  sigOk : Bool
  image : Image
  deriving DecidableEq, Repr

/-- An item of the timing check (R362), by its number in that rule and the unit it concerns. -/
structure TimingItem where
  rule : Nat
  template : Nat
  unit : Nat
  index : Nat
  deriving DecidableEq, Repr

namespace Config

/-- Fresh random bits the module draws (R287, R425): the draw's number gives them. A free value. -/
opaque fresh : Nat → Nat

/-- SHAKE256 with an output of the given number of bytes (R358, R465, R471): defined by FIPS 202, not here. -/
opaque shake256 : Nat → Bytes → Bytes

/-- The device identity signature over a byte string (R469): ML-DSA-65 of FIPS 204, not here. -/
opaque identitySign : Bytes → Bytes

/-- ML-KEM-768 encapsulation (R424): ciphertext and shared secret from the key and random bits (FIPS 203). -/
opaque encaps : Bytes → Nat → Bytes × Bytes

/-- The KMAC256 tag of an outgoing message under a session key (R421): NIST SP 800-185, not here. -/
opaque kmac256 : Bytes → Bytes → Nat

/-- The cycles of an item of the timing check, at a multiplier, with the Vigil on or off, that rest on other items' schedules:
interlocks, waits, shared slices and ports (R362). The manual gives no complete algorithm for them: a free function of the image. -/
opaque waits : Image → (mult : Nat) → (vigil : Bool) → TimingItem → Nat

/-- Whether a RESET_N pulse between 1 and 10 microseconds is recognised (R488): free, by the draw's number. -/
opaque pulseRecognised : Nat → Bool

/-- The memory errors that arise in an interval of time (R183), by the draw's number: byte offsets of single-bit errors, and of
uncorrectable ones. The manual gives no rule for them: a free value. -/
opaque newErrors : Nat → List Nat × List Nat

/-- A byte the manual leaves undefined (R168, R502): free, by the draw's number and the byte's place. -/
opaque undefinedByte : Nat → Nat → Byte

/-- A number the manual leaves open: free, by the draw's number. -/
opaque freeNat : Nat → Nat

/-- The leap budget that the step-down monitors judge by while no Almanac is loaded, at a multiplier (R403): the manual
defines Q_m for a loaded Almanac only. A free value. -/
opaque idleBudget : Nat → Nat

/-- The verdicts of the load check that rest on the order of the work in time, by the number of the rule that refuses (R29,
R37, R64, R112, R125, R144, R146, R157, R225), where the placed words do not decide them. The manual gives no complete algorithm: a
free function of the image. -/
opaque scheduleOk : Image → (rule : Nat) → Bool

/-- The bytes in which an object shows values whose layout the manual does not give: object number, values, byte. A free
value. -/
opaque layout : (key : Nat) → List Nat → (place : Nat) → Byte

/-- How many bytes such an object has where the manual does not say: object number, values. A free value. -/
opaque layoutLen : (key : Nat) → List Nat → Nat

end Config

end Sys2Proof
end

