-- ==== Sys2Proof/Config/Operands.lean ====
section
/-! DEFINITION. The operand records of the commands: packets, adverts, identity messages and bulk openings as the
manual lays them out, with the verdicts of the cryptographic checks beside them. -/

namespace Sys2Proof

/-- A fabric packet (R296): the header fields and the payload bytes. -/
structure Packet where
  typ : Nat
  dstMod : Nat
  srcMod : Nat
  dstCtx : Nat
  seq : Nat
  issuer : Nat
  opTag : Nat
  addr : Nat
  status : Nat
  op : Nat
  payload : Bytes
  deriving DecidableEq, Repr

/-- A packet as it arrives (R294, R298): its port and slot, and the CRC its header holds. -/
structure Rx where
  port : Nat
  slot : Nat
  crc : Nat
  pkt : Packet
  deriving DecidableEq, Repr

/-- The identity a partner sends in IDENT (R286), with the verdicts on its signature and certificate. -/
structure IdentMsg where
  modId : Nat
  modValid : Bool
  instId : Nat
  bootEpoch : Nat
  peerPort : Nat
  digest : Nat
  nonce : Bytes
  lc : Nat
  sigOk : Bool
  certOk : Bool
  deriving DecidableEq, Repr

/-- What this module sends in IDENT ahead of its signature (R286). -/
structure IdentOut where
  key : Bytes
  cert : Bytes
  nonce : Bytes
  port : Nat
  modId : Nat
  modValid : Bool
  instId : Nat
  bootEpoch : Nat
  lc : Nat
  deriving DecidableEq, Repr

/-- A link-state advert as it arrives (R289, R307, R386): `hops` links travelled, the links of its sender as
(peer module, peer port, propagation), REF_DEPTH and the tick count it carries. -/
structure Advert where
  modId : Nat
  digest : Nat
  bootEpoch : Nat
  links : List (Nat × Nat × Nat)
  hops : Nat
  refDepth : Nat
  tick : Nat
  tickSource : Nat
  distance : Nat
  instId : Nat
  valid : Bool
  deriving DecidableEq, Repr

/-- An OPEN request (R424): the payload fields, the digest of OWNER_PK and the verdict on SIG. -/
structure OpenMsg where
  nonce : Nat
  hostNonce : Nat
  ek : Bytes
  pk : Bytes
  pkDigest : Bytes
  sig : Bytes
  sigOk : Bool
  source : Nat
  udp : Nat
  deriving DecidableEq, Repr

/-- Where a datagram outside any session comes from, and the UDP port it is addressed to (R417, R440). -/
structure Sender where
  addr : Nat
  udp : Nat
  deriving DecidableEq, Repr

/-- A BULK_OPEN payload (R433). -/
structure BulkOpen where
  kind : Nat
  segBytes : Nat
  index : Nat
  sub : Nat
  addr : Nat
  length : Nat
  sem : Nat
  delta : Nat
  zeros : Bool
  deriving DecidableEq, Repr

/-- The verdicts on a firmware container that other standards define (R466): body digest, known and unrevoked
Eonel key digest, the two signatures. -/
structure FwVerdict where
  bodyOk : Bool
  keyOk : Bool
  eonelSigOk : Bool
  ownerSigOk : Bool
  deriving DecidableEq, Repr

/-- One item of a READ (R428). -/
structure ReadItem where
  index : Nat
  sub : Nat
  offset : Nat
  deriving DecidableEq, Repr

/-- One item of a WRITE (R428): the type code, LEN and the value bytes. -/
structure WriteItem where
  index : Nat
  sub : Nat
  typ : Nat
  value : Bytes
  deriving DecidableEq, Repr

end Sys2Proof
end

