-- ==== Sys2Proof/Syntax.lean ====
section
/-! DEFINITION. The commands of the block: one constructor for each of the 237 rows of the table, in the table's
order, with the row's operands. `g` is a station's global number, `f` a field, `t` an output tile, `st` a stream,
`p` a port, `ctx` a flow context, `h` the header of a sessioned request. -/

namespace Sys2Proof

/-- A command. -/
inductive Instr where
  /-- FRAME_BOUNDARY (R22): The frame tick count reaches the boundary: each field waits for the reference-aligned start, cancels leaps and re-centres its crossings before the next frame's work. -/
  | frameBoundary
  /-- FRAME_MARKER (R20): A frame marker carrying the frame count and the HOLD flag arrives on a fabric link and is compared with the module's own count. -/
  | frameMarker (port count : Nat) (hold : Bool) (phase : Int)
  /-- VOTE_POINT (R163): The Almanac's vote point in the last frame of a step is reached, and the module fixes its contribution and reason bits. -/
  | votePoint
  /-- DECISION_POINT (R310): The hold decision point of a frame is reached: gate judgements are submitted and closing conditions are evaluated. -/
  | decisionPoint
  /-- GATE_JUDGEMENT (R354): A gate judgement is applied at the sync unit, subtracting n when the count suffices and otherwise staying armed. -/
  | gateJudgement (field sem : Nat)
  /-- HOLD (R310): A HOLD(b) notice arrives, is forwarded to the job's modules and makes the module stop at boundary b. -/
  | holdNotice (port b : Nat)
  /-- READY (R312): A READY(b) notice arrives, and the resume coordinator counts it. -/
  | readyNotice (module b : Nat)
  /-- RESUME (R312): A RESUME(b, r) notice arrives and fixes the tick at which the domain resumes. -/
  | resumeNotice (b r : Nat)
  /-- RESUME_AT (R312): Resume tick r is reached, and the domain tick count continues from b with markers carrying HOLD = 0. -/
  | resumeAt
  /-- HELD_GRID_REPEAT (R311): While the job is held, every T reference ticks each link repeats the slot grid of the frame that ended at b. -/
  | heldGridRepeat
  /-- HOLD_TIMEOUT (R313): A hold has lasted PARTNER_TIMEOUT ticks, so flows with unmet closing conditions abort or HOLD_TIMEOUT is raised. -/
  | holdTimeout
  /-- LOAD (R360): The ALMANAC_CMD LOAD command starts the ordered load check of the container in the load buffer. -/
  | loadImage (h : Hdr) (c : Container)
  /-- LOAD_CHECK_DONE (R360): The load check finishes, and the module either installs the image or reports the first failing status. -/
  | loadCheckDone
  /-- START (R367): The ALMANAC_CMD START command runs the start rules in order and arms the Almanac for START_TICK. -/
  | start (h : Hdr)
  /-- STOP (R370): The ALMANAC_CMD STOP command schedules a stop at the boundary that STOP_AT names. -/
  | stop (h : Hdr)
  /-- UNLOAD (R371): The ALMANAC_CMD UNLOAD command returns a LOADED or STOPPED module to EMPTY. -/
  | unload (h : Hdr)
  /-- FRAME_ZERO (R495): START_TICK is reached and frame 0 begins, so the Almanac leaves ARMED and runs. -/
  | frameZero
  /-- SEGMENT_START (R243): A segment start point is reached, and an idle sequencer loads the entry address, or a running one holds the start as pending. -/
  | segmentStart (g entry : Nat)
  /-- NOP (R272): The NOP instruction delays issue for CYCLES cycles. -/
  | nop (g : Nat)
  /-- MMA (R255): The MMA instruction streams M rows through the array into an output tile by its SHAPE entry. -/
  | mma (g : Nat)
  /-- MMA_ROW_RETIRE (R96): A row of an MMA or ring partial is written into its tile, and the in-flight count falls; at the last row the completion semaphore is signalled. -/
  | mmaRowRetire (g t : Nat)
  /-- LDW (R256): The LDW instruction loads a weight tile into a plane from station memory or from the weight buffer. -/
  | ldw (g : Nat)
  /-- PLANE_LOAD_START (R74): A waiting plane load starts once the last row of the earlier MMAs has passed segment 7. -/
  | planeLoadStart (g : Nat)
  /-- PLANE_LOAD_DONE (R73): A plane load completes, and MMAs waiting on that plane may issue. -/
  | planeLoadDone (g : Nat)
  /-- MVA (R257): The MVA instruction computes a matrix-vector product on the matrix-vector path. -/
  | mva (g : Nat)
  /-- MVA_DONE (R109): An MVA completes at c0 + K + 17, writes z and signals its semaphore. -/
  | mvaDone (g : Nat)
  /-- DRN (R258): The DRN instruction puts a tile into DRAINING toward station memory or RING. -/
  | drn (g : Nat)
  /-- DRAIN_COPY_OUT (R97): Copy-out of a draining tile begins in the cycle after its in-flight count reaches zero. -/
  | drainCopyOut (g t : Nat)
  /-- DRAIN_DONE (R98): Copy-out ends, the tile returns to OPEN and the DRN semaphore is signalled. -/
  | drainDone (g t : Nat)
  /-- RING_PARTIAL_ROW (R95): A row of a ring partial arrives at the collecting station and is added after the LAST MMA has retired. -/
  | ringPartialRow (g : Nat)
  /-- VLD (R259): The VLD operation loads 256 bytes into a vector register. -/
  | vld (g : Nat)
  /-- VST (R259): The VST operation stores a vector register to station memory. -/
  | vst (g : Nat)
  /-- VMOV (R259): The VMOV operation copies a vector register. -/
  | vmov (g : Nat)
  /-- VIMM (R259): The VIMM operation sets every lane to an immediate. -/
  | vimm (g : Nat)
  /-- VIDX (R259): The VIDX operation sets each lane to its index plus an immediate. -/
  | vidx (g : Nat)
  /-- VBCAST (R259): The VBCAST operation broadcasts one lane to all lanes. -/
  | vbcast (g : Nat)
  /-- VADD (R260): The VADD operation adds lanes with RNE. -/
  | vadd (g : Nat)
  /-- VSUB (R260): The VSUB operation subtracts lanes with RNE. -/
  | vsub (g : Nat)
  /-- VMUL (R260): The VMUL operation multiplies lanes with RNE. -/
  | vmul (g : Nat)
  /-- VFMA (R260): The VFMA operation performs a fused multiply-add rounded once. -/
  | vfma (g : Nat)
  /-- VMAX (R260): The VMAX operation takes the larger of two lanes. -/
  | vmax (g : Nat)
  /-- VMIN (R260): The VMIN operation takes the smaller of two lanes. -/
  | vmin (g : Nat)
  /-- VABS (R260): The VABS operation clears the sign bit of each lane. -/
  | vabs (g : Nat)
  /-- VNEG (R260): The VNEG operation inverts the sign bit of each lane. -/
  | vneg (g : Nat)
  /-- VCMPGT (R260): The VCMPGT operation gives 1.0 where VA > VB, and +0 otherwise. -/
  | vcmpgt (g : Nat)
  /-- VCMPEQ (R260): The VCMPEQ operation gives 1.0 where VA = VB, and +0 otherwise. -/
  | vcmpeq (g : Nat)
  /-- VSEL (R260): The VSEL operation selects VA or VB by the selector VC. -/
  | vsel (g : Nat)
  /-- VEXP2 (R260): The VEXP2 operation computes a correctly rounded 2^VA on the transcendental unit. -/
  | vexp2 (g : Nat)
  /-- VLOG2 (R260): The VLOG2 operation computes a correctly rounded log2(VA). -/
  | vlog2 (g : Nat)
  /-- VRCP (R260): The VRCP operation computes a correctly rounded reciprocal. -/
  | vrcp (g : Nat)
  /-- VRSQ (R260): The VRSQ operation computes a correctly rounded reciprocal square root. -/
  | vrsq (g : Nat)
  /-- VRSUM (R261): The VRSUM operation sums all lanes by the fixed tree. -/
  | vrsum (g : Nat)
  /-- VRMAX (R261): The VRMAX operation takes the maximum of all lanes by the fixed tree. -/
  | vrmax (g : Nat)
  /-- CVT_PACK (R262): The CVT PACK operation converts lanes into a format and writes them to station memory, updating PEND_AMAX. -/
  | cvtPack (g : Nat)
  /-- CVT_UNPACK (R262): The CVT UNPACK operation reads elements of a format into lanes, descaling them. -/
  | cvtUnpack (g : Nat)
  /-- STR (R263): The STR instruction reads a descriptor and arms one of the station's streams, writing the arming status. -/
  | str (g : Nat)
  /-- SIG_ADD (R264): The SIG instruction with SUB ADD enters the signal queue to add a delta to a semaphore. -/
  | sigAdd (g : Nat)
  /-- SIG_SUB (R264): The SIG instruction with SUB SUB enters the signal queue to subtract a delta from a semaphore. -/
  | sigSub (g : Nat)
  /-- SIG_RELEASE (R223): A SIG held in the signal queue leaves once every earlier fence has retired. -/
  | sigRelease (g : Nat)
  /-- TAK (R265): The TAK instruction takes a count and holds the sequencer until the reply. -/
  | tak (g : Nat)
  /-- WAT_POST (R266): The WAT instruction with SUB POST registers a watch and waits only for the registration reply. -/
  | watPost (g : Nat)
  /-- WAT_BLOCK (R266): The WAT instruction with SUB BLOCK registers a watch and holds the sequencer until its message arrives. -/
  | watBlock (g : Nat)
  /-- WAT_WAIT (R266): The WAT instruction with SUB WAIT holds until the inbox holds the entry with its cookie, then frees it. -/
  | watWait (g : Nat)
  /-- SYNC_OPERATION_REPLY (R253): A sync unit's reply arrives at a station and releases a TAK or records LOST for a SIG. -/
  | syncOperationReply (g : Nat)
  /-- WATCH_MESSAGE (R230): A watch message arrives in a station inbox or an engine wait slot. -/
  | watchMessage (unit : Nat)
  /-- FNC (R267): The FNC instruction records a fence over the issuer's earlier transfers. -/
  | fnc (g : Nat)
  /-- FNC_WAIT (R267): The FNC_WAIT instruction records a fence and holds the sequencer until every fence has retired. -/
  | fncWait (g : Nat)
  /-- FENCE_RETIRE (R222): A fence retires when all its covered acknowledgements have arrived or are known lost; held SIGs leave or are discarded. -/
  | fenceRetire (g : Nat)
  /-- RED (R268): The RED instruction submits a reduction to the field's reduction engine. -/
  | red (g : Nat)
  /-- UPD (R268): The UPD instruction submits an UPDATE entry to the field's update engine. -/
  | upd (g : Nat)
  /-- LYR (R208): The LYR instruction holds the sequencer until the station's array, drains, MVAs and vector unit are quiet. -/
  | lyr (g : Nat)
  /-- LYR_RELEASE (R208): The conditions of LYR come to hold and the sequencer is released. -/
  | lyrRelease (g : Nat)
  /-- DFW (R269): The DFW instruction enqueues a deferred-W entry from a descriptor pair. -/
  | dfw (g : Nat)
  /-- JMP (R270): The JMP instruction jumps when its condition holds. -/
  | jmp (g : Nat)
  /-- END (R243): The END instruction ends the segment and carries out any pending start. -/
  | endSeg (g : Nat)
  /-- SETA (R270): The SETA instruction sets a base register and its increment. -/
  | seta (g : Nat)
  /-- LSET (R271): The LSET instruction sets a loop counter. -/
  | lset (g : Nat)
  /-- LEND (R271): The LEND instruction advances base registers, decrements the loop counter and jumps back while it is nonzero. -/
  | lend (g : Nat)
  /-- ILLEGAL_INSTRUCTION (R247): A word with a reserved encoding, or one that breaks a load check, reaches issue and faults the station. -/
  | illegalInstruction (g : Nat)
  /-- INSTRUCTION_WRITE (R242): A master writes whole aligned words into instruction memory during a run, and partial writes are refused. -/
  | instructionWrite (master addr : Nat) (data : Bytes)
  /-- SEM_SIG_ADD (R219): The sync unit applies SIG ADD to a semaphore and evaluates its watches and armed gates. -/
  | semSigAdd (f : Nat)
  /-- SEM_SIG_SUB (R219): The sync unit applies SIG SUB to a semaphore. -/
  | semSigSub (f : Nat)
  /-- SEM_TAK (R219): The sync unit applies TAK, taking n when the count suffices and replying TAKEN otherwise. -/
  | semTak (f : Nat)
  /-- SEM_WAT (R219): The sync unit registers a watch and evaluates it at once. -/
  | semWat (f : Nat)
  /-- CAROUSEL_FORWARD (R117): A visited station forwards an operand row clockwise once the row is in its buffer and the next station has credit. -/
  | carouselForward (g : Nat) (deferred : Bool)
  /-- WEIGHT_TILE_FORWARD (R120): A CHAIN weight tile complete in a station's weight buffer is passed on when the next weight buffer is empty. -/
  | weightTileForward (g : Nat)
  /-- DFW_ENTRY_START (R127): A deferred-W entry starts after the entry before it completes, taking its wait count. -/
  | dfwEntryStart (g : Nat)
  /-- DFW_RESTORE (R127): An entry's restore writes the PAIR image into its tile once the tile's in-flight count is zero. -/
  | dfwRestore (g : Nat)
  /-- DFW_CHUNK_ISSUE (R129): A deferred-W chunk issues in a cycle where the west edge is free and no sequencer MMA is ready. -/
  | dfwChunkIssue (g : Nat)
  /-- UPD_INIT (R146): The update engine runs an INIT pass that forms both working-copy buffers from the masters. -/
  | updInit (f : Nat)
  /-- UPD_NORM (R153): The update engine runs a NORM pass that sums squared gradients into an FX128 partial. -/
  | updNorm (f : Nat)
  /-- UPD_PREPARE (R152): The update engine runs a PREPARE pass that computes the AdamW update and writes the idle working copy. -/
  | updPrepare (f : Nat)
  /-- UPD_APPLY (R155): The update engine runs an APPLY pass that recomputes the update and writes masters and moments in place, or does nothing if there was no commit. -/
  | updApply (f : Nat)
  /-- UPD_COMPLETE (R148): A UPD's last write is acknowledged and its completion semaphore is signalled. -/
  | updComplete (f : Nat)
  /-- RESOLVE_COMMIT (R167): Writing COMMIT to RESOLVE flips the buffers of an UNDECIDED module and sets APPLY_PENDING. -/
  | resolveCommit (h : Hdr)
  /-- RESOLVE_ABORT (R167): Writing ABORT to RESOLVE aborts the undecided step as R165 sets out. -/
  | resolveAbort (h : Hdr)
  /-- STREAM_ARM (R196): A 64-byte write into a stream's PENDING slot is judged and arms the descriptor. -/
  | streamArm (master addr : Nat) (data : Bytes)
  /-- STREAM_UNIT_START (R199): A stream takes an EMPTY_REF credit and starts reading a unit. -/
  | streamUnitStart (g st : Nat)
  /-- STREAM_TRANSFER (R198): A stream is served up to 256 bytes in its round-robin turn on the station's die-network port. -/
  | streamTransfer (g st : Nat)
  /-- STREAM_UNIT_DONE (R199): Every write of a unit is acknowledged, and FULL_REF is incremented. -/
  | streamUnitDone (g st : Nat)
  /-- STREAM_COMPLETE (R197): An active descriptor's last write is acknowledged; DONE_REF is signalled and PENDING is promoted or the stream goes IDLE. -/
  | streamComplete (g st : Nat)
  /-- MERGE_WINDOW (R205): Eight cycles after a merge window opens, the slice performs one read and broadcasts it to every member. -/
  | mergeWindow (line : Nat)
  /-- STREAM_STALL (R209): A stream's watchdog count reaches WATCHDOG × 1,024 ticks without progress. -/
  | streamStall (g st : Nat)
  /-- HBM_GRANULE (R181): A write of the interleave exponent starts a wipe of all HBM. -/
  | hbmGranule (h : Hdr) (v : Nat)
  /-- ACCESS_EDIT_WRITE (R191): The ACCESS_EDIT write operation installs one access-table entry. -/
  | accessEditWrite (h : Hdr) (data : Bytes)
  /-- ACCESS_EDIT_CLEAR (R191): The ACCESS_EDIT clear operation removes one access-table entry. -/
  | accessEditClear (h : Hdr) (data : Bytes)
  /-- LINK_TRAINING_PHASE (R285): A fabric port completes a training phase and moves to the next one. -/
  | linkTrainingPhase (p roundTrip : Nat)
  /-- TRAINING_TIMEOUT (R285): A training phase exceeds its limit, and the port returns to DETECT after 1 s. -/
  | trainingTimeout (p : Nat)
  /-- LOSS_OF_SIGNAL (R285): A lane loses signal for 1 ms and the port goes DOWN. -/
  | lossOfSignal (p : Nat)
  /-- IDENT (R286): The identity exchange is received and verified, and the port goes UP or REFUSED. -/
  | ident (p : Nat) (i : IdentMsg)
  /-- CODEWORD_GROUP (R280): A codeword group is received, and a group with an uncorrectable codeword is discarded and its replay requested. -/
  | codewordGroup (p seq : Nat) (errs : List Nat) (acked : Option Nat)
  /-- REPLAY (R280): A replay request makes the sender resend the kept groups in order, and repeated failures take the port DOWN. -/
  | replay (p seq : Nat)
  /-- LINK_STATE_ADVERT (R289): A link-state advert arrives and updates the topology, tick alignment and reference depth. -/
  | linkStateAdvert (p : Nat) (a : Advert)
  /-- ADVERT_TIMER (R289): Every 100,000 ticks the module floods its link-state advert. -/
  | advertTimer
  /-- FLOW_PACKET_SEND (R283): A flow packet is sent in a slot that the flow holds, when the whole packet fits. -/
  | flowPacketSend (ctx port slot room : Nat)
  /-- FABRIC_WRITE (R302): A WRITE packet arrives, is checked and written, and is acknowledged. -/
  | fabricWrite (rx : Rx)
  /-- FABRIC_READ (R302): A READ packet arrives and is answered with READ_DATA. -/
  | fabricRead (rx : Rx)
  /-- READ_DATA (R302): A READ_DATA packet returns remote read data to the issuer. -/
  | readData (rx : Rx)
  /-- FABRIC_ATOMIC (R302): An ATOMIC packet is carried out at the target and answered with ATOMIC_RET. -/
  | fabricAtomic (rx : Rx)
  /-- ATOMIC_RET (R302): An ATOMIC_RET packet returns an atomic's old value. -/
  | atomicRet (rx : Rx)
  /-- FABRIC_SYNC (R236): A SYNC packet applies a remote sync operation at the home. -/
  | fabricSync (rx : Rx)
  /-- SYNC_REPLY (R236): A SYNC_REPLY packet returns a remote sync operation's status. -/
  | syncReply (rx : Rx)
  /-- FABRIC_WATCH (R235): A WATCH packet delivers a remote watch message and frees its proxy. -/
  | fabricWatch (rx : Rx)
  /-- COLL_PARTIAL (R332): A COLL PARTIAL packet is accepted into staging, or refused by sequence. -/
  | collPartial (rx : Rx)
  /-- COLL_RESULT (R330): A COLL RESULT packet carries reduction results to be written and forwarded. -/
  | collResult (rx : Rx)
  /-- COLL_AGREE (R327): A COLL AGREE packet carries an agreement record to combine or a decided record to apply. -/
  | collAgree (rx : Rx)
  /-- COLL_MCAST (R344): A COLL MCAST packet delivers multicast rows to the receiver set. -/
  | collMcast (rx : Rx)
  /-- DETACH_NOTE (R346): A detach notice makes the member's I/O ring poison its FULL_REF semaphores. -/
  | detachNote (rx : Rx)
  /-- ACK (R294): An ACK packet acknowledges flow packets cumulatively and frees the replay store. -/
  | ack (rx : Rx)
  /-- NAK (R294): A NAK packet makes the sender resend from the refused packet. -/
  | nak (rx : Rx)
  /-- FLOW_CTL_KEEPALIVE (R305): A FLOW_CTL keepalive packet keeps a flow alive. -/
  | flowCtlKeepalive (rx : Rx)
  /-- FLOW_CTL_RESET (R305): A FLOW_CTL reset packet aborts the flow with PARTNER_LOST. -/
  | flowCtlReset (rx : Rx)
  /-- TRANSIT_FORWARD (R297): A transit module forwards a wholly received packet in the next slot that the flow holds. -/
  | transitForward (rx : Rx) (since : Nat)
  /-- FLOW_ACK_TIMER (R294): After 8 packets or 4 ticks the receiver sends a cumulative acknowledgement. -/
  | flowAckTimer (ctx : Nat)
  /-- KEEPALIVE_TIMER (R305): A flow idle for 2,000 ticks sends a FLOW_CTL keepalive. -/
  | keepaliveTimer (ctx : Nat)
  /-- PARTNER_LOST (R305): No packet has come from a peer for PARTNER_TIMEOUT ticks, so the flow aborts. -/
  | partnerLost (ctx : Nat)
  /-- MODULE_ID (R288): A write of MODULE_ID or MODULE_ID_VALID reruns IDENT on every UP port. -/
  | moduleId (h : Hdr) (sub v : Nat)
  /-- PORT_JOIN (R278): A write of PORT_JOIN takes the ports it changes DOWN to retrain. -/
  | portJoin (h : Hdr) (v : Nat)
  /-- PORT_ENABLE (R278): A write of PORT_ENABLE takes the ports it changes DOWN. -/
  | portEnable (h : Hdr) (v : Nat)
  /-- INSTALLATION_ID (R315): A write of INSTALLATION_ID reruns IDENT on every UP or REFUSED port. -/
  | installationId (h : Hdr) (v : Nat)
  /-- REDUCTION_START (R333): A reduction starts once the previous execution's packets are sent, takes its ready count and reads and sends its contribution. -/
  | reductionStart (f redno : Nat)
  /-- REDUCTION_COMPLETE (R335): A reduction completes on a participant, writes RED_STATUS and signals its completion semaphore. -/
  | reductionComplete (f ch : Nat)
  /-- PERMUTE_PLACE (R342): A permutation destination reaches its arrival count, joins the agreement and places its staging area if the status is OK. -/
  | permutePlace (f ch : Nat)
  /-- MCAST_DETACH (R346): A multicast member's credit stays at 0 for DETACH_TIME, and it is detached. -/
  | mcastDetach (g st member : Nat)
  /-- REF_WINDOW (R385): A reference-judging window ends, and the candidate's ready state is updated. -/
  | refWindow (src count : Nat)
  /-- REF_EDGE_LOSS (R385): No edge arrives from a source for 1 µs, and it is no longer ready. -/
  | refEdgeLoss (src : Nat)
  /-- REF_SELECT (R387): A write of REF_SELECT requests a switch of the reference source. -/
  | refSelect (h : Hdr) (v : Nat)
  /-- REF_SWITCH (R388): An accepted reference switch is made with phase build-out. -/
  | refSwitch
  /-- FIELD_LOCK (R389): The field generators lock, and the crossings are aligned and checked. -/
  | fieldLock (occupancy : List Nat)
  /-- OP_CHANGE (R392): A write of OP_CHANGE requests a multiplier change for a frame. -/
  | opChange (h : Hdr) (mult frame : Nat)
  /-- LEAP (R394): A replica path reports low margin, and the field stretches its next period. -/
  | leap (f margin path : Nat)
  /-- COMPANION_LEAP (R399): A skew of 2 makes the field that leaped less take a leap. -/
  | companionLeap (f : Nat)
  /-- CLOCK_UNLOCK (R408): A generator loses lock and runs free, which is a fault. -/
  | clockUnlock (gen : Nat)
  /-- GATE_STATIONS (R411): A write of GATE_STATIONS gates or runs station clocks. -/
  | gateStations (h : Hdr) (data : Bytes)
  /-- GATE_ENGINES (R411): A write of GATE_ENGINES gates or runs engine clocks. -/
  | gateEngines (h : Hdr) (v : Nat)
  /-- GATE_HBM (R411): A write of GATE_HBM gates or runs HBM controllers. -/
  | gateHbm (h : Hdr) (v : Nat)
  /-- GATE_HOSTPORTS (R411): A write of GATE_HOSTPORTS gates or runs the host ports. -/
  | gateHostports (h : Hdr) (v : Nat)
  /-- VIGIL_ENABLE (R374): A write of VIGIL_ENABLE turns the Vigil on or off. -/
  | vigilEnable (h : Hdr) (v : Nat)
  /-- VIGIL_PAUSE (R375): With the Vigil on, each field pauses for one cycle after every 12. -/
  | vigilPause
  /-- AUDIT_CHECK (R69): The placed recomputation of a sampled MMA is compared, and AUDIT_DIVERGE is raised if it diverges. -/
  | auditCheck (g : Nat) (deferred : Bool) (n : Nat) (a w : List (List Nat))
  /-- HOSTPORT_DOWN (R416): An Ethernet port loses its link. -/
  | hostportDown (p : Nat)
  /-- HOSTPORT_LINK_UP (R415): An Ethernet port brings its link up at the negotiated speed. -/
  | hostportLinkUp (p speed : Nat)
  /-- LLDPDU_SEND (R418): Every 30 s, or within 1 s of a change, a port sends an LLDPDU. -/
  | lldpduSend (p : Nat)
  /-- LLDPDU_RECEIVE (R418): A received LLDPDU updates LLDP_PEER. -/
  | lldpduReceive (p : Nat) (chassis portId : Bytes) (ttl : Nat)
  /-- LLDP_PEER_EXPIRY (R418): The TTL of the last received LLDPDU expires, and its record is discarded. -/
  | lldpPeerExpiry (p : Nat)
  /-- FRAGMENT_TIMEOUT (R417): An incomplete set of fragments is discarded 1 s after its first fragment. -/
  | fragmentTimeout (p id : Nat)
  /-- ANNOUNCE (R440): Every 5 s each linked port broadcasts ANNOUNCE. -/
  | announce (p : Nat)
  /-- DISCOVER (R440): A DISCOVER message is answered with a unicast ANNOUNCE. -/
  | discover (p : Nat) (source : Sender) (serial : Option Bytes)
  /-- OPEN (R425): An OPEN message is checked and opens a host session with a derived key. -/
  | openSession (p : Nat) (m : OpenMsg)
  /-- CLOSE (R427): A CLOSE message ends a session and removes its context. -/
  | close (h : Hdr)
  /-- KEEPALIVE (R427): A KEEPALIVE message keeps a session open. -/
  | keepalive (h : Hdr)
  /-- SESSION_TIMEOUT (R427): No authenticated message has arrived for SESSION_TIMEOUT, and the session ends. -/
  | sessionTimeout (ctx : Nat)
  /-- READ (R428): A READ message reads dictionary items, clearing RC objects. -/
  | readDict (h : Hdr) (items : List ReadItem)
  /-- WRITE (R429): A WRITE message writes dictionary items that have no row of their own, each on its own. -/
  | writeDict (h : Hdr) (items : List WriteItem)
  /-- SYNC_SIG_ADD (R437): A SYNC request with OP SIG ADD is applied for the session. -/
  | syncSigAdd (h : Hdr) (name delta : Nat)
  /-- SYNC_SIG_SUB (R437): A SYNC request with OP SIG SUB is applied for the session. -/
  | syncSigSub (h : Hdr) (name delta : Nat)
  /-- SYNC_TAK (R437): A SYNC request with OP TAK is applied for the session. -/
  | syncTak (h : Hdr) (name n : Nat)
  /-- SYNC_WAT (R437): A SYNC request with OP WAT registers a watch for the session. -/
  | syncWat (h : Hdr) (name n cookie : Nat)
  /-- WATCH (R438): A watch message is sent to a host session as a WATCH notification. -/
  | watch (ctx : Nat)
  /-- NOTE_ACK (R438): A NOTE_ACK message acknowledges notifications cumulatively. -/
  | noteAck (h : Hdr)
  /-- NOTIFICATION_RESEND (R438): Every 10 ms an unacknowledged notification is resent. -/
  | notificationResend (ctx : Nat)
  /-- SUBSCRIBE (R439): A SUBSCRIBE message sets the session's event class mask. -/
  | subscribe (h : Hdr) (mask : Nat)
  /-- BULK_WRITE_MEM (R433): A BULK_OPEN of kind WRITE_MEM opens a memory write transfer. -/
  | bulkWriteMem (h : Hdr) (o : BulkOpen)
  /-- BULK_READ_MEM (R433): A BULK_OPEN of kind READ_MEM opens a memory read transfer. -/
  | bulkReadMem (h : Hdr) (o : BulkOpen)
  /-- BULK_LOAD_BUFFER (R433): A BULK_OPEN of kind LOAD_BUFFER opens a transfer into the load buffer. -/
  | bulkLoadBuffer (h : Hdr) (o : BulkOpen)
  /-- BULK_FIRMWARE (R433): A BULK_OPEN of kind FIRMWARE opens a firmware transfer. -/
  | bulkFirmware (h : Hdr) (o : BulkOpen)
  /-- BULK_OBJECT_READ (R433): A BULK_OPEN of kind OBJECT_READ copies an object for reading. -/
  | bulkObjectRead (h : Hdr) (o : BulkOpen)
  /-- BULK_DATA (R434): A BULK_DATA segment is written once on arrival. -/
  | bulkData (h : Hdr) (tr seg : Nat) (data : Bytes)
  /-- BULK_ACK (R434): A BULK_ACK message acknowledges received segments. -/
  | bulkAck (h : Hdr) (tr : Nat) (map : Nat)
  /-- BULK_ACK_TIMER (R434): After 32 segments or 10 µs the receiver sends BULK_ACK. -/
  | bulkAckTimer (ctx tr : Nat)
  /-- BULK_RESEND (R434): A segment not acknowledged after 1 ms is resent. -/
  | bulkResend (ctx tr seg : Nat)
  /-- BULK_COMPLETE (R435): A BULK_COMPLETE message completes a transfer, fencing and signalling for WRITE_MEM. -/
  | bulkComplete (h : Hdr) (tr : Nat) (fw : FwVerdict)
  /-- BULK_ABORT (R435): A BULK_ABORT message closes a transfer without a signal. -/
  | bulkAbort (h : Hdr) (tr : Nat)
  /-- SPEED_ALLOWED (R445): A write of SPEED_ALLOWED takes the port's link down and up when it changes the speed. -/
  | speedAllowed (h : Hdr) (p v : Nat)
  /-- VLAN_ID (R445): A write of VLAN_ID takes the port's link down and up. -/
  | vlanId (h : Hdr) (p v : Nat)
  /-- STAGE_START (R450): After 20 ms in the start band with STAGE_EN mated, the power stage starts. -/
  | stageStart (mv : Nat)
  /-- UNDERVOLTAGE (R450): The input below 44 V for 1 ms turns the stage off. -/
  | undervoltage (mv : Nat)
  /-- OVERVOLTAGE (R450): The input above 59 V for 100 µs turns the stage off. -/
  | overvoltage (mv : Nat)
  /-- INPUT_VOLTAGE (R450): The input enters a warning band, and INPUT_VOLTAGE is raised. -/
  | inputVoltage (mv : Nat)
  /-- OVERLOAD (R452): The input power or current limit is held too long, and the stage turns off. -/
  | overload (mw ma : Nat)
  /-- COOLANT_MEASUREMENT (R455): Every 100 ms inlet temperature and flow are measured, and the coolant cap is updated. -/
  | coolantMeasurement (inlet outlet : Option Int) (flow : Option Nat)
  /-- POWER_EVALUATION (R458): The power controller evaluates the thermal cap and input power, and may request a multiplier change. -/
  | powerEvaluation (mv ma : Nat) (temps : List Int)
  /-- THERMAL_TRIP (R457): A sensor reaches its trip threshold, which is a fault. -/
  | thermalTrip (sensor : Nat) (temp : Int)
  /-- THERMAL_SHUTDOWN (R457): One second after a trip the sensor is still 5 °C above it, and the stage turns off. -/
  | thermalShutdown (sensor : Nat) (temp : Int)
  /-- RESET (R460): A reset of any kind restarts the boot ROM, redraws the boot epoch and starts the wipe. -/
  | reset (cause : Nat)
  /-- WATCHDOG (R460): The runtime firmware has not serviced the watchdog for 1 s, and the module resets. -/
  | watchdog
  /-- SRAM_WIPE_DONE (R461): The SRAM wipe completes. -/
  | sramWipeDone
  /-- HBM_WIPE_DONE (R461): The HBM wipe completes, and WIPE_DONE is raised. -/
  | hbmWipeDone (us : Nat)
  /-- WIPE_TIMEOUT (R462): A stack's wipe does not complete within 60 ms, and WIPE_STATUS becomes failed. -/
  | wipeTimeout (stack : Nat)
  /-- HANDOVER (R467): Verified firmware starts once the wipe is complete, taking over the sessions. -/
  | handover
  /-- FW_RAISE_MIN (R468): A write of FW_RAISE_MIN raises the fused minimum firmware version. -/
  | fwRaiseMin (h : Hdr) (v : Nat)
  /-- EONEL_REVOKE (R468): A write of EONEL_REVOKE burns the revocation fuse of an Eonel firmware key. -/
  | eonelRevoke (h : Hdr) (v : Nat)
  /-- ATTEST_NONCE (R471): A write of ATTEST_NONCE starts an attestation report for the session. -/
  | attestNonce (h : Hdr) (data : Bytes)
  /-- ATTEST_READY (R471): Signing of the report completes, and ATTEST_READY reads 1. -/
  | attestReady (ctx : Nat)
  /-- ACCEPT (R475): The LC_COMMAND ACCEPT command moves PROVISIONED to OWNED. -/
  | accept (h : Hdr) (epoch : Nat)
  /-- TRANSFER (R475): The LC_COMMAND TRANSFER command revokes the owner slot and fills the next one from NEXT_OWNER. -/
  | transfer (h : Hdr) (epoch : Nat)
  /-- RELEASE (R475): The LC_COMMAND RELEASE command revokes the owner slot and enters UNOWNED. -/
  | release (h : Hdr) (epoch : Nat)
  /-- RETURN (R475): The LC_COMMAND RETURN command revokes the owner slot and enters RETURN. -/
  | returnModule (h : Hdr) (epoch : Nat)
  /-- SCRAP (R475): The LC_COMMAND SCRAP command disables the identity and enters SCRAPPED. -/
  | scrap (h : Hdr) (epoch : Nat)
  /-- LC_RESET (R475): The LC_COMMAND RESET command resets the module with cause COMMAND. -/
  | lcReset (h : Hdr) (epoch : Nat)
  /-- FUSE_BURN_DONE (R476): The transition fuses are burned, and the module resets with cause LIFECYCLE. -/
  | fuseBurnDone
  /-- STAGE_EN_MATE (R481): STAGE_EN mates and starts the 20 ms start count. -/
  | stageEnMate
  /-- STAGE_EN_BREAK (R481): STAGE_EN breaks, and the running stage turns off within 100 µs. -/
  | stageEnBreak
  /-- RESET_N (R488): A low level on RESET_N of 10 µs or more resets the module at once. -/
  | resetN (lowNs : Nat)
  /-- RESET_RELEASE (R488): 1 ms after RESET_N and PWRGOOD are both high, the internal reset is released. -/
  | resetRelease
  /-- HBM_TRAINING_DONE (R461): HBM training completes, bit 0 of HBM_STACKS is set, and the HBM wipe starts. -/
  | hbmTrainingDone (stack : Nat)
  /-- STANDBY_LOCK (R391): The standby synthesiser of a field generator locks to the queued multiplier, and STANDBY_LOCKED is set. -/
  | standbyLock (f : Nat)
  /-- OP_CHANGE_TAKES_EFFECT (R392): With no Almanac running, a change accepted with F = 0 takes effect 2,000 ticks after acceptance. -/
  | opChangeTakesEffect
  /-- LEAP_COUNT_INTERVAL (R396): Each 2,000 ticks while no Almanac runs, the leap counts restart, the step-down monitor judges them, and the event-suppression interval restarts. -/
  | leapCountInterval
  /-- HOUSEKEEPING_SUPPLY_LOSS (R451): The input falls below 20 V, the housekeeping supply stops, the retention register is lost and FAULT_N is no longer driven. -/
  | housekeepingSupplyLoss
  /-- PWRGOOD (R489): The stage output comes into regulation and PWRGOOD is released, which starts the 1 ms count to reset release. -/
  | pwrgood
  /-- ARP (R417): An ARP request arriving on an IPv4-configured port is answered. -/
  | arp (p ip : Nat)
  /-- NEIGHBOUR_DISCOVERY (R417): A neighbour-discovery message is answered, or it forms the global address by stateless autoconfiguration. -/
  | neighbourDiscovery (p : Nat) (pfx : Option Nat)
  /-- ICMP_ECHO (R417): An ICMP echo request is answered. -/
  | icmpEcho (p : Nat) (data : Bytes)
  /-- DHCP (R417): A DHCP exchange on a port with IPV4_MODE 1 assigns the port's IPv4 address. -/
  | dhcp (p ip : Nat)
  /-- DISCARDED_FRAME (R415): A frame with a bad check sequence, a PAUSE or priority flow-control frame, or one of another protocol or UDP port is dropped and counted in RX_DISCARDED. -/
  | discardedFrame (p : Nat)
  /-- IP_FRAGMENT (R417): An IP fragment is received and held for reassembly, and a datagram larger than 16,384 bytes is discarded. -/
  | ipFragment (p id size : Nat) (complete : Bool)
  deriving DecidableEq, Repr

end Sys2Proof
end

