-- ==== Sys2Proof/Machine/State/Station.lean ====
section
/-! DEFINITION. The state of a station (chapters 03, 04, 06, 07, 08): sequencer, fences and signal queue, watches,
vector registers, array, Carousel ports, deferred-W queue and streams. -/

namespace Sys2Proof.Machine

/-- SEQ_STATE (R246). -/
inductive SeqState where
  | stopped | idle | running | waiting | faulted
  deriving DecidableEq, Repr

/-- SEQ_STATE's code (R246). -/
def SeqState.code : SeqState → Nat
  | .stopped => 0 | .idle => 1 | .running => 2 | .waiting => 3 | .faulted => 4

/-- What holds the sequencer after issue (R253): a reply (TAK, WAT), the message of a watch index (BLOCK), an inbox
entry with a cookie (WAIT), the retirement of every fence (FNC_WAIT), the conditions of LYR. -/
inductive Hold where
  | free
  | reply
  | message (idx : Nat)
  | inbox (cookie : Nat)
  | fences
  | lyr
  deriving DecidableEq, Repr

/-- A watch message (R230). -/
structure WatchMsg where
  status : Status
  cause : Nat
  sem : Nat
  cookie : Nat
  noWatch : Bool
  localOrigin : Bool
  handle : Nat
  count : Nat
  thresh : Nat
  frame : Nat
  deriving DecidableEq, Repr

/-- An outstanding watch of a station (R228, R246, R266): its semaphore name and n, and its inbox entry once the message is
there. -/
structure WatchIdx where
  cookie : Nat
  block : Bool
  sem : Nat
  thresh : Nat
  inbox : Option WatchMsg
  deriving DecidableEq, Repr

/-- The operations of a sync unit (R217); the poisoning of a semaphore by a faulted stream (R232 cause 5), which takes
its turn behind the stream's FULL signals; and a gate judgement (R354). -/
inductive SyncKind where
  | add | sub | tak | wat | poison | gate
  deriving DecidableEq, Repr

/-- Where the reply to a sync operation goes: a SIG of the queue, a completion signal (R497), a TAK, a WAT with its
watch index, each with its station and instruction address; a request of a host session, with its context, SEQ and type; a
field engine's SIG to another module, with its master ID; or a unit of which the sync unit itself knows the master (R220). -/
inductive Back where
  | sig (g pc : Nat)
  | comp (g pc : Nat)
  | tak (g pc : Nat)
  | wat (g idx pc : Nat) (block : Bool)
  | host (ctx seq typ port dest : Nat)
  | engine (m : Nat)
  | unit
  deriving DecidableEq, Repr

/-- A sync operation held at a unit (R219), or on its way to another module (R236). `slot` is the waiter's slot:
a station's watch index, or a proxy number of a remote waiter. -/
structure SyncOp where
  issuer : Nat
  kind : SyncKind
  sem : Nat
  n : Nat
  cookie : Nat
  slot : Nat
  back : Back
  deriving DecidableEq, Repr

/-- An element of a station's signal order (R222, R223): a fence that covers the transfers numbered below `upto`, or a
SIG in the signal queue with its target module (none: the own) and field. -/
inductive FenceOrSig where
  | fence (start upto : Nat)
  | sig (pc : Nat) (module : Option Nat) (field : Nat) (op : SyncOp)
  deriving DecidableEq, Repr

/-- How a result enters its accumulator entry (R88). -/
inductive AddMode where
  | overwrite | accumulate | compensate
  deriving DecidableEq, Repr

/-- One row on its way into a tile (R96): its FP32 results by column; none of them for a K = 0 row that adds nothing
(R101). `last` marks the last row of a LAST MMA that opens a collection (R95). `fin` names the instruction address and
completion semaphore signalled when it retires. -/
structure RowUpd where
  row : Nat
  mode : AddMode
  vals : List Nat
  zero : Bool
  last : Bool
  fin : Option (Nat × Nat)
  deriving DecidableEq, Repr

/-- A drain of a tile (R97): shape, form, destination (none: RING), its rows still to leave (RING), completion, the
transfer number a fence counts (station memory), whether copy-out has begun, whether a deferred-W entry owns it, the K-split
group whose partial it is (RING), and the order of its issue. -/
structure Drain where
  rows : Nat
  cols : Nat
  pair : Bool
  dest : Option (Nat × Nat)
  out : List (List Nat)
  fin : Option (Nat × Nat)
  xfer : Nat
  begun : Bool
  dfw : Bool
  group : Option Nat
  order : Nat
  deriving DecidableEq, Repr

/-- The state of an output tile (R96, R98, R127). -/
inductive TileState where
  | open
  | draining (d : Drain)
  deriving DecidableEq, Repr

/-- The collection of ring partials that a LAST MMA opens (R93, R95): the K-split group, whether the MMA's last row has
retired, and how many partials have entered the tile whole. -/
structure Collect where
  group : Nat
  opened : Bool
  got : Nat
  deriving DecidableEq, Repr

/-- An output tile: its state, the rows in flight in the order in which they enter it (R96), the collections of ring
partials still to end, oldest first (R92 to R95), and the K-split group whose tiles it sums (log entry 13). -/
structure Tile where
  state : TileState
  inflight : List RowUpd
  collect : List Collect
  group : Option Nat
  deriving DecidableEq, Repr

/-- A weight plane (R73, R256): its tag (none: never loaded since START) and its bytes, at row × 256 + column. -/
structure Plane where
  tag : Option Nat
  data : Memory
  deriving DecidableEq, Repr

/-- The load in a station's weight-load port (R74): plane, tag, source (address and stride in station memory, or the
weight buffer), the instruction, its transfer number, and the tile once the load runs. -/
structure PlaneLoad where
  plane : Nat
  fmt : Nat
  src : Option (Nat × Nat)
  pc : Nat
  xfer : Nat
  tile : Option Memory
  deriving DecidableEq, Repr

/-- A running MVA (R109): destination, z, completion, instruction and transfer number. -/
structure Mva where
  dest : Nat
  z : List Nat
  fin : Option (Nat × Nat)
  xfer : Nat
  deriving DecidableEq, Repr

/-- An operand row in a Carousel buffer (R115 to R118): its tile's rows, format, hop count and stride, how many hops it
has made, its index and bytes, whether it has been forwarded and whether it has entered the array. `tile` tells the tiles
apart: the stream that injects it and the count of its descriptors. -/
structure OpRow where
  tile : Nat × Nat
  rows : Nat
  fmt : Nat
  h : Nat
  sigma : Nat
  hop : Nat
  idx : Nat
  data : Bytes
  fwd : Bool
  used : Bool
  deriving DecidableEq, Repr

/-- A weight tile in a weight buffer (R120): format, stations still to come, bytes received, and whether the plane load
has taken it and it has left. -/
structure WTile where
  fmt : Nat
  left : Nat
  got : Nat
  data : Memory
  taken : Bool
  sent : Bool
  deriving DecidableEq, Repr

/-- An entry of the deferred-W queue (R126, R127): its descriptor pair, the DFW's address, and how far it has come. -/
structure DfwEntry where
  pc : Nat
  a : Nat
  b : Nat
  started : Bool
  restored : Bool
  tileK : Nat
  row : Nat
  drained : Bool
  deriving DecidableEq, Repr

/-- A stream (R193 to R212). `active` holds the descriptor as written, `srcA`, `dstA` and `idxA` its resolved addresses (R174);
`serial` counts the descriptors that became active.
`row`, `off`: the next byte to move; `units`: units signalled; `credit`: the unit under way has its credit; `got`: the
members of a multicast group that have given theirs (R345); `waits`: a credit wait is registered; `openRows`: the row
of every transfer not yet acknowledged; `idx`: bytes of a remote index list received, `idxReq`: requested; `stalled`: STREAM_STALL raised since. -/
structure Stream where
  state : Nat
  active : Nat
  srcA : Nat
  dstA : Nat
  idxA : Nat
  serial : Nat
  pending : Option Nat
  lastArm : Nat
  rowsDone : Nat
  faultCause : Nat
  faultAddr : Nat
  row : Nat
  off : Nat
  units : Nat
  credit : Bool
  got : List Nat
  waits : Bool
  openRows : List Nat
  idx : Bytes
  idxReq : Nat
  stalled : Bool
  deriving DecidableEq, Repr

/-- A merge window (R205): the 256-byte line, the streams that joined with the transfer number of the read, and the line's
bytes once a write has closed the window. -/
structure MergeWin where
  line : Nat
  members : List (Nat × Nat × Nat)
  data : Option Bytes
  deriving DecidableEq, Repr

/-- The sequencer (R241 to R246, R253, R254). `left`: the cycles that a NOP, a taken jump or an STR still holds it. -/
structure Seq where
  state : SeqState
  waitCause : Nat
  pc : Nat
  pendingStart : Option Nat
  hold : Hold
  lastStatus : Nat
  sigLost : Bool
  faultPc : Nat
  faultKind : Nat
  issued : Nat
  waitCycles : Nat
  left : Nat
  late : Bool
  deriving DecidableEq, Repr

/-- The array of a station and its matrix-vector path: planes, weight-load port, tiles, MVA, the two audit numberings of R67,
the FP32 results of the sampled MMAs that wait for their check, under their numbers (R69), and the rows of the deferred-W chunk
that was last at the west edge while no sequencer MMA has issued since (R129). -/
structure ArrayUnit where
  plane0 : Plane
  plane1 : Plane
  load : Option PlaneLoad
  tile0 : Tile
  tile1 : Tile
  mva : Option Mva
  seqMma : Nat
  dfwMma : Nat
  audits : Tab (List (List Nat))
  chunk : Nat
  deriving DecidableEq, Repr

/-- The Carousel ports (R114). The partial buffer holds rows with their K-split group, each marked where it ends its partial;
`link` counts by group the partials that have come whole (R95). -/
structure RingPorts where
  crit : List OpRow
  defr : List OpRow
  wbuf : Option WTile
  pbuf : List (Nat × RowUpd)
  link : Tab Nat
  deriving DecidableEq, Repr

/-- The deferred-W queue of a station (R125 to R131): its entries, whether its STEP_END entry has completed, whether
entries were discarded by a LOST wait (R234), and whether DEFERRED_W_LATE was raised. -/
structure DfwQueue where
  entries : List DfwEntry
  stepEnd : Bool
  lost : Bool
  faulted : Bool
  deriving DecidableEq, Repr

/-- A station. `nextX`, `openX`, `lostX` number its outstanding transfers for the fences of R222; `idleX` is the number of
its last write to an idle working copy until a fence over it has retired (R30). -/
structure Station where
  seq : Seq
  ba : Tab Nat
  bi : Tab Nat
  lc : Tab Nat
  fq : List FenceOrSig
  nextX : Nat
  openX : List Nat
  lostX : List Nat
  idleX : Option Nat
  waitStart : Nat
  watches : Tab WatchIdx
  desc : Tab Nat
  vr : Tab Bytes
  arr : ArrayUnit
  ring : RingPorts
  dfw : DfwQueue
  streams : Tab Stream
  deriving DecidableEq, Repr

/-- A tile after reset (R87). -/
def Tile.reset : Tile := { state := .open, inflight := [], collect := [], group := none }

/-- A plane after reset (R101). -/
def Plane.reset : Plane := { tag := none, data := [] }

/-- A stream after reset (R212). -/
def Stream.reset : Stream :=
  { state := 0, active := 0, srcA := 0, dstA := 0, idxA := 0, serial := 0, pending := none, lastArm := 0, rowsDone := 0, faultCause := 0,
    faultAddr := 0, row := 0, off := 0, units := 0, credit := false, got := [], waits := false, openRows := [],
    idx := [], idxReq := 0, stalled := false }

/-- The sequencer registers after reset (R246). -/
def Seq.reset : Seq :=
  { state := .stopped, waitCause := 0, pc := 0, pendingStart := none, hold := .free, lastStatus := 0,
    sigLost := false, faultPc := 0, faultKind := 0, issued := 0, waitCycles := 0, left := 0, late := false }

/-- A station after reset (R114, R212, R246, R461). -/
def Station.reset : Station :=
  { seq := Seq.reset, ba := [], bi := [], lc := [], fq := [], nextX := 0, openX := [], lostX := [], idleX := none, waitStart := 0,
    watches := [], desc := [], vr := [],
    arr := { plane0 := Plane.reset, plane1 := Plane.reset, load := none, tile0 := Tile.reset, tile1 := Tile.reset,
             mva := none, seqMma := 0, dfwMma := 0, audits := [], chunk := 0 },
    ring := { crit := [], defr := [], wbuf := none, pbuf := [], link := [] },
    dfw := { entries := [], stepEnd := false, lost := false, faulted := false },
    streams := [] }

end Sys2Proof.Machine
end

