-- ==== Sys2Proof/Machine/State/Field.lean ====
section
/-! DEFINITION. The state of a field (chapters 05, 07, 10, 12): sync unit, update engine, reduction engine, clock
generator; and the die-wide tables: access tables, scale table, reference slots. -/

namespace Sys2Proof.Machine

/-- A semaphore's record (R215, R239), with the cause and the frame of its poisoning (R230, R232). -/
structure Sem where
  valid : Bool
  poison : Bool
  owner : Nat
  cap : Nat
  count : Nat
  cause : Nat
  pframe : Nat
  deriving DecidableEq, Repr

/-- A registered watch (R225, R239). -/
structure Watch where
  sem : Nat
  thresh : Nat
  dest : Nat
  slot : Nat
  cookie : Nat
  deriving DecidableEq, Repr

/-- A wait slot's record (R229): the waiting unit's slot number, semaphore and count; `phase` 0 while the watch stands, 1 while
its message is on the way, 2 once the message is there and the TAK is due. -/
structure SlotWait where
  unit : Nat
  sem : Nat
  n : Nat
  phase : Nat
  deriving DecidableEq, Repr

/-- The LAST_FAULT registers of a sync unit (R239). -/
structure SemFault where
  name : Nat
  issuer : Nat
  kind : Nat
  delta : Nat
  count : Nat
  frame : Nat
  deriving DecidableEq, Repr

/-- The sync unit (R214 to R239): records, operations held at the unit in arrival order, wait slots, armed gate
judgements (semaphore and n, R354). -/
structure SyncUnit where
  sems : Tab Sem
  watches : Tab Watch
  waits : List SlotWait
  watchRes : Nat
  held : List SyncOp
  gates : List (Nat × Nat)
  ops : Nat
  lastFault : SemFault
  deriving DecidableEq, Repr

/-- A submission of UPD (R147, R148): its UPDATE entry, and whether its pass computed (an APPLY that R352 turns into nothing
did not). -/
structure UpdSub where
  g : Nat
  entry : Nat
  did : Bool
  deriving DecidableEq, Repr

/-- The update engine (R147): queue, the UPD that runs, whether its clip wait is registered (R499), and the clip
factors recorded as (group, step, FP32 pattern). -/
structure UpdEngine where
  queue : List UpdSub
  running : Option UpdSub
  clips : List (Nat × Nat × Nat)
  deriving DecidableEq, Repr

/-- An agreement record (R327); `eObs` none is 0x8000. -/
structure Record where
  csumIn : Nat
  csumOut : Nat
  eObs : Option Int
  eMin : Int
  eMax : Int
  flags : Nat
  count : Nat
  rseq : Nat
  channel : Nat
  csumRx : Nat
  deriving DecidableEq, Repr

/-- A PARTIAL staged in a channel's staging region (R332): execution, REDNO, sender, first element, elements, and whether a table refused
its place there. -/
structure Staged where
  rseq : Nat
  redno : Nat
  src : Nat
  first : Nat
  vals : List Int
  bad : Bool
  deriving DecidableEq, Repr

/-- A running execution of a reduction (R321 to R338): the submission, its step (R55) and E_ref, the own values N, the sums
so far and the elements of them sent on, checksums, observed exponent, flags, the failure on this module (R502), whether a flow it uses was lost (R336),
the positions whose partials are wholly added, whether the sums are complete and sent, the results received or formed, the
writes of a permutation not acknowledged and whether its arrivals were signalled (R342), the records of the agreement
tree, whether this participant's record is sent, the decided record, and whether a permutation was placed. -/
structure RedRun where
  redno : Nat
  rseq : Nat
  sem : Option Nat
  step : Nat
  eRef : Int
  own : List Int
  vals : List Int
  sent : Nat
  csumIn : Nat
  csumOut : Nat
  csumRx : Nat
  eObs : Option Int
  flags : Nat
  srcFail : Option Status
  lost : Bool
  added : List Nat
  summed : Bool
  results : List Nat
  openW : Nat
  signalled : Bool
  recs : List (Nat × Record)
  recSent : Bool
  decided : Option Record
  written : Bool
  deriving DecidableEq, Repr

/-- A channel's order on this module (R333, R334, R348): the next RSEQ, the last decided one, partials staged, records that
came before their execution started, executions whose order was broken. -/
structure Channel where
  next : Nat
  decidedSeq : Nat
  staged : List Staged
  early : List (Nat × Nat × Record)
  order : List Nat
  run : Option RedRun
  deriving DecidableEq, Repr

/-- RED_STATUS of a REDNO (R348). -/
structure RedStatus where
  status : Status
  rseq : Nat
  eRef : Int
  eObs : Option Int
  flags : Nat
  deriving DecidableEq, Repr

/-- The reduction engine (R317, R348): queued submissions (REDNO, completion semaphore), channels, RED_STATUS. -/
structure RedEngine where
  queue : List (Nat × Option Nat)
  elements : Nat
  channels : Tab Channel
  status : Tab RedStatus
  deriving DecidableEq, Repr

/-- The clock generator of a field (R390 to R401, R412), with the smallest margin of the present frame, the skew and
largest skew toward each neighbour, and the largest of the present frame. `overBudget`: LEAP_BUDGET was raised in the frame; `highLeaps`: frames in succession
above half the budget (R403). -/
structure Gen where
  locked : Nat
  activeSyn : Nat
  mult : Nat
  standbyMult : Nat
  standbyLocked : Bool
  own : Nat
  companion : Nat
  lastFrame : Nat
  total : Nat
  marginMin : Nat
  marginPath : Nat
  curMargin : Nat
  curPath : Nat
  skew : Tab Int
  maxSkew : Tab Nat
  curSkew : Tab Nat
  occ : Tab Nat
  overBudget : Bool
  highLeaps : Nat
  deriving DecidableEq, Repr

/-- A field. -/
structure Field where
  sync : SyncUnit
  upd : UpdEngine
  red : RedEngine
  gen : Gen
  deriving DecidableEq, Repr

/-- Who wrote an access-table entry (R35, R189 to R191). -/
inductive AccWriter where
  | reset | claim | start | edit
  deriving DecidableEq, Repr

/-- An access-table entry (R186): its 128 bits and its writer. -/
structure AccEntry where
  value : Nat
  writer : AccWriter
  deriving DecidableEq, Repr

/-- The access tables: entries under target × 64 + entry (R190), and LAST_REFUSAL as (master, target, right, value)
(R213). -/
structure Access where
  entries : Tab AccEntry
  lastRefusal : Option (Nat × Nat × Nat × Nat)
  deriving DecidableEq, Repr

/-- An entry of the tensor scale table (R59 to R64): scales of buffers A and B, history slots, pointer, active buffer,
saturation count, and per field copy the pending amax and NAN_SEEN; `satRaised`: SCALE_SATURATE was raised in this
step execution (R53). `amax`: the decided result of the entry's max-combine in this step (R64). -/
structure ScaleEntry where
  fmt : Nat
  h : Nat
  margin : Nat
  shared : Bool
  dbuf : Bool
  scaleA : Int
  scaleB : Int
  hist : Tab Nat
  ptr : Nat
  active : Bool
  satCount : Nat
  pend : Tab Nat
  nan : Tab Bool
  satRaised : Bool
  amax : Option Nat
  deriving DecidableEq, Repr

/-- A reference slot (R324). -/
structure RefSlot where
  eRef : Int
  eInit : Int
  h : Nat
  ptr : Nat
  fixed : Bool
  g : Nat
  hist : Tab Int
  deriving DecidableEq, Repr

/-- The 160-bit accumulator of a NORM pass (R340): sum, CONTRIB_OVF, observed exponent. -/
structure NormPart where
  sum : Int
  ovf : Bool
  eObs : Option Int
  deriving DecidableEq, Repr

/-- LAST_FAULT cleared. -/
def SemFault.reset : SemFault := { name := 0, issuer := 0, kind := 0, delta := 0, count := 0, frame := 0 }

/-- A sync unit after reset (R239). -/
def SyncUnit.reset : SyncUnit :=
  { sems := [], watches := [], waits := [], watchRes := 0, held := [], gates := [], ops := 0,
    lastFault := SemFault.reset }

/-- A clock generator after reset (R398, R412). -/
def Gen.reset : Gen :=
  { locked := 0, activeSyn := 0, mult := 16, standbyMult := 0, standbyLocked := false, own := 0, companion := 0,
    lastFrame := 0, total := 0, marginMin := 0xFF, marginPath := 0, curMargin := 0xFF, curPath := 0, skew := [], maxSkew := [], curSkew := [], occ := [], overBudget := false,
    highLeaps := 0 }

/-- A field after reset. -/
def Field.reset : Field :=
  { sync := SyncUnit.reset, upd := { queue := [], running := none, clips := [] },
    red := { queue := [], elements := 0, channels := [], status := [] }, gen := Gen.reset }

/-- A channel before its first execution (R333). -/
def Channel.reset : Channel :=
  { next := 0, decidedSeq := 0, staged := [], early := [], order := [], run := none }

end Sys2Proof.Machine
end

