-- ==== Sys2Proof/Machine/State/Module.lean ====
section
/-! DEFINITION. The state of the module around the fields: event log, Almanac runtime, Vigil, messages inside the
module (chapters 01, 05, 07, 11, 13). -/

namespace Sys2Proof.Machine

/-- The event classes of R446. -/
inductive EvClass where
  | info | report | step | fault
  deriving DecidableEq, Repr

/-- CLASS's code (R446). -/
def EvClass.code : EvClass → Nat
  | .info => 0 | .report => 1 | .step => 2 | .fault => 3

/-- An event record (R446), and whether it counts as read (R501). -/
structure EvRec where
  code : Nat
  cls : EvClass
  seq : Nat
  frame : Nat
  tick : Nat
  src : Nat
  tag : Nat
  args : List Nat
  read : Bool
  deriving DecidableEq, Repr

/-- The event log (R447, R501): records newest first, raises per code since reset, and records of each code logged in
the present interval. -/
structure EventLog where
  recs : List EvRec
  counts : Tab Nat
  interval : Tab Nat
  deriving DecidableEq, Repr

/-- A message on its way inside the module: the reply to a sync operation (R253), or a watch message for a unit's
inbox or wait slot (R230). -/
inductive NetMsg where
  | reply (back : Back) (status : Status)
  | watch (unit slot : Nat) (m : WatchMsg)
  deriving DecidableEq, Repr

/-- The commit vote as this module sees it (R162 to R165): own contribution, its reduction's result once decided
(whether it agreed and its sum is 0), and whether the vote is known to have lost a participant. -/
structure Vote where
  own : Option Nat
  result : Option Bool
  lost : Bool
  deriving DecidableEq, Repr

/-- What the step in progress has collected toward the reason bits of R163: reduction failures, lost partners,
non-finite updates. -/
structure StepMarks where
  integrity : Bool
  window : Bool
  lost : Bool
  nonfinite : Bool
  deriving DecidableEq, Repr

/-- The hold protocol of the job (R310 to R313): the boundaries of the HOLD notices seen, the boundary held at, the
uptime tick it began, the READY notices seen (module, boundary), the resume tick, whether the hold has timed out. -/
structure HoldState where
  notices : List Nat
  heldAt : Option Nat
  since : Nat
  ready : List (Nat × Nat)
  resume : Option Nat
  timedOut : Bool
  deriving DecidableEq, Repr

/-- The Almanac's runtime (chapter 11). `before`: ALMANAC_STATE when LOAD began; `segs`: segments started whose END has not issued, as (station, close
boundary); `starts`: start points of the frame already reached, as (station, offset); `decided`: the decision point of the frame has passed; `redsDone`, `updsDone`, `recs`: reductions completed in the
step, updates completed in it (field, entry), decided records known in it (REDNO, E_OBS, FLAGS); `voted`: the outcome
of the vote at the boundary held at is still to come; `lost`: modules of the job lost since START (R306, R312). -/
structure Almanac where
  image : Option Image
  checking : Option Container
  before : Nat
  digests : Bytes × Bytes × Bytes
  checkReport : List Nat
  zeroTick : Nat
  stopAt : Option Nat
  mismatch : Bool
  fault : Option (Nat × Nat × Nat)
  lastFault : Nat × Nat × Nat
  vote : Vote
  marks : StepMarks
  hold : HoldState
  segs : List (Nat × Nat)
  starts : List (Nat × Nat)
  decided : Bool
  cycleCommitted : Bool
  applyStart : Bool
  applied : Nat
  stationFault : Nat × Nat × Nat
  lastRed : Bytes
  detached : Tab Nat
  redsDone : List Nat
  updsDone : List (Nat × Nat)
  recs : List (Nat × Option Int × Nat)
  voted : Bool
  lost : List Nat
  deriving DecidableEq, Repr

/-- A shadow record of the Vigil (R376): last writer of a 64-byte unit, the number of the writer's first fence issued
after the write, and the frame. -/
structure Shadow where
  writer : Nat
  fence : Nat
  frame : Nat
  deriving DecidableEq, Repr

/-- The last access to a 64-byte unit of station memory: its port (R184), whether it wrote, its master, the tick. -/
structure Touch where
  port : Nat
  wrote : Bool
  master : Nat
  tick : Nat
  deriving DecidableEq, Repr

/-- The Vigil (R376 to R378): shadow records under unit numbers, per master the fences issued and retired, horizons
(oldest first) and writers once dropped from them, counts of the kinds, log, per semaphore the sender and
latest retired fence of its last SIG, and the last access to each unit of station memory (kind 4). -/
structure Vigil where
  shadow : Tab Shadow
  issued : Tab Nat
  retired : Tab Nat
  horizon : Tab (List (Nat × Nat))
  dropped : Tab (List Nat)
  counts : Tab Nat
  log : List (List Nat)
  note : Tab (Nat × Nat)
  touch : Tab Touch
  deriving DecidableEq, Repr

/-- The event log after reset (R446, R501). -/
def EventLog.reset : EventLog := { recs := [], counts := [], interval := [] }

/-- No hold (R315). -/
def HoldState.reset : HoldState :=
  { notices := [], heldAt := none, since := 0, ready := [], resume := none, timedOut := false }

/-- No Almanac (R380). -/
def Almanac.reset : Almanac :=
  { image := none, checking := none, before := 0, digests := ([], [], []), checkReport := [], zeroTick := 0,
    stopAt := none, mismatch := false, fault := none, lastFault := (0, 0, 0),
    vote := { own := none, result := none, lost := false },
    marks := { integrity := false, window := false, lost := false, nonfinite := false },
    hold := HoldState.reset, segs := [], starts := [], decided := false, cycleCommitted := false, applyStart := false,
    applied := 0, stationFault := (0, 0, 0), lastRed := List.replicate 16 0, detached := [], redsDone := [], updsDone := [],
    recs := [], voted := false, lost := [] }

/-- The Vigil with nothing recorded (R381). -/
def Vigil.reset : Vigil :=
  { shadow := [], issued := [], retired := [], horizon := [], dropped := [], counts := [], log := [], note := [], touch := [] }

end Sys2Proof.Machine
end

