-- ==== Sys2Proof/Machine/State/Fabric.lean ====
section
/-! DEFINITION. The state of the fabric (chapter 09): ports, flow contexts with their replay store, topology, remote
requests, watch proxies. -/

namespace Sys2Proof.Machine

/-- A four-lane port (R285, R290): its registers, the partner's identity, the next group expected, the
group last replayed and how often in succession, whether IDENT runs again on a link that was UP, the run of uncorrectable codewords
of each lane, the draw of the nonce sent in IDENT (R286), and the bytes of flow packets sent in each slot of the frame (R282). -/
structure Port where
  pstate : Nat
  phase : Nat
  peerMod : Nat
  peerValid : Bool
  peerPort : Nat
  latency : Nat
  downCause : Nat
  fec : Nat
  groupsLost : Nat
  replays : Nat
  trainings : Nat
  peerDigest : Nat
  peerEpoch : Nat
  rxGroup : Nat
  replaySeq : Nat
  tries : Nat
  again : Bool
  badRun : Tab Nat
  nonceDraw : Nat
  used : Tab Nat
  deriving DecidableEq, Repr

/-- What an outgoing packet or a remote request belongs to: a piece of a stream's row, written or to be read (at a
byte offset of the row, so many bytes), a piece of its index list, an atomic of a row; a sync operation; traffic of a
channel; or nothing further. `xfer` is the transfer number of the station's fences. -/
inductive Cause where
  | none
  | write (g st xfer row : Nat)
  | read (g st xfer row off n : Nat)
  | index (g st xfer : Nat)
  | atomic (g st xfer row : Nat)
  | sync (back : Back) (proxy : Option Nat)
  | coll (field ch : Nat)
  deriving DecidableEq, Repr

/-- A packet of a flow with its cause, and whether it has been sent before (R294). -/
structure FlowPkt where
  pkt : Packet
  cause : Cause
  sent : Bool
  deriving DecidableEq, Repr

/-- A flow context (R291 to R295). `queue`: packets not yet sent; `store`: packets in the replay store; `unacked`:
packets received since the last acknowledgement; `missed`: SLOT_MISSED was raised in this frame; `lastSent`: the tick of the last
packet to the peer (R305). -/
structure Ctx where
  state : Nat
  kind : Nat
  route : Nat
  peerMod : Nat
  peerCtx : Nat
  abortCause : Nat
  master : Nat
  txSeq : Nat
  ackedSeq : Nat
  rxSeq : Nat
  lastHeard : Nat
  bytesTx : Nat
  bytesRx : Nat
  flow : Nat
  queue : List FlowPkt
  store : List FlowPkt
  unacked : Nat
  missed : Bool
  lastSent : Nat
  deriving DecidableEq, Repr

/-- A module of the topology (R289, R307). `linked`: a path of known links has led to it. -/
structure Topo where
  digest : Nat
  epoch : Nat
  distance : Nat
  links : List (Nat × Nat × Nat)
  port : Nat
  refDepth : Nat
  tickSource : Nat
  tickDist : Nat
  instId : Nat
  agreed : Nat
  linked : Bool
  deriving DecidableEq, Repr

/-- A remote-watch proxy (R235): home module, the waiter's master and slot, semaphore name, n and cookie. -/
structure Proxy where
  home : Nat
  waiter : Nat
  slot : Nat
  sem : Nat
  n : Nat
  cookie : Nat
  deriving DecidableEq, Repr

/-- A control notice a module floods (R289, R310, R312), or a marker (R20). -/
inductive Notice where
  | hold (b : Nat)
  | ready (module b : Nat)
  | resume (b r : Nat)
  | advert (a : Advert)
  | marker (count : Nat) (hold : Bool)
  deriving DecidableEq, Repr

/-- The fabric. `reqs`: remote requests that await a response, under their OP_TAG, with context and address; `strays`: modules without an
assigned ID, under their digest, with the ID they report; `claims`: per module ID the digests that claim it, with the tick each was last
heard (R289); `transit`: packets in transit that wait for their slot, with the port they leave on (R297); `routeCheck`: ROUTE_CHECK (R299). -/
structure Fabric where
  ports : Tab Port
  ctxs : Tab Ctx
  topo : Tab Topo
  strays : Tab (Nat × Topo)
  proxies : Tab Proxy
  reqs : Tab (Nat × Nat × Cause)
  nextTag : Nat
  claims : Tab (Tab Nat)
  transit : List (Nat × Packet)
  routeCheck : Nat × Nat × Nat
  lastLost : Nat × Nat × Nat × Nat
  deriving DecidableEq, Repr

/-- A port after reset (R290). -/
def Port.reset : Port :=
  { pstate := 0, phase := 0, peerMod := 0, peerValid := false, peerPort := 0, latency := 0, downCause := 0, fec := 0,
    groupsLost := 0, replays := 0, trainings := 0, peerDigest := 0, peerEpoch := 0, rxGroup := 0, replaySeq := 0,
    tries := 0, again := false, badRun := [], nonceDraw := 0, used := [] }

/-- A FREE context (R295). -/
def Ctx.reset : Ctx :=
  { state := 0, kind := 0, route := 0, peerMod := 0, peerCtx := 0, abortCause := 0, master := 0, txSeq := 0,
    ackedSeq := 0, rxSeq := 0, lastHeard := 0, bytesTx := 0, bytesRx := 0, flow := 0, queue := [], store := [],
    unacked := 0, missed := false, lastSent := 0 }

/-- The fabric after reset. -/
def Fabric.reset : Fabric :=
  { ports := [], ctxs := [], topo := [], strays := [], proxies := [], reqs := [], nextTag := 0, claims := [], transit := [],
    routeCheck := (0, 0, 0), lastLost := (0, 0, 0, 0) }

end Sys2Proof.Machine
end

