-- ==== Sys2Proof/Machine/State/Host.lean ====
section
/-! DEFINITION. The state of the host side (chapter 13): Ethernet ports, sessions, bulk transfers, load buffer; and what
the module sends. -/

namespace Sys2Proof.Machine

/-- An Ethernet port (R415 to R418): global IPv6 prefix and assigned IPv4 address, the peer's Chassis ID, Port ID and
TTL, and the datagrams of which fragments are held, with their bytes. -/
structure EthPort where
  pfx : Option Nat
  ip4 : Nat
  peer : Option (Bytes × Bytes × Nat)
  frags : Tab Nat
  deriving DecidableEq, Repr

/-- A response or notification (R419, R420): type, status, payload. -/
structure Resp where
  typ : Nat
  status : Nat
  payload : Bytes
  deriving DecidableEq, Repr

/-- An open bulk transfer (R433, R434): its opening, the segments received (or acknowledged, when the module sends), the
number of segments sent (in order), those received since the last acknowledgement, and the copy that an OBJECT_READ
sends. -/
structure Transfer where
  kind : Nat
  seg : Nat
  index : Nat
  sub : Nat
  addr : Nat
  length : Nat
  sem : Nat
  delta : Nat
  got : List Nat
  sent : Nat
  unacked : Nat
  data : Bytes
  deriving DecidableEq, Repr

/-- An attestation report of a session (R471). -/
structure Attest where
  ready : Bool
  report : Bytes
  deriving DecidableEq, Repr

/-- A host session (R422 to R439): key, h, the responses kept under their SEQ (none: still to come from another module), the port, the source
address and the tick of the latest message, class mask, next notification number, notifications not acknowledged, missed
events, transfers, attestation report. -/
structure Session where
  key : Bytes
  h : Nat
  kept : List (Nat × Option Resp)
  port : Nat
  source : Nat
  heard : Nat
  mask : Nat
  noteNext : Nat
  notes : List (Nat × Resp)
  missed : Nat
  bulk : Tab Transfer
  report : Option Attest
  deriving DecidableEq, Repr

/-- What leaves the module (log entry 3): a Bamcen message with its port, the address it goes to, context, SEQ and tag; an LLDPDU; an answer of
ARP, neighbour discovery, echo or DHCP; an ANNOUNCE (to all by IPv6 or IPv4, or to a source address); a fabric packet in its slot; link control of a port; a group acknowledgement or
replay request; the fields of IDENT, and the signature over them (R286). -/
inductive OutMsg where
  | bamcen (port dest ctx seq : Nat) (r : Resp) (tag : Nat)
  | lldp (port : Nat) (body : Bytes)
  | arp (port ip : Nat)
  | nd (port : Nat) (pfx : Option Nat)
  | echo (port : Nat) (data : Bytes)
  | dhcp (port ip : Nat)
  | announce (port : Nat) (dest : Option Nat) (v4 : Bool) (body : Bytes)
  | packet (port slot : Nat) (p : Packet)
  | control (port : Nat) (p : Packet)
  | notice (port : Nat) (n : Notice)
  | groupAck (port seq : Nat)
  | groupNak (port seq : Nat)
  | groupReplay (port seq : Nat)
  | ident (port : Nat) (m : IdentOut)
  | identSig (port : Nat) (sig : Bytes)
  deriving DecidableEq, Repr

/-- The host side. `traffic`: the tick of the last frame of each Ethernet port (R494). -/
structure HostSide where
  eth : Tab EthPort
  sessions : Tab Session
  loadBuf : Memory
  out : List OutMsg
  traffic : Tab Nat
  deriving DecidableEq, Repr

/-- An Ethernet port after reset. -/
def EthPort.reset : EthPort := { pfx := none, ip4 := 0, peer := none, frags := [] }

/-- The host side after reset. -/
def HostSide.reset : HostSide := { eth := [], sessions := [], loadBuf := [], out := [], traffic := [] }

end Sys2Proof.Machine
end

