-- ==== Sys2Proof/Machine/State/Chip.lean ====
section
/-! DEFINITION. The state of clock sources, power stage, cooling, boot and fuses (chapters 12, 14, 15). -/

namespace Sys2Proof.Machine

/-- A reference candidate's judging (R385): consecutive passing windows, the last window's count, and the counts of the
last 8 passing windows. -/
structure RefSource where
  run : Nat
  last : Option Nat
  counts : List Nat
  deriving DecidableEq, Repr

/-- An operating-point change in the queue (R392, R393): multiplier, frame, origin (0 host, 1 step-down, 2 power
controller). -/
structure OpQueued where
  mult : Nat
  frame : Nat
  origin : Nat
  deriving DecidableEq, Repr

/-- The clock sources (R384 to R408): candidates (0 crystal, 1 EXT10, 2 + p FABRIC of port p), an accepted switch (its
REF_SELECT word), the queued change, a change (multiplier, origin) accepted with F = 0, marker phase errors by port with the tick of the last
marker, the mode before HOLDOVER, the generators free-running (0 to 7 fields, 8 ring, 9 HBM, 10 fabric), whether the data path is
stopped for want of a reference (R407), and the crossings stopped by SLIP_FAULT (pairs A × 8 + B, R401). -/
structure Clocks where
  refs : Tab RefSource
  switch : Option Nat
  queued : Option OpQueued
  direct : Option (Nat × Nat)
  phase : Tab Int
  lastMarker : Nat
  recovered : Bool
  freeRun : List Nat
  stopped : Bool
  slips : List Nat
  deriving DecidableEq, Repr

/-- Power stage, sideband and cooling (R450 to R458, R481, R487 to R490): STAGE_EN mated, stage on, PWRGOOD high, whether
the internal reset is held, FAULT_N low, housekeeping supply; the retention register's cause and life-cycle state;
the input's warning band (0 none, 1 low, 2 high), whether the inlet and the flow are in COOLANT_LIMIT; sensors that tripped; the input
power of up to 16 intervals in mW; intervals since the last change took effect, and of excess at the floor; what ENERGY_J does
not yet count, in pJ; COOLANT_TYPE as of the last evaluation, and the last measurement (inlet, flow; none out of range). -/
structure Power where
  stageEn : Bool
  stage : Bool
  pwrgood : Bool
  held : Bool
  faultN : Bool
  housekeeping : Bool
  retained : Option Nat
  retainedLc : Option Nat
  band : Nat
  hot : Bool
  slow : Bool
  temps : List Int
  tripped : List Nat
  hist : List Nat
  sinceChange : Nat
  excess : Nat
  energyRem : Nat
  coolant : Nat
  measured : Option (Option Int × Option Nat)
  deriving DecidableEq, Repr

/-- A transition whose fuses are being burned (R475, R476): the new state and what it does to the owner slots. -/
structure Burn where
  target : Nat
  revoke : Bool
  fill : Option (Bytes × Nat)
  disable : Bool
  deriving DecidableEq, Repr

/-- Boot (R425, R460 to R467): draw numbers of boot epoch and claim nonce (log entry 2), whether the boot ROM runs, the
HBM stacks trained and the wipe's state (SRAM done; HBM wiping, with the cause code; failed stacks), the verified firmware that waits for the wipe
(version, Eonel key), the key of the running firmware, a fuse burn under way. -/
structure Boot where
  epochDraw : Nat
  nonceDraw : Nat
  rom : Bool
  trained : List Nat
  sramDone : Bool
  hbmWipe : Option Nat
  verified : Option (Nat × Nat)
  fwKey : Nat
  burn : Option Burn
  deriving DecidableEq, Repr

/-- An owner slot (R474). -/
structure OwnerSlot where
  digest : Bytes
  policy : Nat
  revoked : Bool
  deriving DecidableEq, Repr

/-- The fuses (R417, R444, R468 to R477): life-cycle state, the owner slots filled, firmware minimum and raises, revoked Eonel keys,
stepping, serial number, ROM version, device identity key, its certificate, identity disabled, OUI, MAC addresses,
smallest column count, widths and bypassed columns by station. -/
structure Fuses where
  lc : Nat
  slots : List OwnerSlot
  minVersion : Nat
  raises : Nat
  revokedKeys : List Nat
  stepping : Nat
  serial : Bytes
  romVersion : Nat
  identityKey : Bytes
  cert : Bytes
  disabled : Bool
  oui : Nat
  macs : List Nat
  minWidth : Nat
  widths : List Nat
  bypass : List (List Nat)
  deriving DecidableEq, Repr

/-- The clocks after reset (R384). -/
def Clocks.reset : Clocks :=
  { refs := [], switch := none, queued := none, direct := none, phase := [], lastMarker := 0, recovered := false,
    freeRun := [], stopped := false, slips := [] }

/-- Power after a reset with the stage on (log entry 6). -/
def Power.reset : Power :=
  { stageEn := true, stage := true, pwrgood := true, held := false, faultN := false, housekeeping := true,
    retained := none, retainedLc := none, band := 0, hot := false, slow := false, temps := [], tripped := [], hist := [],
    sinceChange := 16, excess := 0, energyRem := 0, coolant := 0, measured := none }

/-- Boot after reset: the boot ROM runs (R464). -/
def Boot.reset : Boot :=
  { epochDraw := 0, nonceDraw := 1, rom := true, trained := [], sramDone := false, hbmWipe := none, verified := none,
    fwKey := 0, burn := none }

/-- The fuses of the modelled part (log entry 5). -/
def Fuses.reset : Fuses :=
  { lc := 2, slots := [{ digest := List.replicate 64 1, policy := 0, revoked := false }], minVersion := 0, raises := 0,
    revokedKeys := [], stepping := 0xA0, serial := List.replicate 16 0x30, romVersion := 1,
    identityKey := List.replicate 1952 0, cert := List.replicate 5357 0, disabled := false, oui := 0,
    macs := [0, 1, 2], minWidth := 256, widths := [], bypass := [] }

end Sys2Proof.Machine
end

