-- ==== Sys2Proof/Machine/State.lean ====
section
/-! DEFINITION. The state of the block: the commands waiting, the fuses, the byte memory and the core; what a command
may stop with; the state after reset. -/

namespace Sys2Proof.Machine

/-- Words of the memories with errors that their codes will meet (R183): byte offsets of single-bit errors, and of uncorrectable
ones. -/
structure Ecc where
  single : List Nat
  double : List Nat
  deriving DecidableEq, Repr

/-- Everything but the queue, the fuses and the byte memory. `scaleAt`: the scale table as of the last commit or START (R71). -/
structure Core where
  dict : Tab Nat
  ev : EventLog
  alm : Almanac
  vigil : Vigil
  st : Tab Station
  fl : Tab Field
  acc : Access
  scale : Tab ScaleEntry
  scaleAt : Tab ScaleEntry
  slots : Tab RefSlot
  norm : Tab NormPart
  recv : Tab (List Nat)
  merge : List MergeWin
  net : List NetMsg
  fab : Fabric
  host : HostSide
  clk : Clocks
  power : Power
  boot : Boot
  ecc : Ecc
  freeCtr : Nat
  deriving DecidableEq, Repr

/-- The machine: the fuses are the only storage a reset leaves (R474). `pending` is the queue of waiting commands, first in first out. -/
structure State where
  pending : List Instr
  fuse : Fuses
  mem : Memory
  core : Core
  deriving DecidableEq, Repr

/-- Why a command stops the model. -/
inductive Fault where
  /-- A command names a unit the module does not have (R12): a station above 191, a field above 7, a stream above 15,
  a port above 15 (an Ethernet port above 2), a context above 4,095. Raised by every meaning with such an operand;
  safe, no such command exists on the hardware. -/
  | noSuchUnit
  deriving DecidableEq, Repr

/-- Why the model refuses a command. -/
inductive Refusal where
  /-- The command has no meaning yet. Raised by exec's arm of that command; safe. -/
  | notModelled (mnemonic : String)
  deriving DecidableEq, Repr

/-- The core after reset. -/
def Core.reset : Core :=
  { dict := [], ev := EventLog.reset, alm := Almanac.reset, vigil := Vigil.reset, st := [], fl := [],
    acc := { entries := [], lastRefusal := none }, scale := [], scaleAt := [], slots := [], norm := [], recv := [], merge := [],
    net := [], fab := Fabric.reset, host := HostSide.reset, clk := Clocks.reset, power := Power.reset,
    boot := Boot.reset, ecc := { single := [], double := [] }, freeCtr := 2 }

/-- The state after reset. -/
def State.reset : State := { pending := [], fuse := Fuses.reset, mem := [], core := Core.reset }

end Sys2Proof.Machine
end

