-- ==== Sys2Proof/Machine/Mem.lean ====
section
/-! DEFINITION. Tables, the byte memory, little-endian numbers and bit fields: the operations every meaning is built
from. -/

namespace Sys2Proof.Machine

variable {α : Type}

/-- The record under a number, if the table holds one. -/
def tget (t : Tab α) (k : Nat) : Option α :=
  match t with
  | [] => none
  | (j, v) :: r => if j = k then some v else tget r k

/-- The record under a number, or a default. -/
def tgetD (t : Tab α) (k : Nat) (d : α) : α := (tget t k).getD d

/-- The table with a record put under a number; the numbers stay rising. -/
def tset (t : Tab α) (k : Nat) (v : α) : Tab α :=
  match t with
  | [] => [(k, v)]
  | (j, w) :: r => if k < j then (k, v) :: (j, w) :: r else if k = j then (k, v) :: r else (j, w) :: tset r k v

/-- The table without the record of a number. -/
def tdel (t : Tab α) (k : Nat) : Tab α := t.filter (fun p => p.1 != k)

/-- One byte of memory: an address not listed reads as zero, as every reset leaves it (R461). -/
def mread (m : Memory) (a : Nat) : Byte :=
  match m with
  | [] => 0
  | (b, v) :: r => if b = a then v else mread r a

/-- One byte written: the list stays rising and holds no zero byte. -/
def mwrite (m : Memory) (a : Nat) (v : Byte) : Memory :=
  match m with
  | [] => if v = 0 then [] else [(a, v)]
  | (b, w) :: r =>
    if a < b then (if v = 0 then (b, w) :: r else (a, v) :: (b, w) :: r)
    else if a = b then (if v = 0 then r else (a, v) :: r)
    else (b, w) :: mwrite r a v

/-- `n` bytes from an address on. -/
def mreadN (m : Memory) (a : Nat) (n : Nat) : Bytes := (List.range n).map fun i => mread m (a + i)

/-- Bytes written from an address on. -/
def mwriteN (m : Memory) (a : Nat) (bs : Bytes) : Memory :=
  match bs with
  | [] => m
  | b :: r => mwriteN (mwrite m a b) (a + 1) r

/-- The canonical form of the byte memory: addresses rise and no listed byte is zero. -/
def memWf (m : Memory) : Bool :=
  match m with
  | [] => true
  | (a, v) :: r => v != 0 && (match r with | [] => true | (b, _) :: _ => decide (a < b)) && memWf r

/-- The number that bytes spell, the first byte lowest. -/
def leNat (bs : Bytes) : Nat :=
  match bs with
  | [] => 0
  | b :: r => b.toNat + 256 * leNat r

/-- The lowest `n` bytes of a number, lowest first. -/
def leBytes (n v : Nat) : Bytes :=
  match n with
  | 0 => []
  | k + 1 => BitVec.ofNat 8 v :: leBytes k (v / 256)

/-- `n` bits of a number from bit `lo` up. -/
def bits (v lo n : Nat) : Nat := (v >>> lo) % 2 ^ n

/-- One bit of a number. -/
def bit (v i : Nat) : Bool := v.testBit i

/-- A number of `n` bits read as two's complement. -/
def signed (n v : Nat) : Int := if v < 2 ^ (n - 1) then (v : Int) else (v : Int) - (2 : Int) ^ n

/-- An integer's `n`-bit two's-complement pattern. -/
def unsigned (n : Nat) (v : Int) : Nat := (v % (2 : Int) ^ n).toNat

/-- A memory number of `n` bytes at an address. -/
def mnum (m : Memory) (a n : Nat) : Nat := leNat (mreadN m a n)

/-- A truth value as a bit. -/
def b2n (b : Bool) : Nat := if b then 1 else 0

/-- A field of a register word: a value placed at a bit. -/
def fieldAt (lo v : Nat) : Nat := v <<< lo

/-- The list with its element `i` replaced. -/
def lset (l : List α) (i : Nat) (v : α) : List α := l.set i v

end Sys2Proof.Machine
end

