-- ==== Sys2Proof/Machine/Dict.lean ====
section
/-! DEFINITION. The object dictionary's objects (R106, R138, R170, R213, R240, R275, R315, R316, R349, R380, R381, R413,
R444, R445, R449, R478, R479, R71): number (index × 256 + subindex), type, access and default, taken from the tables. -/

namespace Sys2Proof.Machine

/-- Access rights of an object (R431). -/
inductive ObjAccess where
  | ro | rw | wo | rc
  deriving DecidableEq, Repr

/-- An object: number, type code (R430), access, size in bytes of a stored value (0: none is stored), default. -/
structure Obj where
  key : Nat
  ty : Nat
  acc : ObjAccess
  size : Nat
  dfl : Nat
  deriving DecidableEq, Repr

/-- 0x0100:01 VENDOR (R444). -/
def Key.vendor : Nat := 0x010001
/-- 0x0100:02 PRODUCT (R444). -/
def Key.product : Nat := 0x010002
/-- 0x0100:03 PART_NUMBER (R444). -/
def Key.partNumber : Nat := 0x010003
/-- 0x0100:04 SERIAL (R444). -/
def Key.serial : Nat := 0x010004
/-- 0x0100:05 STEPPING (R444). -/
def Key.stepping : Nat := 0x010005
/-- 0x0100:06 ROM_VERSION (R444). -/
def Key.romVersion : Nat := 0x010006
/-- 0x0100:07 FW_VERSION (R444). -/
def Key.fwVersion : Nat := 0x010007
/-- 0x0100:08 IDENTITY_KEY (R444). -/
def Key.identityKey : Nat := 0x010008
/-- 0x0100:09 IDENTITY_DIGEST (R444). -/
def Key.identityDigest : Nat := 0x010009
/-- 0x0100:0A OUI (R444). -/
def Key.oui : Nat := 0x01000A
/-- 0x0100:0B UPTIME_TICKS (R444). -/
def Key.uptimeTicks : Nat := 0x01000B
/-- 0x0200:01 LC_STATE (R478). -/
def Key.lcState : Nat := 0x020001
/-- 0x0200:02 LC_COMMAND (R478). -/
def Key.lcCommand : Nat := 0x020002
/-- 0x0200:03 NEXT_OWNER (R478). -/
def Key.nextOwner : Nat := 0x020003
/-- 0x0200:04 OWNER_DIGEST (R478). -/
def Key.ownerDigest : Nat := 0x020004
/-- 0x0200:05 OWNER_POLICY (R478). -/
def Key.ownerPolicy : Nat := 0x020005
/-- 0x0200:06 OWNER_SLOTS_USED (R478). -/
def Key.ownerSlotsUsed : Nat := 0x020006
/-- 0x0200:07 RESET_CAUSE (R478). -/
def Key.resetCause : Nat := 0x020007
/-- 0x0200:08 WIPE_STATUS (R478). -/
def Key.wipeStatus : Nat := 0x020008
/-- 0x0200:09 WIPE_TIME (R478). -/
def Key.wipeTime : Nat := 0x020009
/-- 0x0200:0A IDENTITY_CERT (R478). -/
def Key.identityCert : Nat := 0x02000A
/-- 0x0201:01 ATTEST_NONCE (R478). -/
def Key.attestNonce : Nat := 0x020101
/-- 0x0201:02 ATTEST_READY (R478). -/
def Key.attestReady : Nat := 0x020102
/-- 0x0201:03 ATTEST_REPORT (R478). -/
def Key.attestReport : Nat := 0x020103
/-- 0x0202:01 FW_STATUS (R478). -/
def Key.fwStatus : Nat := 0x020201
/-- 0x0202:02 FW_DIGEST (R478). -/
def Key.fwDigest : Nat := 0x020202
/-- 0x0202:03 FW_ATTEMPTS (R478). -/
def Key.fwAttempts : Nat := 0x020203
/-- 0x0202:04 FW_MIN_VERSION (R478). -/
def Key.fwMinVersion : Nat := 0x020204
/-- 0x0202:05 FW_RAISE_MIN (R478). -/
def Key.fwRaiseMin : Nat := 0x020205
/-- 0x0202:06 EONEL_KEYS (R478). -/
def Key.eonelKeys : Nat := 0x020206
/-- 0x0202:07 EONEL_REVOKE (R478). -/
def Key.eonelRevoke : Nat := 0x020207
/-- 0x0300:01 POWER_CAP (R479). -/
def Key.powerCap : Nat := 0x030001
/-- 0x0300:02 CAP_IN_FORCE (R479). -/
def Key.capInForce : Nat := 0x030002
/-- 0x0300:03 CAP_SOURCE (R479). -/
def Key.capSource : Nat := 0x030003
/-- 0x0300:04 INPUT_MV (R479). -/
def Key.inputMv : Nat := 0x030004
/-- 0x0300:05 INPUT_MA (R479). -/
def Key.inputMa : Nat := 0x030005
/-- 0x0300:06 INPUT_POWER (R479). -/
def Key.inputPower : Nat := 0x030006
/-- 0x0300:07 TARGET_MULT (R479). -/
def Key.targetMult : Nat := 0x030007
/-- 0x0300:08 VOLTAGE_CAP (R479). -/
def Key.voltageCap : Nat := 0x030008
/-- 0x0300:09 ENERGY_J (R479). -/
def Key.energyJ : Nat := 0x030009
/-- 0x0300:0A POWER_LIMIT_COUNT (R479). -/
def Key.powerLimitCount : Nat := 0x03000A
/-- 0x0301:01 COOLANT_TYPE (R479). -/
def Key.coolantType : Nat := 0x030101
/-- 0x0301:02 INLET_MC (R479). -/
def Key.inletMc : Nat := 0x030102
/-- 0x0301:03 OUTLET_MC (R479). -/
def Key.outletMc : Nat := 0x030103
/-- 0x0301:04 FLOW_MLMIN (R479). -/
def Key.flowMlmin : Nat := 0x030104
/-- 0x0301:05 COOLANT_CAP (R479). -/
def Key.coolantCap : Nat := 0x030105
/-- 0x0301:06 THERMAL_CAP (R479). -/
def Key.thermalCap : Nat := 0x030106
/-- 0x0301:07 TEMPS (R479). -/
def Key.temps : Nat := 0x030107
/-- 0x0301:08 THROTTLING (R479). -/
def Key.throttling : Nat := 0x030108
/-- 0x0301:09 COOLANT_LIMIT_COUNT (R479). -/
def Key.coolantLimitCount : Nat := 0x030109
/-- 0x0301:0A THERMAL_TRIP_COUNT (R479). -/
def Key.thermalTripCount : Nat := 0x03010A
/-- 0x0400:01 REF_SELECT (R413). -/
def Key.refSelect : Nat := 0x040001
/-- 0x0400:02 REF_PORT (R413). -/
def Key.refPort : Nat := 0x040002
/-- 0x0400:03 REF_ACTIVE (R413). -/
def Key.refActive : Nat := 0x040003
/-- 0x0400:04 REF_READY (R413). -/
def Key.refReady : Nat := 0x040004
/-- 0x0400:05 REF_DEPTH (R413). -/
def Key.refDepth : Nat := 0x040005
/-- 0x0400:06 MONITOR_MODE (R413). -/
def Key.monitorMode : Nat := 0x040006
/-- 0x0400:07 OP_MULT (R413). -/
def Key.opMult : Nat := 0x040007
/-- 0x0400:08 OP_CHANGE (R413). -/
def Key.opChange : Nat := 0x040008
/-- 0x0400:09 OP_QUEUED (R413). -/
def Key.opQueued : Nat := 0x040009
/-- 0x0400:0A OP_CHANGES (R413). -/
def Key.opChanges : Nat := 0x04000A
/-- 0x0400:0B STEPDOWN_ENABLE (R413). -/
def Key.stepdownEnable : Nat := 0x04000B
/-- 0x0400:0C LEAP_COUNTS (R413). -/
def Key.leapCounts : Nat := 0x04000C
/-- 0x0400:0D LEAPS_TOTAL (R413). -/
def Key.leapsTotal : Nat := 0x04000D
/-- 0x0400:0E LEAP_BUDGET_COUNT (R413). -/
def Key.leapBudgetCount : Nat := 0x04000E
/-- 0x0400:0F SLIP_FAULT_COUNT (R413). -/
def Key.slipFaultCount : Nat := 0x04000F
/-- 0x0400:10 REF_LOST_COUNT (R413). -/
def Key.refLostCount : Nat := 0x040010
/-- 0x0400:11 HOLDOVER_PHASE (R413). -/
def Key.holdoverPhase : Nat := 0x040011
/-- 0x0400:12 GATE_STATIONS (R413). -/
def Key.gateStations : Nat := 0x040012
/-- 0x0400:13 GATE_ENGINES (R413). -/
def Key.gateEngines : Nat := 0x040013
/-- 0x0400:14 GATE_HBM (R413). -/
def Key.gateHbm : Nat := 0x040014
/-- 0x0400:15 GATE_HOSTPORTS (R413). -/
def Key.gateHostports : Nat := 0x040015
/-- 0x0400:16 XTAL_OFFSET (R413). -/
def Key.xtalOffset : Nat := 0x040016
/-- 0x0400:17 CLOCK_UNLOCK_COUNT (R413). -/
def Key.clockUnlockCount : Nat := 0x040017
/-- 0x0400:18 HOLDOVER_DRIFT_COUNT (R413). -/
def Key.holdoverDriftCount : Nat := 0x040018
/-- 0x0500:01 ANNOUNCE_MS (R445). -/
def Key.announceMs : Nat := 0x050001
/-- 0x0500:02 CLAIMED (R445). -/
def Key.claimed : Nat := 0x050002
/-- 0x0500:03 CLAIM_NONCE (R445). -/
def Key.claimNonce : Nat := 0x050003
/-- 0x0500:04 SESSIONS (R445). -/
def Key.sessions : Nat := 0x050004
/-- 0x0500:05 SESSION_TIMEOUT (R445). -/
def Key.sessionTimeout : Nat := 0x050005
/-- 0x0500:06 SESSION_TABLE (R445). -/
def Key.sessionTable : Nat := 0x050006
/-- 0x0500:07 AUTH_FAILURES (R445). -/
def Key.authFailures : Nat := 0x050007
/-- 0x0500:08 BULK_RX_BYTES (R445). -/
def Key.bulkRxBytes : Nat := 0x050008
/-- 0x0500:09 BULK_TX_BYTES (R445). -/
def Key.bulkTxBytes : Nat := 0x050009
/-- 0x0500:0A SLOT_BINDINGS (R445). -/
def Key.slotBindings : Nat := 0x05000A
/-- 0x0600:01 MODULE_ID (R315). -/
def Key.moduleId : Nat := 0x060001
/-- 0x0600:02 MODULE_ID_VALID (R315). -/
def Key.moduleIdValid : Nat := 0x060002
/-- 0x0600:03 PORT_JOIN (R315). -/
def Key.portJoin : Nat := 0x060003
/-- 0x0600:04 PORT_ENABLE (R315). -/
def Key.portEnable : Nat := 0x060004
/-- 0x0600:05 INSTALLATION_ID (R315). -/
def Key.installationId : Nat := 0x060005
/-- 0x0600:06 PARTNER_TIMEOUT (R315). -/
def Key.partnerTimeout : Nat := 0x060006
/-- 0x0600:07 PORT_STATES (R315). -/
def Key.portStates : Nat := 0x060007
/-- 0x0600:08 NEIGHBOURS (R315). -/
def Key.neighbours : Nat := 0x060008
/-- 0x0600:09 TOPOLOGY (R315). -/
def Key.topology : Nat := 0x060009
/-- 0x0600:0A BOOT_EPOCH (R315). -/
def Key.bootEpoch : Nat := 0x06000A
/-- 0x0600:0B HOLD_LEAD (R315). -/
def Key.holdLead : Nat := 0x06000B
/-- 0x0600:0C HOLD_STATE (R315). -/
def Key.holdState : Nat := 0x06000C
/-- 0x0600:0D ROUTE_CHECK (R315). -/
def Key.routeCheck : Nat := 0x06000D
/-- 0x0600:0E FEC_CORRECTED (R315). -/
def Key.fecCorrected : Nat := 0x06000E
/-- 0x0600:0F GROUPS_LOST (R315). -/
def Key.groupsLost : Nat := 0x06000F
/-- 0x0600:10 LINK_REPLAYS (R315). -/
def Key.linkReplays : Nat := 0x060010
/-- 0x0600:11 LINK_DOWN_COUNT (R315). -/
def Key.linkDownCount : Nat := 0x060011
/-- 0x0600:12 LINK_REFUSED_COUNT (R315). -/
def Key.linkRefusedCount : Nat := 0x060012
/-- 0x0600:13 SLOT_COLLISION_COUNT (R315). -/
def Key.slotCollisionCount : Nat := 0x060013
/-- 0x0600:14 SLOT_MISSED_COUNT (R315). -/
def Key.slotMissedCount : Nat := 0x060014
/-- 0x0600:15 ROUTE_CHANGE_COUNT (R315). -/
def Key.routeChangeCount : Nat := 0x060015
/-- 0x0600:16 FLOW_CRC_COUNT (R315). -/
def Key.flowCrcCount : Nat := 0x060016
/-- 0x0600:17 FRAME_OVERRUN_COUNT (R315). -/
def Key.frameOverrunCount : Nat := 0x060017
/-- 0x0600:18 HOLDS (R315). -/
def Key.holds : Nat := 0x060018
/-- 0x0600:19 HELD_TICKS (R315). -/
def Key.heldTicks : Nat := 0x060019
/-- 0x0600:1A CONFLICT_COUNT (R315). -/
def Key.conflictCount : Nat := 0x06001A
/-- 0x0600:1B DOMAIN_TICK (R315). -/
def Key.domainTick : Nat := 0x06001B
/-- 0x0600:1C TICK_SOURCE (R315). -/
def Key.tickSource : Nat := 0x06001C
/-- 0x0610:01 RED_DONE (R349). -/
def Key.redDone : Nat := 0x061001
/-- 0x0610:02 CHECKSUM_MISMATCH_COUNT (R349). -/
def Key.checksumMismatchCount : Nat := 0x061002
/-- 0x0610:03 WINDOW_OVERFLOW_COUNT (R349). -/
def Key.windowOverflowCount : Nat := 0x061003
/-- 0x0610:04 REDUCTION_ORDER_COUNT (R349). -/
def Key.reductionOrderCount : Nat := 0x061004
/-- 0x0610:05 REF_SLOTS (R349). -/
def Key.refSlots : Nat := 0x061005
/-- 0x0610:06 LAST_RED_EVENT (R349). -/
def Key.lastRedEvent : Nat := 0x061006
/-- 0x0610:07 PERMUTE_FAILED_COUNT (R349). -/
def Key.permuteFailedCount : Nat := 0x061007
/-- 0x0610:08 STAGING_BYTES (R349). -/
def Key.stagingBytes : Nat := 0x061008
/-- 0x0611:01 MCAST_DETACH_COUNT (R349). -/
def Key.mcastDetachCount : Nat := 0x061101
/-- 0x0611:02 DETACHED (R349). -/
def Key.detached : Nat := 0x061102
/-- 0x0611:03 MCAST_UNITS (R349). -/
def Key.mcastUnits : Nat := 0x061103
/-- 0x0700:01 HBM_GRANULE (R213). -/
def Key.hbmGranule : Nat := 0x070001
/-- 0x0700:02 HBM_BYTES (R213). -/
def Key.hbmBytes : Nat := 0x070002
/-- 0x0700:03 HBM_WIPING (R213). -/
def Key.hbmWiping : Nat := 0x070003
/-- 0x0700:04 HBM_STACKS (R213). -/
def Key.hbmStacks : Nat := 0x070004
/-- 0x0700:05 WC_DELTA (R213). -/
def Key.wcDelta : Nat := 0x070005
/-- 0x0700:06 ECC_CORRECTED (R213). -/
def Key.eccCorrected : Nat := 0x070006
/-- 0x0700:07 MEM_UNCORRECTABLE_COUNT (R213). -/
def Key.memUncorrectableCount : Nat := 0x070007
/-- 0x0701:01 MERGED_READS (R213). -/
def Key.mergedReads : Nat := 0x070101
/-- 0x0701:02 SLICE_SHARE_CYCLES (R213). -/
def Key.sliceShareCycles : Nat := 0x070102
/-- 0x0702:01 ACCESS_TABLES (R213). -/
def Key.accessTables : Nat := 0x070201
/-- 0x0702:02 ACCESS_REFUSED (R213). -/
def Key.accessRefused : Nat := 0x070202
/-- 0x0702:03 LAST_REFUSAL (R213). -/
def Key.lastRefusal : Nat := 0x070203
/-- 0x0702:04 ACCESS_EDIT (R213). -/
def Key.accessEdit : Nat := 0x070204
/-- 0x0703:01 ARM_BUSY (R213). -/
def Key.armBusy : Nat := 0x070301
/-- 0x0703:02 STREAM_STALL_COUNT (R213). -/
def Key.streamStallCount : Nat := 0x070302
/-- 0x0703:03 STREAM_FAULT_COUNT (R213). -/
def Key.streamFaultCount : Nat := 0x070303
/-- 0x0703:04 ADDRESS_FAULT_COUNT (R213). -/
def Key.addressFaultCount : Nat := 0x070304
/-- 0x0703:05 STREAM_BYTES (R213). -/
def Key.streamBytes : Nat := 0x070305
/-- 0x0703:06 STREAM_STATES (R213). -/
def Key.streamStates : Nat := 0x070306
/-- 0x0801:01 WIDTH_MODE (R106). -/
def Key.widthMode : Nat := 0x080101
/-- 0x0801:02 UNIFORM_WIDTH (R106). -/
def Key.uniformWidth : Nat := 0x080102
/-- 0x0801:03 DIE_MIN_WIDTH (R106). -/
def Key.dieMinWidth : Nat := 0x080103
/-- 0x0801:04 WIDTH_MAP (R106). -/
def Key.widthMap : Nat := 0x080104
/-- 0x0801:05 BYPASS_MAP (R106). -/
def Key.bypassMap : Nat := 0x080105
/-- 0x0802:01 ARRAY_BUSY_CYCLES (R106). -/
def Key.arrayBusyCycles : Nat := 0x080201
/-- 0x0802:02 PRODUCTS_GATED (R106). -/
def Key.productsGated : Nat := 0x080202
/-- 0x0802:03 PRODUCTS_TOTAL (R106). -/
def Key.productsTotal : Nat := 0x080203
/-- 0x0802:04 TILE_WAIT_CYCLES (R106). -/
def Key.tileWaitCycles : Nat := 0x080204
/-- 0x0802:05 FORMAT_MISMATCH_COUNT (R106). -/
def Key.formatMismatchCount : Nat := 0x080205
/-- 0x0803:01 LOOP_LENGTH (R138). -/
def Key.loopLength : Nat := 0x080301
/-- 0x0803:02 RETAINED_LAYERS (R138). -/
def Key.retainedLayers : Nat := 0x080302
/-- 0x0803:03 CW_ROWS (R138). -/
def Key.cwRows : Nat := 0x080303
/-- 0x0803:04 CW_WEIGHT_TILES (R138). -/
def Key.cwWeightTiles : Nat := 0x080304
/-- 0x0803:05 CCW_ROWS (R138). -/
def Key.ccwRows : Nat := 0x080305
/-- 0x0803:06 RING_CREDIT_STALLS (R138). -/
def Key.ringCreditStalls : Nat := 0x080306
/-- 0x0803:07 DFW_ARRAY_CYCLES (R138). -/
def Key.dfwArrayCycles : Nat := 0x080307
/-- 0x0803:08 DFW_PREEMPT_WAIT (R138). -/
def Key.dfwPreemptWait : Nat := 0x080308
/-- 0x0803:09 DFW_MAX_DEPTH (R138). -/
def Key.dfwMaxDepth : Nat := 0x080309
/-- 0x0803:0A DFW_LATE_COUNT (R138). -/
def Key.dfwLateCount : Nat := 0x08030A
/-- 0x0803:0B RING_SHAPE_COUNT (R138). -/
def Key.ringShapeCount : Nat := 0x08030B
/-- 0x0804:01 UPD_ELEMENTS (R170). -/
def Key.updElements : Nat := 0x080401
/-- 0x0804:02 UPD_BUSY_CYCLES (R170). -/
def Key.updBusyCycles : Nat := 0x080402
/-- 0x0804:03 UPDATE_NONFINITE_COUNT (R170). -/
def Key.updateNonfiniteCount : Nat := 0x080403
/-- 0x0804:04 OPT_GROUPS (R170). -/
def Key.optGroups : Nat := 0x080404
/-- 0x0804:05 LR_SCHEDULES (R170). -/
def Key.lrSchedules : Nat := 0x080405
/-- 0x0804:06 SHARD_MAP (R170). -/
def Key.shardMap : Nat := 0x080406
/-- 0x0804:07 MASK_BASE (R170). -/
def Key.maskBase : Nat := 0x080407
/-- 0x0805:01 COMMITS (R170). -/
def Key.commits : Nat := 0x080501
/-- 0x0805:02 ABORTS (R170). -/
def Key.aborts : Nat := 0x080502
/-- 0x0805:03 COMMIT_STATE (R170). -/
def Key.commitState : Nat := 0x080503
/-- 0x0805:04 LAST_VOTE_STEP (R170). -/
def Key.lastVoteStep : Nat := 0x080504
/-- 0x0805:05 LAST_OUTCOME (R170). -/
def Key.lastOutcome : Nat := 0x080505
/-- 0x0805:06 OWN_VOTE (R170). -/
def Key.ownVote : Nat := 0x080506
/-- 0x0805:07 VOTE_REASON (R170). -/
def Key.voteReason : Nat := 0x080507
/-- 0x0805:08 RESOLVE (R170). -/
def Key.resolve : Nat := 0x080508
/-- 0x0805:09 APPLY_DONE_STEP (R170). -/
def Key.applyDoneStep : Nat := 0x080509
/-- 0x0805:0A UNDECIDED_COUNT (R170). -/
def Key.undecidedCount : Nat := 0x08050A
/-- 0x0806:01 INSTR_ISSUED (R275). -/
def Key.instrIssued : Nat := 0x080601
/-- 0x0806:02 SEQ_WAIT_CYCLES (R275). -/
def Key.seqWaitCycles : Nat := 0x080602
/-- 0x0806:03 SEQ_STATES (R275). -/
def Key.seqStates : Nat := 0x080603
/-- 0x0806:04 SEGMENT_LATE_COUNT (R275). -/
def Key.segmentLateCount : Nat := 0x080604
/-- 0x0806:05 STATION_FAULTS (R275). -/
def Key.stationFaults : Nat := 0x080605
/-- 0x0806:06 ILLEGAL_INSTRUCTION_COUNT (R275). -/
def Key.illegalInstructionCount : Nat := 0x080606
/-- 0x0806:07 SIG_LOST_COUNT (R275). -/
def Key.sigLostCount : Nat := 0x080607
/-- 0x0806:08 TRANSC_BUSY_CYCLES (R275). -/
def Key.transcBusyCycles : Nat := 0x080608
/-- 0x0806:09 LAST_STATION_FAULT (R275). -/
def Key.lastStationFault : Nat := 0x080609
/-- 0x0900:01 AUDIT_K (R71). -/
def Key.auditK : Nat := 0x090001
/-- 0x0900:02 AUDIT_TOL (R71). -/
def Key.auditTol : Nat := 0x090002
/-- 0x0900:03 AUDIT_ENABLE (R71). -/
def Key.auditEnable : Nat := 0x090003
/-- 0x0900:04 AUDITS_RUN (R71). -/
def Key.auditsRun : Nat := 0x090004
/-- 0x0900:05 AUDIT_DIVERGE_COUNT (R71). -/
def Key.auditDivergeCount : Nat := 0x090005
/-- 0x0900:06 AUDIT_WORST (R71). -/
def Key.auditWorst : Nat := 0x090006
/-- 0x0901:01 JOB_SEED (R71). -/
def Key.jobSeed : Nat := 0x090101
/-- 0x0901:02 START_STEP (R71). -/
def Key.startStep : Nat := 0x090102
/-- 0x0901:03 STEP_NUMBER (R71). -/
def Key.stepNumber : Nat := 0x090103
/-- 0x0902:01 SAT_E4M3 (R71). -/
def Key.satE4m3 : Nat := 0x090201
/-- 0x0902:02 SAT_E5M2 (R71). -/
def Key.satE5m2 : Nat := 0x090202
/-- 0x0902:03 W32_CLAMP (R71). -/
def Key.w32Clamp : Nat := 0x090203
/-- 0x0902:04 MOMENT_CLAMP (R71). -/
def Key.momentClamp : Nat := 0x090204
/-- 0x0902:05 NAN_CONVERTED (R71). -/
def Key.nanConverted : Nat := 0x090205
/-- 0x0903:01 SCALE_TABLE (R71). -/
def Key.scaleTable : Nat := 0x090301
/-- 0x0903:02 SCALE_ENTRIES_USED (R71). -/
def Key.scaleEntriesUsed : Nat := 0x090302
/-- 0x0A00:01 SEM_UNDERFLOW_COUNT (R240). -/
def Key.semUnderflowCount : Nat := 0x0A0001
/-- 0x0A00:02 SEM_OVERFLOW_COUNT (R240). -/
def Key.semOverflowCount : Nat := 0x0A0002
/-- 0x0A00:03 TAKEN_COUNT (R240). -/
def Key.takenCount : Nat := 0x0A0003
/-- 0x0A00:04 LOST_MESSAGES (R240). -/
def Key.lostMessages : Nat := 0x0A0004
/-- 0x0A00:05 WATCHES_USED (R240). -/
def Key.watchesUsed : Nat := 0x0A0005
/-- 0x0A00:06 WATCH_BUSY (R240). -/
def Key.watchBusy : Nat := 0x0A0006
/-- 0x0A00:07 PROXIES_USED (R240). -/
def Key.proxiesUsed : Nat := 0x0A0007
/-- 0x0A00:08 SEM_TABLE (R240). -/
def Key.semTable : Nat := 0x0A0008
/-- 0x0A00:09 LAST_SEM_FAULT (R240). -/
def Key.lastSemFault : Nat := 0x0A0009
/-- 0x0A00:0A SYNC_OPS (R240). -/
def Key.syncOps : Nat := 0x0A000A
/-- 0x0A00:0B STREAM_LOST_COUNT (R240). -/
def Key.streamLostCount : Nat := 0x0A000B
/-- 0x0A01:01 CTX_USED (R316). -/
def Key.ctxUsed : Nat := 0x0A0101
/-- 0x0A01:02 CTX_HIGH (R316). -/
def Key.ctxHigh : Nat := 0x0A0102
/-- 0x0A01:03 NOCTX_COUNT (R316). -/
def Key.noctxCount : Nat := 0x0A0103
/-- 0x0A01:04 CTX_TABLE (R316). -/
def Key.ctxTable : Nat := 0x0A0104
/-- 0x0A01:05 PARTNER_LOST_COUNT (R316). -/
def Key.partnerLostCount : Nat := 0x0A0105
/-- 0x0A01:06 REPLAY_STORE_USED (R316). -/
def Key.replayStoreUsed : Nat := 0x0A0106
/-- 0x0A01:07 LAST_PARTNER_LOST (R316). -/
def Key.lastPartnerLost : Nat := 0x0A0107
/-- 0x0B00:01 ALMANAC_CMD (R380). -/
def Key.almanacCmd : Nat := 0x0B0001
/-- 0x0B00:02 ALMANAC_STATE (R380). -/
def Key.almanacState : Nat := 0x0B0002
/-- 0x0B00:03 LOAD_STATUS (R380). -/
def Key.loadStatus : Nat := 0x0B0003
/-- 0x0B00:04 CHECK_REPORT (R380). -/
def Key.checkReport : Nat := 0x0B0004
/-- 0x0B00:05 START_TICK (R380). -/
def Key.startTick : Nat := 0x0B0005
/-- 0x0B00:06 STOP_AT (R380). -/
def Key.stopAt : Nat := 0x0B0006
/-- 0x0B00:07 ABORT_LIMIT (R380). -/
def Key.abortLimit : Nat := 0x0B0007
/-- 0x0B00:08 STEPS_TO_RUN (R380). -/
def Key.stepsToRun : Nat := 0x0B0008
/-- 0x0B00:09 FRAME_COUNT (R380). -/
def Key.frameCount : Nat := 0x0B0009
/-- 0x0B00:0A FRAME_TICKS (R380). -/
def Key.frameTicks : Nat := 0x0B000A
/-- 0x0B00:0B MULT_RANGE (R380). -/
def Key.multRange : Nat := 0x0B000B
/-- 0x0B00:0C LEAP_RESERVE (R380). -/
def Key.leapReserve : Nat := 0x0B000C
/-- 0x0B00:0D IMAGE_PROFILE (R380). -/
def Key.imageProfile : Nat := 0x0B000D
/-- 0x0B00:0E PART_PROFILE (R380). -/
def Key.partProfile : Nat := 0x0B000E
/-- 0x0B00:0F IMAGE_DIGEST (R380). -/
def Key.imageDigest : Nat := 0x0B000F
/-- 0x0B00:10 ALMANAC_DIGEST (R380). -/
def Key.almanacDigest : Nat := 0x0B0010
/-- 0x0B00:11 CONFIG_DIGEST (R380). -/
def Key.configDigest : Nat := 0x0B0011
/-- 0x0B00:12 STOP_CAUSE (R380). -/
def Key.stopCause : Nat := 0x0B0012
/-- 0x0B00:13 LAST_FAULT (R380). -/
def Key.lastFault : Nat := 0x0B0013
/-- 0x0B00:14 CONSEC_ABORTS (R380). -/
def Key.consecAborts : Nat := 0x0B0014
/-- 0x0B00:15 REQUIRE_SIGNED (R380). -/
def Key.requireSigned : Nat := 0x0B0015
/-- 0x0B00:16 FAULT_STOPS (R380). -/
def Key.faultStops : Nat := 0x0B0016
/-- 0x0C00:01 EVENT_LOG (R449). -/
def Key.eventLog : Nat := 0x0C0001
/-- 0x0C00:02 EVENT_NEXT_SEQ (R449). -/
def Key.eventNextSeq : Nat := 0x0C0002
/-- 0x0C00:03 EVENTS_OVERWRITTEN (R449). -/
def Key.eventsOverwritten : Nat := 0x0C0003
/-- 0x0C00:04 EVENTS_SUPPRESSED (R449). -/
def Key.eventsSuppressed : Nat := 0x0C0004
/-- 0x0C00:05 EVENT_COUNTS (R449). -/
def Key.eventCounts : Nat := 0x0C0005
/-- 0x0C01:01 ERR_BUSY (R449). -/
def Key.errBusy : Nat := 0x0C0101
/-- 0x0C01:02 ERR_STATE (R449). -/
def Key.errState : Nat := 0x0C0102
/-- 0x0C01:03 ERR_RANGE (R449). -/
def Key.errRange : Nat := 0x0C0103
/-- 0x0C01:04 ERR_ACCESS (R449). -/
def Key.errAccess : Nat := 0x0C0104
/-- 0x0C01:05 ERR_NOCTX (R449). -/
def Key.errNoctx : Nat := 0x0C0105
/-- 0x0C01:06 ERR_DEADLINE (R449). -/
def Key.errDeadline : Nat := 0x0C0106
/-- 0x0C01:07 ERR_PROFILE (R449). -/
def Key.errProfile : Nat := 0x0C0107
/-- 0x0C01:08 ERR_WIDTH (R449). -/
def Key.errWidth : Nat := 0x0C0108
/-- 0x0C01:09 ERR_AUTH (R449). -/
def Key.errAuth : Nat := 0x0C0109
/-- 0x0C01:0A ERR_INTEGRITY (R449). -/
def Key.errIntegrity : Nat := 0x0C010A
/-- 0x0C01:0B ERR_LOST (R449). -/
def Key.errLost : Nat := 0x0C010B
/-- 0x0C01:0C ERR_TAKEN (R449). -/
def Key.errTaken : Nat := 0x0C010C
/-- 0x0D00:01 VIGIL_ENABLE (R381). -/
def Key.vigilEnable : Nat := 0x0D0001
/-- 0x0D00:02 VIGIL_COUNTS (R381). -/
def Key.vigilCounts : Nat := 0x0D0002
/-- 0x0D00:03 VIGIL_LOG (R381). -/
def Key.vigilLog : Nat := 0x0D0003
/-- 0x0D00:04 VIGIL_UNCHECKED (R381). -/
def Key.vigilUnchecked : Nat := 0x0D0004
/-- 0x0D00:05 GATED_ACCESS_COUNT (R381). -/
def Key.gatedAccessCount : Nat := 0x0D0005
/-- 0x0D00:06 VIGIL_LOG_USED (R381). -/
def Key.vigilLogUsed : Nat := 0x0D0006

/-- The object number of a subindex of an Ethernet port's index: 0x0501 to 0x0503 (R445). -/
def Key.port (p sub : Nat) : Nat := (0x0501 + p) * 256 + sub

/-- Part 0 of the object table. -/
def objPart0 : List Obj :=
  [⟨0x010001, 8, .ro, 0, 0⟩,
   ⟨0x010002, 8, .ro, 0, 0⟩,
   ⟨0x010003, 8, .ro, 0, 0⟩,
   ⟨0x010004, 8, .ro, 0, 0⟩,
   ⟨0x010005, 2, .ro, 1, 0⟩,
   ⟨0x010006, 4, .ro, 4, 0⟩,
   ⟨0x010007, 4, .ro, 4, 0⟩,
   ⟨0x010008, 9, .ro, 0, 0⟩,
   ⟨0x010009, 9, .ro, 0, 0⟩,
   ⟨0x01000A, 4, .ro, 4, 0⟩,
   ⟨0x01000B, 5, .ro, 8, 0⟩,
   ⟨0x020001, 2, .ro, 1, 0⟩,
   ⟨0x020002, 9, .wo, 0, 0⟩,
   ⟨0x020003, 9, .rw, 72, 0⟩,
   ⟨0x020004, 9, .ro, 0, 0⟩,
   ⟨0x020005, 2, .ro, 1, 0⟩,
   ⟨0x020006, 2, .ro, 1, 0⟩,
   ⟨0x020007, 2, .ro, 1, 0⟩,
   ⟨0x020008, 2, .ro, 1, 0⟩,
   ⟨0x020009, 4, .ro, 4, 0⟩,
   ⟨0x02000A, 9, .ro, 0, 0⟩,
   ⟨0x020101, 9, .wo, 0, 0⟩,
   ⟨0x020102, 1, .ro, 1, 0⟩,
   ⟨0x020103, 9, .ro, 0, 0⟩,
   ⟨0x020201, 2, .ro, 1, 0⟩,
   ⟨0x020202, 9, .ro, 0, 0⟩,
   ⟨0x020203, 4, .rc, 4, 0⟩,
   ⟨0x020204, 4, .ro, 4, 0⟩,
   ⟨0x020205, 4, .wo, 4, 0⟩,
   ⟨0x020206, 2, .ro, 1, 0⟩,
   ⟨0x020207, 2, .wo, 1, 0⟩,
   ⟨0x030001, 3, .rw, 2, 0x1194⟩,
   ⟨0x030002, 3, .ro, 2, 0x1194⟩,
   ⟨0x030003, 2, .ro, 1, 0⟩,
   ⟨0x030004, 4, .ro, 4, 0⟩,
   ⟨0x030005, 4, .ro, 4, 0⟩,
   ⟨0x030006, 3, .ro, 2, 0⟩,
   ⟨0x030007, 2, .ro, 1, 16⟩,
   ⟨0x030008, 3, .ro, 2, 0x1194⟩,
   ⟨0x030009, 5, .rc, 8, 0⟩]

/-- Part 1 of the object table. -/
def objPart1 : List Obj :=
  [⟨0x03000A, 4, .rc, 4, 0⟩,
   ⟨0x030101, 2, .rw, 1, 0⟩,
   ⟨0x030102, 6, .ro, 4, 0⟩,
   ⟨0x030103, 6, .ro, 4, 0⟩,
   ⟨0x030104, 4, .ro, 4, 0⟩,
   ⟨0x030105, 3, .ro, 2, 0x1194⟩,
   ⟨0x030106, 3, .ro, 2, 0x1194⟩,
   ⟨0x030107, 9, .ro, 0, 0⟩,
   ⟨0x030108, 5, .ro, 8, 0⟩,
   ⟨0x030109, 4, .rc, 4, 0⟩,
   ⟨0x03010A, 4, .rc, 4, 0⟩,
   ⟨0x040001, 3, .rw, 2, 0⟩,
   ⟨0x040002, 2, .ro, 1, 0⟩,
   ⟨0x040003, 2, .ro, 1, 0⟩,
   ⟨0x040004, 4, .ro, 4, 0⟩,
   ⟨0x040005, 2, .ro, 1, 0⟩,
   ⟨0x040006, 2, .rw, 1, 0⟩,
   ⟨0x040007, 2, .ro, 1, 16⟩,
   ⟨0x040008, 9, .wo, 0, 0⟩,
   ⟨0x040009, 9, .ro, 0, 0⟩,
   ⟨0x04000A, 4, .rc, 4, 0⟩,
   ⟨0x04000B, 1, .rw, 1, 1⟩,
   ⟨0x04000C, 9, .ro, 0, 0⟩,
   ⟨0x04000D, 5, .rc, 8, 0⟩,
   ⟨0x04000E, 4, .rc, 4, 0⟩,
   ⟨0x04000F, 4, .rc, 4, 0⟩,
   ⟨0x040010, 4, .rc, 4, 0⟩,
   ⟨0x040011, 6, .ro, 4, 0⟩,
   ⟨0x040012, 9, .rw, 24, 2 ^ 192 - 1⟩,
   ⟨0x040013, 3, .rw, 2, 0xFFFF⟩,
   ⟨0x040014, 4, .rw, 4, 0xFFFFFFFF⟩,
   ⟨0x040015, 2, .rw, 1, 3⟩,
   ⟨0x040016, 6, .ro, 4, 0⟩,
   ⟨0x040017, 4, .rc, 4, 0⟩,
   ⟨0x040018, 4, .rc, 4, 0⟩,
   ⟨0x050001, 3, .ro, 2, 0x1388⟩,
   ⟨0x050002, 1, .ro, 1, 0⟩,
   ⟨0x050003, 9, .ro, 0, 0⟩,
   ⟨0x050004, 3, .ro, 2, 0⟩,
   ⟨0x050005, 4, .rw, 4, 0x7530⟩]

/-- Part 2 of the object table. -/
def objPart2 : List Obj :=
  [⟨0x050006, 9, .ro, 0, 0⟩,
   ⟨0x050007, 4, .rc, 4, 0⟩,
   ⟨0x050008, 5, .rc, 8, 0⟩,
   ⟨0x050009, 5, .rc, 8, 0⟩,
   ⟨0x05000A, 9, .rw, 512, 2 ^ 4096 - 1⟩,
   ⟨0x050101, 2, .rw, 1, 7⟩,
   ⟨0x050102, 1, .ro, 1, 0⟩,
   ⟨0x050103, 3, .ro, 2, 0⟩,
   ⟨0x050104, 5, .ro, 8, 0⟩,
   ⟨0x050105, 9, .ro, 0, 0⟩,
   ⟨0x050106, 2, .rw, 1, 1⟩,
   ⟨0x050107, 9, .rw, 12, 0⟩,
   ⟨0x050108, 3, .rw, 2, 0⟩,
   ⟨0x050109, 9, .ro, 0, 0⟩,
   ⟨0x05010A, 5, .rc, 8, 0⟩,
   ⟨0x05010B, 5, .rc, 8, 0⟩,
   ⟨0x05010C, 5, .rc, 8, 0⟩,
   ⟨0x050201, 2, .rw, 1, 7⟩,
   ⟨0x050202, 1, .ro, 1, 0⟩,
   ⟨0x050203, 3, .ro, 2, 0⟩,
   ⟨0x050204, 5, .ro, 8, 0⟩,
   ⟨0x050205, 9, .ro, 0, 0⟩,
   ⟨0x050206, 2, .rw, 1, 1⟩,
   ⟨0x050207, 9, .rw, 12, 0⟩,
   ⟨0x050208, 3, .rw, 2, 0⟩,
   ⟨0x050209, 9, .ro, 0, 0⟩,
   ⟨0x05020A, 5, .rc, 8, 0⟩,
   ⟨0x05020B, 5, .rc, 8, 0⟩,
   ⟨0x05020C, 5, .rc, 8, 0⟩,
   ⟨0x050301, 2, .ro, 1, 8⟩,
   ⟨0x050302, 1, .ro, 1, 0⟩,
   ⟨0x050303, 3, .ro, 2, 0⟩,
   ⟨0x050304, 5, .ro, 8, 0⟩,
   ⟨0x050305, 9, .ro, 0, 0⟩,
   ⟨0x050306, 2, .rw, 1, 1⟩,
   ⟨0x050307, 9, .rw, 12, 0⟩,
   ⟨0x050308, 3, .rw, 2, 0⟩,
   ⟨0x050309, 9, .ro, 0, 0⟩,
   ⟨0x05030A, 5, .rc, 8, 0⟩,
   ⟨0x05030B, 5, .rc, 8, 0⟩]

/-- Part 3 of the object table. -/
def objPart3 : List Obj :=
  [⟨0x05030C, 5, .rc, 8, 0⟩,
   ⟨0x060001, 3, .rw, 2, 0⟩,
   ⟨0x060002, 1, .rw, 1, 0⟩,
   ⟨0x060003, 2, .rw, 1, 0⟩,
   ⟨0x060004, 3, .rw, 2, 0xFFFF⟩,
   ⟨0x060005, 5, .rw, 8, 0⟩,
   ⟨0x060006, 4, .rw, 4, 0xF4240⟩,
   ⟨0x060007, 9, .ro, 0, 0⟩,
   ⟨0x060008, 9, .ro, 0, 0⟩,
   ⟨0x060009, 9, .ro, 0, 0⟩,
   ⟨0x06000A, 5, .ro, 8, 0⟩,
   ⟨0x06000B, 3, .ro, 2, 0⟩,
   ⟨0x06000C, 2, .ro, 1, 0⟩,
   ⟨0x06000D, 9, .ro, 0, 0⟩,
   ⟨0x06000E, 5, .rc, 8, 0⟩,
   ⟨0x06000F, 5, .rc, 8, 0⟩,
   ⟨0x060010, 5, .rc, 8, 0⟩,
   ⟨0x060011, 4, .rc, 4, 0⟩,
   ⟨0x060012, 4, .rc, 4, 0⟩,
   ⟨0x060013, 4, .rc, 4, 0⟩,
   ⟨0x060014, 4, .rc, 4, 0⟩,
   ⟨0x060015, 4, .rc, 4, 0⟩,
   ⟨0x060016, 5, .rc, 8, 0⟩,
   ⟨0x060017, 4, .rc, 4, 0⟩,
   ⟨0x060018, 4, .rc, 4, 0⟩,
   ⟨0x060019, 5, .rc, 8, 0⟩,
   ⟨0x06001A, 4, .rc, 4, 0⟩,
   ⟨0x06001B, 5, .ro, 8, 0⟩,
   ⟨0x06001C, 3, .ro, 2, 0⟩,
   ⟨0x061001, 5, .rc, 8, 0⟩,
   ⟨0x061002, 4, .rc, 4, 0⟩,
   ⟨0x061003, 4, .rc, 4, 0⟩,
   ⟨0x061004, 4, .rc, 4, 0⟩,
   ⟨0x061005, 9, .ro, 0, 0⟩,
   ⟨0x061006, 9, .ro, 0, 0⟩,
   ⟨0x061007, 4, .rc, 4, 0⟩,
   ⟨0x061008, 5, .rc, 8, 0⟩,
   ⟨0x061101, 4, .rc, 4, 0⟩,
   ⟨0x061102, 9, .ro, 0, 0⟩,
   ⟨0x061103, 5, .rc, 8, 0⟩]

/-- Part 4 of the object table. -/
def objPart4 : List Obj :=
  [⟨0x070001, 2, .rw, 1, 12⟩,
   ⟨0x070002, 5, .ro, 8, 0x18000000000⟩,
   ⟨0x070003, 1, .ro, 1, 0⟩,
   ⟨0x070004, 9, .ro, 0, 0⟩,
   ⟨0x070005, 5, .ro, 8, 0⟩,
   ⟨0x070006, 5, .rc, 8, 0⟩,
   ⟨0x070007, 4, .rc, 4, 0⟩,
   ⟨0x070101, 5, .rc, 8, 0⟩,
   ⟨0x070102, 5, .rc, 8, 0⟩,
   ⟨0x070201, 9, .ro, 0, 0⟩,
   ⟨0x070202, 5, .rc, 8, 0⟩,
   ⟨0x070203, 9, .ro, 0, 0⟩,
   ⟨0x070204, 9, .wo, 0, 0⟩,
   ⟨0x070301, 5, .rc, 8, 0⟩,
   ⟨0x070302, 4, .rc, 4, 0⟩,
   ⟨0x070303, 4, .rc, 4, 0⟩,
   ⟨0x070304, 4, .rc, 4, 0⟩,
   ⟨0x070305, 5, .rc, 8, 0⟩,
   ⟨0x070306, 9, .ro, 0, 0⟩,
   ⟨0x080101, 2, .rw, 1, 0⟩,
   ⟨0x080102, 3, .rw, 2, 0⟩,
   ⟨0x080103, 3, .ro, 2, 0⟩,
   ⟨0x080104, 9, .ro, 0, 0⟩,
   ⟨0x080105, 9, .ro, 0, 0⟩,
   ⟨0x080201, 5, .rc, 8, 0⟩,
   ⟨0x080202, 5, .rc, 8, 0⟩,
   ⟨0x080203, 5, .rc, 8, 0⟩,
   ⟨0x080204, 5, .rc, 8, 0⟩,
   ⟨0x080205, 4, .rc, 4, 0⟩,
   ⟨0x080301, 2, .ro, 1, 0⟩,
   ⟨0x080302, 2, .ro, 1, 0⟩,
   ⟨0x080303, 5, .rc, 8, 0⟩,
   ⟨0x080304, 5, .rc, 8, 0⟩,
   ⟨0x080305, 5, .rc, 8, 0⟩,
   ⟨0x080306, 5, .rc, 8, 0⟩,
   ⟨0x080307, 5, .rc, 8, 0⟩,
   ⟨0x080308, 5, .rc, 8, 0⟩,
   ⟨0x080309, 2, .rc, 1, 0⟩,
   ⟨0x08030A, 4, .rc, 4, 0⟩,
   ⟨0x08030B, 4, .rc, 4, 0⟩]

/-- Part 5 of the object table. -/
def objPart5 : List Obj :=
  [⟨0x080401, 5, .rc, 8, 0⟩,
   ⟨0x080402, 5, .rc, 8, 0⟩,
   ⟨0x080403, 4, .rc, 4, 0⟩,
   ⟨0x080404, 9, .ro, 0, 0⟩,
   ⟨0x080405, 9, .ro, 0, 0⟩,
   ⟨0x080406, 9, .ro, 0, 0⟩,
   ⟨0x080407, 5, .ro, 8, 0⟩,
   ⟨0x080501, 4, .ro, 4, 0⟩,
   ⟨0x080502, 4, .rc, 4, 0⟩,
   ⟨0x080503, 2, .ro, 1, 0⟩,
   ⟨0x080504, 4, .ro, 4, 0⟩,
   ⟨0x080505, 2, .ro, 1, 0⟩,
   ⟨0x080506, 2, .ro, 1, 0⟩,
   ⟨0x080507, 3, .ro, 2, 0⟩,
   ⟨0x080508, 2, .wo, 1, 0⟩,
   ⟨0x080509, 4, .ro, 4, 0⟩,
   ⟨0x08050A, 4, .rc, 4, 0⟩,
   ⟨0x080601, 5, .rc, 8, 0⟩,
   ⟨0x080602, 5, .rc, 8, 0⟩,
   ⟨0x080603, 9, .ro, 0, 0⟩,
   ⟨0x080604, 4, .rc, 4, 0⟩,
   ⟨0x080605, 4, .rc, 4, 0⟩,
   ⟨0x080606, 4, .rc, 4, 0⟩,
   ⟨0x080607, 5, .rc, 8, 0⟩,
   ⟨0x080608, 5, .rc, 8, 0⟩,
   ⟨0x080609, 9, .ro, 0, 0⟩,
   ⟨0x090001, 2, .ro, 1, 0⟩,
   ⟨0x090002, 2, .rw, 1, 2⟩,
   ⟨0x090003, 1, .rw, 1, 1⟩,
   ⟨0x090004, 5, .ro, 8, 0⟩,
   ⟨0x090005, 4, .rc, 4, 0⟩,
   ⟨0x090006, 7, .rc, 4, 0⟩,
   ⟨0x090101, 5, .rw, 8, 0⟩,
   ⟨0x090102, 4, .rw, 4, 0⟩,
   ⟨0x090103, 4, .ro, 4, 0⟩,
   ⟨0x090201, 5, .rc, 8, 0⟩,
   ⟨0x090202, 5, .rc, 8, 0⟩,
   ⟨0x090203, 5, .rc, 8, 0⟩,
   ⟨0x090204, 5, .rc, 8, 0⟩,
   ⟨0x090205, 5, .rc, 8, 0⟩]

/-- Part 6 of the object table. -/
def objPart6 : List Obj :=
  [⟨0x090301, 9, .ro, 0, 0⟩,
   ⟨0x090302, 3, .ro, 2, 0⟩,
   ⟨0x0A0001, 4, .rc, 4, 0⟩,
   ⟨0x0A0002, 4, .rc, 4, 0⟩,
   ⟨0x0A0003, 5, .rc, 8, 0⟩,
   ⟨0x0A0004, 5, .rc, 8, 0⟩,
   ⟨0x0A0005, 9, .ro, 0, 0⟩,
   ⟨0x0A0006, 5, .rc, 8, 0⟩,
   ⟨0x0A0007, 3, .ro, 2, 0⟩,
   ⟨0x0A0008, 9, .ro, 0, 0⟩,
   ⟨0x0A0009, 9, .ro, 0, 0⟩,
   ⟨0x0A000A, 5, .rc, 8, 0⟩,
   ⟨0x0A000B, 4, .rc, 4, 0⟩,
   ⟨0x0A0101, 3, .ro, 2, 0⟩,
   ⟨0x0A0102, 3, .rc, 2, 0⟩,
   ⟨0x0A0103, 4, .rc, 4, 0⟩,
   ⟨0x0A0104, 9, .ro, 0, 0⟩,
   ⟨0x0A0105, 4, .rc, 4, 0⟩,
   ⟨0x0A0106, 4, .ro, 4, 0⟩,
   ⟨0x0A0107, 9, .ro, 0, 0⟩,
   ⟨0x0B0001, 2, .wo, 1, 0⟩,
   ⟨0x0B0002, 2, .ro, 1, 0⟩,
   ⟨0x0B0003, 2, .ro, 1, 0⟩,
   ⟨0x0B0004, 9, .ro, 0, 0⟩,
   ⟨0x0B0005, 5, .rw, 8, 0⟩,
   ⟨0x0B0006, 5, .rw, 8, 0⟩,
   ⟨0x0B0007, 2, .rw, 1, 3⟩,
   ⟨0x0B0008, 4, .rw, 4, 0⟩,
   ⟨0x0B0009, 5, .ro, 8, 0⟩,
   ⟨0x0B000A, 3, .ro, 2, 0⟩,
   ⟨0x0B000B, 3, .ro, 2, 0⟩,
   ⟨0x0B000C, 3, .ro, 2, 0⟩,
   ⟨0x0B000D, 3, .ro, 2, 0⟩,
   ⟨0x0B000E, 3, .ro, 2, 0⟩,
   ⟨0x0B000F, 9, .ro, 0, 0⟩,
   ⟨0x0B0010, 9, .ro, 0, 0⟩,
   ⟨0x0B0011, 9, .ro, 0, 0⟩,
   ⟨0x0B0012, 2, .ro, 1, 0⟩,
   ⟨0x0B0013, 9, .ro, 0, 0⟩,
   ⟨0x0B0014, 2, .ro, 1, 0⟩]

/-- Part 7 of the object table. -/
def objPart7 : List Obj :=
  [⟨0x0B0015, 1, .rw, 1, 0⟩,
   ⟨0x0B0016, 4, .rc, 4, 0⟩,
   ⟨0x0C0001, 9, .ro, 0, 0⟩,
   ⟨0x0C0002, 4, .ro, 4, 0⟩,
   ⟨0x0C0003, 5, .rc, 8, 0⟩,
   ⟨0x0C0004, 5, .rc, 8, 0⟩,
   ⟨0x0C0005, 9, .ro, 0, 0⟩,
   ⟨0x0C0101, 5, .rc, 8, 0⟩,
   ⟨0x0C0102, 5, .rc, 8, 0⟩,
   ⟨0x0C0103, 5, .rc, 8, 0⟩,
   ⟨0x0C0104, 5, .rc, 8, 0⟩,
   ⟨0x0C0105, 5, .rc, 8, 0⟩,
   ⟨0x0C0106, 5, .rc, 8, 0⟩,
   ⟨0x0C0107, 5, .rc, 8, 0⟩,
   ⟨0x0C0108, 5, .rc, 8, 0⟩,
   ⟨0x0C0109, 5, .rc, 8, 0⟩,
   ⟨0x0C010A, 5, .rc, 8, 0⟩,
   ⟨0x0C010B, 5, .rc, 8, 0⟩,
   ⟨0x0C010C, 5, .rc, 8, 0⟩,
   ⟨0x0D0001, 1, .rw, 1, 0⟩,
   ⟨0x0D0002, 9, .ro, 0, 0⟩,
   ⟨0x0D0003, 9, .ro, 0, 0⟩,
   ⟨0x0D0004, 5, .rc, 8, 0⟩,
   ⟨0x0D0005, 4, .rc, 4, 0⟩,
   ⟨0x0D0006, 3, .ro, 2, 0⟩]

/-- The object table. -/
def objTable : List Obj :=
  objPart0 ++ objPart1 ++ objPart2 ++ objPart3 ++ objPart4 ++ objPart5 ++ objPart6 ++ objPart7

/-- The object of a number, if there is one. -/
def objFind (k : Nat) : Option Obj := objTable.find? (fun o => o.key = k)

/-- The highest subindex of an index, if the index holds objects (R431). -/
def objMaxSub (index : Nat) : Option Nat :=
  match (objTable.filter fun o => o.key / 256 = index).map fun o => o.key % 256 with
  | [] => none
  | l => some (l.foldl max 0)

end Sys2Proof.Machine
end

