-- ==== Sys2Proof/Machine/Float.lean ====
section
/-! DEFINITION. The number formats of chapter 02 and their exact arithmetic: every value is decoded to an exact dyadic
number, computed exactly (or to a directed bound with a sticky bit) and rounded once (R43, R48, R260). -/

namespace Sys2Proof.Machine

/-- A value of a format: NaN or infinity with a sign, or (−1)^neg · m · 2^e. -/
inductive FVal where
  | nan (neg : Bool)
  | inf (neg : Bool)
  | fin (neg : Bool) (m : Nat) (e : Int)
  deriving DecidableEq, Repr

/-- An IEEE-shaped format: exponent bits and fraction bits. -/
structure Fmt where
  ew : Nat
  fw : Nat
  deriving DecidableEq, Repr

/-- FP32 (R43). -/
def fp32 : Fmt := ⟨8, 23⟩
/-- BF16 (R43). -/
def bf16 : Fmt := ⟨8, 7⟩
/-- E5M2 (R41). -/
def e5m2 : Fmt := ⟨5, 2⟩

/-- The smallest normal exponent of a format. -/
def Fmt.emin (f : Fmt) : Int := 2 - (2 : Int) ^ (f.ew - 1)

/-- The pattern of +infinity. -/
def Fmt.infPat (f : Fmt) : Nat := (2 ^ f.ew - 1) * 2 ^ f.fw

/-- The sign bit's weight. -/
def Fmt.signBit (f : Fmt) : Nat := 2 ^ (f.ew + f.fw)

/-- The canonical quiet NaN with a sign (R43). -/
def Fmt.qnan (f : Fmt) (neg : Bool) : Nat := f.infPat + 2 ^ (f.fw - 1) + (if neg then f.signBit else 0)

/-- The value of a pattern. -/
def Fmt.dec (f : Fmt) (p : Nat) : FVal :=
  let neg := bit p (f.ew + f.fw)
  let ex := bits p f.fw f.ew
  let fr := bits p 0 f.fw
  if ex = 2 ^ f.ew - 1 then (if fr = 0 then .inf neg else .nan neg)
  else if ex = 0 then .fin neg fr (f.emin - f.fw)
  else .fin neg (2 ^ f.fw + fr) (f.emin - f.fw + (ex - 1 : Int))

/-- Round to nearest, ties to even (R48), of m · 2^e into a magnitude pattern with `fw` fraction bits and smallest
normal exponent `emin`; the pattern is not bounded above. -/
def rneMag (fw : Nat) (emin : Int) (m : Nat) (e : Int) : Nat :=
  if m = 0 then 0 else
  let q := max ((Nat.log2 m : Int) + e - fw) (emin - fw)
  let k := (q - (emin - fw)).toNat
  if q ≤ e then k * 2 ^ fw + m <<< (e - q).toNat
  else
    let s := (q - e).toNat
    let t := m >>> s
    let r := m % 2 ^ s
    let h := 2 ^ (s - 1)
    k * 2 ^ fw + (if h < r ∨ (r = h ∧ t % 2 = 1) then t + 1 else t)

/-- Round up (R48) of a nonnegative m · 2^e, in the shape of `rneMag`. -/
def ruMag (fw : Nat) (emin : Int) (m : Nat) (e : Int) : Nat :=
  if m = 0 then 0 else
  let q := max ((Nat.log2 m : Int) + e - fw) (emin - fw)
  let k := (q - (emin - fw)).toNat
  if q ≤ e then k * 2 ^ fw + m <<< (e - q).toNat
  else
    let s := (q - e).toNat
    k * 2 ^ fw + (if m % 2 ^ s = 0 then m >>> s else m >>> s + 1)

/-- The pattern of a value, rounded by RNE with IEEE overflow to infinity. -/
def Fmt.enc (f : Fmt) (v : FVal) : Nat :=
  match v with
  | .nan n => f.qnan n
  | .inf n => f.infPat + (if n then f.signBit else 0)
  | .fin n m e => min (rneMag f.fw f.emin m e) f.infPat + (if n then f.signBit else 0)

/-- The sign of a value. -/
def FVal.neg : FVal → Bool
  | .nan n => n
  | .inf n => n
  | .fin n _ _ => n

/-- Whether a value is NaN. -/
def FVal.isNan : FVal → Bool
  | .nan _ => true
  | _ => false

/-- Whether a value is finite. -/
def FVal.isFin : FVal → Bool
  | .fin _ _ _ => true
  | _ => false

/-- Whether a value is +0 or −0. -/
def FVal.isZero : FVal → Bool
  | .fin _ 0 _ => true
  | _ => false

/-- The value with its sign inverted. -/
def FVal.flip : FVal → FVal
  | .nan n => .nan (!n)
  | .inf n => .inf (!n)
  | .fin n m e => .fin (!n) m e

/-- The signed integer of a finite value at a scale 2^e0 not above its own. -/
def intAt (neg : Bool) (m : Nat) (e e0 : Int) : Int :=
  let k : Int := (m <<< (e - e0).toNat : Nat)
  if neg then -k else k

/-- Exact sum: an exact cancellation gives +0, two zeros of one sign keep it (R85). NaN by R260. -/
def FVal.add (a b : FVal) : FVal :=
  match a, b with
  | .nan n, _ => .nan n
  | _, .nan n => .nan n
  | .inf n, .inf k => if n = k then .inf n else .nan false
  | .inf n, _ => .inf n
  | _, .inf n => .inf n
  | .fin n1 m1 e1, .fin n2 m2 e2 =>
    let e0 := min e1 e2
    let s := intAt n1 m1 e1 e0 + intAt n2 m2 e2 e0
    if s = 0 then .fin (n1 && n2) 0 e0 else .fin (decide (s < 0)) s.natAbs e0

/-- Exact product. -/
def FVal.mul (a b : FVal) : FVal :=
  match a, b with
  | .nan n, _ => .nan n
  | _, .nan n => .nan n
  | .inf n, .inf k => .inf (n != k)
  | .inf n, .fin k m _ => if m = 0 then .nan false else .inf (n != k)
  | .fin n m _, .inf k => if m = 0 then .nan false else .inf (n != k)
  | .fin n1 m1 e1, .fin n2 m2 e2 => .fin (n1 != n2) (m1 * m2) (e1 + e2)

/-- A fused multiply-add before its rounding: the first NaN in the order a, b, c gives the NaN's sign (R260). -/
def FVal.fma (a b c : FVal) : FVal :=
  if a.isNan then a else if b.isNan then b else if c.isNan then c else (a.mul b).add c

/-- m · 2^e with one more low bit that says whether anything lies below. -/
def stickyVal (neg : Bool) (m : Nat) (e : Int) (more : Bool) : FVal := .fin neg (2 * m + b2n more) (e - 1)

/-- A quotient to more than 100 bits with a sticky bit. -/
def FVal.div (a b : FVal) : FVal :=
  match a, b with
  | .nan n, _ => .nan n
  | _, .nan n => .nan n
  | .inf _, .inf _ => .nan false
  | .inf n, .fin k _ _ => .inf (n != k)
  | .fin n _ e, .inf k => .fin (n != k) 0 e
  | .fin n1 m1 e1, .fin n2 m2 e2 =>
    if m2 = 0 then (if m1 = 0 then .nan false else .inf (n1 != n2))
    else
      let q := (m1 <<< 128) / m2
      stickyVal (n1 != n2) q (e1 - e2 - 128) ((m1 <<< 128) % m2 != 0)

/-- The integer square root, bit by bit from bit `k`. -/
def isqrt (k n : Nat) : Nat :=
  (List.range (k + 1)).foldl (fun r i => let t := r + 2 ^ (k - i); if t * t ≤ n then t else r) 0

/-- A square root to more than 100 bits with a sticky bit; a negative operand gives +NaN, −0 gives −0. -/
def FVal.sqrt (a : FVal) : FVal :=
  match a with
  | .nan n => .nan n
  | .inf n => if n then .nan false else .inf false
  | .fin n m e =>
    if m = 0 then .fin n 0 e else if n then .nan false
    else
      let s : Nat := if e % 2 = 0 then 256 else 257
      let x := m <<< s
      let r := isqrt 200 x
      stickyVal false r ((e - s) / 2) (r * r != x)

/-- 1 / sqrt, with the special cases of R260. -/
def FVal.rsqrt (a : FVal) : FVal :=
  match a with
  | .nan n => .nan n
  | .inf n => if n then .nan false else .fin false 0 0
  | .fin n m e =>
    if m = 0 then .inf n else if n then .nan false
    else
      let s : Nat := if e % 2 = 0 then 400 else 401
      let y := 2 ^ s / m
      let r := isqrt 210 y
      stickyVal false r (-((s : Int) + e) / 2) (r * r * m != 2 ^ s)

/-- The bits of fixed-point precision of the transcendental bounds. -/
def tPrec : Nat := 256

/-- 2^f for the fraction f = n / 2^w, in fixed point: the product of 2^(2^−i) over the set bits of f (DEDUCED, log
entry 8: enough bits that the rounding is that of the exact value). -/
def exp2Frac (n w : Nat) : Nat :=
  ((List.range w).foldl (fun (acc : Nat × Nat) i =>
    let c := isqrt (tPrec + 1) (acc.2 <<< tPrec)
    (if bit n (w - 1 - i) then (acc.1 * c) >>> tPrec else acc.1, c)) (2 ^ tPrec, 2 ^ (tPrec + 1))).1

/-- 2^a correctly roundable (R260). -/
def FVal.exp2 (a : FVal) : FVal :=
  match a with
  | .nan n => .nan n
  | .inf n => if n then .fin false 0 0 else .inf false
  | .fin n m e =>
    if m = 0 then .fin false 1 0
    else if 0 ≤ e ∨ (11 : Int) ≤ (Nat.log2 m : Int) + e then
      .fin false 1 (if 0 ≤ e ∧ (Nat.log2 m : Int) + e < 11 then intAt n m e 0 else if n then -1024 else 1024)
    else
      let w := (-e).toNat
      let x : Int := if n then -(m : Int) else m
      let fl : Int := x / (2 : Int) ^ w
      let fr := (x % (2 : Int) ^ w).toNat
      if fr = 0 then .fin false 1 fl
      else stickyVal false (exp2Frac fr w) (fl - tPrec) true

/-- The first `k` fraction bits of log2 y for y = n / 2^512 in [1, 2), by repeated squaring (DEDUCED, log entry 8). -/
def log2Frac (k n : Nat) : Nat :=
  ((List.range k).foldl (fun (acc : Nat × Nat) _ =>
    let y := (acc.2 * acc.2) >>> 512
    if 2 ^ 513 ≤ y then (2 * acc.1 + 1, y >>> 1) else (2 * acc.1, y)) (0, n)).1

/-- log2 a, with the special cases of R260. -/
def FVal.log2 (a : FVal) : FVal :=
  match a with
  | .nan n => .nan n
  | .inf n => if n then .nan false else .inf false
  | .fin n m e =>
    if m = 0 then .inf true else if n then .nan false
    else
      let l := Nat.log2 m
      let ex : Int := (l : Int) + e
      if m = 2 ^ l then .fin (decide (ex < 0)) ex.natAbs 0
      else
        let fr := log2Frac 200 (m <<< (512 - l))
        let v : Int := ex * (2 : Int) ^ (200 : Nat) + fr
        if 0 ≤ v then stickyVal false v.natAbs (-200) true
        else stickyVal true (v.natAbs - 1) (-200) true

/-- Whether a < b, for values that are not NaN. -/
def FVal.lt (a b : FVal) : Bool :=
  match a, b with
  | .inf n, .inf k => n && !k
  | .inf n, .fin _ _ _ => n
  | .fin _ _ _, .inf k => !k
  | .fin n1 m1 e1, .fin n2 m2 e2 =>
    let e0 := min e1 e2
    decide (intAt n1 m1 e1 e0 < intAt n2 m2 e2 e0)
  | _, _ => false

/-- A sum in a format (R43, R260). -/
def Fmt.add (f : Fmt) (a b : Nat) : Nat := f.enc ((f.dec a).add (f.dec b))
/-- A difference; a NaN keeps its own sign. -/
def Fmt.sub (f : Fmt) (a b : Nat) : Nat :=
  let y := f.dec b
  f.enc ((f.dec a).add (if y.isNan then y else y.flip))
/-- A product. -/
def Fmt.mul (f : Fmt) (a b : Nat) : Nat := f.enc ((f.dec a).mul (f.dec b))
/-- A fused multiply-add. -/
def Fmt.fma (f : Fmt) (a b c : Nat) : Nat := f.enc ((f.dec a).fma (f.dec b) (f.dec c))
/-- A quotient. -/
def Fmt.div (f : Fmt) (a b : Nat) : Nat := f.enc ((f.dec a).div (f.dec b))
/-- A square root. -/
def Fmt.sqrt (f : Fmt) (a : Nat) : Nat := f.enc (f.dec a).sqrt

/-- The larger of two (R260): +0 above −0, a NaN canonical with the first NaN's sign. -/
def Fmt.max (f : Fmt) (a b : Nat) : Nat :=
  let x := f.dec a
  let y := f.dec b
  if x.isNan then f.qnan x.neg else if y.isNan then f.qnan y.neg
  else if x.isZero && y.isZero then (if x.neg && y.neg then f.signBit else 0)
  else if x.lt y then b else a

/-- The smaller of two (R260). -/
def Fmt.min (f : Fmt) (a b : Nat) : Nat :=
  let x := f.dec a
  let y := f.dec b
  if x.isNan then f.qnan x.neg else if y.isNan then f.qnan y.neg
  else if x.isZero && y.isZero then (if x.neg || y.neg then f.signBit else 0)
  else if y.lt x then b else a

/-- The pattern of 1.0. -/
def Fmt.one (f : Fmt) : Nat := (2 ^ (f.ew - 1) - 1) * 2 ^ f.fw

/-- A pattern of one format rounded into another by RNE, a NaN made canonical (R50). -/
def Fmt.conv (src dst : Fmt) (p : Nat) : Nat := dst.enc (src.dec p)

/-- An integer rounded into a format by RNE. -/
def Fmt.ofInt (f : Fmt) (v : Int) : Nat := f.enc (.fin (decide (v < 0)) v.natAbs 0)

/-- The value of an E4M3 pattern (R40). -/
def decE4M3 (p : Nat) : FVal :=
  let neg := bit p 7
  let ex := bits p 3 4
  let fr := bits p 0 3
  if ex = 15 ∧ fr = 7 then .nan neg
  else if ex = 0 then .fin neg fr (-9)
  else .fin neg (8 + fr) ((ex : Int) - 10)

/-- The value of a W32 pattern (R44). -/
def decW32 (p : Nat) : FVal :=
  let ex := bits p 25 6
  let fr := bits p 0 25
  if ex = 0 then .fin (bit p 31) fr (-64) else .fin (bit p 31) (2 ^ 25 + fr) ((ex : Int) - 65)

/-- The value of an element by its format tag (R38): E4M3, E5M2, BF16, FP32 or W32. -/
def decTag (tag p : Nat) : FVal :=
  match tag with
  | 1 => decE4M3 p
  | 2 => e5m2.dec p
  | 3 => bf16.dec p
  | 5 => decW32 p
  | _ => fp32.dec p

/-- Bytes of an element of a format tag (R38). -/
def tagBytes (tag : Nat) : Nat := if tag = 1 ∨ tag = 2 then 1 else if tag = 3 then 2 else if tag = 6 then 16 else 4

/-- Whether |m · 2^e| exceeds k · 2^j, exactly. -/
def magGt (m : Nat) (e : Int) (k : Nat) (j : Int) : Bool :=
  let e0 := min e j
  decide (k <<< (j - e0).toNat < m <<< (e - e0).toNat)

/-- Scaling by a power of two (R42). -/
def FVal.scale (v : FVal) (k : Int) : FVal :=
  match v with
  | .fin n m e => .fin n m (e + k)
  | w => w

/-- A conversion into E4M3 or E5M2 of an already scaled value (R50, R51): the pattern and whether it saturated. -/
def narrow (tag : Nat) (v : FVal) : Nat × Bool :=
  if tag = 1 then
    match v with
    | .nan n => (0x7F + 0x80 * b2n n, false)
    | .inf n => (0x7E + 0x80 * b2n n, true)
    | .fin n m e => if magGt m e 448 0 then (0x7E + 0x80 * b2n n, true) else (rneMag 3 (-6) m e + 0x80 * b2n n, false)
  else
    match v with
    | .nan n => (0x7E + 0x80 * b2n n, false)
    | .inf n => (0x7C + 0x80 * b2n n, true)
    | .fin n m e =>
      if magGt m e 57344 0 then (0x7C + 0x80 * b2n n, true) else (rneMag 2 (-14) m e + 0x80 * b2n n, false)

/-- A conversion into W32 (R45, R50): the pattern, whether it clamped, whether the source was NaN. -/
def toW32 (v : FVal) : Nat × Bool × Bool :=
  match v with
  | .nan _ => (0, false, true)
  | .inf n => (0x7FFFFFFF + 0x80000000 * b2n n, true, false)
  | .fin n m e =>
    if magGt m e (2 ^ 26 - 1) (-2) then (0x7FFFFFFF + 0x80000000 * b2n n, true, false)
    else (rneMag 25 (-39) m e + 0x80000000 * b2n n, false, false)

/-- floor of m · 2^e with a sign (TRUNC of R48). -/
def floorAt (neg : Bool) (m : Nat) (e : Int) : Int :=
  if 0 ≤ e then intAt neg m e 0
  else let x : Int := if neg then -(m : Int) else m; x / (2 : Int) ^ (-e).toNat

/-- floor(log2 |v|) of a finite nonzero value (R323). -/
def obsExp (m : Nat) (e : Int) : Int := (Nat.log2 m : Int) + e

end Sys2Proof.Machine
end

