-- ==== Sys2Proof/Machine/Ops.lean ====
section
/-! DEFINITION. The shared operations over the state: units, dictionary objects and counters, events, the address map,
access tables, the Vigil's records. -/

namespace Sys2Proof.Machine

/-- The answer of a meaning. -/
abbrev Out := Host.Outcome State Fault Refusal

/-- Whether the module is powered and out of its internal reset (R450, R488): otherwise nothing of it acts. -/
def powered (c : Core) : Bool := c.power.stage && !c.power.held

/-- A command whose effect is on the core alone. -/
def onCore (f : Core → Core) (s : State) : Out := .next (if powered s.core then { s with core := f s.core } else s)

/-- A command that reads memory and changes the core. -/
def onCoreMem (f : Memory → Core → Core) (s : State) : Out :=
  .next (if powered s.core then { s with core := f s.mem s.core } else s)

/-- A command that changes the core and memory. -/
def onBoth (f : Memory → Core → Core × Memory) (s : State) : Out :=
  let r := f s.mem s.core
  .next (if powered s.core then { s with core := r.1, mem := r.2 } else s)

/-- A command that reads the fuses and memory and changes the core. -/
def onFuse (f : Fuses → Memory → Core → Core) (s : State) : Out :=
  .next (if powered s.core then { s with core := f s.fuse s.mem s.core } else s)

/-- A command that names a unit below a bound; a unit the module does not have stops the model. -/
def inRange (n bound : Nat) (o : Out) : Out := if n < bound then o else .fault .noSuchUnit

/-! ### Units -/

/-- Station `g`'s record. -/
def stn (c : Core) (g : Nat) : Station := tgetD c.st g Station.reset
/-- Station `g`'s record replaced. -/
def setStn (c : Core) (g : Nat) (s : Station) : Core := { c with st := tset c.st g s }
/-- Field `f`'s record. -/
def fld (c : Core) (f : Nat) : Field := tgetD c.fl f Field.reset
/-- Field `f`'s record replaced. -/
def setFld (c : Core) (f : Nat) (x : Field) : Core := { c with fl := tset c.fl f x }
/-- The sync unit of field `f`. -/
def syncU (c : Core) (f : Nat) : SyncUnit := (fld c f).sync
/-- The sync unit of field `f` replaced. -/
def setSync (c : Core) (f : Nat) (u : SyncUnit) : Core := setFld c f { fld c f with sync := u }
/-- Stream `i` of a station. -/
def strm (s : Station) (i : Nat) : Stream := tgetD s.streams i Stream.reset
/-- Stream `i` of station `g` replaced. -/
def setStrm (c : Core) (g i : Nat) (x : Stream) : Core :=
  setStn c g { stn c g with streams := tset (stn c g).streams i x }

/-! ### Dictionary objects -/

/-- The value an object holds: what was last stored, else its default (R432). -/
def obj (c : Core) (k : Nat) : Nat :=
  match tget c.dict k with
  | some v => v
  | none => match objFind k with
    | some o => o.dfl
    | none => 0

/-- An object's value replaced. -/
def setObj (c : Core) (k v : Nat) : Core := { c with dict := tset c.dict k v }

/-- The largest value of an object's type. -/
def objMax (k : Nat) : Nat :=
  match objFind k with
  | some o => 2 ^ (8 * o.size) - 1
  | none => 0

/-- A counter raised; it stops at the largest value of its type (R432). -/
def addObj (c : Core) (k n : Nat) : Core := setObj c k (min (obj c k + n) (objMax k))

/-- ALMANAC_STATE (R380). -/
def almState (c : Core) : Nat := obj c Key.almanacState

/-- An Almanac is running: ARMED, RUNNING or HELD (R495). -/
def running (c : Core) : Bool := decide (3 ≤ almState c ∧ almState c ≤ 5)

/-- The error counter of a status is raised (R11, R449). -/
def errStatus (c : Core) (s : Status) : Core := if s = .ok then c else addObj c (0x0C0100 + s.code) 1

/-- The frame count of an event record: 0 while no Almanac runs (R446). -/
def frameNow (c : Core) : Nat := if running c then obj c Key.frameCount else 0

/-! ### Events -/

/-- The counter object that counts the raises of an event, where one is given. -/
def eventCounter (code : Nat) : Option Nat :=
  match code with
  | 0x0301 => some Key.powerLimitCount
  | 0x0303 => some Key.coolantLimitCount
  | 0x0304 => some Key.thermalTripCount
  | 0x0401 => some Key.leapBudgetCount
  | 0x0402 => some Key.slipFaultCount
  | 0x0403 => some Key.refLostCount
  | 0x0404 => some Key.holdoverDriftCount
  | 0x0405 => some Key.clockUnlockCount
  | 0x0601 => some Key.slotMissedCount
  | 0x0602 => some Key.slotCollisionCount
  | 0x0603 => some Key.linkDownCount
  | 0x0604 => some Key.linkRefusedCount
  | 0x0605 => some Key.conflictCount
  | 0x0606 => some Key.routeChangeCount
  | 0x0607 => some Key.partnerLostCount
  | 0x0608 => some Key.frameOverrunCount
  | 0x0610 => some Key.checksumMismatchCount
  | 0x0611 => some Key.windowOverflowCount
  | 0x0612 => some Key.reductionOrderCount
  | 0x0613 => some Key.permuteFailedCount
  | 0x0614 => some Key.mcastDetachCount
  | 0x0702 => some Key.addressFaultCount
  | 0x0703 => some Key.memUncorrectableCount
  | 0x0704 => some Key.streamStallCount
  | 0x0705 => some Key.streamLostCount
  | 0x0801 => some Key.formatMismatchCount
  | 0x0802 => some Key.ringShapeCount
  | 0x0803 => some Key.illegalInstructionCount
  | 0x0804 => some Key.segmentLateCount
  | 0x0806 => some Key.dfwLateCount
  | 0x0807 => some Key.updateNonfiniteCount
  | 0x0808 => some Key.aborts
  | 0x0809 => some Key.undecidedCount
  | 0x0902 => some Key.auditDivergeCount
  | 0x0A01 => some Key.semUnderflowCount
  | 0x0A02 => some Key.semOverflowCount
  | 0x0B01 => some Key.faultStops
  | 0x0D02 => some Key.gatedAccessCount
  | _ => none

/-! ### Host sessions and their messages (R419 to R423, R438, R439) -/

/-- The session of a context, if one is open. -/
def sessionOf (c : Core) (ctx : Nat) : Option Session := tget c.host.sessions ctx
/-- A session's record replaced. -/
def setSession (c : Core) (ctx : Nat) (x : Session) : Core :=
  { c with host := { c.host with sessions := tset c.host.sessions ctx x } }
/-- The Ethernet port on which a message leaves, if it leaves on one. -/
def ethPort (m : OutMsg) : Option Nat :=
  match m with
  | .bamcen p _ _ _ _ _ | .lldp p _ | .arp p _ | .nd p _ | .echo p _ | .dhcp p _ | .announce p _ _ _ => some p
  | .packet _ _ _ | .control _ _ | .notice _ _ | .groupAck _ _ | .groupNak _ _ | .groupReplay _ _ | .ident _ _ | .identSig _ _ => none

/-- Traffic on an Ethernet port, at the present tick (R494). -/
def trafficOn (c : Core) (p : Nat) : Core := { c with host := { c.host with traffic := tset c.host.traffic p (obj c Key.uptimeTicks) } }

/-- What leaves the module. -/
def send (c : Core) (m : OutMsg) : Core :=
  let y := { c with host := { c.host with out := c.host.out ++ [m] } }
  match ethPort m with
  | some p => trafficOn y p
  | none => y

/-- Payload bytes that leave on a host session's context (R295). -/
def sentOn (c : Core) (ctx n : Nat) : Core :=
  match tget c.fab.ctxs ctx with
  | some x => { c with fab := { c.fab with ctxs := tset c.fab.ctxs ctx { x with bytesTx := x.bytesTx + n } } }
  | none => c

/-- The first 16 bytes of a message's header (R419). -/
def headBytes (typ ctx flags seq status len : Nat) : Bytes :=
  leBytes 2 0x4D42 ++ leBytes 1 1 ++ leBytes 1 typ ++ leBytes 2 ctx ++ leBytes 2 flags ++ leBytes 4 seq ++ leBytes 1 status
    ++ leBytes 1 0 ++ leBytes 2 len

/-- The tag of a message under a session key (R421). -/
def tagOf (key : Bytes) (ctx flags seq : Nat) (r : Resp) : Nat :=
  Config.kmac256 key (headBytes r.typ ctx flags seq r.status r.payload.length ++ List.replicate 16 0 ++ r.payload)

/-- A notification leaves on the port of the session's latest message, to where that came from (R423, R438). -/
def sendNote (c : Core) (ctx seq : Nat) (r : Resp) : Core :=
  match sessionOf c ctx with
  | some x => send (sentOn c ctx r.payload.length) (.bamcen x.port x.source ctx seq r (tagOf x.key ctx 0 seq r))
  | none => c

/-- A notification is numbered, kept until it is acknowledged, and sent (R422, R438). -/
def notify (c : Core) (ctx typ : Nat) (payload : Bytes) : Core :=
  match sessionOf c ctx with
  | none => c
  | some x =>
    let r : Resp := { typ := typ, status := 0, payload := payload }
    sendNote (setSession c ctx { x with noteNext := x.noteNext + 1, notes := x.notes ++ [(x.noteNext, r)] }) ctx x.noteNext r

/-- The 64 bytes of an event record (R446). -/
def evBytes (r : EvRec) : Bytes :=
  leBytes 4 (r.code + fieldAt 16 r.cls.code) ++ leBytes 4 r.seq ++ leBytes 8 r.frame ++ leBytes 8 r.tick ++ leBytes 2 r.src
    ++ leBytes 2 r.tag ++ leBytes 4 0 ++ ((r.args ++ [0, 0, 0, 0]).take 4).flatMap (leBytes 8)

/-- One session is notified of a record of a class it subscribes to; its queue holds 256 (R439). -/
def notifyOne (r : EvRec) (c : Core) (ctx : Nat) : Core :=
  match sessionOf c ctx with
  | none => c
  | some x =>
    if !bit x.mask r.cls.code then c
    else if 256 ≤ (x.notes.filter fun p => p.2.typ = 0x40).length then setSession c ctx { x with missed := x.missed + 1 }
    else notify c ctx 0x40 (evBytes r)

/-- The events notified to the sessions that subscribe to the class (R439). -/
def notifyEvent (c : Core) (r : EvRec) : Core := (c.host.sessions.map fun p => p.1).foldl (notifyOne r) c

/-- A record enters the log (R446, R447): the 4,096 newest stay. -/
def logEvent (c : Core) (r : EvRec) : Core :=
  let full := c.ev.recs.length ≥ 4096
  let lost := full && !((c.ev.recs.getLast?.map fun x => x.read).getD true)
  let c := { c with ev := { c.ev with recs := (r :: c.ev.recs).take 4096,
                                      interval := tset c.ev.interval r.code (tgetD c.ev.interval r.code 0 + 1) } }
  let c := setObj c Key.eventNextSeq ((r.seq + 1) % 2 ^ 32)
  let c := if lost then addObj c Key.eventsOverwritten 1 else c
  notifyEvent c r

/-- An event is raised (R446, R447, R501): counted always, logged and notified for the first 64 raises of its code in
the interval; a FAULT during a run asks for a fault stop (R372). -/
def raise (c : Core) (code : Nat) (cls : EvClass) (src tag : Nat) (args : List Nat) : Core :=
  let c := { c with ev := { c.ev with counts := tset c.ev.counts code (min (tgetD c.ev.counts code 0 + 1) (2 ^ 32 - 1)) } }
  let c := match eventCounter code with
    | some k => addObj c k 1
    | none => c
  let c := if cls = .fault && running c && c.alm.fault.isNone then
      { c with alm := { c.alm with fault := some (code, src, frameNow c) } } else c
  if tgetD c.ev.interval code 0 < 64 then
    logEvent c { code := code, cls := cls, seq := obj c Key.eventNextSeq, frame := frameNow c,
                 tick := obj c Key.uptimeTicks, src := src, tag := tag, args := args, read := false }
  else addObj c Key.eventsSuppressed 1

/-- The management processor's master ID (R34). -/
def mgmt : Nat := 0x0200

/-- Whether a master is a station or a field engine of this module (R34, R448). -/
def isUnit (m : Nat) : Bool := decide (m < 0xC0 ∨ (0x100 ≤ m ∧ m < 0x110))

/-! ### The address map (R176, R177) -/

/-- Base of the slice memory. -/
def sliceBase : Nat := 0x80000000000
/-- Base of station `g`'s memory window. -/
def stBase (g : Nat) : Nat := 0x81000000000 + g * 0x400000
/-- Size of the mapped part of a station's memory. -/
def stSize : Nat := 0x300000
/-- Local offset of entry (r, k) of tile `t` of station `g`. -/
def accAddr (g t r k : Nat) : Nat := 0x82000000000 + g * 0x100000 + t * 0x80000 + r * 0x800 + k * 8
/-- Base of the control block of station `g`. -/
def ctlBase (g : Nat) : Nat := 0xF0000000000 + g * 0x20000
/-- Base of the block of field `n`. -/
def fieldBase (n : Nat) : Nat := 0xF0100000000 + n * 0x100000
/-- Base of the I/O-ring block. -/
def ringBase : Nat := 0xF0200000000

/-- Whether an offset lies in slice memory. -/
def inSlice (a : Nat) : Bool := decide (sliceBase ≤ a ∧ a < sliceBase + 0x20000000)
/-- Whether an offset lies in a station-memory window. -/
def inStation (a : Nat) : Bool := decide (0x81000000000 ≤ a ∧ a < 0x81030000000)
/-- Whether an offset lies in the accumulator range. -/
def inAcc (a : Nat) : Bool := decide (0x82000000000 ≤ a ∧ a < 0x8200C000000)
/-- Whether an offset lies in HBM. -/
def inHbm (a : Nat) : Bool := decide (a < 0x18000000000)
/-- Whether an offset lies in a station control block. -/
def inCtl (a : Nat) : Bool := decide (0xF0000000000 ≤ a ∧ a < 0xF0001800000)
/-- Whether an offset lies in a field-engine block. -/
def inFieldBlk (a : Nat) : Bool := decide (0xF0100000000 ≤ a ∧ a < 0xF0100800000)
/-- Whether an offset lies in the I/O-ring block. -/
def inRing (a : Nat) : Bool := decide (ringBase ≤ a ∧ a < ringBase + 0x1000000)

/-- Whether `n` bytes from an offset lie wholly in one mapped range (R176). -/
def mapped (a n : Nat) : Bool :=
  let z := a + (n - 1)
  (inHbm a && inHbm z) || (inSlice a && inSlice z)
    || (inStation a && decide ((a - 0x81000000000) % 0x400000 + n ≤ stSize))
    || (inAcc a && inAcc z) || (inCtl a && inCtl z) || (inFieldBlk a && inFieldBlk z) || (inRing a && inRing z)

/-- The access-table target that guards an offset (R188, R190). -/
def targetOf (a : Nat) : Nat :=
  if inHbm a then 128
  else if inSlice a then (a - sliceBase) / 0x400000
  else if inStation a then 129 + (a - 0x81000000000) / 0x400000 / 24
  else if inAcc a then 129 + (a - 0x82000000000) / 0x100000 / 24
  else if inCtl a then 129 + (a - 0xF0000000000) / 0x20000 / 24
  else if inFieldBlk a then 129 + (a - 0xF0100000000) / 0x100000
  else 137

/-! ### Access tables (R186 to R192) -/

/-- The rights of R34, with their codes in LAST_REFUSAL (R213). -/
inductive Right where
  | r | w | a
  deriving DecidableEq, Repr

/-- A right's code (R213). -/
def Right.code : Right → Nat
  | .r => 0 | .w => 1 | .a => 2

/-- Whether one entry permits a master, compared value and right (R186, R187). -/
def entryPermits (v m x : Nat) (rt : Right) : Bool :=
  bit v 127 && decide (m &&& bits v 88 16 = bits v 104 16 &&& bits v 88 16)
    && decide (bits v 44 36 ≤ x ∧ x ≤ bits v 8 36)
    && (match rt with | .r => bit v 126 | .w => bit v 125 | .a => bit v 124)

/-- Whether a target's table permits a compared value: entry 0 gives the management processor everything (R35). -/
def tablePermits (acc : Access) (target m x : Nat) (rt : Right) : Bool :=
  m = mgmt || acc.entries.any fun p => p.1 / 64 = target && entryPermits p.2.value m x rt

/-- The 256-byte units of a request, by the offsets they begin at. -/
def units256 (a n : Nat) : List Nat := (List.range ((a + (n - 1)) / 256 - a / 256 + 1)).map fun i => (a / 256 + i) * 256

/-- The first 256-byte unit of a request that no entry permits and that the master does not reach through ports of its own
(R184), as its target and offset (R187). -/
def refusedAt (acc : Access) (m a n : Nat) (rt : Right) (own : Nat → Bool := fun _ => false) : Option (Nat × Nat) :=
  match (units256 a n).find? (fun u => !own u && !tablePermits acc (targetOf u) m (bits u 8 36) rt) with
  | some u => some (targetOf (max a u), max a u)
  | none => none

/-- A request is refused (R192): event, counter and record. -/
def refuse (c : Core) (m target off : Nat) (rt : Right) (tag : Nat := 0) : Core :=
  let c := raise c 0x0701 (if isUnit m then .fault else .report) m tag [m, target, off, rt.code]
  let c := addObj c Key.accessRefused 1
  errStatus { c with acc := { c.acc with lastRefusal := some (m, target, rt.code, off) } } .access

/-- A free value's draw number, and the core with the counter advanced (log entry 2). -/
def draw (c : Core) : Nat × Core := (c.freeCtr, { c with freeCtr := c.freeCtr + 1 })

/-! ### The Vigil (R376 to R378) -/

/-- Whether the Vigil is on. -/
def vigilOn (c : Core) : Bool := obj c Key.vigilEnable = 1

/-- A hazard of a kind 1 to 5 is recorded and raised (R378). -/
def hazard (c : Core) (kind m other addr pc : Nat) : Core :=
  let c := { c with vigil := { c.vigil with
    counts := tset c.vigil.counts kind (tgetD c.vigil.counts kind 0 + 1),
    log := if c.vigil.log.length < 1024 then c.vigil.log ++ [[kind, m, other, addr, frameNow c, pc]] else c.vigil.log } }
  let c := setObj c Key.vigilLogUsed c.vigil.log.length
  raise c 0x0D01 .report m 0 [kind, m, other, addr]

/-- GATED_ACCESS (R378, R410): reported with the Vigil on only (R373). -/
def gatedAccess (c : Core) (m addr : Nat) : Core :=
  if vigilOn c then
    raise { c with vigil := { c.vigil with counts := tset c.vigil.counts 6 (tgetD c.vigil.counts 6 0 + 1) } }
      0x0D02 .report m 0 [m, addr]
  else c

/-- The 64-byte units of an access. -/
def units64 (a n : Nat) : List Nat := if n = 0 then [] else (List.range ((a + (n - 1)) / 64 - a / 64 + 1)).map fun i => a / 64 + i

/-- The program counter a hazard record gives: a station's (R378). -/
def masterPc (c : Core) (m : Nat) : Nat := if m < 192 then (stn c m).seq.pc else 0

/-- Whether a byte offset lies in a range. -/
def inSpan (a n x : Nat) : Bool := decide (a ≤ x ∧ x < a + n)

/-- A port of a station touches a unit of its memory: with another port's access in the same tick, one of the two writing,
whether they met in one cycle is open (R185, R378 kind 4; log entry 89). -/
def portTouch (c : Core) (m port : Nat) (wrote : Bool) (u : Nat) : Core :=
  let now := obj c Key.uptimeTicks
  let c := match tget c.vigil.touch u with
    | some t =>
      if t.port ≠ port && t.tick = now && (t.wrote || wrote) then
        let d := draw c
        if Config.freeNat d.1 % 2 = 1 then hazard d.2 4 m t.master (u * 64) (masterPc c m) else d.2
      else c
    | none => c
  { c with vigil := { c.vigil with touch := tset c.vigil.touch u { port := port, wrote := wrote, master := m, tick := now } } }

/-- The error codes of words read (R183): single-bit errors are corrected and counted. -/
def eccCount (c : Core) (a n : Nat) : Core :=
  let k := (c.ecc.single.filter (inSpan a n)).length
  if k = 0 then c else addObj c Key.eccCorrected k

/-- The words a write covers hold no errors any more (R183). -/
def eccClear (c : Core) (a n : Nat) : Core :=
  { c with ecc := { single := c.ecc.single.filter fun x => !inSpan a n x, double := c.ecc.double.filter fun x => !inSpan a n x } }

/-- The first uncorrectable word among some ranges of `n` bytes (R183). -/
def eccBad (c : Core) (rows : List Nat) (n : Nat) : Option Nat := rows.findSome? fun a => c.ecc.double.find? (inSpan a n)

/-- MEM_UNCORRECTABLE (R183). -/
def memError (c : Core) (m tag x : Nat) : Core := raise c 0x0703 .fault m tag [targetOf x, x]

/-- One unit read by master B is judged (R377). -/
def vigilJudge (m : Nat) (c : Core) (u : Nat) : Core :=
  match tget c.vigil.shadow u with
  | none => c
  | some s =>
    if s.writer = m || s.frame ≠ frameNow c then c
    else if tgetD c.vigil.retired s.writer 0 < s.fence then hazard c 1 m s.writer (u * 64) (masterPc c m)
    else
      let h := (tgetD c.vigil.horizon m []).filter fun p => p.1 = s.writer
      if h.any fun p => s.fence ≤ p.2 then c
      else if h.isEmpty && (tgetD c.vigil.dropped m []).contains s.writer then addObj c Key.vigilUnchecked 1
      else hazard c 2 m s.writer (u * 64) (masterPc c m)

/-- A read by a master, through a port of the station's memory where it is one (R184; 0 is the die network): corrected errors
are counted (R183), and the Vigil judges it (R377, R378). -/
def vigilRead (c : Core) (m a n : Nat) (port : Nat := 0) : Core :=
  let c := eccCount c a n
  if vigilOn c && (inStation a || inSlice a) then
    (units64 a n).foldl (fun c u => vigilJudge m (if inStation a then portTouch c m port false u else c) u) c
  else c

/-- The buffers of the buffer map that are live in the frame and hold a byte (R379). -/
def liveAt (c : Core) (a : Nat) : List BufDecl :=
  match c.alm.image with
  | none => []
  | some im =>
    let f := obj c Key.frameCount
    let p := im.prologue.length
    let t := if f < p then im.prologue.getD f 0 else im.cycle.getD ((f - p) % max 1 im.cycle.length) 0
    let k := if f < p then f else (f - p) % max 1 im.cycle.length
    im.buffers.filter fun b =>
      let base := match b.mem with
        | .station g => stBase g + b.base
        | .slice n => sliceBase + n * 0x400000 + b.base
        | .hbm => b.base
        | .imem g => ctlBase g + b.base
      b.template = t && decide (b.first ≤ k ∧ k ≤ b.last) && decide (base ≤ a ∧ a < base + b.size)

/-- One unit written by a master: its shadow record, and OVERLAP where the map names other producers (R376, R378). -/
def vigilMark (m : Nat) (c : Core) (u : Nat) : Core :=
  let r : Shadow := { writer := m, fence := tgetD c.vigil.issued m 0 + 1, frame := frameNow c }
  let c := { c with vigil := { c.vigil with shadow := tset c.vigil.shadow u r } }
  match (liveAt c (u * 64)).find? (fun b => !b.producers.contains m) with
  | some b => hazard c 3 m (b.producers.headD 0) (u * 64) (masterPc c m)
  | none => c

/-- A write by a master, through a port of the station's memory where it is one: errors it overwrites are gone (R183), and the
Vigil records it (R376, R378). -/
def vigilWrite (c : Core) (m a n : Nat) (port : Nat := 0) : Core :=
  let c := eccClear c a n
  if vigilOn c && (inStation a || inSlice a) then
    (units64 a n).foldl (fun c u => vigilMark m (if inStation a then portTouch c m port true u else c) u) c
  else c

/-- A SIG applied to a semaphore leaves its sender's latest retired fence with it (R376). -/
def vigilSig (c : Core) (f s m : Nat) : Core :=
  if vigilOn c then
    { c with vigil := { c.vigil with note := tset c.vigil.note (f * 4096 + s) (m, tgetD c.vigil.retired m 0) } }
  else c

/-- A TAK answered OK or an OK message passes that number to the receiver's horizon of 16 entries (R376). -/
def vigilPass (c : Core) (f s m : Nat) : Core :=
  if vigilOn c then
    match tget c.vigil.note (f * 4096 + s) with
    | none => c
    | some (w, n) =>
      let h := tgetD c.vigil.horizon m []
      let old := (h.filter fun p => p.1 = w).foldl (fun x p => max x p.2) 0
      let h := (h.filter fun p => p.1 ≠ w) ++ [(w, max old n)]
      let drop := if 16 < h.length then (h.take 1).map (fun p => p.1) else []
      { c with vigil := { c.vigil with horizon := tset c.vigil.horizon m (h.drop drop.length),
                                       dropped := tset c.vigil.dropped m (tgetD c.vigil.dropped m [] ++ drop) } }
  else c

end Sys2Proof.Machine
end

