-- ==== Sys2Proof/Machine/Time.lean ====
section
/-! DEFINITION. The passing of reference ticks (R246, R106, R307, R311, R444; log entry 4). -/

namespace Sys2Proof.Machine

/-- The cycles of some that pass in which a station waits: no more than hold it, where cycles do (R253, R272). -/
def waits (cycles : Nat) (s : Station) : Nat :=
  if s.seq.state = .waiting then (if s.seq.left = 0 then cycles else min cycles s.seq.left) else 0

/-- A waiting station counts the cycles that pass (R246); cycles that hold it run out (R253). -/
def tickStation (cycles : Nat) (s : Station) : Station :=
  let q := s.seq
  let w := waits cycles s
  if q.state ≠ .waiting then s
  else if q.left = 0 then { s with seq := { q with waitCycles := q.waitCycles + w } }
  else if w < q.left then { s with seq := { q with waitCycles := q.waitCycles + w, left := q.left - w } }
  else { s with seq := { q with waitCycles := q.waitCycles + w, left := 0, state := .running, waitCause := 0 } }

/-- The cycles of all waiting stations, and those of stations that wait on a tile (R106, R275). -/
def waitingCycles (cycles : Nat) (t : Tab Station) (tile : Bool) : Nat :=
  ((t.filter fun p => !tile || p.2.seq.waitCause = 3).map fun p => waits cycles p.2).sum

/-- Memory errors arise as time passes (R183); which, is open (log entry 109). -/
def newErrors (c : Core) : Core :=
  let e := Config.newErrors c.freeCtr
  { c with freeCtr := c.freeCtr + 1, ecc := { single := c.ecc.single ++ e.1, double := c.ecc.double ++ e.2 } }

/-- So many reference ticks pass: UPTIME_TICKS and, unless the domain is held, DOMAIN_TICK advance. -/
def passTicks (n : Nat) (c : Core) : Core :=
  let cycles := n * obj c Key.opMult
  let wait := waitingCycles cycles c.st false
  let tile := waitingCycles cycles c.st true
  let c := { newErrors c with st := c.st.map fun p => (p.1, tickStation cycles p.2) }
  let c := addObj (addObj c Key.seqWaitCycles wait) Key.tileWaitCycles tile
  let c := addObj c Key.uptimeTicks n
  if c.alm.hold.heldAt.isSome then addObj c Key.heldTicks n
  else setObj c Key.domainTick ((obj c Key.domainTick + n) % 2 ^ 64)

/-- The domain tick count reaches a tick that a rule places an event at (log entry 4). -/
def reachTick (c : Core) (t : Nat) : Core := passTicks (t - obj c Key.domainTick) c

/-- What passes on an empty queue: a tick of a powered module. -/
def idle (s : State) : State := if powered s.core then { s with core := passTicks 1 s.core } else s

end Sys2Proof.Machine
end

