-- ==== Sys2Proof/Machine/Wire.lean ====
section
/-! DEFINITION. Fabric packets on the wire (R296): header bytes, whole units of payload, the CRC-32 of IEEE 802.3. -/

namespace Sys2Proof.Machine

/-- Payload bytes filled with zeros to whole units of 64 (R296). -/
def padUnits (bs : Bytes) : Bytes := bs ++ List.replicate ((64 - bs.length % 64) % 64) 0

/-- LEN of a packet: its payload in 64-byte units (R296). -/
def pktUnits (p : Packet) : Nat := (p.payload.length + 63) / 64

/-- The bytes a packet takes on a link: header and payload units (R296). -/
def pktBytes (p : Packet) : Nat := 32 + 64 * pktUnits p

/-- One bit of the CRC-32 of IEEE 802.3, least significant bit first. -/
def crcBit (x : Nat) : Nat := if x % 2 = 1 then x / 2 ^^^ 0xEDB88320 else x / 2

/-- One byte of the CRC-32. -/
def crcByte (x : Nat) (b : Byte) : Nat := crcBit (crcBit (crcBit (crcBit (crcBit (crcBit (crcBit (crcBit (x ^^^ b.toNat))))))))

/-- The CRC-32 of IEEE 802.3 over bytes. -/
def crc32 (bs : Bytes) : Nat := bs.foldl crcByte 0xFFFFFFFF ^^^ 0xFFFFFFFF

/-- The 32 header bytes of a packet with a CRC field (R296). -/
def wireHead (p : Packet) (crc : Nat) : Bytes :=
  leBytes 8 (fieldAt 60 p.typ + fieldAt 48 p.dstMod + fieldAt 36 p.srcMod + fieldAt 24 p.dstCtx + fieldAt 20 (pktUnits p))
    ++ leBytes 8 (fieldAt 32 p.seq + fieldAt 16 p.issuer + p.opTag) ++ leBytes 8 p.addr
    ++ leBytes 8 (fieldAt 56 p.status + fieldAt 52 p.op + crc)

/-- The CRC of a packet: over the header with its CRC field zero, and then the payload (R296). -/
def packetCrc (p : Packet) : Nat := crc32 (wireHead p 0 ++ padUnits p.payload)

/-- A packet as it travels (R296). -/
def packetBytes (p : Packet) : Bytes := wireHead p (packetCrc p) ++ padUnits p.payload

/-- Whether the CRC of a packet that arrives holds (R294, R296). -/
def crcHolds (rx : Rx) : Bool := rx.crc = packetCrc rx.pkt

/-- Bytes cut or filled with zeros to a length. -/
def fitBytes (n : Nat) (bs : Bytes) : Bytes := bs.take n ++ List.replicate (n - bs.length) 0

/-- SHAKE256 with an output of `n` bytes (R8, R358, R471). -/
def shake (n : Nat) (bs : Bytes) : Bytes := fitBytes n (Config.shake256 n bs)

/-- A signature of the device identity over the digest of some bytes, 3,309 bytes (R8, R469): zero where the identity is disabled. -/
def identitySig (fu : Fuses) (bs : Bytes) : Bytes :=
  if fu.disabled || fu.lc = 5 then List.replicate 3309 0 else fitBytes 3309 (Config.identitySign (shake 64 bs))

end Sys2Proof.Machine
end

