-- ==== Sys2Proof/Machine/Hold.lean ====
section
/-! DEFINITION. Ports and notices, the frame's template, and the hold of a job (R289, R308 to R313, R369): what a module needs to
report READY and to resume. Every meaning that can fulfil a closing condition ends here. -/

namespace Sys2Proof.Machine

/-- Whether port `p` belongs to an eight-lane port (R276). -/
def joined (c : Core) (p : Nat) : Bool := bit (obj c Key.portJoin) (p / 2)
/-- A port's record. -/
def portOf (c : Core) (p : Nat) : Port := tgetD c.fab.ports p Port.reset
/-- PSTATE: a disabled port reads DISABLED (R315). -/
def pstate (c : Core) (p : Nat) : Nat := if bit (obj c Key.portEnable) p then (portOf c p).pstate else 5

/-- This module's fabric module ID (R315). -/
def ownMod (c : Core) : Nat := obj c Key.moduleId

/-- The ports that are UP; a joined pair counts once, as its even member (R278). -/
def upPorts (c : Core) : List Nat := (List.range 16).filter fun p => pstate c p = 3 && !(joined c p && p % 2 = 1)

/-- Whether a module belongs to the job (R308). -/
def inJob (c : Core) (m : Nat) : Bool :=
  match c.alm.image with
  | some im => im.jobModules.contains m
  | none => false

/-- The UP ports that lead to a module of the job (R310). -/
def jobPorts (c : Core) : List Nat :=
  (upPorts c).filter fun p => (portOf c p).peerValid && inJob c (portOf c p).peerMod

/-- A notice sent on some ports (R289, R310, R312). -/
def floodOn (c : Core) (ports : List Nat) (n : Notice) : Core := ports.foldl (fun c p => send c (.notice p n)) c

/-- This module's topology record of a module. -/
def topoOf (c : Core) (m : Nat) : Option Topo := tget c.fab.topo m

/-- The template of a frame (R351). -/
def frameTemplate (im : Image) (f : Nat) : Nat :=
  if f < im.prologue.length then im.prologue.getD f 0
  else im.cycle.getD ((f - im.prologue.length) % max 1 im.cycle.length) 0

/-- The template of the frame in progress (R351). -/
def curTemplate (c : Core) : Option Template :=
  match c.alm.image with
  | none => none
  | some im => im.templates[frameTemplate im (obj c Key.frameCount)]?

/-- The hold lead L_h (R309). -/
def holdLead (lMax : Nat) : Nat := (6 * (3 * lMax + 18) + 7) / 8 * 8

/-! ### Holds (R310 to R313, R369) -/

/-- The hold's record changed. -/
def modHold (c : Core) (f : HoldState → HoldState) : Core := { c with alm := { c.alm with hold := f c.alm.hold } }

/-- The domain is held (R311). -/
def heldNow (c : Core) : Bool := c.alm.hold.heldAt.isSome

/-- Whether a gate of the frame is met: no judgement of it waits for its turn or stays armed (R354). -/
def gateMet (c : Core) (f s : Nat) : Bool :=
  !((syncU c f).gates.any fun g => g.1 = s) && !((syncU c f).held.any fun op => op.kind = .gate && op.sem = s)

/-- Whether the gates of the frame's template are met. -/
def gatesMet (c : Core) : Bool := ((curTemplate c).map fun t => t.gates.all fun g => gateMet c g.field g.sem).getD true

/-- Whether the closing conditions for boundary `b` hold (R369). -/
def closingMet (c : Core) (b : Nat) : Bool := gatesMet c && c.alm.segs.all fun p => decide (b < p.2)

/-- Whether every flow to a module has aborted (R312). -/
def flowsGone (c : Core) (m : Nat) : Bool :=
  let flows := c.fab.ctxs.filter fun p => p.2.kind = 0 && p.2.peerMod = m && p.2.state ≠ 0
  !flows.isEmpty && flows.all fun p => p.2.state = 3

/-- Whether a module of the job is lost (R306, R312): it has left the topology since START, or every flow to it has aborted; after
the timeout, every module that has not reported READY (R313). -/
def lostMod (c : Core) (b m : Nat) : Bool :=
  (c.alm.hold.timedOut && !c.alm.hold.ready.contains (m, b)) || (m ≠ ownMod c && (c.alm.lost.contains m || flowsGone c m))

/-- Modules of the job that are lost stay lost until the next START (R306). -/
def loseMods (c : Core) (ms : List Nat) : Core :=
  { c with alm := { c.alm with lost := c.alm.lost ++ ms.filter fun m => running c && inJob c m && !c.alm.lost.contains m } }

/-- The live modules of the job (R312). -/
def liveMods (c : Core) (b : Nat) : List Nat :=
  match c.alm.image with
  | none => []
  | some im => im.jobModules.filter fun m => !lostMod c b m

/-- The resume coordinator (R312): the live module with the lowest ID; this one where none is live. -/
def coordinator (c : Core) (b : Nat) : Nat :=
  match liveMods c b with
  | [] => ownMod c
  | m :: r => r.foldl min m

/-- The resume tick r (R312): the first tick h + kT at least L_h after the present one, reckoned on from the tick h at which the
count stands. -/
def resumeTick (c : Core) : Nat :=
  let t := max 1 (obj c Key.frameTicks)
  let gone := obj c Key.uptimeTicks - c.alm.hold.since
  obj c Key.domainTick + (gone + obj c Key.holdLead + (t - 1)) / t * t

/-- The coordinator that holds READY from every live module floods RESUME, once (R312). -/
def resumeCheck (c : Core) : Core :=
  match c.alm.hold.heldAt with
  | none => c
  | some b =>
    if c.alm.hold.resume.isNone && coordinator c b = ownMod c && (liveMods c b).all fun m => c.alm.hold.ready.contains (m, b) then
      let r := resumeTick c
      floodOn (setObj (modHold c fun h => { h with resume := some r }) Key.holdState 3) (jobPorts c) (.resume b r)
    else c

/-- A held module whose closing conditions hold floods READY, once (R312). -/
def readyCheck (c : Core) : Core :=
  match c.alm.hold.heldAt with
  | none => c
  | some b =>
    if c.alm.hold.ready.contains (ownMod c, b) || !closingMet c b then c
    else
      let c := modHold c fun h => { h with ready := h.ready ++ [(ownMod c, b)] }
      resumeCheck (floodOn c (jobPorts c) (.ready (ownMod c) b))

/-- What a change of flows or topology means in a hold (R312): another coordinator is sent READY again. -/
def holdLoss (before : Core) (c : Core) : Core :=
  match c.alm.hold.heldAt with
  | none => c
  | some b =>
    let c := if c.alm.hold.ready.contains (ownMod c, b) && coordinator before b ≠ coordinator c b then
        floodOn c (jobPorts c) (.ready (ownMod c) b) else c
    resumeCheck c

end Sys2Proof.Machine
end

