-- ==== Sys2Proof/Machine/Sync.lean ====
section
/-! DEFINITION. The sync units (chapter 07): applying operations, watches, gate judgements, poisoning; and putting a
packet on a fabric flow, which remote operations and watch messages need. -/

namespace Sys2Proof.Machine

/-! ### Flows (R291, R301) -/

/-- The flow context that carries an issuer's traffic to a module: OPEN, and the flow the Almanac assigns the issuer. -/
def flowFor (c : Core) (issuer m : Nat) : Option Nat :=
  let flows := match c.alm.image with
    | some im => im.flows
    | none => []
  (c.fab.ctxs.find? fun p => p.2.state = 1 && p.2.kind = 0 && p.2.peerMod = m &&
    (isUnit issuer = false || (flows.any fun fl => fl.num = p.2.flow && fl.issuers.contains issuer))).map fun p => p.1

/-- The record of a flow context. -/
def ctxOf (c : Core) (i : Nat) : Ctx := tgetD c.fab.ctxs i Ctx.reset
/-- A flow context's record replaced. -/
def setCtx (c : Core) (i : Nat) (x : Ctx) : Core := { c with fab := { c.fab with ctxs := tset c.fab.ctxs i x } }

/-- A packet with the given fields and no payload (R296); the sequence number is set when it is sent. -/
def mkPkt (typ dst src ctx issuer tag addr status op : Nat) (pl : Bytes) : Packet :=
  { typ := typ, dstMod := dst, srcMod := src, dstCtx := ctx, seq := 0, issuer := issuer, opTag := tag, addr := addr,
    status := status, op := op, payload := pl }

/-- A packet put in a context's send queue; what does not fill its last 64-byte unit is filled with zeros (R296), but for the bytes
of a WRITE and of a COLL packet (log entry 92). -/
def enqueue (c : Core) (i : Nat) (typ issuer tag addr status op : Nat) (pl : Bytes) (cause : Cause) : Core :=
  let x := ctxOf c i
  let p := mkPkt typ x.peerMod (ownMod c) x.peerCtx issuer tag addr status op (if typ = 0 ∨ typ = 8 then pl else padUnits pl)
  setCtx c i { x with queue := x.queue ++ [{ pkt := p, cause := cause, sent := false }] }

/-! ### Watch messages (R230) -/

/-- The semaphore name of a semaphore of this module (R214). -/
def semName (c : Core) (f s : Nat) : Nat := fieldAt 16 (ownMod c) + fieldAt 12 f + s

/-- The 32 bytes of a watch message (R230). -/
def watchBytes (m : WatchMsg) : Bytes :=
  leBytes 8 (fieldAt 56 1 + fieldAt 48 m.status.code + fieldAt 40 m.cause + m.sem)
    ++ leBytes 8 (fieldAt 32 m.cookie + fieldAt 30 (b2n m.noWatch) + fieldAt 29 (b2n m.localOrigin) + fieldAt 16 m.handle)
    ++ leBytes 8 (fieldAt 20 m.count + m.thresh) ++ leBytes 8 m.frame

/-- A watch message leaves for its waiter: over the flow to a remote module, else inside the module. -/
def sendWatch (c : Core) (dest slot : Nat) (m : WatchMsg) : Core :=
  let c := if m.status = .lost then addObj c Key.lostMessages 1 else c
  if 0x8000 ≤ dest then
    match flowFor c mgmt (dest - 0x8000) with
    | some i => enqueue c i 7 mgmt slot m.sem 0 0 (watchBytes m) .none
    | none => c
  else { c with net := c.net ++ [.watch dest slot m] }

/-- The OK or LOST message of watch `w` of field `f` (R226, R232). -/
def watchMsg (c : Core) (f w : Nat) (x : Watch) (st : Status) (cause count : Nat) : WatchMsg :=
  { status := st, cause := cause, sem := semName c f x.sem, cookie := x.cookie, noWatch := false, localOrigin := false,
    handle := f * 1024 + w, count := count, thresh := x.thresh, frame := obj c Key.frameCount }

/-- The message of a wait slot (R229). -/
def slotMsg (c : Core) (f : Nat) (x : SlotWait) (st : Status) (cause count : Nat) : WatchMsg :=
  { status := st, cause := cause, sem := semName c f x.sem, cookie := 0, noWatch := true, localOrigin := false,
    handle := 0, count := count, thresh := x.n, frame := obj c Key.frameCount }

/-- A semaphore's record. -/
def semOf (c : Core) (f s : Nat) : Sem :=
  tgetD (syncU c f).sems s { valid := false, poison := false, owner := 0, cap := 0, count := 0, cause := 0, pframe := 0 }

/-- A semaphore's record replaced. -/
def setSem (c : Core) (f s : Nat) (x : Sem) : Core :=
  setSync c f { syncU c f with sems := tset (syncU c f).sems s x }

/-- Every watch and wait slot on a semaphore whose condition holds fires, in increasing watch number; the watches are freed
(R226, R227, R229). -/
def evalWatches (c : Core) (f s : Nat) : Core :=
  let n := (semOf c f s).count
  let hit := (syncU c f).watches.filter fun p => p.2.sem = s && decide (p.2.thresh ≤ n)
  let due := fun (x : SlotWait) => x.phase = 0 && x.sem = s && decide (x.n ≤ n)
  let slots := (syncU c f).waits.filter due
  let c := setSync c f { syncU c f with
    watches := (syncU c f).watches.filter fun p => !(p.2.sem = s && decide (p.2.thresh ≤ n)),
    waits := (syncU c f).waits.map fun x => if due x then { x with phase := 1 } else x }
  let c := hit.foldl (fun c p => vigilPass (sendWatch c p.2.dest p.2.slot (watchMsg c f p.1 p.2 .ok 0 n)) f s p.2.dest) c
  slots.foldl (fun c x => sendWatch c x.unit 0 (slotMsg c f x .ok 0 n)) c

/-- The armed gates on a semaphore are judged in turn, and the watches again after each that is met (R354). -/
def evalGates (c : Core) (f s : Nat) (fuel : Nat) : Core :=
  match fuel with
  | 0 => c
  | k + 1 =>
    match (syncU c f).gates.find? (fun g => g.1 = s && decide (g.2 ≤ (semOf c f s).count)) with
    | none => c
    | some g =>
      let x := semOf c f s
      let c := setSem c f s { x with count := x.count - g.2 }
      let c := setSync c f { syncU c f with gates := (syncU c f).gates.erase g }
      evalGates (evalWatches c f s) f s k

/-- What follows every applied operation: watches, then armed gates, and READY once a gate met lets a held module report it
(R219, R312, R354). -/
def evalSem (c : Core) (f s : Nat) : Core :=
  let c := evalWatches c f s
  readyCheck (evalGates c f s (syncU c f).gates.length)

/-- The right an operation needs (R217). -/
def SyncKind.right : SyncKind → Right
  | .add => .w | .sub => .w | .tak => .a | .wat => .r | .poison => .w | .gate => .w

/-- The local offset of a semaphore's record (R218, R239). -/
def semAddr (f s : Nat) : Nat := fieldBase f + 8 * s

/-- Whether a requester may operate on a semaphore (R218). -/
def semPermits (c : Core) (f : Nat) (op : SyncOp) : Bool :=
  (decide (op.issuer < 192) && op.issuer / 24 = f)
    || tablePermits c.acc (129 + f) op.issuer (bits (semAddr f op.sem) 8 36) op.kind.right

/-- SEM_UNDERFLOW or SEM_OVERFLOW (R220): registers and event. -/
def semFault (c : Core) (f : Nat) (op : SyncOp) (kind : Nat) : Core :=
  let x := semOf c f op.sem
  let r : SemFault := { name := semName c f op.sem, issuer := op.issuer, kind := kind, delta := op.n, count := x.count,
                        frame := obj c Key.frameCount }
  let c := setSync c f { syncU c f with lastFault := r }
  let c := setObj c Key.lastSemFault f
  raise c (0x0A00 + kind) (if isUnit op.issuer then .fault else .report) op.issuer 0
    [semName c f op.sem, op.issuer, op.n, x.count]

/-- The lowest free watch number in a requester's share, if one is free (R225). -/
def freeWatch (u : SyncUnit) (issuer : Nat) : Option Nat :=
  let mine := u.watches.filter fun p => decide (p.2.dest < 0x200) == decide (issuer < 0x200)
  let share := if issuer < 0x200 then u.watchRes else 1024 - u.watchRes
  if share ≤ mine.length then none else (List.range 1024).find? fun w => (tget u.watches w).isNone

/-- One operation counted at the unit (R239, R240). -/
def countOp (c : Core) (f : Nat) : Core :=
  addObj (setSync c f { syncU c f with ops := (syncU c f).ops + 1 }) Key.syncOps 1

/-- A TAK of `n` on a semaphore that may be operated on (R219). -/
def applyTak (c : Core) (f s n : Nat) (issuer : Nat) : Core × Status :=
  let x := semOf c f s
  if x.count < n then (addObj c Key.takenCount 1, .taken)
  else (evalSem (vigilPass (setSem c f s { x with count := x.count - n }) f s issuer) f s, .ok)

/-- Registering a watch (R219, R225). -/
def applyWat (c : Core) (f : Nat) (op : SyncOp) : Core × Status :=
  match freeWatch (syncU c f) op.issuer with
  | none => (addObj c Key.watchBusy 1, .busy)
  | some w =>
    let x : Watch := { sem := op.sem, thresh := op.n, dest := op.issuer, slot := op.slot, cookie := op.cookie }
    (evalSem (setSync c f { syncU c f with watches := tset (syncU c f).watches w x }) f op.sem, .ok)

/-- The LOST message for a WAT on a poisoned semaphore (R219): with the cause and the frame of its poisoning (R230). -/
def lostWat (c : Core) (f : Nat) (op : SyncOp) : Core :=
  let x := semOf c f op.sem
  let m : WatchMsg := { status := .lost, cause := x.cause, sem := semName c f op.sem, cookie := op.cookie, noWatch := true,
                        localOrigin := false, handle := 0, count := 0, thresh := op.n, frame := x.pframe }
  sendWatch c op.issuer op.slot m

/-- The sync unit handles an operation that is permitted (R219). -/
def applyPermitted (c : Core) (f : Nat) (op : SyncOp) : Core × Status :=
  let x := semOf c f op.sem
  let bound := match op.kind with
    | .add => 65535
    | .sub => 65535
    | .tak => x.cap
    | .wat => x.cap
    | .poison => 65535
    | .gate => 65535
  if !running c then (c, .state)
  else if !x.valid then (c, .range)
  else if op.n = 0 || bound < op.n then (c, .range)
  else if x.poison then (if op.kind = .wat then lostWat c f op else c, .lost)
  else match op.kind with
    | .add =>
      if x.cap < x.count + op.n then (semFault c f op 2, .range)
      else (evalSem (vigilSig (setSem c f op.sem { x with count := x.count + op.n }) f op.sem op.issuer) f op.sem, .ok)
    | .sub =>
      if x.count < op.n then (semFault c f op 1, .range)
      else (evalSem (vigilSig (setSem c f op.sem { x with count := x.count - op.n }) f op.sem op.issuer) f op.sem, .ok)
    | .tak => applyTak c f op.sem op.n op.issuer
    | .wat => applyWat c f op
    | .poison => (c, .ok)
    | .gate => (c, .ok)

/-- The sync unit of field `f` handles one operation (R218, R219); the status is its reply, and its error counter is
raised (R449). -/
def applyOp (c : Core) (f : Nat) (op : SyncOp) : Core × Status :=
  let c := countOp c f
  if semPermits c f op then
    let r := applyPermitted c f op
    (errStatus r.1 r.2, r.2)
  else (refuse c op.issuer (129 + f) (semAddr f op.sem) op.kind.right, .access)

/-- A semaphore is poisoned (R232): LOST to every watcher in increasing watch number, and to its wait slots. -/
def poison (c : Core) (f s cause : Nat) : Core :=
  let x := semOf c f s
  let c := setSem c f s (if x.poison then x else { x with poison := true, cause := cause, pframe := obj c Key.frameCount })
  let hit := (syncU c f).watches.filter fun p => p.2.sem = s
  let due := fun (y : SlotWait) => y.phase = 0 && y.sem = s
  let slots := (syncU c f).waits.filter due
  let c := setSync c f { syncU c f with watches := (syncU c f).watches.filter fun p => p.2.sem ≠ s,
                                        waits := (syncU c f).waits.map fun y => if due y then { y with phase := 1 } else y }
  let c := hit.foldl (fun c p => sendWatch c p.2.dest p.2.slot (watchMsg c f p.1 p.2 .lost cause 0)) c
  slots.foldl (fun c y => sendWatch c y.unit 0 (slotMsg c f y .lost cause 0)) c

/-- The poisonings at the front of the unit's queue are carried out (R232 cause 5). -/
def applyPoisons (c : Core) (f : Nat) (fuel : Nat) : Core :=
  match fuel with
  | 0 => c
  | k + 1 =>
    match (syncU c f).held with
    | op :: rest =>
      if op.kind = .poison then applyPoisons (poison (setSync c f { syncU c f with held := rest }) f op.sem op.n) f k else c
    | [] => c

/-- An operation reaches the unit and is held for its turn (R219). -/
def holdOp (c : Core) (f : Nat) (op : SyncOp) : Core :=
  setSync c f { syncU c f with held := (syncU c f).held ++ [op] }

/-- The response of a host session's request whose outcome came later (R422, R437): kept under its SEQ and sent on the port on which
the request came, to its source (R423). -/
def hostReply (c : Core) (ctx seq typ port dest : Nat) (s : Status) : Core :=
  match sessionOf c ctx with
  | none => c
  | some x =>
    if x.kept.contains (seq, none) then
      let r : Resp := { typ := typ, status := s.code, payload := [] }
      let kept := x.kept.map fun p => if p = (seq, none) then (seq, some r) else p
      send (sentOn (setSession c ctx { x with kept := kept }) ctx r.payload.length) (.bamcen port dest ctx seq r (tagOf x.key ctx 1 seq r))
    else c

/-- An always-detected fault that raises no event asks for a fault stop with event code 0 (R372, log entry 12). -/
def askStop (c : Core) (src : Nat) : Core :=
  if running c && c.alm.fault.isNone then { c with alm := { c.alm with fault := some (0, src, frameNow c) } } else c

/-- A reply goes where it is awaited: to a station inside the module, to a host, or to no one (R220, R253, R437). -/
def giveReply (c : Core) (b : Back) (s : Status) : Core :=
  match b with
  | .unit => c
  | .engine m => if s = .range then askStop c m else c
  | .host ctx seq typ port dest => hostReply c ctx seq typ port dest s
  | .sig _ _ | .comp _ _ | .tak _ _ | .wat _ _ _ _ => { c with net := c.net ++ [.reply b s] }

/-- The reply to an operation that another module did not answer with OK, or that was lost on the way: a host's request counts
its status here (R449). -/
def awayReply (c : Core) (b : Back) (s : Status) : Core :=
  match b with
  | .host _ _ _ _ _ => giveReply (errStatus c s) b s
  | .unit | .engine _ | .sig _ _ | .comp _ _ | .tak _ _ | .wat _ _ _ _ => giveReply c b s

/-- The reply of an applied operation leaves; a station's stream or a field engine that gets RANGE for a SIG is at fault (R220). -/
def answerOp (c : Core) (op : SyncOp) (s : Status) : Core :=
  if op.back = .unit && s = .range && isUnit op.issuer then askStop c op.issuer else giveReply c op.back s

/-- The operation at the front of the unit's queue is applied, if it is of a kind, and its reply leaves. -/
def applyHeld (c : Core) (f : Nat) (kind : SyncKind) : Core :=
  match (syncU c f).held with
  | [] => c
  | op :: rest =>
    if op.kind = kind then
      let r := applyOp (setSync c f { syncU c f with held := rest }) f op
      applyPoisons (answerOp r.1 op r.2) f rest.length
    else c

/-- A poisoning of a semaphore takes its turn at the unit (R232 cause 5). -/
def holdPoison (c : Core) (f s issuer cause : Nat) : Core :=
  let op : SyncOp := { issuer := issuer, kind := .poison, sem := s, n := cause, cookie := 0, slot := 0, back := .unit }
  applyPoisons (holdOp c f op) f ((syncU c f).held.length + 1)

/-- A unit's SIG ADD 1 on a semaphore of field `f` (R497, R224): held at the sync unit. -/
def unitSignal (c : Core) (f s issuer : Nat) (back : Back) : Core :=
  holdOp c f { issuer := issuer, kind := .add, sem := s, n := 1, cookie := 0, slot := 0, back := back }

/-- The record of a wait slot at a unit. -/
def slotRec (c : Core) (f unit : Nat) : Option SlotWait := (syncU c f).waits.find? fun y => y.unit = unit

/-- A wait slot's record removed. -/
def dropSlot (c : Core) (f unit : Nat) : Core :=
  setSync c f { syncU c f with waits := (syncU c f).waits.filter fun y => y.unit ≠ unit }

/-- A wait slot's record changes its phase. -/
def slotPhase (c : Core) (f unit k : Nat) : Core :=
  setSync c f { syncU c f with waits := (syncU c f).waits.map fun y => if y.unit = unit then { y with phase := k } else y }

/-- A wait slot's WAT (R229): counted, and its record kept. -/
def slotWat (c : Core) (unit f s n phase : Nat) : Core :=
  let c := countOp c f
  setSync c f { syncU c f with waits := (syncU c f).waits ++ [{ unit := unit, sem := s, n := n, phase := phase }] }

/-- The LOST message of a wait slot's WAT on a poisoned semaphore (R219). -/
def slotLost (c : Core) (unit f s n : Nat) : Core :=
  let x := semOf c f s
  sendWatch (errStatus (slotWat c unit f s n 1) .lost) unit 0
    { status := .lost, cause := x.cause, sem := semName c f s, cookie := 0, noWatch := true, localOrigin := false, handle := 0,
      count := 0, thresh := n, frame := x.pframe }

/-- The wait of a unit's wait slot (R229). Behind its requester's earlier operations (R219), and while its watch stands or its
message is on the way, nothing happens: BUSY. After the message the TAK is applied; answered TAKEN, the slot waits again. A
first wait whose count suffices, or which is refused, is the TAK at once (log entry 21); otherwise the WAT: TAKEN. -/
def slotTake (c : Core) (unit f s n issuer : Nat) : Core × Status :=
  let op : SyncOp := { issuer := issuer, kind := .tak, sem := s, n := n, cookie := 0, slot := 0, back := .unit }
  let x := semOf c f s
  if (syncU c f).held.any (fun o => o.issuer = issuer && o.kind ≠ .gate && o.kind ≠ .poison) then (c, .busy)
  else match slotRec c f unit with
    | some y =>
      if y.phase = 2 ∧ y.sem = s then
        let r := applyOp (dropSlot c f unit) f op
        if r.2 = .taken then (slotWat r.1 unit f s n 0, .taken) else r
      else (c, .busy)
    | none =>
      if semPermits c f op && running c && x.valid && decide (0 < n) && decide (n ≤ x.cap) && (x.poison || decide (x.count < n)) then
        (if x.poison then slotLost c unit f s n else slotWat c unit f s n 0, .taken)
      else applyOp c f op

/-- A gate judgement is carried out (R354): met, it takes its count; unmet, the gate stays armed. -/
def judgeGate (c : Core) (f s n : Nat) : Core :=
  let c := countOp c f
  let x := semOf c f s
  if x.valid && !x.poison && decide (n ≤ x.count) then evalSem (setSem c f s { x with count := x.count - n }) f s
  else setSync c f { syncU c f with gates := (syncU c f).gates ++ [(s, n)] }

/-- The gate judgements and poisonings at the front of the unit's queue are carried out in turn. -/
def applyGates (c : Core) (f : Nat) (fuel : Nat) : Core :=
  match fuel with
  | 0 => c
  | k + 1 =>
    match (syncU c f).held with
    | op :: rest =>
      let c' := setSync c f { syncU c f with held := rest }
      if op.kind = .gate then applyGates (judgeGate c' f op.sem op.n) f k
      else if op.kind = .poison then applyGates (poison c' f op.sem op.n) f k
      else c
    | [] => c

/-- A gate judgement takes its turn at the unit (R354): at once where nothing waits before it. -/
def submitGate (c : Core) (f s n : Nat) : Core :=
  let op : SyncOp := { issuer := mgmt, kind := .gate, sem := s, n := n, cookie := 0, slot := 0, back := .unit }
  applyGates (holdOp c f op) f ((syncU c f).held.length + 1)

end Sys2Proof.Machine
end

