-- ==== Sys2Proof/Machine/Isa.lean ====
section
/-! DEFINITION. Station instructions (chapter 08): the word at PC, its fields, the load checks of a word, issue, holds
and faults. -/

namespace Sys2Proof.Machine

/-- The 64-bit word at instruction address `a` of station `g` (R241). -/
def imemWord (m : Memory) (g a : Nat) : Nat := mnum m (ctlBase g + 8 * a) 8

/-- The opcode of a word (R247). -/
def opcode (w : Nat) : Nat := bits w 59 5

/-- The instructions, as R247 and R259 name them. -/
inductive Op where
  | nop | mma | ldw | mva | drn | vop (fn : Nat) | pack | unpack | str | sigAdd | sigSub | tak
  | watPost | watBlock | watWait | fnc | fncWait | red | upd | lyr | dfw | jmp | endSeg | seta | lset | lend
  deriving DecidableEq, Repr

/-- The FN codes of R259. -/
def vopFns : List Nat :=
  [0x00, 0x01, 0x02, 0x03, 0x04, 0x05, 0x08, 0x09, 0x0A, 0x0B, 0x0C, 0x0D, 0x0E, 0x0F, 0x10, 0x11, 0x12, 0x18, 0x19,
   0x1A, 0x1B, 0x20, 0x21]

/-- The instruction a word names, none for a reserved opcode or sub-operation (R247, R248). -/
def opOf (w : Nat) : Option Op :=
  let sub := bits w 56 3
  match opcode w with
  | 0x00 => some .nop
  | 0x01 => if bit w 58 then some .ldw else some .mma
  | 0x02 => some .mva
  | 0x03 => some .drn
  | 0x04 => if vopFns.contains (bits w 53 6) then some (.vop (bits w 53 6)) else none
  | 0x05 => if bit w 58 then some .unpack else some .pack
  | 0x06 => some .str
  | 0x07 => if sub = 0 then some .sigAdd else if sub = 1 then some .sigSub else none
  | 0x08 => some .tak
  | 0x09 => if sub = 0 then some .watPost else if sub = 1 then some .watBlock else if sub = 2 then some .watWait else none
  | 0x0A => if sub = 0 then some .fnc else if sub = 1 then some .fncWait else none
  | 0x0B => some .red
  | 0x0C => some .upd
  | 0x0D => some .lyr
  | 0x0E => some .dfw
  | 0x0F => if sub = 0 then some .jmp else if sub = 1 then some .endSeg else if sub = 2 then some .seta else none
  | 0x10 => if sub = 0 then some .lset else if sub = 1 then some .lend else none
  | _ => none

/-- The reserved fields of a form, as (lowest bit, width); each must be zero (R248). -/
def reservedOf (o : Op) : List (Nat × Nat) :=
  match o with
  | .nop => [(16, 43)]
  | .mma => [(0, 7)]
  | .ldw => [(0, 10)]
  | .mva => [(0, 2)]
  | .drn => [(0, 10)]
  | .vop fn => if fn = 0 ∨ fn = 1 then [(0, 6)] else []
  | .pack => [(0, 2)]
  | .unpack => [(0, 2)]
  | .str => [(56, 3), (0, 26)]
  | .sigAdd => [(0, 12)]
  | .sigSub => [(0, 12)]
  | .tak => [(56, 3), (0, 8)]
  | .watPost => []
  | .watBlock => []
  | .watWait => []
  | .fnc => [(0, 56)]
  | .fncWait => [(0, 56)]
  | .red => [(56, 3), (0, 31)]
  | .upd => [(56, 3), (0, 48)]
  | .lyr => [(0, 59)]
  | .dfw => [(56, 3), (0, 48)]
  | .jmp => [(0, 39)]
  | .endSeg => [(0, 56)]
  | .seta => [(0, 4)]
  | .lset => [(0, 34)]
  | .lend => [(0, 25)]

/-! ### Descriptor entries (R252) -/

/-- KIND of an entry. -/
def dKind (d : Nat) : Nat := bits d 124 4
/-- The K rows of a weight tile in a format: D of R75. -/
def depthOf (fmt : Nat) : Nat := if fmt = 3 then 64 else 128
/-- Whether a tag names FP8 or BF16 (R75). -/
def arrayFmt (t : Nat) : Bool := t = 1 || t = 2 || t = 3
/-- Whether two operand formats may meet in the array (R77). -/
def pairOk (a b : Nat) : Bool := arrayFmt a && arrayFmt b && ((a = 3) == (b = 3))

/-- The declared scale-table entry of a number, if one is in use (R59). -/
def scaleDecl (im : Image) (e : Nat) : Option ScaleDecl := im.scales.find? fun d => d.entry = e

/-- Whether a scale field suits an operand's format: an entry in use of that format, or zero for BF16 (R251). -/
def scaleOk (im : Image) (fmt e : Nat) : Bool :=
  if fmt = 3 then e = 0 else match scaleDecl im e with
    | some d => d.fmt = fmt
    | none => false

/-- The presented width the image declares for a station (R104). -/
def declWidth (im : Image) (g : Nat) : Nat := im.widths.getD g 256

/-- Whether an image declares a semaphore of its own module (R215). -/
def semDeclared (im : Image) (f s : Nat) : Bool := im.sems.any fun d => d.field = f && d.num = s
/-- Whether a semaphore is a gate (R354). -/
def isGate (im : Image) (f s : Nat) : Bool := im.sems.any fun d => d.field = f && d.num = s && d.gate

/-- A station-memory address in an entry: below 0x30_0000 and a multiple of 64 (R252). -/
def entryAddrOk (a : Nat) : Bool := decide (a < stSize) && a % 64 = 0

/-- The operand formats and scale entries of a SHAPE entry (R77, R251): at load they must suit each other; at issue formats that
may not meet are left to FORMAT_MISMATCH (R77). -/
def shapeFmtOk (load : Bool) (im : Image) (d : Nat) : Bool :=
  let fa := bits d 28 4
  let fw := bits d 32 4
  if pairOk fa fw then scaleOk im fa (bits d 36 13) && scaleOk im fw (bits d 49 13) else !load

/-- The shape of a SHAPE entry that an MMA may name (R78, R251). -/
def shapeMmaOk (im : Image) (g d : Nat) : Bool :=
  let fw := bits d 32 4
  dKind d = 1 && decide (bits d 8 8 < declWidth im g) && decide (bits d 16 8 ≤ depthOf fw) && decide (bits d 24 2 < 3)
    && bits d 26 2 = 0 && bits d 62 2 = 0 && bits d 96 28 = 0 && bits d 80 16 = 0 && bits d 64 16 % 64 = 0

/-- The shape of a SHAPE entry that an MVA may name (R107, R257). -/
def shapeMvaOk (d : Nat) : Bool :=
  let fw := bits d 32 4
  dKind d = 1 && decide (bits d 8 8 + 1 ≤ if fw = 3 then 128 else 256) && bits d 16 8 = 0 && decide (bits d 24 2 < 2)
    && bits d 26 2 = 0 && bits d 62 2 = 0 && bits d 96 28 = 0 && bits d 64 16 % 64 = 0

/-- A DRAIN entry (R97, R252). -/
def drainOk (im : Image) (g d : Nat) : Bool :=
  let n := bits d 8 8 + 1
  dKind d = 2 && decide (n ≤ declWidth im g) && bits d 17 15 = 0 && bits d 48 76 = 0 && bits d 32 16 % 64 = 0
    && decide ((if bit d 16 then 8 else 4) * n ≤ bits d 32 16)

/-- The declared tensor of a number. -/
def tensorOf (im : Image) (t : Nat) : Option TensorDecl := im.tensors.find? fun x => x.num = t
/-- The declared optimizer group of a number. -/
def groupOf (im : Image) (n : Nat) : Option OptGroup := im.groups.find? fun x => x.num = n
/-- The shard of a stage that this module holds (R140). -/
def shardMine (im : Image) (stage : Nat) : Option ShardDecl := im.shards.find? fun x => x.stage = stage && x.mine
/-- The entry of the reduction table of a number. -/
def redDecl (im : Image) (r : Nat) : Option RedDecl := im.reds.find? fun x => x.redno = r
/-- The channel table's entry of a number. -/
def channelDecl (im : Image) (n : Nat) : Option ChannelDecl := im.channels.find? fun x => x.num = n

/-- The clip fields of an UPDATE entry (R499): CLIP_EN on PREPARE and APPLY exactly for a group that clips, and CLIP_RED then names the
group's norm reduction. -/
def clipOk (im : Image) (gr : OptGroup) (d : Nat) : Bool :=
  if bit d 64 then decide (2 ≤ bits d 0 2) && decide (0 < gr.clipMax)
    && (redDecl im (bits d 65 12)).any fun r => r.norm = some gr.num
  else decide (bits d 0 2 < 2) || gr.clipMax = 0

/-- An UPDATE entry (R148, R252, R268, R499): tensor and group declared, blocks within the module's shard, CLIP_EN set
exactly for a group that clips and then naming its norm reduction. -/
def updateOk (im : Image) (f d : Nat) : Bool :=
  let pass := bits d 0 2
  match groupOf im (bits d 2 6), tensorOf im (bits d 8 16) with
  | some gr, some t =>
    match shardMine im t.stage with
    | some sh =>
      dKind d = 3 && bits d 102 22 = 0 && t.group = gr.num
        && decide (bits d 24 20 + bits d 44 20 + 1 ≤ sh.blocks)
        && clipOk im gr d
        && (pass ≠ 1 || (redDecl im (bits d 77 12)).isSome)
        && (bit d 89 = false || semDeclared im f (bits d 90 12))
    | none => false
  | _, _ => false

/-- A DEFERRED_A and DEFERRED_B pair (R126, R252). -/
def deferredOk (im : Image) (g a b : Nat) : Bool :=
  let f := g / 24
  let fa := bits b 26 4
  let fw := bits b 30 4
  dKind a = 4 && dKind b = 5 && bits a 112 12 = 0 && bits b 116 8 = 0 && decide (bits a 10 8 < declWidth im g)
    && pairOk fa fw && scaleOk im fa (bits b 0 13) && scaleOk im fw (bits b 13 13)
    && (bit a 32 || entryAddrOk (bits a 36 22)) && entryAddrOk (bits a 74 22) && bits a 58 16 % 64 = 0
    && bits a 96 16 % 64 = 0 && (bit a 34 = false || entryAddrOk (bits b 34 22)) && entryAddrOk (bits b 56 22)
    && (bit b 78 = false || (decide (0 < bits b 91 12) && semDeclared im f (bits b 79 12) && !isGate im f (bits b 79 12)))
    && (bit b 103 = false || semDeclared im f (bits b 104 12))

/-- SIG, TAK and WAT fields (R250, R214, R215): SELF with MODULE zero; a declared semaphore of the own module, named by SELF or by
its module ID; an assigned flow to another (R301); no TAK or SIG SUB on a gate (R354). -/
def semWordOk (im : Image) (own g module field sem : Nat) (self takes : Bool) : Bool :=
  if self || module = own then
    (!self || module = 0) && semDeclared im field sem && !(takes && isGate im field sem)
  else im.flows.any fun fl => fl.peer = module && fl.issuers.contains g

/-- The completion semaphore a word names, if it is enabled, is declared in the station's field (R215). -/
def finOk (im : Image) (g w en sem : Nat) : Bool := bit w en = false || semDeclared im (g / 24) (bits w sem 12)

/-- Whether a word passes every check that applies to one word and the descriptor entries it names, at load or at issue (R247).
`own` is the module's own ID; `desc` gives the station's descriptor entries. -/
def wordOk (load : Bool) (own : Nat) (im : Image) (desc : Nat → Nat) (g w : Nat) : Bool :=
  match opOf w with
  | none => false
  | some o =>
    (reservedOf o).all (fun p => bits w p.1 p.2 = 0) &&
    match o with
    | .nop => true
    | .mma => shapeMmaOk im g (desc (bits w 46 8)) && shapeFmtOk load im (desc (bits w 46 8)) && finOk im g w 19 7
    | .ldw => arrayFmt (bits w 52 4) &&
        (bit w 57 || decide ((if bits w 52 4 = 3 then 512 else 256) ≤ bits w 10 16))
    | .mva => shapeMvaOk (desc (bits w 39 8)) && shapeFmtOk load im (desc (bits w 39 8)) && finOk im g w 14 2
    | .drn => drainOk im g (desc (bits w 49 8)) && !(bit w 57 && bit (desc (bits w 49 8)) 16) && finOk im g w 22 10
    | .vop fn =>
      if fn = 0x05 then decide (bits w 0 7 < if bit w 52 then 128 else 64)
      else if fn = 0x03 then bit w 52 = false || bits w 16 16 = 0
      else true
    | .pack =>
      let fmt := bits w 48 4
      (fmt = 1 || fmt = 2 || fmt = 3 || fmt = 4) && decide (bits w 41 7 + 1 ≤ if bit w 57 then 128 else 64)
        && (if fmt = 1 ∨ fmt = 2 then (match scaleDecl im (bits w 28 13) with | some d => d.fmt = fmt && !d.dbuf | none => false)
            else bits w 28 13 = 0)
    | .unpack =>
      let fmt := bits w 48 4
      (fmt = 1 || fmt = 2 || fmt = 3 || fmt = 4) && decide (bits w 41 7 + 1 ≤ if bit w 57 then 128 else 64)
        && (if fmt = 1 ∨ fmt = 2 then (match scaleDecl im (bits w 28 13) with | some d => d.fmt = fmt | none => false)
            else bits w 28 13 = 0)
    | .str => true
    | .sigAdd => decide (0 < bits w 40 16) && semWordOk im own g (bits w 28 12) (bits w 25 3) (bits w 13 12) (bit w 12) false
    | .sigSub => decide (0 < bits w 40 16) && semWordOk im own g (bits w 28 12) (bits w 25 3) (bits w 13 12) (bit w 12) true
    | .tak => decide (0 < bits w 36 20) && semWordOk im own g (bits w 24 12) (bits w 21 3) (bits w 9 12) (bit w 8) true
    | .watPost => decide (0 < bits w 36 20) && semWordOk im own g (bits w 24 12) (bits w 21 3) (bits w 9 12) (bit w 8) false
    | .watBlock => decide (0 < bits w 36 20) && semWordOk im own g (bits w 24 12) (bits w 21 3) (bits w 9 12) (bit w 8) false
    | .watWait => true
    | .fnc => true
    | .fncWait => true
    | .red => (match redDecl im (bits w 44 12) with
        | some r => (match channelDecl im r.channel with | some ch => ch.field = g / 24 | none => false)
        | none => false) && finOk im g w 43 31
    | .upd => updateOk im (g / 24) (desc (bits w 48 8))
    | .lyr => true
    | .dfw => bits w 48 8 % 2 = 0 && deferredOk im g (desc (bits w 48 8)) (desc (bits w 48 8 + 1))
    | .jmp => decide (bits w 52 4 < 7)
    | .endSeg => true
    | .seta => true
    | .lset => decide (0 < bits w 34 20)
    | .lend => true

/-! ### Issue (R241, R253) -/

/-- Descriptor-table entry `e` of a station. -/
def descE (s : Station) (e : Nat) : Nat := tgetD s.desc e 0

/-- A station-memory address an instruction names (R249): base register plus a signed offset, modulo 2^24. -/
def namedAddr (s : Station) (ba ofs : Nat) : Nat := unsigned 24 (((tgetD s.ba ba 0 : Nat) : Int) + signed 22 ofs)

/-- An MVA address: base register plus 64 times a signed 8-bit offset (R249). -/
def mvaAddr (s : Station) (ba ofs : Nat) : Nat := unsigned 24 (((tgetD s.ba ba 0 : Nat) : Int) + 64 * signed 8 ofs)

/-- The first address among rows of `n` bytes that is not a multiple of `al`, else the first byte at or above
0x30_0000 (R249), if there is one. -/
def addrFault (rows : List Nat) (n al : Nat) : Option Nat :=
  match rows.find? (fun a => a % al ≠ 0) with
  | some a => some a
  | none => (rows.find? fun a => stSize < a + n).map fun a => max a stSize

/-- The word at PC, if the sequencer stands before an instruction it may issue: a segment runs, nothing holds it
(R243, R253). -/
def ready (m : Memory) (c : Core) (g : Nat) : Option Nat :=
  let q := (stn c g).seq
  if (q.state = .running || q.state = .waiting) && q.hold = .free then some (imemWord m g q.pc) else none

/-- The checks of R247 at issue: a load-checked word passes; with no image there is nothing to check against. -/
def issueOk (c : Core) (g w : Nat) : Bool :=
  match c.alm.image with
  | some im => wordOk false (ownMod c) im (descE (stn c g)) g w
  | none => (opOf w).isSome

/-- The word at PC, if it is the given instruction, passes the checks, and the sequencer may issue. -/
def atPc (m : Memory) (c : Core) (g : Nat) (o : Op) : Option Nat :=
  match ready m c g with
  | some w => if opOf w = some o ∧ issueOk c g w then some w else none
  | none => none

/-- A station's sequencer record changed. -/
def modSeq (c : Core) (g : Nat) (f : Seq → Seq) : Core :=
  setStn c g { stn c g with seq := f (stn c g).seq }

/-- The sequencer waits on an issue condition, the lowest unmet row of R253. -/
def waitOn (c : Core) (g row : Nat) : Core := modSeq c g fun q => { q with state := .waiting, waitCause := row, left := 0 }

/-- Cycles that held a sequencer have passed: SEQ_WAIT_CYCLES counts them (R275). -/
def waited (c : Core) (n : Nat) : Core := if n = 0 then c else addObj c Key.seqWaitCycles n

/-- The instruction issues (R253): counted, and PC names the next one. The cycles that still held the sequencer have passed. -/
def issued (c : Core) (g : Nat) : Core :=
  addObj (modSeq (waited c (stn c g).seq.left) g fun q =>
      { q with state := .running, waitCause := 0, pc := (q.pc + 1) % 8192, issued := q.issued + 1,
               waitCycles := q.waitCycles + q.left, left := 0 })
    Key.instrIssued 1

/-- The sequencer is held after issue (R253). -/
def holdSeq (c : Core) (g row : Nat) (h : Hold) : Core :=
  modSeq c g fun q => { q with state := .waiting, waitCause := row, hold := h }

/-- The sequencer is held after issue for a number of cycles (R253 rows 9, 16, 17). -/
def holdCycles (c : Core) (g row n : Nat) : Core :=
  if n = 0 then c else modSeq c g fun q => { q with state := .waiting, waitCause := row, left := n }

/-- A hold ends (R253). -/
def releaseSeq (c : Core) (g : Nat) : Core :=
  modSeq c g fun q => { q with state := if q.state = .waiting then .running else q.state, waitCause := 0, hold := .free }

/-- LAST_STATUS is written (R254). -/
def lastStatus (c : Core) (g : Nat) (s : Status) : Core := modSeq c g fun q => { q with lastStatus := s.code }

/-- SIG_LOST is set (R254). -/
def sigLost (c : Core) (g : Nat) : Core := addObj (modSeq c g fun q => { q with sigLost := true }) Key.sigLostCount 1

/-- A sequencer enters FAULTED (R245). -/
def faultSeq (c : Core) (g pc kind : Nat) : Core :=
  if (stn c g).seq.state = .faulted then c
  else
    let c := modSeq c g fun q => { q with state := .faulted, waitCause := 0, hold := .free, faultPc := pc, faultKind := kind }
    let c := { c with alm := { c.alm with stationFault := (g, kind, pc) } }
    addObj c Key.stationFaults 1

/-- ILLEGAL_INSTRUCTION (R247). -/
def illegal (c : Core) (g : Nat) : Core :=
  let pc := (stn c g).seq.pc
  faultSeq (raise c 0x0803 .fault g 0 [g, pc]) g pc 1

/-- ADDRESS_FAULT of an instruction (R249). -/
def instrAddrFault (c : Core) (g a : Nat) : Core :=
  faultSeq (raise c 0x0702 .fault g 0 [g, 0xFF, 0, a]) g (stn c g).seq.pc 2

/-- The first uncorrectable word among rows of the station's memory that an instruction reads (R183). -/
def rowsBad (c : Core) (g : Nat) (rows : List Nat) (n : Nat) : Option Nat := eccBad c (rows.map fun a => stBase g + a) n

/-- MEM_UNCORRECTABLE of the instruction at an address (R183, R245): it has no effect; FAULT_KIND gives it no code. -/
def instrMemFault (c : Core) (g pc x : Nat) : Core := faultSeq (memError c g 0 x) g pc 0

/-- What stops an instruction that reads rows of `n` bytes of the station's memory: an address rule (R249), or a word that cannot be
corrected (R183). -/
def readStop (c : Core) (g : Nat) (rows : List Nat) (n al : Nat) : Option Core :=
  match addrFault rows n al with
  | some a => some (instrAddrFault c g a)
  | none => (rowsBad c g rows n).map (instrMemFault c g (stn c g).seq.pc)

/-- FORMAT_MISMATCH (R77) of the instruction at an address. -/
def formatMismatch (c : Core) (g pc : Nat) : Core := faultSeq (raise c 0x0801 .fault g 0 [g, pc]) g pc 3

/-- A refused sync operation (R264, R497): FAULTED with kind 5. The event is the refusal's at the home; where it has none
the fault stop is asked for here with event code 0 (log entry 12). -/
def syncRefused (c : Core) (g pc : Nat) : Core :=
  askStop (faultSeq c g pc 5) g

/-- An instruction that issues as soon as it stands at PC; `f` is its effect before PC moves on. -/
def issueNow (m : Memory) (c : Core) (g : Nat) (o : Op) (f : Nat → Core → Core) : Core :=
  match atPc m c g o with
  | some w => issued (f w c) g
  | none => c

end Sys2Proof.Machine
end

