-- ==== Sys2Proof/Machine/Operands.lean ====
section
/-! DEFINITION. Operands: elements of a format in bytes, vector-register lanes, scale exponents in force, conversions
into scaled formats with their counters (R42, R50 to R53, R60 to R64, R259). -/

namespace Sys2Proof.Machine

/-- The elements of `w` bytes that a byte string holds, little-endian. -/
def elems (w : Nat) (n : Nat) (bs : Bytes) : List Nat := (List.range n).map fun i => leNat ((bs.drop (i * w)).take w)

/-- Elements as bytes. -/
def elemBytes (w : Nat) (xs : List Nat) : Bytes := (xs.map (leBytes w)).flatten

/-- Lanes of a vector register: 64 of 4 bytes, or 128 of 2 (R259). -/
def laneCount (w : Bool) : Nat := if w then 128 else 64
/-- Bytes of a lane. -/
def laneBytes (w : Bool) : Nat := if w then 2 else 4
/-- The lane format. -/
def laneFmt (w : Bool) : Fmt := if w then bf16 else fp32
/-- The lane format's tag (R38). -/
def laneTag (w : Bool) : Nat := if w then 3 else 4

/-- Vector register `v` (R259). -/
def vrBytes (s : Station) (v : Nat) : Bytes := tgetD s.vr v (List.replicate 256 0)
/-- The lanes of vector register `v`. -/
def lanes (s : Station) (w : Bool) (v : Nat) : List Nat := elems (laneBytes w) (laneCount w) (vrBytes s v)
/-- Vector register `v` of station `g` written as bytes. -/
def setVr (c : Core) (g v : Nat) (bs : Bytes) : Core := setStn c g { stn c g with vr := tset (stn c g).vr v bs }
/-- Vector register `v` of station `g` written lane by lane. -/
def setLanes (c : Core) (g : Nat) (w : Bool) (v : Nat) (xs : List Nat) : Core := setVr c g v (elemBytes (laneBytes w) xs)

/-- An entry of the scale table that no image has declared. -/
def ScaleEntry.blank : ScaleEntry :=
  { fmt := 0, h := 1, margin := 0, shared := false, dbuf := false, scaleA := 0, scaleB := 0, hist := [], ptr := 0,
    active := false, satCount := 0, pend := [], nan := [], satRaised := false, amax := none }

/-- Entry `e` of the scale table. -/
def scaleE (c : Core) (e : Nat) : ScaleEntry := tgetD c.scale e ScaleEntry.blank
/-- Entry `e` replaced. -/
def setScale (c : Core) (e : Nat) (x : ScaleEntry) : Core := { c with scale := tset c.scale e x }

/-- The scale exponent readers use (R61): that of the active buffer for a double-buffered entry. -/
def scaleRead (c : Core) (e : Nat) : Int :=
  let x := scaleE c e
  if x.dbuf && x.active then x.scaleB else x.scaleA

/-- The scale exponent of the idle buffer (R61, R145). -/
def scaleIdle (c : Core) (e : Nat) : Int :=
  let x := scaleE c e
  if x.active then x.scaleA else x.scaleB

/-- The exponent the array applies to an operand (R80): none in BF16. -/
def operandScale (c : Core) (fmt e : Nat) : Int := if fmt = 3 then 0 else scaleRead c e

/-- What a conversion under a scale entry leaves: pending amax rounded up to FP32, NaN mark and count, saturation counts
and the first SCALE_SATURATE (R53, R64). `field` is the field of the converting unit `src`. -/
def noteConversion (c : Core) (field src e tag : Nat) (v : FVal) (sat : Bool) : Core :=
  let x := scaleE c e
  let x := match v with
    | .fin _ m ex => { x with pend := tset x.pend field (max (tgetD x.pend field 0) (ruMag 23 (-126) m ex)) }
    | .nan _ => { x with nan := tset x.nan field true }
    | .inf _ => x
  let c := if v.isNan then addObj c Key.nanConverted 1 else c
  if sat then
    let c := setScale c e { x with satCount := min (x.satCount + 1) (2 ^ 32 - 1), satRaised := true }
    let c := addObj c (if tag = 1 then Key.satE4m3 else Key.satE5m2) 1
    if x.satRaised then c else raise c 0x0901 .report src 0 [e, obj c Key.stepNumber, src]
  else setScale c e x

/-- A value converted into E4M3 or E5M2 under a scale exponent (R50, R61), with what the conversion leaves. -/
def convScaled (c : Core) (field src e tag : Nat) (k : Int) (v : FVal) : Core × Nat :=
  let r := narrow tag (v.scale k)
  (noteConversion c field src e tag v r.2, r.1)

/-- A list of values converted in order. -/
def convScaledAll (c : Core) (field src e tag : Nat) (k : Int) (vs : List FVal) : Core × List Nat :=
  vs.foldl (fun (acc : Core × List Nat) v =>
    let r := convScaled acc.1 field src e tag k v
    (r.1, acc.2 ++ [r.2])) (c, [])

/-- A lane packed into BF16 or FP32: a pattern of its own format is copied (R50, R262). -/
def packPlain (w : Bool) (tag p : Nat) : Nat :=
  if tag = laneTag w then p else (laneFmt w).conv (if tag = 3 then bf16 else fp32) p

/-- An element unpacked into a lane (R50, R262): descaled exactly and rounded once, or copied within its own format. -/
def unpackElem (w : Bool) (tag : Nat) (k : Int) (p : Nat) : Nat :=
  if tag = laneTag w then p
  else if tag = 1 ∨ tag = 2 then (laneFmt w).enc ((decTag tag p).scale (-k))
  else (if tag = 3 then bf16 else fp32).conv (laneFmt w) p

end Sys2Proof.Machine
end

