-- ==== Sys2Proof/Machine/Array.lean ====
section
/-! DEFINITION. The matrix array, accumulators, matrix-vector path and drains (chapter 03; R255 to R258). -/

namespace Sys2Proof.Machine

/-! ### The segment window (R81 to R86) -/

/-- The fraction width φ of a format's significand (R81). -/
def phi (fmt : Nat) : Int := if fmt = 1 then 3 else if fmt = 2 then 2 else 7

/-- What one row of a segment holds: nothing (a zero product), a NaN case with its sign, an infinity with the
product's sign, or a product's sign, significand and exponent (R82, R86). -/
inductive Product where
  | none
  | nan (neg : Bool)
  | inf (neg : Bool)
  | val (neg : Bool) (sig : Nat) (x : Int)
  deriving DecidableEq, Repr

/-- The product of a streamed element and a weight (R82, R86). -/
def product (fa fw a w : Nat) : Product :=
  match decTag fa a, decTag fw w with
  | .nan n, _ => .nan n
  | _, .nan n => .nan n
  | .inf n, .inf k => .inf (n != k)
  | .inf n, .fin k m _ => if m = 0 then .nan false else .inf (n != k)
  | .fin k m _, .inf n => if m = 0 then .nan false else .inf (n != k)
  | .fin n m e, .fin k m' e' => if m = 0 ∨ m' = 0 then .none else .val (n != k) (m * m') (e + phi fa + e' + phi fw)

/-- The first NaN case of a segment, by increasing row (R86). -/
def firstNan (ps : List Product) : Option Bool :=
  ps.findSome? fun p => match p with | .nan n => some n | _ => none

/-- Whether a segment holds an infinity of a sign. -/
def hasInf (ps : List Product) (neg : Bool) : Bool := ps.any fun p => p == .inf neg

/-- The alignment exponent E_max of a segment, if it has an included product (R82). -/
def eMax (ps : List Product) : Option Int :=
  ps.foldl (fun acc p => match p, acc with
    | .val _ _ x, some y => some (max x y)
    | .val _ _ x, none => some x
    | _, _ => acc) none

/-- The segment window W (R83): every product truncated on its own. -/
def window (frac : Int) (ph : Int) (em : Int) (ps : List Product) : Int :=
  ps.foldl (fun acc p => match p with
    | .val n s x => acc + floorAt n s (x - ph + frac - em)
    | _ => acc) 0

/-- Promotion of a segment to FP32 (R84, R86). -/
def promote (fa fw : Nat) (ea ew : Int) (ps : List Product) : Nat :=
  match firstNan ps with
  | some n => fp32.qnan n
  | none =>
    if hasInf ps false && hasInf ps true then fp32.qnan false
    else if hasInf ps false then fp32.infPat
    else if hasInf ps true then fp32.infPat + fp32.signBit
    else match eMax ps with
      | none => 0
      | some em =>
        let frac : Int := if fa = 3 then 18 else 13
        let w := window frac (phi fa + phi fw) em ps
        if w = 0 then 0 else fp32.enc (.fin (decide (w < 0)) w.natAbs (em - frac - ea - ew))

/-- Rows of a segment (R81). -/
def segRows (fa : Nat) : Nat := if fa = 3 then 8 else 16

/-- The column result y of one streamed row against one column (R85): eight segments, always added in order. -/
def column (fa fw : Nat) (ea ew : Int) (as ws : List Nat) : Nat :=
  let ps := List.zipWith (product fa fw) as ws
  let v := fun j => promote fa fw ea ew ((ps.drop (j * segRows fa)).take (segRows fa))
  (List.range 7).foldl (fun acc j => fp32.add acc (v (j + 1))) (v 0)

/-- Products excluded as zero among those of a row and a column (R102). -/
def gatedCount (fa fw : Nat) (as ws : List Nat) : Nat :=
  (List.zipWith (fun a w => b2n ((decTag fa a).isZero || (decTag fw w).isZero)) as ws).sum

/-! ### Tiles and planes -/

/-- Output tile `t` of a station. -/
def tileOf (s : Station) (t : Nat) : Tile := if t = 0 then s.arr.tile0 else s.arr.tile1
/-- Output tile `t` replaced. -/
def setTile (c : Core) (g t : Nat) (x : Tile) : Core :=
  let s := stn c g
  setStn c g { s with arr := if t = 0 then { s.arr with tile0 := x } else { s.arr with tile1 := x } }
/-- Plane `p` of a station. -/
def planeOf (s : Station) (p : Nat) : Plane := if p = 0 then s.arr.plane0 else s.arr.plane1
/-- Plane `p` replaced. -/
def setPlane (c : Core) (g p : Nat) (x : Plane) : Core :=
  let s := stn c g
  setStn c g { s with arr := if p = 0 then { s.arr with plane0 := x } else { s.arr with plane1 := x } }
/-- The station's array changed. -/
def modArr (c : Core) (g : Nat) (f : ArrayUnit → ArrayUnit) : Core := setStn c g { stn c g with arr := f (stn c g).arr }

/-- The weight at K row `k` and column `n` of a plane (R72, R76). -/
def weight (p : Memory) (fmt k n : Nat) : Nat :=
  if fmt = 3 then (mread p (2 * k * 256 + n)).toNat * 256 + (mread p ((2 * k + 1) * 256 + n)).toNat
  else (mread p (k * 256 + n)).toNat

/-- A column of a plane over K rows. -/
def weightCol (p : Memory) (fmt k n : Nat) : List Nat := (List.range k).map fun i => weight p fmt i n

/-- A new transfer number of a station, outstanding (R222). -/
def newXfer (c : Core) (g : Nat) : Nat × Core :=
  let s := stn c g
  (s.nextX, setStn c g { s with nextX := s.nextX + 1, openX := s.openX ++ [s.nextX] })

/-- A transfer is acknowledged. -/
def closeXfer (c : Core) (g x : Nat) : Core :=
  setStn c g { stn c g with openX := (stn c g).openX.filter fun y => y ≠ x }

/-- A transfer can never be acknowledged (R267, R303). -/
def loseXfer (c : Core) (g x : Nat) : Core :=
  setStn c g { stn c g with openX := (stn c g).openX.filter (fun y => y ≠ x), lostX := (stn c g).lostX ++ [x] }

/-- A write to an idle working copy: a fence over it is due (R30, R163). -/
def idleWrite (c : Core) (g : Nat) : Core :=
  let t := newXfer c g
  let c := closeXfer t.2 g t.1
  setStn c g { stn c g with idleX := some t.1 }

/-! ### MMA -/

/-- The fields of a SHAPE entry an MMA uses (R252, R255). -/
structure Shape where
  m : Nat
  n : Nat
  k : Nat
  mode : AddMode
  fa : Nat
  fw : Nat
  sa : Nat
  sw : Nat
  stride : Nat

/-- The add mode of a code (R252). -/
def addModeOf (x : Nat) : AddMode := if x = 0 then .overwrite else if x = 1 then .accumulate else .compensate

/-- A SHAPE entry read as an MMA's (R252). -/
def shapeOf (d : Nat) : Shape :=
  { m := bits d 0 8 + 1, n := bits d 8 8 + 1, k := bits d 16 8, mode := addModeOf (bits d 24 2), fa := bits d 28 4,
    fw := bits d 32 4, sa := bits d 36 13, sw := bits d 49 13, stride := bits d 64 16 }

/-- The rows an MMA puts in flight (R85, R88, R96, R101) from its streamed rows and plane. -/
def mmaRows (c : Core) (h : Shape) (plane : Memory) (rows : List (List Nat)) (first : Nat) (mode : AddMode)
    (last : Bool) (fin : Option (Nat × Nat)) : List RowUpd :=
  let ea := operandScale c h.fa h.sa
  let ew := operandScale c h.fw h.sw
  rows.mapIdx fun i as =>
    let vals := if h.k = 0 then (if mode = .overwrite then List.replicate h.n 0 else [])
      else (List.range h.n).map fun n => column h.fa h.fw ea ew as (weightCol plane h.fw h.k n)
    { row := first + i, mode := mode, vals := vals, zero := h.k = 0, last := last && first + i + 1 = h.m,
      fin := if first + i + 1 = h.m then fin else none }

/-- The array's product counters for streamed rows (R106): total and gated, exact. -/
def countProducts (c : Core) (h : Shape) (plane : Memory) (rows : List (List Nat)) : Core :=
  let gated := (rows.map fun as =>
    ((List.range h.n).map fun n => gatedCount h.fa h.fw as (weightCol plane h.fw h.k n)).sum).sum
  let c := setObj c Key.productsTotal (obj c Key.productsTotal + rows.length * h.n * h.k)
  setObj c Key.productsGated (obj c Key.productsGated + gated)

/-- The operand elements of a 128-byte streamed row (R72, R76). -/
def rowElems (fmt k : Nat) (bs : Bytes) : List Nat := elems (tagBytes fmt) k bs

/-- Rows go into flight in a tile (R96). -/
def addInflight (c : Core) (g t : Nat) (rs : List RowUpd) : Core :=
  let x := tileOf (stn c g) t
  setTile c g t { x with inflight := x.inflight ++ rs }

/-- Whether the tile is OPEN (R96). -/
def isOpen (x : Tile) : Bool := x.state = .open

/-- The rows of a Carousel buffer that the station takes and has not used, in order (R117). -/
def takenRows (b : List OpRow) : List OpRow := b.filter fun r => r.hop % max 1 r.sigma = 0 && !r.used

/-- The rows that are there of the tile at the head of a buffer: of the first row the station takes (R118). -/
def headRows (b : List OpRow) : List OpRow :=
  match takenRows b with
  | [] => []
  | r :: rest => (r :: rest).filter fun q => q.tile = r.tile

/-- The tile at the head of a buffer, if all its rows are there (R118). -/
def headTile (b : List OpRow) : Option (List OpRow) :=
  match headRows b with
  | [] => none
  | r :: rest => if (r :: rest).length = r.rows then some (r :: rest) else none

/-- Whether a row may leave its buffer (R117): forwarded or at its last station, and used where it is taken. -/
def rowDone (r : OpRow) : Bool :=
  (r.fwd || r.hop = r.h) && (r.used || r.hop % max 1 r.sigma ≠ 0)

/-- The first `n` rows of the head tile are marked used; rows with nothing left to do leave (R117). -/
def useRows (b : List OpRow) (n : Nat) : List OpRow :=
  let head := ((headRows b).headD ⟨(0, 0), 0, 0, 0, 0, 0, 0, [], false, false⟩).tile
  let f := b.foldl (fun (acc : List OpRow × Nat) r =>
    if 0 < acc.2 ∧ r.tile = head ∧ r.hop % max 1 r.sigma = 0 ∧ !r.used then (acc.1 ++ [{ r with used := true }], acc.2 - 1)
    else (acc.1 ++ [r], acc.2)) ([], n)
  f.1.filter fun r => !rowDone r

/-- The completion a word asks for: its instruction address and semaphore (R497). -/
def finOf (w pc en sem : Nat) : Option (Nat × Nat) := if bit w en then some (pc, bits w sem 12) else none

/-- A plane's tag disagrees with a format (R256). -/
def tagClash (p : Plane) (fmt : Nat) : Bool := match p.tag with | some t => t ≠ fmt | none => false

/-! ### K-split groups (R91 to R93) -/

/-- The station at a distance clockwise in the loop of a station (R111). -/
def atDistance (l g d : Nat) : Nat := g / l * l + (g % l + d) % l

/-- Whether a crossing between neighbouring fields has stopped (R401). -/
def crossStopped (c : Core) (a b : Nat) : Bool := c.clk.slips.contains (a * 8 + b) || c.clk.slips.contains (b * 8 + a)

/-- Whether the link from a station to its clockwise neighbour in loops of `l` passes a stopped crossing (R397, R401): between two
fields their crossing, on the closing link of a loop of 96 every crossing of its row (log entry 119). -/
def hopStopped (c : Core) (l g : Nat) : Bool :=
  let a := g / 24
  let b := atDistance l g 1 / 24
  if a = b then false
  else if l = 96 ∧ b + 3 = a then (List.range 3).any fun i => crossStopped c (b + i) (b + i + 1)
  else crossStopped c a b

/-- Whether the way over `n` links clockwise from a station passes a stopped crossing. -/
def wayStopped (c : Core) (l g n : Nat) : Bool := (List.range n).any fun i => hopStopped c l (atDistance l g i)

/-- The distance from a station clockwise to another of the same loop. -/
def distanceTo (l a b : Nat) : Nat := (b % l + l - a % l) % l

/-- The distances whose partials the station at distance `d` of a group adds, in order (R93): an owner's, a sub-group head's, or
none. -/
def collectOrder (k : KSplit) (d : Nat) : List Nat :=
  if d = 0 then
    if k.s ≤ 24 then (List.range (k.s - 1)).map (· + 1)
    else (List.range 23).map (· + 1) ++ (List.range (k.s / 24 - 1)).map fun i => 24 * (i + 1)
  else if 24 < k.s ∧ d % 24 = 0 then (List.range 23).map fun i => d + i + 1
  else []

/-- The place of a station in a group, if it belongs to it. -/
def placeIn (l g : Nat) (k : KSplit) : Option Nat :=
  if g / l = k.owner / l ∧ distanceTo l k.owner g < k.s then some (distanceTo l k.owner g) else none

/-- The group to which the mapping counts the MMA at an instruction address, with the station's distance (log entry 13). -/
def groupAt (im : Image) (l g pc : Nat) : Option (Nat × Nat) :=
  im.ksplits.zipIdx.findSome? fun p => match placeIn l g p.1 with
    | some d => if (p.1.runs.getD d []).contains pc then some (p.2, d) else none
    | none => none

/-- The group that an MMA of a station counts to, and whether as a LAST one it opens a collection there (R93, R95). -/
def mmaGroup (c : Core) (g : Nat) (last : Bool) : Option Nat × Bool :=
  match c.alm.image with
  | none => (none, false)
  | some im => match groupAt im (max 1 (obj c Key.loopLength)) g (stn c g).seq.pc with
    | none => (none, false)
    | some (k, d) => (some k, last && match im.ksplits[k]? with
      | some x => !(collectOrder x d).isEmpty
      | none => false)

/-! ### The audit's sample (R67) -/

/-- Whether MMA number `n` of station `g` is sampled (R67): bit 63 marks a deferred-W MMA. -/
def sampled (c : Core) (g n : Nat) : Bool :=
  let k := obj c Key.auditK
  let i := bits n 0 63 + 40503 * g + (if bit n 63 then 20269 else 0)
  decide (0 < k) && i % 2 ^ k = 0

/-- The FP32 results of a sampled MMA are kept for its check, row after row (R69). -/
def keepAudit (c : Core) (g n : Nat) (h : Shape) (rows : List RowUpd) : Core :=
  if sampled c g n then
    let y := rows.map fun r => if h.k = 0 then List.replicate h.n 0 else r.vals
    modArr c g fun a => { a with audits := tset a.audits n (tgetD a.audits n [] ++ y) }
  else c

/-- The sequencer's MMA had waited behind a deferred-W chunk for less than its rows (R129, R138). -/
def afterChunk (c : Core) (g : Nat) : Core :=
  let n := (stn c g).arr.chunk
  if n = 0 then c
  else
    let d := draw (modArr c g fun a => { a with chunk := 0 })
    addObj d.2 Key.dfwPreemptWait (Config.freeNat d.1 % n)

/-- The MMA `w` issues with its streamed rows (R255). Its M cycles at the west edge count in ARRAY_BUSY_CYCLES, those of a K = 0 MMA
likewise (R106; log entry 107). -/
def mmaIssue (c : Core) (g w : Nat) (h : Shape) (rows : List (List Nat)) : Core :=
  let s := stn c g
  let t := bits w 56 1
  let p := planeOf s (bits w 55 1)
  let grp := mmaGroup c g (bit w 54)
  let upd := mmaRows c h p.data rows 0 h.mode grp.2 (finOf w s.seq.pc 19 7)
  let c := countProducts (afterChunk c g) h p.data rows
  let c := addObj c Key.arrayBusyCycles h.m
  let c := addInflight c g t upd
  let x := tileOf (stn c g) t
  let opens := match grp.1 with
    | some k => if grp.2 then [{ group := k, opened := false, got := 0 }] else []
    | none => []
  let c := setTile c g t { x with group := grp.1, collect := x.collect ++ opens }
  let c := if h.fa = 3 then c
    else modArr (keepAudit c g (stn c g).arr.seqMma h upd) g fun a => { a with seqMma := a.seqMma + 1 }
  issued c g

/-- The issue condition that an MMA still awaits, the lowest row of R253: its plane, its tile, the tile on the ring. -/
def mmaWaits (s : Station) (w : Nat) : Option Nat :=
  if (match s.arr.load with | some l => decide (l.plane = bits w 55 1) | none => false) then some 2
  else if !isOpen (tileOf s (bits w 56 1)) then some 3
  else if bit w 57 && (headTile s.ring.crit).isNone then some 4
  else none

/-- MMA at PC (R253, R255): conditions, then faults, then the rows go into flight. A K = 0 MMA reads no operand row and no plane
(R101); on the ring it still takes the head tile, and a plane's tag is still compared (log entry 90). -/
def mmaAt (m : Memory) (g w : Nat) (c : Core) : Core :=
  let s := stn c g
  let h := shapeOf (descE s (bits w 46 8))
  let p := bits w 55 1
  match mmaWaits s w with
  | some row => waitOn c g row
  | none =>
  if !pairOk h.fa h.fw then formatMismatch c g s.seq.pc
  else if bit w 57 then
    match headTile s.ring.crit with
    | none => waitOn c g 4
    | some rows =>
      if rows.length ≠ h.m then
        faultSeq (raise c 0x0802 .fault g 0 [g, s.seq.pc, rows.length]) g s.seq.pc 4
      else if (rows.any fun r => r.fmt ≠ h.fa) || tagClash (planeOf s p) h.fw then formatMismatch c g s.seq.pc
      else
        let c := setStn c g { s with ring := { s.ring with crit := useRows s.ring.crit h.m } }
        mmaIssue c g w h (rows.map fun r => rowElems h.fa h.k r.data)
  else if tagClash (planeOf s p) h.fw then formatMismatch c g s.seq.pc
  else
    let base := namedAddr s (bits w 42 4) (bits w 20 22)
    let addrs := (List.range h.m).map fun i => base + i * h.stride
    let n := h.k * tagBytes h.fa
    match (if h.k = 0 then (if base % 64 = 0 then none else some (instrAddrFault c g base)) else readStop c g addrs n 64) with
    | some c => c
    | none =>
      let c := addrs.foldl (fun c a => vigilRead c g (stBase g + a) n 1) c
      mmaIssue c g w h (addrs.map fun a => rowElems h.fa h.k (mreadN m (stBase g + a) n))

/-- MMA (R255). -/
def execMma (g : Nat) (s : State) : Out := inRange g 192 <| onCoreMem (fun m c =>
  match atPc m c g .mma with
  | some w => mmaAt m g w c
  | none => c) s

/-- One entry's update by a result (R88, R101). -/
def enterEntry (mode : AddMode) (s k y : Nat) : Nat × Nat :=
  match mode with
  | .overwrite => (y, 0)
  | .accumulate => (fp32.add s y, k)
  | .compensate =>
    let t := fp32.add s y
    if (fp32.dec t).isFin then
      let z := fp32.sub t s
      let err := fp32.add (fp32.sub s (fp32.sub t z)) (fp32.sub y z)
      (t, fp32.add k err)
    else (t, 0)

/-- A row's results written into its tile. -/
def enterRow (m : Memory) (g t : Nat) (r : RowUpd) : Memory :=
  r.vals.foldlIdx (fun i m y =>
    let a := accAddr g t r.row i
    let e := enterEntry r.mode (mnum m a 4) (mnum m (a + 4) 4) y
    mwriteN m a (leBytes 4 e.1 ++ leBytes 4 e.2)) m

/-- A completion signal of a station unit (R497). -/
def complete (c : Core) (g : Nat) (fin : Option (Nat × Nat)) : Core :=
  match fin with
  | some (pc, s) => unitSignal c (g / 24) s g (.comp g pc)
  | none => c

/-- The tile that the row at the front of the partial buffer may enter now (R95, R98): OPEN, the oldest collection there being
of its group, and the LAST MMA retired. -/
def partialTile (s : Station) (k : Nat) : Option Nat :=
  [0, 1].find? fun t => isOpen (tileOf s t) && match (tileOf s t).collect with
    | x :: _ => x.opened && x.group = k
    | [] => false

/-- The add mode and the number of partials of a collection (R92, R93). -/
def groupOf? (c : Core) (g k : Nat) : Option (AddMode × Nat) :=
  match c.alm.image with
  | none => none
  | some im => match im.ksplits[k]? with
    | none => none
    | some x => (placeIn (max 1 (obj c Key.loopLength)) g x).map fun d => (addModeOf x.mode, (collectOrder x d).length)

/-- A collection after a row of a partial: one more partial is whole, and the collection ends with its last one. -/
def collectStep (l : List Collect) (total : Nat) (ends : Bool) : List Collect :=
  match l with
  | [] => []
  | x :: r => if !ends then x :: r else if x.got + 1 < total then { x with got := x.got + 1 } :: r else r

/-- Rows that wait in the partial buffer enter their tile, in order, as far as they may (R95, R96, R98). -/
def admitRows (c : Core) (g : Nat) : Nat → Core
  | 0 => c
  | n + 1 =>
    match (stn c g).ring.pbuf with
    | [] => c
    | (k, r) :: rest =>
      match partialTile (stn c g) k, groupOf? c g k with
      | some t, some (mode, total) =>
        let x := tileOf (stn c g) t
        let c := setTile c g t { x with inflight := x.inflight ++ [{ r with mode := mode, last := false }],
                                        collect := collectStep x.collect total r.last }
        admitRows (setStn c g { stn c g with ring := { (stn c g).ring with pbuf := rest } }) g n
      | _, _ => c

/-- The oldest collection that stands unopened is opened: its LAST MMA has retired (R95). -/
def openCollect : List Collect → List Collect
  | [] => []
  | x :: r => if x.opened then x :: openCollect r else { x with opened := true } :: r

/-- MMA_ROW_RETIRE (R96): the row first in flight enters the tile; after the LAST MMA's last row the partials that wait
in the link follow (R95). -/
def execMmaRowRetire (g t : Nat) (s : State) : Out := inRange g 192 <| inRange t 2 <| onBoth (fun m c =>
  let x := tileOf (stn c g) t
  match x.inflight with
  | [] => (c, m)
  | r :: rest =>
    let c := setTile c g t { x with inflight := rest, collect := if r.last then openCollect x.collect else x.collect }
    (complete (admitRows c g 16) g r.fin, enterRow m g t r)) s

/-! ### LDW -/

/-- The source rows of a weight tile in station memory (R256). -/
def ldwRows (base stride fmt : Nat) : List Nat :=
  (List.range (if fmt = 3 then 64 else 128)).map fun k => base + k * stride

/-- A 32 KiB weight tile, row after row as it lies in memory, placed into a plane (R76, R256): bytes of columns at or above
the presented width are discarded. -/
def placeTile (fmt width : Nat) (bs : Bytes) : Memory :=
  bs.foldlIdx (fun i p b =>
    let k := if fmt = 3 then 2 * (i / 512) + (if i % 2 = 0 then 1 else 0) else i / 256
    let n := if fmt = 3 then i % 512 / 2 else i % 256
    if n < width then mwrite p (k * 256 + n) b else p) []

/-- The presented width in force (R103 to R105): the image's, which equals the station's. -/
def widthOf (c : Core) (g : Nat) : Nat := match c.alm.image with | some im => declWidth im g | none => 256

/-- LDW (R253, R256): the load enters the weight-load port. -/
def execLdw (g : Nat) (s : State) : Out := inRange g 192 <| onCoreMem (fun m c =>
  match atPc m c g .ldw with
  | none => c
  | some w =>
    let st := stn c g
    let fmt := bits w 52 4
    if st.arr.load.isSome then waitOn c g 8
    else
      let base := namedAddr st (bits w 48 4) (bits w 26 22)
      let stride := bits w 10 16
      let clash := match st.ring.wbuf with | some b => bit w 57 && b.fmt ≠ fmt | none => false
      match (if bit w 57 then none else addrFault (ldwRows base stride fmt) (if fmt = 3 then 512 else 256) 64) with
      | some a => instrAddrFault c g a
      | none =>
        if clash then formatMismatch c g st.seq.pc
        else
          let x := if bit w 57 then (0, c) else newXfer c g
          let l : PlaneLoad := { plane := bits w 56 1, fmt := fmt, src := if bit w 57 then none else some (base, stride),
                                 pc := st.seq.pc, xfer := x.1, tile := none }
          issued (modArr x.2 g fun a => { a with load := some l }) g) s

/-- A plane load ends: the port is free, and a read of station memory has returned (R222). -/
def endLoad (c : Core) (g : Nat) (l : PlaneLoad) : Core :=
  let c := modArr c g fun a => { a with load := none }
  if l.src.isSome then closeXfer c g l.xfer else c

/-- PLANE_LOAD_START (R74, R256): the waiting load reads its tile from station memory, or takes the complete tile of the
weight buffer (R120). -/
def execPlaneLoadStart (g : Nat) (s : State) : Out := inRange g 192 <| onCoreMem (fun m c =>
  let st := stn c g
  match st.arr.load with
  | none => c
  | some l =>
    if l.tile.isSome then c
    else match l.src with
      | some (base, stride) =>
        let n := if l.fmt = 3 then 512 else 256
        let rows := ldwRows (stBase g + base) stride l.fmt
        match eccBad c rows n with
        | some x => endLoad (instrMemFault c g l.pc x) g l
        | none =>
          let c := rows.foldl (fun c a => vigilRead c g a n 2) c
          let bs := (rows.map fun a => mreadN m a n).flatten
          modArr c g fun a => { a with load := some { l with tile := some (placeTile l.fmt (widthOf c g) bs) } }
      | none =>
        match st.ring.wbuf with
        | none => c
        | some b =>
          if b.got < 32768 then c
          else if b.fmt ≠ l.fmt then
            formatMismatch (endLoad c g l) g l.pc
          else
            let keep := if b.sent || b.left = 0 then none else some { b with taken := true }
            let c := setStn c g { st with ring := { st.ring with wbuf := keep } }
            modArr c g fun a =>
              { a with load := some { l with tile := some (placeTile l.fmt (widthOf c g) (mreadN b.data 0 32768)) } }) s

/-- PLANE_LOAD_DONE (R73): the plane holds the tile and its tag. -/
def execPlaneLoadDone (g : Nat) (s : State) : Out := inRange g 192 <| onCore (fun c =>
  match (stn c g).arr.load with
  | none => c
  | some l =>
    match l.tile with
    | none => c
    | some t =>
      endLoad (setPlane c g l.plane { tag := some l.fmt, data := t }) g l) s

/-! ### MVA (R107 to R109, R257) -/

/-- The result of an MVA: one block of D rows after another, added in order (R108). -/
def mvaColumn (fa fw : Nat) (ea ew : Int) (xs bs : List Nat) (start : Option Nat) : Nat :=
  let d := depthOf fa
  let blocks := (xs.length + d - 1) / d
  let y := fun t => column fa fw ea ew ((xs.drop (t * d)).take d) ((bs.drop (t * d)).take d)
  match start with
  | some z => (List.range blocks).foldl (fun acc t => fp32.add acc (y t)) z
  | none => (List.range (blocks - 1)).foldl (fun acc t => fp32.add acc (y (t + 1))) (y 0)

/-- MVA (R253, R257): x, B and, for ACCUMULATE, z are read at issue. -/
def execMva (g : Nat) (s : State) : Out := inRange g 192 <| onCoreMem (fun m c =>
  match atPc m c g .mva with
  | none => c
  | some w =>
    let st := stn c g
    if st.arr.mva.isSome then waitOn c g 5
    else
      let d := descE st (bits w 39 8)
      let fa := bits d 28 4
      let fw := bits d 32 4
      let k := bits d 80 16 + 1
      let n := bits d 8 8 + 1
      let x := mvaAddr st (bits w 55 4) (bits w 31 8)
      let b := mvaAddr st (bits w 51 4) (bits w 23 8)
      let z := mvaAddr st (bits w 47 4) (bits w 15 8)
      let rows := (List.range k).map fun i => b + i * bits d 64 16
      let eb := tagBytes fw
      let addr := addrFault [x] (k * tagBytes fa) 64 <|> addrFault rows (n * eb) 64 <|> addrFault [z] (4 * n) 64
      let bad := rowsBad c g [x] (k * tagBytes fa) <|> rowsBad c g rows (n * eb) <|>
        (if bits d 24 2 = 0 then none else rowsBad c g [z] (4 * n))
      if !pairOk fa fw then formatMismatch c g st.seq.pc
      else match addr, bad with
      | some a, _ => instrAddrFault c g a
      | none, some a => instrMemFault c g st.seq.pc a
      | none, none =>
        let o := stBase g
        let c := vigilRead c g (o + x) (k * tagBytes fa) 3
        let c := rows.foldl (fun c a => vigilRead c g (o + a) (n * eb) 3) c
        let xs := elems (tagBytes fa) k (mreadN m (o + x) (k * tagBytes fa))
        let bm := rows.map fun a => elems eb n (mreadN m (o + a) (n * eb))
        let ea := operandScale c fa (bits d 36 13)
        let ew := operandScale c fw (bits d 49 13)
        let zs := (List.range n).map fun i =>
          mvaColumn fa fw ea ew xs (bm.map fun r => r.getD i 0)
            (if bits d 24 2 = 0 then none else some (mnum m (o + z + 4 * i) 4))
        let xf := newXfer c g
        let v : Mva := { dest := z, z := zs, fin := finOf w st.seq.pc 14 2, xfer := xf.1 }
        issued (modArr xf.2 g fun a => { a with mva := some v }) g) s

/-- MVA_DONE (R109): z is written as FP32 and the completion is signalled. -/
def execMvaDone (g : Nat) (s : State) : Out := inRange g 192 <| onBoth (fun m c =>
  match (stn c g).arr.mva with
  | none => (c, m)
  | some v =>
    let a := stBase g + v.dest
    let c := closeXfer (modArr c g fun a => { a with mva := none }) g v.xfer
    (complete (vigilWrite c g a (4 * v.z.length) 3) g v.fin, mwriteN m a (elemBytes 4 v.z))) s

/-! ### DRN (R96 to R99, R258) -/

/-- DRN (R253, R258): the tile enters DRAINING. -/
def execDrn (g : Nat) (s : State) : Out := inRange g 192 <| onCoreMem (fun m c =>
  match atPc m c g .drn with
  | none => c
  | some w =>
    let st := stn c g
    let t := bits w 58 1
    let x := tileOf st t
    if !isOpen x then waitOn c g 3
    else
      let d := descE st (bits w 49 8)
      let base := namedAddr st (bits w 45 4) (bits w 23 22)
      let rows := bits d 0 8 + 1
      let cols := bits d 8 8 + 1
      let stride := bits d 32 16
      let addrs := (List.range rows).map fun i => base + i * stride
      match (if bit w 57 then none else addrFault addrs (cols * if bit d 16 then 8 else 4) 64) with
      | some a => instrAddrFault c g a
      | none =>
        let xf := if bit w 57 then (0, c) else newXfer c g
        let dr : Drain := { rows := rows, cols := cols, pair := bit d 16, dest := if bit w 57 then none else some (base, stride),
                            out := [], fin := finOf w st.seq.pc 22 10, xfer := xf.1, begun := false, dfw := false,
                            group := x.group, order := st.seq.issued }
        issued (setTile xf.2 g t { x with state := .draining dr }) g) s

/-- One drained entry's FP32 words (R89). -/
def drainEntry (m : Memory) (g t r k : Nat) (pair : Bool) : List Nat :=
  let a := accAddr g t r k
  if pair then [mnum m a 4, mnum m (a + 4) 4] else [fp32.add (mnum m a 4) (mnum m (a + 4) 4)]

/-- One drained row's FP32 words. -/
def drainRow (m : Memory) (g t r cols : Nat) (pair : Bool) : List Nat :=
  ((List.range cols).map fun k => drainEntry m g t r k pair).flatten

/-- DRAIN_COPY_OUT (R97): with no row in flight, the rows go to station memory, or stand ready to leave on the ring. -/
def execDrainCopyOut (g t : Nat) (s : State) : Out := inRange g 192 <| inRange t 2 <| onBoth (fun m c =>
  let x := tileOf (stn c g) t
  match x.state with
  | .draining d =>
    if d.begun || !x.inflight.isEmpty then (c, m)
    else
      let rows := (List.range d.rows).map fun r => drainRow m g t r d.cols d.pair
      match d.dest with
      | none => (setTile c g t { x with state := .draining { d with begun := true, out := rows } }, m)
      | some (base, stride) =>
        let r := rows.foldlIdx (fun i (acc : Core × Memory) vs =>
          let a := stBase g + base + i * stride
          (vigilWrite acc.1 g a (4 * vs.length) 5, mwriteN acc.2 a (elemBytes 4 vs))) (c, m)
        (setTile r.1 g t { x with state := .draining { d with begun := true } }, r.2)
  | _ => (c, m)) s

/-- The deferred-W entry that drains completes (R126, R131): DONE signal, STEP_END, and the next entry may start. -/
def dfwComplete (c : Core) (g : Nat) : Core :=
  let q := (stn c g).dfw
  match q.entries with
  | [] => c
  | e :: rest =>
    if !e.drained then c else
    let c := setStn c g { stn c g with dfw := { q with entries := rest, stepEnd := q.stepEnd || bit e.a 33 } }
    if bit e.b 103 then unitSignal c (g / 24) (bits e.b 104 12) g (.comp g e.pc) else c

/-- DRAIN_DONE (R98, R99): every row has gone, the tile is OPEN again, and the completion is signalled. -/
def execDrainDone (g t : Nat) (s : State) : Out := inRange g 192 <| inRange t 2 <| onCore (fun c =>
  let x := tileOf (stn c g) t
  match x.state with
  | .draining d =>
    if d.begun && d.out.isEmpty then
      let c := setTile c g t { x with state := .open }
      let c := admitRows c g 16
      if d.dfw then dfwComplete c g else complete (if d.dest.isSome then closeXfer c g d.xfer else c) g d.fin
    else c
  | _ => c) s

/-! ### Ring partials (R91 to R95) -/

/-- A tile's drain to RING with rows still to leave. -/
def ringOut (x : Tile) : Option Drain :=
  match x.state with
  | .draining d => if d.dest.isNone && d.begun && !d.out.isEmpty then some d else none
  | .open => none

/-- The tile of a station whose rows leave on the ring next: the drain issued first. -/
def ringDrain (s : Station) : Option (Nat × Drain) :=
  match ringOut s.arr.tile0, ringOut s.arr.tile1 with
  | some d, some e => if e.order < d.order then some (1, e) else some (0, d)
  | some d, none => some (0, d)
  | none, some e => some (1, e)
  | none, none => none

/-- The station that sends the next partial of group `k` to station `g`, and its tile and drain, once rows of it stand ready
(R93, R95). -/
def nextPartial (c : Core) (im : Image) (l g k : Nat) : Option (Nat × Nat × Drain) :=
  match im.ksplits[k]? with
  | none => none
  | some x => match placeIn l g x with
    | none => none
    | some d => match (collectOrder x d)[tgetD (stn c g).ring.link k 0]? with
      | none => none
      | some e =>
        let q := atDistance l x.owner e
        match ringDrain (stn c q) with
        | some (u, dr) => if dr.group = some k then some (q, u, dr) else none
        | none => none

/-- The group whose row comes in next: one whose partial is half sent, else the first whose next partial is ready. -/
def linkGroup (c : Core) (im : Image) (l g : Nat) : Option Nat :=
  let ready := (List.range im.ksplits.length).filter fun k => (nextPartial c im l g k).isSome
  let half := ready.find? fun k => match nextPartial c im l g k with
    | some (_, _, dr) => decide (dr.out.length < dr.rows)
    | none => false
  half <|> ready.head?

/-- The count of whole partials of a group, cleared with its last one. -/
def linkCount (t : Tab Nat) (k total : Nat) : Tab Nat :=
  if tgetD t k 0 + 1 < total then tset t k (tgetD t k 0 + 1) else tdel t k

/-- RING_PARTIAL_ROW (R95): the next row of a partial comes into the 16-row buffer of the link, from the station whose turn it
is, over links whose crossings run (R401); from there it enters its tile once the LAST MMA has retired and the tile is OPEN (R98). -/
def execRingPartialRow (g : Nat) (s : State) : Out := inRange g 192 <| onCore (fun c =>
  let l := obj c Key.loopLength
  match c.alm.image with
  | none => c
  | some im =>
    if l = 0 ∨ heldNow c ∨ 16 ≤ (stn c g).ring.pbuf.length then c else
    match linkGroup c im l g with
    | none => c
    | some k =>
      match nextPartial c im l g k, groupOf? c g k with
      | some (q, u, dr), some (mode, total) =>
        if wayStopped c l g (distanceTo l g q) then c else
        match dr.out with
        | [] => c
        | vs :: rest =>
          let r : RowUpd := { row := dr.rows - dr.out.length, mode := mode, vals := vs, zero := false, last := rest.isEmpty,
                              fin := none }
          let c := setTile c q u { tileOf (stn c q) u with state := .draining { dr with out := rest } }
          let n := stn c g
          let c := setStn c g { n with ring := { n.ring with
            pbuf := n.ring.pbuf ++ [(k, r)], link := if rest.isEmpty then linkCount n.ring.link k total else n.ring.link } }
          addObj (admitRows c g 16) Key.ccwRows (distanceTo l g q)
      | _, _ => c) s

end Sys2Proof.Machine
end

