-- ==== Sys2Proof/Machine/Registers.lean ====
section
/-! DEFINITION. The memory-mapped registers as a reader of control space sees them (R186, R211, R239, R246, R290, R295,
R348, R412), and the gating of blocks (R409, R410). Each block's registers are given as 64-bit words at multiples of 8;
none where the manual gives no layout. -/

namespace Sys2Proof.Machine

/-! ### Gating (R409) -/

/-- Whether station `g`'s clock is gated. -/
def stGated (c : Core) (g : Nat) : Bool := !bit (obj c Key.gateStations) g
/-- Whether the update engine of a field is gated. -/
def updGated (c : Core) (f : Nat) : Bool := !bit (obj c Key.gateEngines) f
/-- Whether the reduction engine of a field is gated. -/
def redGated (c : Core) (f : Nat) : Bool := !bit (obj c Key.gateEngines) (8 + f)
/-- The HBM pseudo-channel of a local HBM offset (R180). -/
def hbmPc (c : Core) (a : Nat) : Nat :=
  let u := a >>> obj c Key.hbmGranule
  bits u 0 10 ^^^ bits u 10 10 ^^^ bits u 20 10 ^^^ bits u 30 10
/-- The byte offset of a local HBM offset within its pseudo-channel (R180). -/
def hbmLoc (c : Core) (a : Nat) : Nat :=
  let g := obj c Key.hbmGranule
  (a >>> g) / 1024 * 2 ^ g + a % 2 ^ g
/-- Whether an offset lies in a gated block (R409, R410). -/
def gatedAt (c : Core) (a : Nat) : Bool :=
  if inHbm a then !bit (obj c Key.gateHbm) (hbmPc c a % 32)
  else if inStation a then stGated c ((a - 0x81000000000) / 0x400000)
  else if inAcc a then stGated c ((a - 0x82000000000) / 0x100000)
  else if inCtl a then decide ((a - 0xF0000000000) % 0x20000 < 0x18000) && stGated c ((a - 0xF0000000000) / 0x20000)
  else if inFieldBlk a then
    let n := (a - 0xF0100000000) / 0x100000
    let o := (a - 0xF0100000000) % 0x100000
    (decide (0x60000 ≤ o ∧ o < 0x70000) && updGated c n) || (decide (0x70000 ≤ o ∧ o < 0x80000) && redGated c n)
  else false

/-! ### Blocks -/

/-- A 64-bit word of a wider value. -/
def wordOf (v i : Nat) : Nat := bits v (64 * i) 64

/-- The sequencer registers of R246, by byte offset. -/
def seqWord (s : Station) (o : Nat) : Option Nat :=
  let q := s.seq
  let fences := (s.fq.filter fun x => match x with | .fence _ _ => true | _ => false).length
  let sigs := s.fq.length - fences
  if o = 0x0000 then
    some (q.state.code + fieldAt 3 q.waitCause + fieldAt 8 q.pc + fieldAt 21 (b2n q.pendingStart.isSome))
  else if o = 0x0008 then some (q.lastStatus + fieldAt 8 (b2n q.sigLost) + fieldAt 9 fences + fieldAt 14 sigs)
  else if o = 0x0010 then some (q.faultPc + fieldAt 16 q.faultKind)
  else if o = 0x0018 then some q.issued
  else if o = 0x0020 then some q.waitCycles
  else if 0x100 ≤ o ∧ o < 0x180 then
    let n := (o - 0x100) / 8
    some (tgetD s.ba n 0 + fieldAt 32 (tgetD s.bi n 0))
  else if 0x180 ≤ o ∧ o < 0x1A0 then some (tgetD s.lc ((o - 0x180) / 8) 0)
  else if o = 0x0200 then
    some ((s.watches.map fun p => fieldAt p.1 1).sum
      + (s.watches.map fun p => if p.2.inbox.isSome then fieldAt (16 + p.1) 1 else 0).sum)
  else if 0x208 ≤ o ∧ o < 0x288 then
    match tget s.watches ((o - 0x208) / 8) with
    | some w => some (w.cookie + fieldAt 8 (b2n w.block))
    | none => some 0
  else if 0x400 ≤ o ∧ o < 0x600 then
    match tget s.watches ((o - 0x400) / 32) with
    | some w => match w.inbox with
      | some m => some (leNat (((watchBytes m).drop ((o - 0x400) % 32)).take 8))
      | none => some 0
    | none => some 0
  else if 0x1000 ≤ o ∧ o < 0x2000 then some (wordOf (tgetD s.desc ((o - 0x1000) / 16) 0) ((o - 0x1000) % 16 / 8))
  else if 0x2000 ≤ o ∧ o < 0x4000 then
    some (leNat ((((tgetD s.vr ((o - 0x2000) / 256) []).drop ((o - 0x2000) % 256)).take 8)))
  else none

/-- The descriptor of the ACTIVE slot as it is shown: its addresses resolved (R211). -/
def shownActive (x : Stream) : Nat :=
  if x.state = 0 then 0
  else
    let d := x.active
    bits d 0 64 + fieldAt 64 x.srcA + fieldAt 128 x.dstA + fieldAt 192 (bits d 192 64) + fieldAt 256 x.idxA
      + fieldAt 320 (bits d 320 192)

/-- The stream registers of R211. -/
def streamWord (x : Stream) (o : Nat) : Option Nat :=
  if o < 0x40 then some (wordOf (shownActive x) (o / 8))
  else if o < 0x80 then some 0
  else if o = 0x80 then
    some (x.state + fieldAt 2 (b2n x.pending.isSome) + fieldAt 8 x.lastArm
      + fieldAt 16 (if x.state = 0 then 0 else bits x.active 480 16))
  else if o = 0x88 then some x.rowsDone
  else if o = 0x90 then some x.faultCause
  else if o = 0x98 then some x.faultAddr
  else none

/-- A semaphore's record word (R239). -/
def semWord (x : Sem) : Nat :=
  fieldAt 63 (b2n x.valid) + fieldAt 62 (b2n x.poison) + fieldAt 40 x.owner + fieldAt 20 x.cap + x.count

/-- The sync unit's registers (R239). -/
def syncWord (u : SyncUnit) (o : Nat) : Option Nat :=
  if o < 0x8000 then
    match tget u.sems (o / 8) with
    | some x => some (semWord x)
    | none => some 0
  else if o < 0xC000 then
    match tget u.watches ((o - 0x8000) / 16) with
    | some w => some (wordOf (fieldAt 127 1 + fieldAt 112 w.sem + fieldAt 92 w.thresh + fieldAt 76 w.dest
        + fieldAt 64 w.slot + fieldAt 32 w.cookie) (o % 16 / 8))
    | none => some 0
  else if o = 0xC000 then some (u.watches.length + fieldAt 16 u.watchRes)
  else if o = 0xC008 then some u.ops
  else if o = 0xC010 then some (u.lastFault.name + fieldAt 32 u.lastFault.issuer + fieldAt 48 u.lastFault.kind)
  else if o = 0xC018 then some (u.lastFault.delta + fieldAt 16 u.lastFault.count)
  else if o = 0xC020 then some u.lastFault.frame
  else none

/-- An observed exponent in 16 bits; none is 0x8000 (R327). -/
def eObsCode (e : Option Int) : Nat :=
  match e with
  | some x => unsigned 16 x
  | none => 0x8000

/-- RED_STATUS before the first execution of a REDNO (R348). -/
def RedStatus.blank : RedStatus := { status := .ok, rseq := 0, eRef := 0, eObs := none, flags := 0 }

/-- The reduction engine's registers (R348). -/
def redWord (r : RedEngine) (o : Nat) : Option Nat :=
  if o = 0 then some (r.queue.length + fieldAt 5 (r.channels.filter fun p => p.2.run.isSome).length)
  else if o = 8 then some r.elements
  else if 0x100 ≤ o ∧ o < 0x300 then
    let ch := tgetD r.channels ((o - 0x100) / 8) Channel.reset
    let st := match ch.run with
      | none => 0
      | some x => if x.recSent && x.decided.isNone then 2 else 1
    some (ch.next + fieldAt 16 ch.decidedSeq + fieldAt 32 st)
  else if 0x400 ≤ o ∧ o < 0x8400 then
    let x := tgetD r.status ((o - 0x400) / 8) RedStatus.blank
    some (x.status.code + fieldAt 8 x.rseq + fieldAt 24 (unsigned 16 x.eRef) + fieldAt 40 (eObsCode x.eObs)
      + fieldAt 56 x.flags)
  else none

/-- The neighbours of a field on the grid of R9, in increasing order (log entry 17). -/
def neighbours (n : Nat) : List Nat :=
  match n with
  | 0 => [1, 7] | 1 => [0, 2, 6] | 2 => [1, 3, 5] | 3 => [2, 4] | 4 => [3, 5] | 5 => [2, 4, 6] | 6 => [1, 5, 7]
  | _ => [0, 6]

/-- The generator's registers (R412). -/
def genWord (n : Nat) (x : Gen) (o : Nat) : Option Nat :=
  if o = 0 then
    some (x.locked + fieldAt 3 x.activeSyn + fieldAt 4 x.mult + fieldAt 9 x.standbyMult + fieldAt 14 (b2n x.standbyLocked))
  else if o = 8 then some (x.own + fieldAt 16 x.companion + fieldAt 32 x.lastFrame)
  else if o = 0x10 then some x.total
  else if o = 0x18 then some (x.marginMin + fieldAt 8 x.marginPath)
  else if 0x20 ≤ o ∧ o < 0x38 then
    match (neighbours n)[(o - 0x20) / 8]? with
    | none => some (fieldAt 4 4)
    | some k =>
      some ((if x.locked = 0 then 0 else k) + fieldAt 3 1 + fieldAt 4 (tgetD x.occ k 4)
        + fieldAt 8 (unsigned 8 (tgetD x.skew k 0)) + fieldAt 16 (min 15 (tgetD x.maxSkew k 0)))
  else none

/-- The registers of a four-lane port (R290); the odd member of a joined pair shows only JOINED (R278). -/
def portWord (c : Core) (p o : Nat) : Option Nat :=
  let x := portOf c p
  if joined c p && p % 2 = 1 then (if o < 0x30 then some (if o = 0 then 8 else 0) else none)
  else if o = 0 then
    some (pstate c p + fieldAt 3 (b2n (joined c p)) + fieldAt 4 x.phase + fieldAt 16 x.peerMod
      + fieldAt 28 (b2n x.peerValid) + fieldAt 32 x.peerPort)
  else if o = 8 then some (x.latency + fieldAt 8 x.downCause)
  else if o = 0x10 then some x.fec
  else if o = 0x18 then some x.groupsLost
  else if o = 0x20 then some x.replays
  else if o = 0x28 then some x.trainings
  else none

/-- A context as its record shows it (R295): a host session's numbers are those of its session (R422): the notification to send next, the
oldest not acknowledged, the request expected next. -/
def ctxShown (c : Core) (i : Nat) : Ctx :=
  let x := ctxOf c i
  match (if x.kind = 1 then sessionOf c i else none) with
  | some y => { x with txSeq := y.noteNext % 2 ^ 32, ackedSeq := ((y.notes.head?.map fun n => n.1).getD y.noteNext) % 2 ^ 32,
                       rxSeq := (y.h + 1) % 2 ^ 32 }
  | none => x

/-- A flow context's record (R295). -/
def ctxWord (x : Ctx) (o : Nat) : Nat :=
  if o = 0 then
    x.state + fieldAt 3 x.kind + fieldAt 4 x.route + fieldAt 16 x.peerMod + fieldAt 32 x.peerCtx + fieldAt 44 x.abortCause
      + fieldAt 48 x.master
  else if o = 8 then fieldAt 32 x.txSeq + x.ackedSeq
  else if o = 0x10 then x.rxSeq
  else if o = 0x18 then x.lastHeard
  else if o = 0x20 then x.bytesTx
  else if o = 0x28 then x.bytesRx
  else 0

/-- An entry that gives the masters of an ID and mask every right over a whole target. -/
def wholeEntry (target master mask : Nat) : Nat :=
  let full : Nat × Nat :=
    if target < 128 then ((sliceBase + target * 0x400000) / 256, (sliceBase + target * 0x400000 + 0x3FFFFF) / 256)
    else if target = 128 then (0, 0x17FFFFFFFFF / 256)
    else if target < 137 then (0, 2 ^ 36 - 1)
    else if target = 137 then (ringBase / 256, (ringBase + 0xFFFFFF) / 256)
    else if target = 138 then (0, 0xFFFFFF)
    else (0, 0xFFF)
  fieldAt 127 1 + fieldAt 126 1 + fieldAt 125 1 + fieldAt 124 1 + fieldAt 104 master + fieldAt 88 mask + fieldAt 44 full.1
    + fieldAt 8 full.2

/-- Entry 0 of every table: the management processor's full rights over the target (R35). -/
def entryZero (target : Nat) : Nat := wholeEntry target mgmt 0xFFFF

/-- An entry of a target's access table (R186). -/
def accWord (c : Core) (target o : Nat) : Nat :=
  let e := o / 16
  let v := if e = 0 then entryZero target else match tget c.acc.entries (target * 64 + e) with
    | some x => x.value
    | none => 0
  wordOf v (o % 16 / 8)

/-- A receiver set of R204 as a 64-bit word of a 32-byte record (the layout: log entry 18). -/
def recvWord (c : Core) (o : Nat) : Option Nat :=
  if o < 0x800 then some (wordOf ((tgetD c.recv (o / 32) []).map (fun g => fieldAt g 1)).sum (o % 32 / 8)) else none

/-- The register word at a control-space offset, none where no layout is given. -/
def regWord (c : Core) (a : Nat) : Option Nat :=
  if inCtl a then
    let g := (a - 0xF0000000000) / 0x20000
    let o := (a - 0xF0000000000) % 0x20000
    if o < 0x18000 then seqWord (stn c g) (o - 0x10000)
    else if o < 0x19000 then streamWord (strm (stn c g) ((o - 0x18000) / 0x100)) ((o - 0x18000) % 0x100)
    else none
  else if inFieldBlk a then
    let n := (a - 0xF0100000000) / 0x100000
    let o := (a - 0xF0100000000) % 0x100000
    if o < 0x40000 then syncWord (syncU c n) o
    else if o < 0x60000 then recvWord c (o - 0x40000)
    else if o < 0x70000 then none
    else if o < 0x80000 then redWord (fld c n).red (o - 0x70000)
    else if o < 0x84400 then
      some (accWord c (if o < 0x84000 then 16 * n + (o - 0x80000) / 0x400 else 129 + n) ((o - 0x80000) % 0x400))
    else if 0xC0000 ≤ o then genWord n (fld c n).gen (o - 0xC0000)
    else none
  else if inRing a then
    let o := a - ringBase
    if 0x400000 ≤ o ∧ o < 0x404C00 then
      let t := (o - 0x400000) / 0x400
      some (accWord c (if t = 0 then 128 else 136 + t) ((o - 0x400000) % 0x400))
    else if 0x800000 ≤ o ∧ o < 0x801000 then portWord c ((o - 0x800000) / 0x100) ((o - 0x800000) % 0x100)
    else if 0xC00000 ≤ o ∧ o < 0xC40000 then
      some (ctxWord (ctxShown c ((o - 0xC00000) / 0x40)) ((o - 0xC00000) % 0x40))
    else none
  else none

/-- Whether an offset is a byte of instruction memory (R177). -/
def inImem (a : Nat) : Bool := inCtl a && decide ((a - 0xF0000000000) % 0x20000 < 0x10000)

/-- One byte of control space; a register without a layout reads a free byte (log entry 19). -/
def regByte (c : Core) (a : Nat) : Byte :=
  match regWord c (a / 8 * 8) with
  | some w => BitVec.ofNat 8 (w >>> (8 * (a % 8)))
  | none => Config.undefinedByte c.freeCtr a

/-- One byte of the local map as a read finds it: registers, or memory. -/
def mapByte (m : Memory) (c : Core) (a : Nat) : Byte :=
  if (inCtl a && !inImem a) || inFieldBlk a || inRing a then regByte c a else mread m a

end Sys2Proof.Machine
end

