-- ==== Sys2Proof/Machine/Bus.lean ====
section
/-! DEFINITION. The die network as a requester meets it: global addresses (R171 to R175), descriptors and arming (R193 to
R197), reads and writes of the local map under the access tables (R178, R184 to R189, R242, R246). -/

namespace Sys2Proof.Machine

/-! ### Global addresses -/

/-- The class of a global address (R171). -/
def gaClass (a : Nat) : Nat := bits a 60 4
/-- The local offset of a global address. -/
def gaOff (a : Nat) : Nat := bits a 0 44
/-- The module a global address names: the own for LOCAL (R171, R173). -/
def gaMod (c : Core) (a : Nat) : Nat := if gaClass a = 1 then ownMod c else bits a 48 12
/-- Whether this module serves a global address (R173). -/
def gaHere (c : Core) (a : Nat) : Bool := gaMod c a = ownMod c
/-- Whether `n` bytes from a global address are well formed (R172). -/
def gaOk (a n : Nat) : Bool :=
  decide (gaClass a < 4) && bits a 44 4 = 0 && (gaClass a ≠ 1 || bits a 48 12 = 0) && mapped (gaOff a) n
/-- The LOCAL address of an offset. -/
def gaLocal (o : Nat) : Nat := fieldAt 60 1 + o

/-- A working-copy role resolved by the commit count (R174): a DIRECT address with the module kept. -/
def resolveGa (c : Core) (a : Nat) : Nat :=
  let d := obj c Key.wcDelta
  let even := obj c Key.commits % 2 = 0
  let direct := fun o => fieldAt 48 (bits a 48 12) + o
  if gaClass a = 2 then direct (if even then gaOff a else gaOff a + d)
  else if gaClass a = 3 then direct (if even then gaOff a + d else gaOff a)
  else a

/-! ### Descriptors (R193, R194) -/

/-- KIND. -/
def sKind (d : Nat) : Nat := bits d 60 4
/-- FMT. -/
def sFmt (d : Nat) : Nat := bits d 56 4
/-- XPOSE. -/
def sXpose (d : Nat) : Bool := bit d 55
/-- MRG. -/
def sMrg (d : Nat) : Bool := bit d 52
/-- Bytes of an index: 0 without an index list. -/
def sIdxBytes (d : Nat) : Nat := 2 * bits d 50 2
/-- Bytes of a row. -/
def sRowBytes (d : Nat) : Nat := bits d 32 16 + 1
/-- Rows. -/
def sRows (d : Nat) : Nat := bits d 0 32 + 1
/-- SRC as written. -/
def sSrc (d : Nat) : Nat := bits d 64 64
/-- DST as written. -/
def sDst (d : Nat) : Nat := bits d 128 64
/-- DST_STRIDE. -/
def sDstStride (d : Nat) : Nat := bits d 192 32
/-- SRC_STRIDE. -/
def sSrcStride (d : Nat) : Nat := bits d 224 32
/-- INDEX. -/
def sIndex (d : Nat) : Nat := bits d 256 64
/-- ARG. -/
def sArg (d : Nat) : Nat := bits d 320 64
/-- UNIT_ROWS + 1. -/
def sUnitRows (d : Nat) : Nat := bits d 384 16 + 1
/-- DONE_REF. -/
def sDone (d : Nat) : Nat := bits d 400 16
/-- FULL_REF. -/
def sFull (d : Nat) : Nat := bits d 416 16
/-- EMPTY_REF. -/
def sEmpty (d : Nat) : Nat := bits d 432 16
/-- TAG. -/
def sTag (d : Nat) : Nat := bits d 480 16
/-- WATCHDOG. -/
def sWatchdog (d : Nat) : Nat := bits d 496 16
/-- Whether a semaphore reference is enabled. -/
def refOn (r : Nat) : Bool := bit r 15
/-- The field of a semaphore reference. -/
def refField (r : Nat) : Nat := bits r 12 3
/-- The semaphore of a semaphore reference. -/
def refSem (r : Nat) : Nat := bits r 0 12

/-- Whether a kind reads its source through the index list (R194). -/
def idxSrc (d : Nat) : Bool := sKind d = 1 || ((sKind d = 3 || sKind d = 5) && sIdxBytes d ≠ 0)
/-- Whether a kind writes its target through the index list. -/
def idxDst (d : Nat) : Bool := sKind d = 2 || sKind d = 6
/-- Whether DST is a memory destination of one module: COPY, GATHER, SCATTER, ATOMIC. -/
def memDst (d : Nat) : Bool := sKind d < 3 || sKind d = 6

/-- The K-split values of R91, allowed as a take stride for a loop length (R116). -/
def kSplitOk (l s : Nat) : Bool :=
  [1, 2, 3, 4, 6, 8, 12, 24].contains s || ([48, 96, 192].contains s && decide (s ≤ l))

/-- The module group of an MCAST (R344); 0 is none. -/
def mcGroup (d : Nat) : Nat := bits (sArg d) 8 8
/-- The receivers of an MCAST's set on this module (R204). -/
def mcReceivers (c : Core) (d : Nat) : List Nat := tgetD c.recv (bits (sArg d) 0 8) []
/-- The declared module group of a number. -/
def modGroup (c : Core) (n : Nat) : Option ModGroup :=
  match c.alm.image with
  | some im => im.modGroups.find? fun g => g.num = n
  | none => none
/-- The remote members of an MCAST, as modules. -/
def mcRemote (c : Core) (d : Nat) : List Nat :=
  match modGroup c (mcGroup d) with
  | some g => g.members.map fun p => p.1
  | none => []
/-- The members of an MCAST in member order (R344); none is this module. -/
def mcMembers (c : Core) (d : Nat) : List (Option Nat) :=
  (if (mcReceivers c d).isEmpty then [] else [none]) ++ (mcRemote c d).map some

/-- Every address of a row of `n` bytes lies in the map, for rows counted from a base by a stride (R195). -/
def rowsOk (base stride rows n : Nat) : Bool :=
  (List.range rows).all fun j => decide (gaOff base + j * stride < 2 ^ 44) && mapped (gaOff base + j * stride) n

/-- Both resolutions of a working-copy address lie in HBM (R175). -/
def wcOk (c : Core) (a : Nat) : Bool :=
  (gaClass a ≠ 2 && gaClass a ≠ 3) || (inHbm (gaOff a) && inHbm (gaOff a + obj c Key.wcDelta))

/-- Whether a station may send to an address's module: the own, or one with an assigned flow (R301). -/
def flowOk (c : Core) (g a : Nat) : Bool :=
  gaHere c a || (match c.alm.image with
    | some im => im.flows.any fun fl => fl.peer = gaMod c a && fl.issuers.contains g
    | none => false)

/-- The source rules of R195: transpose (R203) or rows. -/
def srcOk (c : Core) (d : Nat) : Bool :=
  let eb := tagBytesOf (sFmt d)
  gaOk (sSrc d) 1 && wcOk c (sSrc d) &&
  if sXpose d then
    sIdxBytes d = 0 && (sKind d = 0 || sKind d = 3 || sKind d = 4 || sKind d = 5) && inSlice (gaOff (sSrc d))
      && gaHere c (sSrc d) && (sFmt d = 1 || sFmt d = 2 || sFmt d = 3) && sRowBytes d = 128 * eb && sRows d % 128 = 0
      && gaOff (sSrc d) % (128 * eb) = 0 && sSrcStride d % (128 * eb) = 0
      && rowsOk (sSrc d) (sSrcStride d) 128 (sRows d * eb)
  else idxSrc d || rowsOk (sSrc d) (sSrcStride d) (sRows d) (sRowBytes d)
where
  /-- Bytes of an element of a format. -/
  tagBytesOf (t : Nat) : Nat := if t = 3 then 2 else 1

/-- The operand size of an atomic (R206); 0 is reserved. -/
def atomicOperand (op : Nat) : Nat := if op = 0 then 4 else if op < 4 then 8 else if op = 4 then 16 else 0
/-- The target size of an atomic (R206). -/
def atomicTarget (op : Nat) : Nat := if op = 0 then 4 else 8

/-- The destination rules of R195, R175, R178, R204, R206, R116, R120. -/
def dstOk (c : Core) (d : Nat) : Bool :=
  let a := sDst d
  let l := obj c Key.loopLength
  let arg := sArg d
  let idleSrc := gaClass (sSrc d) = 3
  gaOk a 1 && wcOk c a && gaClass a ≠ 2 &&
  if memDst d then
    (!idleSrc || gaClass a = 3) && !inAcc (gaOff a)
      && (idxDst d || rowsOk a (sDstStride d) (sRows d) (sRowBytes d) &&
          (List.range (sRows d)).all fun j => !inAcc (gaOff a + j * sDstStride d))
      && (if sKind d = 6 then
            sRowBytes d = atomicOperand (bits arg 60 4) && bits arg 44 16 = 0
              && (inHbm (gaOff a) || inSlice (gaOff a) || inStation (gaOff a))
          else arg = 0)
  else if sKind d = 3 then
    !idleSrc && decide (bits arg 16 8 < 192) && bits arg 24 40 = 0 && decide (bits arg 8 8 < l) && kSplitOk l (bits arg 0 8)
  else if sKind d = 4 then
    !idleSrc && decide (bits arg 16 8 < 192) && bits arg 24 40 = 0 && bits arg 8 8 = 0 && decide (bits arg 0 8 < l)
  else
    !idleSrc && gaClass a = 1 && inStation (gaOff a) && decide (gaOff a < 0x81000000000 + stSize)
      && rowsOk a (sDstStride d) (sRows d) (sRowBytes d)
      && ((List.range (sRows d)).all fun j => decide (gaOff a + j * sDstStride d + sRowBytes d ≤ 0x81000000000 + stSize))
      && bits arg 16 48 = 0 && decide (bits arg 0 8 < 64)
      && (mcGroup d = 0 || (modGroup c (mcGroup d)).isSome)
      && !(mcMembers c d).isEmpty
      && (!refOn (sEmpty d) || decide (refSem (sEmpty d) + (mcMembers c d).length ≤ 4096))

/-- The merge rule of R205: a source in this module's slice memory. -/
def mrgOk (c : Core) (d : Nat) : Bool :=
  !sMrg d || ((sKind d = 0 || sKind d = 1) && !sXpose d && gaHere c (sSrc d) && inSlice (gaOff (sSrc d)))

/-- The checks of R195 and R301 on a descriptor armed at a station's stream. -/
def descOk (c : Core) (g d : Nat) : Bool :=
  decide (sKind d < 7) && decide (sFmt d < 7) && bits d 48 2 = 0 && bits d 448 32 = 0 && decide (bits d 50 2 < 3)
    && (if sKind d = 1 ∨ sKind d = 2 ∨ sKind d = 6 then sIdxBytes d ≠ 0
        else if sKind d = 0 ∨ sKind d = 4 then sIdxBytes d = 0 else true)
    && (if sIdxBytes d = 0 then sIndex d = 0 else gaOk (sIndex d) 1 && wcOk c (sIndex d) && flowOk c g (sIndex d))
    && (!sXpose d || (sKind d ≠ 1 && sKind d ≠ 2 && sKind d ≠ 6))
    && decide (sUnitRows d ≤ sRows d) && srcOk c d && dstOk c d && mrgOk c d
    && flowOk c g (sSrc d) && (!memDst d || flowOk c g (sDst d))
    && (mcRemote c d).all fun n => sKind d ≠ 5 || flowOk c g (fieldAt 48 n)

/-- A descriptor becomes active (R174, R197). -/
def activate (c : Core) (x : Stream) (d : Nat) : Stream :=
  { x with state := 1, active := d, srcA := resolveGa c (sSrc d), dstA := resolveGa c (sDst d), idxA := resolveGa c (sIndex d),
           serial := x.serial + 1, pending := none,
           rowsDone := 0, row := 0, off := 0, units := 0, credit := false, got := [], waits := false, openRows := [],
           idx := [], idxReq := 0, stalled := false }

/-- An arming attempt by a permitted writer of one whole unit (R196): state, then slots, then the checks. -/
def armStream (c : Core) (g st d : Nat) : Core × Status :=
  let x := strm (stn c g) st
  let r : Core × Status :=
    if !running c then (c, .state)
    else if x.state = 2 then (c, .state)
    else if x.pending.isSome then (addObj c Key.armBusy 1, .busy)
    else if !descOk c g d then (c, .range)
    else if x.state = 0 then (setStrm c g st (activate c x d), .ok)
    else (setStrm c g st { x with pending := some d }, .ok)
  let y := strm (stn r.1 g) st
  (errStatus (setStrm r.1 g st { y with lastArm := r.2.code }) r.2, r.2)

/-! ### Reads and writes of the local map -/

/-- Whether a master reaches an offset through its own ports, which pass through no table (R184). -/
def ownPort (m a : Nat) : Bool :=
  decide (m < 192) && ((inStation a && (a - 0x81000000000) / 0x400000 = m)
    || (inAcc a && (a - 0x82000000000) / 0x100000 = m)
    || (inImem a && (a - 0xF0000000000) / 0x20000 = m))

/-- The refusal of a request, if the tables refuse a unit that the master does not reach through its own ports (R184, R187,
R192). -/
def refusalOf (c : Core) (m a n : Nat) (rt : Right) : Option (Nat × Nat) := refusedAt c.acc m a n rt (ownPort m)

/-- The first unit of a request that a gated block serves (R180, R409, R410): a transfer is divided at granules and blocks, which
begin at 256-byte units. -/
def gatedIn (c : Core) (a n : Nat) : Option Nat := ((units256 a n).find? (gatedAt c)).map (max a)

/-- Cycles in which a slice had more requests than it serves may have passed (R213): how many is open. -/
def shareCycles (c : Core) (a : Nat) : Core :=
  if inSlice a then
    let d := draw c
    addObj d.2 Key.sliceShareCycles (Config.freeNat d.1)
  else c

/-- A read of accumulator entries with rows in flight is reported by the Vigil (R100, R378 kind 5). -/
def accHazard (c : Core) (m a : Nat) : Core :=
  if vigilOn c && inAcc a then
    let g := (a - 0x82000000000) / 0x100000
    let s := stn c g
    let t := if (a - 0x82000000000) % 0x100000 < 0x80000 then s.arr.tile0 else s.arr.tile1
    if t.inflight.isEmpty then c else hazard c 5 m g a (masterPc c m)
  else c

/-- The answer to a read: the bytes; refused by the tables; or withheld, a word of them being uncorrectable (R183). -/
inductive ReadAns where
  | data (bs : Bytes)
  | refused
  | bad
  deriving DecidableEq, Repr

/-- The Vigil's report of a gated access, if there is one (R378, R410). -/
def noteGated (c : Core) (m a n : Nat) : Core := match gatedIn c a n with
  | some u => gatedAccess c m u
  | none => c

/-- A read of `n` bytes by a master. What gated blocks hold of it reads zeros (R410). Of an accumulator buffer it shows the rows that
have retired, and of no row in flight a part (R100; log entry 108). -/
def busRead (mem : Memory) (c : Core) (m a n tag : Nat) : Core × ReadAns :=
  match refusalOf c m a n .r with
  | some t => (refuse c m t.1 t.2 .r tag, .refused)
  | none =>
    match eccBad c [a] n with
    | some x => (memError c m tag x, .bad)
    | none =>
      let bs := (List.range n).map fun i => if gatedAt c (a + i) then 0 else mapByte mem c (a + i)
      let c := noteGated (shareCycles (accHazard (vigilRead c m a n) m a) a) m a n
      ({ c with freeCtr := c.freeCtr + (if inCtl a || inFieldBlk a || inRing a then 1 else 0) }, .data bs)

/-- The open merge windows whose line a write touches are closed, their read performed first (R205). -/
def closeWindows (mem : Memory) (c : Core) (a n : Nat) : Core :=
  if inSlice a then
    { c with merge := c.merge.map fun w =>
        if w.data.isNone && decide (w.line * 256 < a + n ∧ a < w.line * 256 + 256) then
          { w with data := some (mreadN mem (w.line * 256) 256) } else w }
  else c

/-- A write by a permitted master reaches its target: instruction memory takes whole aligned words (R242), a PENDING
slot whole units (R196), no other register takes a write (R212, R239, R246). -/
def writeAt (mem : Memory) (c : Core) (m a : Nat) (bs : Bytes) (tag : Nat) : Core × Memory × Status :=
  let n := bs.length
  if inAcc a then (errStatus c .range, mem, .range)
  else if inImem a then
    if !inImem (a + (n - 1)) then (refuse c m (targetOf a) a .w tag, mem, .access)
    else if a % 8 = 0 && n % 8 = 0 && decide (0 < n) then (c, mwriteN mem a bs, .ok) else (errStatus c .range, mem, .range)
  else if inCtl a && decide (0x18000 ≤ (a - 0xF0000000000) % 0x20000) && decide (0x40 ≤ a % 0x100)
      && decide (a % 0x100 < 0x80) && decide ((a - 0xF0000000000) % 0x20000 < 0x19000) then
    let g := (a - 0xF0000000000) / 0x20000
    let st := ((a - 0xF0000000000) % 0x20000 - 0x18000) / 0x100
    if a % 64 = 0 && n = 64 then
      let r := armStream c g st (leNat bs)
      (r.1, mem, r.2)
    else
      let c := setStrm c g st { strm (stn c g) st with lastArm := Status.range.code }
      (errStatus c .range, mem, .range)
  else if inCtl a || inFieldBlk a || inRing a then (refuse c m (targetOf a) a .w tag, mem, .access)
  else (shareCycles (vigilWrite (closeWindows mem c a n) m a n) a, mwriteN mem a bs, .ok)

/-- The bytes of a write that gated blocks do not drop, written one by one (R410). -/
def writeUngated (mem : Memory) (c : Core) (m a : Nat) (bs : Bytes) : Core × Memory :=
  bs.foldlIdx (fun i (r : Core × Memory) b =>
    if gatedAt c (a + i) then r
    else (vigilWrite (closeWindows r.2 r.1 (a + i) 1) m (a + i) 1, mwrite r.2 (a + i) b)) (c, mem)

/-- A write by a master: refused by the tables, dropped by a gated block (R410), or carried out. -/
def busWrite (mem : Memory) (c : Core) (m a : Nat) (bs : Bytes) (tag : Nat) : Core × Memory × Status :=
  match refusalOf c m a bs.length .w with
  | some t =>
    let c := refuse c m t.1 t.2 .w tag
    let slot := inCtl a && decide (0x18000 ≤ (a - 0xF0000000000) % 0x20000 ∧ (a - 0xF0000000000) % 0x20000 < 0x19000)
      && decide (0x40 ≤ a % 0x100 ∧ a % 0x100 < 0x80)
    let g := (a - 0xF0000000000) / 0x20000
    let st := ((a - 0xF0000000000) % 0x20000 - 0x18000) / 0x100
    (if slot then setStrm c g st { strm (stn c g) st with lastArm := Status.access.code } else c, mem, .access)
  | none =>
    match gatedIn c a bs.length with
    | none => writeAt mem c m a bs tag
    | some u =>
      let c := gatedAccess c m u
      if inHbm a || inStation a then
        let r := writeUngated mem c m a bs
        (r.1, r.2, .ok)
      else (c, mem, .ok)

/-- The result of an atomic on a target (R206): operation, old value, operand bytes. -/
def atomicNew (op old : Nat) (opd : Bytes) : Nat :=
  let x := leNat opd
  if op = 0 then (old + x) % 2 ^ 32
  else if op = 1 then (old + x) % 2 ^ 64
  else if op = 2 then max old x
  else if op = 3 then x
  else if old = leNat (opd.take 8) then leNat (opd.drop 8) else old

/-- An atomic by a master on an aligned target (R206): the old value's bytes; a target that cannot be read is left as it is. -/
def busAtomic (mem : Memory) (c : Core) (m a op : Nat) (opd : Bytes) (tag : Nat) : Core × Memory × ReadAns :=
  let n := atomicTarget op
  match refusalOf c m a n .a with
  | some t => (refuse c m t.1 t.2 .a tag, mem, .refused)
  | none =>
    if gatedAt c a then (gatedAccess c m a, mem, .data (List.replicate n 0))
    else match eccBad c [a] n with
      | some x => (memError c m tag x, mem, .bad)
      | none =>
        let old := mnum mem a n
        let c := shareCycles (vigilWrite (closeWindows mem (vigilRead c m a n) a n) m a n) a
        (c, mwriteN mem a (leBytes n (atomicNew op old opd)), .data (leBytes n old))

end Sys2Proof.Machine
end

