-- ==== Sys2Proof/Machine/Streams.lean ====
section
/-! DEFINITION. Streams (R193 to R213, R344 to R347) and STR (R263). -/

namespace Sys2Proof.Machine

/-! ### Faults and slots -/

/-- The wait-slot number of a stream (R229, log entry 21). -/
def streamSlot (g st : Nat) : Nat := 0x10000 + g * 16 + st

/-- The global address a record of a faulted row gives. -/
def rowGa (base off : Nat) : Nat := bits base 44 20 * 2 ^ 44 + off

/-- The units of a descriptor. -/
def unitCount (d : Nat) : Nat := (sRows d + sUnitRows d - 1) / sUnitRows d

/-- Whether a member of the stream's multicast group is detached (R346, R347). -/
def isDetached (c : Core) (d member : Nat) : Bool :=
  sKind d = 5 && mcGroup d ≠ 0 && bit (tgetD c.alm.detached (mcGroup d) 0) member

/-- The signals of a unit (R199, R204): FULL_REF once, or in every field of this module that holds a receiver. -/
def signalFull (c : Core) (g d : Nat) : Core :=
  let r := sFull d
  if sKind d = 5 then
    let rec' := if isDetached c d 0 then [] else mcReceivers c d
    let c := addObj c Key.mcastUnits 1
    if refOn r then
      ((List.range 8).filter fun f => rec'.any fun k => k / 24 = f).foldl (fun c f => unitSignal c f (refSem r) g .unit) c
    else c
  else if refOn r then unitSignal c (refField r) (refSem r) g .unit else c

/-- A FAULTED stream with nothing outstanding signals the units that are complete, and poisons the semaphores of its
FULL_REF and DONE_REF (R202, R232 cause 5). -/
def settleFault (c : Core) (g st : Nat) : Core :=
  let x := strm (stn c g) st
  let d := x.active
  if x.state ≠ 2 ∨ !x.openRows.isEmpty then c
  else
    let due := (List.range (unitCount d)).filter fun k =>
      decide (x.units ≤ k ∧ min ((k + 1) * sUnitRows d) (sRows d) ≤ x.row)
    let c := setStrm (due.foldl (fun c _ => signalFull c g d) c) g st { x with units := x.units + due.length }
    let fields := if sKind d = 5 then (List.range 8).filter fun f => (mcReceivers c d).any fun k => k / 24 = f
                  else [refField (sFull d)]
    let c := if refOn (sFull d) then fields.foldl (fun c f => holdPoison c f (refSem (sFull d)) g 5) c else c
    if refOn (sDone d) then holdPoison c (refField (sDone d)) (refSem (sDone d)) g 5 else c

/-- A stream enters FAULTED (R202): PENDING is discarded, DONE_REF is never signalled. -/
def streamFault (c : Core) (g st cause addr : Nat) : Core :=
  let x := strm (stn c g) st
  if x.state ≠ 1 then c
  else
    let c := setStrm c g st { x with state := 2, faultCause := cause, faultAddr := addr, pending := none, credit := false,
                                     waits := false }
    settleFault (addObj c Key.streamFaultCount 1) g st

/-- ADDRESS_FAULT of a stream's row (R202). -/
def streamAddrFault (c : Core) (g st row addr : Nat) : Core :=
  let x := strm (stn c g) st
  if x.state ≠ 1 then c
  else streamFault (raise c 0x0702 .fault g (sTag x.active) [g, st, row, addr]) g st 1 addr

/-- STREAM_LOST (R234, R303): `what` is the semaphore name or the context. -/
def streamLost (c : Core) (g st what addr : Nat) : Core :=
  let x := strm (stn c g) st
  if x.state ≠ 1 then c
  else
    streamFault (raise c 0x0705 .report g (sTag x.active) [g, st, what]) g st 4 addr

/-- SYNC_REFUSED (R234). -/
def streamSyncRefused (c : Core) (g st name : Nat) (s : Status) : Core :=
  let x := strm (stn c g) st
  if x.state ≠ 1 then c
  else streamFault (raise c 0x0706 .fault g (sTag x.active) [g, st, name, s.code]) g st 5 name

/-! ### Progress -/

/-- Rows moved whose transfers are all acknowledged (R211). -/
def rowsAcked (x : Stream) : Nat := x.row - (x.openRows.filter fun r => decide (r < x.row)).dedup.length

/-- One transfer of a row is acknowledged: progress (R209). -/
def ackRow (x : Stream) (row : Nat) : Stream :=
  let x := { x with openRows := x.openRows.erase row, stalled := false }
  { x with rowsDone := rowsAcked x }

/-- The next byte to move after `n` bytes: the next row when the row is whole, and no credit past a unit's last row. -/
def advance (x : Stream) (n : Nat) : Stream :=
  if x.off + n < sRowBytes x.active then { x with off := x.off + n }
  else
    let row := x.row + 1
    { x with row := row, off := 0,
             credit := x.credit && row % sUnitRows x.active ≠ 0 && decide (row < sRows x.active) }

/-! ### Credits (R199, R345) -/

/-- The members whose credits a unit needs, as offsets from EMPTY_REF's semaphore: one credit, or one of each attached
member of a module group (R345). -/
def creditMembers (c : Core) (d : Nat) : List Nat :=
  if sKind d = 5 ∧ mcGroup d ≠ 0 then
    (List.range (mcMembers c d).length).filter fun i => !isDetached c d i
  else [0]

/-- One credit taken from EMPTY_REF's semaphore of a member; what its reply means to the stream (R199, R234). -/
def takeCredit (c : Core) (g st member : Nat) : Core :=
  let x := strm (stn c g) st
  let r := sEmpty x.active
  let sem := refSem r + member
  if x.state ≠ 1 then c
  else
    let t := slotTake c (streamSlot g st) (refField r) sem 1 g
    let y := strm (stn t.1 g) st
    match t.2 with
    | .ok => setStrm t.1 g st { y with got := y.got ++ [member], waits := false }
    | .taken => setStrm t.1 g st { y with waits := true }
    | .busy => t.1
    | .lost => streamLost t.1 g st (semName t.1 (refField r) sem) (semName t.1 (refField r) sem)
    | s => streamSyncRefused t.1 g st (semName t.1 (refField r) sem) s

/-- STREAM_UNIT_START (R199): the unit's credits are taken; with all of them, or with EMPTY_REF off, the unit begins. -/
def execStreamUnitStart (g st : Nat) (s : State) : Out := inRange g 192 <| inRange st 16 <| onCore (fun c =>
  let x := strm (stn c g) st
  if x.state ≠ 1 ∨ x.credit ∨ sRows x.active ≤ x.row then c
  else if !refOn (sEmpty x.active) then setStrm c g st { x with credit := true }
  else
    let need := creditMembers c x.active
    let c := (need.filter fun i => !x.got.contains i).foldl (fun c i => takeCredit c g st i) c
    let y := strm (stn c g) st
    if y.state = 1 ∧ need.all (fun i => y.got.contains i) then setStrm c g st { y with credit := true, got := [] }
    else c) s

/-! ### Remote transfers (R294, R301, R302) -/

/-- The flow context that carries an issuer's traffic to a module, whatever its state (R301). -/
def flowAny (c : Core) (issuer m : Nat) : Option Nat :=
  let flows := match c.alm.image with
    | some im => im.flows
    | none => []
  (c.fab.ctxs.find? fun p => p.2.kind = 0 && p.2.state ≠ 0 && p.2.peerMod = m &&
    flows.any fun fl => fl.num = p.2.flow && fl.issuers.contains issuer).map fun p => p.1

/-- The links of the route in use of a context's flow. -/
def routeOf (c : Core) (x : Ctx) : List LinkDecl :=
  match c.alm.image with
  | none => []
  | some im => match im.flows.find? fun fl => fl.num = x.flow with
    | some fl => fl.routes.getD x.route []
    | none => []

/-- The egress port of a context. -/
def egressPort (c : Core) (i : Nat) : Nat := ((routeOf c (ctxOf c i)).head?.map fun l => l.port).getD 0

/-- The access-table target of a fabric port: the even member of a joined pair (R278). -/
def portTarget (c : Core) (p : Nat) : Nat := 139 + (if joined c p then p / 2 * 2 else p)

/-- Bytes of packets held for a context: header and payload. -/
def heldBytes (x : Ctx) : Nat := ((x.queue ++ x.store).map fun p => pktBytes p.pkt).sum

/-- Room in the replay store for one more packet of a flow: 1 MiB a direction, 32 MiB in all (R294). -/
def storeRoom (c : Core) (i n : Nat) : Bool :=
  let b := 32 + 64 * ((n + 63) / 64)
  decide (heldBytes (ctxOf c i) + b ≤ 2 ^ 20) && decide ((c.fab.ctxs.map fun p => heldBytes p.2).sum + b ≤ 2 ^ 25)

/-- How a remote transfer of an issuer may go: on a context; it waits; refused by the egress table; or its flow is
aborted. -/
inductive Egress where
  | go (ctx : Nat)
  | wait
  | refused (target m : Nat)
  | lost (ctx : Nat)
  deriving DecidableEq, Repr

/-- The egress of a request of `n` payload bytes to a module (R294, R302, R303). -/
def egress (c : Core) (issuer m n : Nat) (rt : Right) : Egress :=
  match flowAny c issuer m with
  | none => .wait
  | some i =>
    if (ctxOf c i).state = 3 then .lost i
    else if (ctxOf c i).state ≠ 1 then .wait
    else
      let t := portTarget c (egressPort c i)
      if !tablePermits c.acc t issuer m rt then .refused t m
      else if storeRoom c i n then .go i else .wait

/-- The egress of a piece whose bytes are read: it had its room when it was asked for, and does not wait again. -/
def egressNow (c : Core) (issuer m n : Nat) (rt : Right) : Egress :=
  match egress c issuer m n rt with
  | .wait => match flowAny c issuer m with
    | some i => .go i
    | none => .wait
  | e => e

/-- A tag for a remote request on a context, recorded with its address and cause. -/
def newTag (c : Core) (ctx addr : Nat) (cause : Cause) : Nat × Core :=
  let t := c.fab.nextTag
  (t, { c with fab := { c.fab with nextTag := (t + 1) % 65536, reqs := tset c.fab.reqs t (ctx, addr, cause) } })

/-- A transfer of a station's stream leaves on a context: its row is open until the acknowledgement. -/
def openRow (c : Core) (g st row : Nat) : Core :=
  let x := strm (stn c g) st
  setStrm c g st { x with openRows := x.openRows ++ [row] }

/-- A WRITE packet of a stream's row (R302). -/
def sendWrite (c : Core) (i g st row addr : Nat) (bs : Bytes) : Core :=
  let t := newXfer c g
  let c := addObj (openRow t.2 g st row) Key.streamBytes bs.length
  enqueue c i 0 g 0 addr 0 0 bs (.write g st t.1 row)

/-- A READ packet (R302): its payload holds the byte count (log entry 14). -/
def sendRead (c : Core) (i g addr n : Nat) (f : Nat → Cause) : Core :=
  let t := newXfer c g
  let r := newTag t.2 i addr (f t.1)
  enqueue r.2 i 1 g r.1 addr 0 0 (leBytes 4 n) .none

/-! ### Moving a piece of a row -/

/-- The element bytes of a format (R38). -/
def elemBytesOf (t : Nat) : Nat := if t = 3 then 2 else 1

/-- Index `j` of the stream's list (R200), from local memory or from what has come of a remote list; none if it has not
come. -/
def indexAt (mem : Memory) (c : Core) (x : Stream) (j : Nat) : Option Nat :=
  let w := sIdxBytes x.active
  if gaHere c x.idxA then some (mnum mem (gaOff x.idxA + j * w) w)
  else if (j + 1) * w ≤ x.idx.length then some (leNat ((x.idx.drop (j * w)).take w)) else none

/-- Whether an index is a skip (R200). -/
def isSkip (d i : Nat) : Bool := i = 2 ^ (8 * sIdxBytes d) - 1

/-- The source offset of row `j`. -/
def srcRow (x : Stream) (j i : Nat) : Nat :=
  gaOff x.srcA + (if idxSrc x.active then i else j) * sSrcStride x.active

/-- The destination offset of row `j`. -/
def dstRow (x : Stream) (j i : Nat) : Nat :=
  gaOff x.dstA + (if idxDst x.active then i else j) * sDstStride x.active

/-- Whether a computed row lies in the map (R202). -/
def rowMapped (o n : Nat) : Bool := decide (o < 2 ^ 44) && mapped o n

/-- The bytes of a transposed row (R203): element `j` of each of 128 source rows. -/
def xposeRow (mem : Memory) (x : Stream) (j : Nat) : Bytes :=
  let eb := elemBytesOf (sFmt x.active)
  ((List.range 128).map fun i => mreadN mem (gaOff x.srcA + i * sSrcStride x.active + j * eb) eb).flatten

/-- The rows that a class of the Carousel buffer holds at most (R114). -/
def ringCap (deferred : Bool) : Nat := if deferred then 256 else 512

/-- The operand buffer of a class. -/
def opBuf (s : Station) (deferred : Bool) : List OpRow := if deferred then s.ring.defr else s.ring.crit
/-- The operand buffer of a class replaced. -/
def setOpBuf (c : Core) (g : Nat) (deferred : Bool) (b : List OpRow) : Core :=
  let s := stn c g
  setStn c g { s with ring := if deferred then { s.ring with defr := b } else { s.ring with crit := b } }

/-- The 128-byte rows of the buffer that a row of a RING stream fills (log entry 22). -/
def ringParts (d : Nat) : Nat := (sRowBytes d + 127) / 128

/-- Bytes of a RING stream's row, from byte `o` of it, enter the injector's buffer: 128 bytes a row there, the last filled with
zeros; together the descriptor's rows are one tile (R116, log entry 22). -/
def injectRow (c : Core) (g st row o : Nat) (bs : Bytes) : Core :=
  let x := strm (stn c g) st
  let d := x.active
  let arg := sArg d
  let inj := bits arg 16 8
  let deferred := bit d 54
  let rs := (List.range ((bs.length + 127) / 128)).map fun i =>
    let b := (bs.drop (128 * i)).take 128
    ({ tile := (g * 16 + st, x.serial), rows := sRows d * ringParts d, fmt := sFmt d, h := bits arg 8 8, sigma := bits arg 0 8,
       hop := 0, idx := row * ringParts d + o / 128 + i, data := b ++ List.replicate (128 - b.length) 0, fwd := false,
       used := false } : OpRow)
  setOpBuf c inj deferred (opBuf (stn c inj) deferred ++ rs)

/-- Bytes of a CHAIN stream enter the injector's weight buffer (R120). -/
def injectWeight (c : Core) (d : Nat) (bs : Bytes) : Core :=
  let inj := bits (sArg d) 16 8
  let s := stn c inj
  let b : WTile := s.ring.wbuf.getD { fmt := sFmt d, left := bits (sArg d) 0 8, got := 0, data := [], taken := false, sent := false }
  let b := { b with data := mwriteN b.data b.got bs, got := min 32768 (b.got + bs.length) }
  setStn c inj { s with ring := { s.ring with wbuf := some b } }

/-- Whether the injector's buffer takes `n` more bytes now (R114, R120). -/
def ringRoom (c : Core) (d n : Nat) : Bool :=
  let s := stn c (bits (sArg d) 16 8)
  if sKind d = 3 then decide ((opBuf s (bit d 54)).length + (n + 127) / 128 ≤ ringCap (bit d 54))
  else match s.ring.wbuf with
    | none => true
    | some b => decide (b.got < 32768)

/-- The ADDR word of an MCAST packet (R331). -/
def mcastAddr (set full : Nat) (detach last : Bool) (off : Nat) : Nat :=
  fieldAt 58 set + fieldAt 46 full + fieldAt 40 3 + fieldAt 39 (b2n detach) + fieldAt 38 (b2n last) + off

/-- A piece of a multicast row reaches every receiver of this module and every attached remote member (R204, R344). -/
def putMcast (mem : Memory) (c : Core) (g st row o : Nat) (bs : Bytes) : Core × Memory × Option (Nat × Nat) :=
  let x := strm (stn c g) st
  let d := x.active
  let y := gaOff x.dstA - 0x81000000000 + row * sDstStride d + o
  let here := if (mcReceivers c d).isEmpty ∨ isDetached c d 0 then [] else mcReceivers c d
  let r := here.foldl (fun (acc : Core × Memory × Option (Nat × Nat)) k =>
    match acc.2.2 with
    | some _ => acc
    | none =>
      let w := busWrite acc.2.1 acc.1 g (stBase k + y) bs (sTag d)
      (if w.2.2 = .ok then addObj w.1 Key.streamBytes bs.length else w.1, w.2.1,
        if w.2.2 = .ok then none else some (w.2.2.code, stBase k + y - o)))
    (c, mem, none)
  let base := if (mcReceivers c d).isEmpty then 0 else 1
  let last := refOn (sFull d) && o + bs.length = sRowBytes d && ((row + 1) % sUnitRows d = 0 || row + 1 = sRows d)
  let c := (mcRemote c d).zipIdx.foldl (fun c p =>
    if isDetached c d (base + p.2) then c
    else match egressNow c g p.1 bs.length .w with
      | .go i =>
        let t := newXfer c g
        enqueue (addObj (openRow t.2 g st row) Key.streamBytes bs.length) i 8 g 0 (mcastAddr (bits (sArg d) 0 8) (refSem (sFull d)) false last y) 0 0 bs
          (.write g st t.1 row)
      | .refused t n => streamFault (refuse c g t n .w (sTag d)) g st 2 (rowGa (fieldAt 48 p.1) (0x81000000000 + y - o))
      | .lost i => streamLost c g st i (rowGa (fieldAt 48 p.1) (0x81000000000 + y))
      | .wait => c) r.1
  (c, r.2.1, r.2.2)

/-- A write that a target turned away faults the stream: a refusal by cause 2, a malformed write by cause 1 (R202,
R242). -/
def writeOutcome (c : Core) (g st row addr : Nat) (s : Status) : Core :=
  if s = .ok then c else if s = .access then streamFault c g st 2 addr else streamAddrFault c g st row addr

/-- What a read that gave no bytes means to the stream (R202): FAULT_ADDR is the row's address. -/
def readOutcome (c : Core) (g st addr : Nat) (a : ReadAns) : Core :=
  match a with
  | .refused => streamFault c g st 2 addr
  | .bad => streamFault c g st 3 addr
  | .data _ => c

/-- An atomic of a row (R206): the old value goes to the return area. A return offset that runs past station memory is no valid
address of the row (log entry 91). -/
def putAtomic (mem : Memory) (c : Core) (g st row i : Nat) (bs : Bytes) : Core × Memory :=
  let x := strm (stn c g) st
  let d := x.active
  let op := bits (sArg d) 60 4
  let o := dstRow x row i
  let ret := bits (sArg d) 0 44 + row * atomicTarget op
  let ga := rowGa x.dstA o
  if o % atomicTarget op ≠ 0 ∨ stSize < ret + atomicTarget op then (streamAddrFault c g st row ga, mem)
  else if gaHere c x.dstA then
    let r := busAtomic mem c g o op bs (sTag d)
    match r.2.2 with
    | .data old => (addObj (vigilWrite r.1 g (stBase g + ret) old.length 3) Key.streamBytes (2 * old.length),
                    mwriteN r.2.1 (stBase g + ret) old)
    | e => (readOutcome r.1 g st ga e, r.2.1)
  else match egressNow c g (gaMod c x.dstA) bs.length .a with
    | .go k =>
      let t := newXfer c g
      let r := newTag (addObj (openRow t.2 g st row) Key.streamBytes (2 * atomicTarget op)) k ga (.atomic g st t.1 row)
      (enqueue r.2 k 3 g r.1 ga 0 op bs .none, mem)
    | .refused t n => (streamFault (refuse c g t n .a (sTag d)) g st 2 ga, mem)
    | .lost k => (streamLost c g st k ga, mem)
    | .wait => (c, mem)

/-- A piece of row `row` at byte `o` reaches its destination. -/
def putPiece (mem : Memory) (c : Core) (g st row o : Nat) (bs : Bytes) : Core × Memory :=
  let x := strm (stn c g) st
  let d := x.active
  let i := if sIdxBytes d = 0 then 0 else (indexAt mem c x row).getD 0
  if sKind d = 3 then (addObj (injectRow c g st row o bs) Key.streamBytes bs.length, mem)
  else if sKind d = 4 then (addObj (injectWeight c d bs) Key.streamBytes bs.length, mem)
  else if sKind d = 5 then
    let r := putMcast mem c g st row o bs
    (match r.2.2 with
      | none => r.1
      | some (code, a) => writeOutcome r.1 g st row (gaLocal a) (if code = 4 then .access else .range), r.2.1)
  else if sKind d = 6 then putAtomic mem c g st row i bs
  else
    let a := dstRow x row i + o
    let ga := rowGa x.dstA a
    let c := if gaClass (sDst d) = 3 then idleWrite c g else c
    if gaHere c x.dstA then
      let r := busWrite mem c g a bs (sTag d)
      (writeOutcome (if r.2.2 = .ok then addObj r.1 Key.streamBytes bs.length else r.1) g st row (rowGa x.dstA (a - o)) r.2.2,
        r.2.1)
    else match egressNow c g (gaMod c x.dstA) bs.length .w with
      | .go k => (sendWrite c k g st row ga bs, mem)
      | .refused t n => (streamFault (refuse c g t n .w (sTag d)) g st 2 (rowGa x.dstA (a - o)), mem)
      | .lost k => (streamLost c g st k ga, mem)
      | .wait => (c, mem)

/-- Whether a piece of `n` bytes may leave for its destination now: buffers and replay store have room. -/
def dstReady (c : Core) (g st n : Nat) : Bool :=
  let x := strm (stn c g) st
  let d := x.active
  if sKind d = 3 ∨ sKind d = 4 then ringRoom c d n && x.openRows.isEmpty
  else if sKind d = 5 then
    (mcRemote c d).zipIdx.all fun p =>
      isDetached c d ((if (mcReceivers c d).isEmpty then 0 else 1) + p.2) || egress c g p.1 n .w != .wait
  else gaHere c x.dstA || egress c g (gaMod c x.dstA) n .w != .wait

/-- The piece's bytes have been read: the stream moves on and the piece leaves. A write that this module acknowledges at once is
progress (R209). -/
def movePiece (mem : Memory) (c : Core) (g st row o : Nat) (bs : Bytes) : Core × Memory :=
  let c := setStrm c g st (advance (strm (stn c g) st) bs.length)
  let n := (strm (stn c g) st).openRows.length
  let r := putPiece mem c g st row o bs
  let y := strm (stn r.1 g) st
  (setStrm r.1 g st { y with rowsDone := rowsAcked y, stalled := y.stalled && decide (n < y.openRows.length) }, r.2)

/-- Whether the row under way is read through a merge window (R205): its computed row lies in slice memory. -/
def merges (x : Stream) (src : Nat) : Bool := sMrg x.active && inSlice (src + x.off)

/-- The size of the next piece, at most 256 bytes of the row: within one line for a merged read (R205), and otherwise, before the
row's end, up to a 64-byte unit of its destination, so that a unit is written at once (R25, R198). -/
def pieceLen (x : Stream) (src dst : Nat) : Nat :=
  let n := min 256 (sRowBytes x.active - x.off)
  let n := if merges x src then min n (256 - (src + x.off) % 256) else n
  let cut := (dst + x.off + n) % 64
  if (memDst x.active || sKind x.active = 5) && decide (x.off + n < sRowBytes x.active) && decide (cut < n) then n - cut else n

/-- A read that joins or opens the merge window of its line (R205): issued, it is outstanding until the window delivers (R222). -/
def joinWindow (c : Core) (g st line : Nat) : Core :=
  if c.merge.any fun v => v.line = line && v.members.any fun p => p.1 = g && p.2.1 = st then c
  else
    let t := newXfer c g
    let c := t.2
    match c.merge.find? (fun w => w.line = line && w.data.isNone) with
    | some w =>
      addObj { c with merge := c.merge.map fun v => if v = w then { v with members := v.members ++ [(g, st, t.1)] } else v }
        Key.mergedReads 1
    | none => { c with merge := c.merge ++ [{ line := line, members := [(g, st, t.1)], data := none }] }

/-- The index of the row under way, if the row may move now; a remote list is asked for the next bytes. -/
def rowIndex (mem : Memory) (c : Core) (g st : Nat) : Core × Option Nat :=
  let x := strm (stn c g) st
  let d := x.active
  let w := sIdxBytes d
  if w = 0 then (c, some 0)
  else
    let a := x.idxA
    if gaHere c a then
      let o := gaOff a + x.row * w
      if !rowMapped o w then (streamAddrFault c g st x.row (rowGa a o), none)
      else
        let r := busRead mem c g o w (sTag d)
        match r.2 with
        | .data bs => (r.1, some (leNat bs))
        | e => (readOutcome r.1 g st (rowGa a o) e, none)
    else match indexAt mem c x x.row with
      | some i => (c, some i)
      | none =>
        if x.idx.length < x.idxReq then (c, none)
        else
          let o := gaOff a + x.idx.length
          let n := min 256 (sRows d * w - x.idx.length)
          if !rowMapped o n then (streamAddrFault c g st x.row (rowGa a o), none)
          else match egress c g (gaMod c a) 4 .r with
            | .go k =>
              let c := setStrm c g st { x with idxReq := x.idx.length + n }
              (sendRead c k g (rowGa a o) n (fun t => .index g st t), none)
            | .refused t m => (streamFault (refuse c g t m .r (sTag d)) g st 2 (rowGa a o), none)
            | .lost k => (streamLost c g st k (rowGa a o), none)
            | .wait => (c, none)

/-- The computed row is malformed, unmapped, or would write accumulators (R202): its address. -/
def badRow (x : Stream) (i : Nat) : Option Nat :=
  let d := x.active
  let n := sRowBytes d
  let so := srcRow x x.row i
  let dO := dstRow x x.row i
  let skip := sIdxBytes d ≠ 0 && isSkip d i
  if !(sXpose d) && !(idxSrc d && skip) && !rowMapped so n then some (rowGa x.srcA so)
  else if memDst d && (!rowMapped dO (if sKind d = 6 then atomicTarget (bits (sArg d) 60 4) else n) || inAcc dO) then
    some (rowGa x.dstA dO)
  else if (sKind d = 6) && !(inHbm dO || inSlice dO || inStation dO) then some (rowGa x.dstA dO)
  else none

/-- One piece of a row whose index is known: read, and moved or requested. -/
def transferPiece (mem : Memory) (c : Core) (g st i : Nat) : Core × Memory :=
  let x := strm (stn c g) st
  let d := x.active
  let so := srcRow x x.row i
  let n := pieceLen x so (dstRow x x.row i)
  let ga := rowGa x.srcA (so + x.off)
  if !dstReady c g st n then (c, mem)
  else if sIdxBytes d ≠ 0 && isSkip d i && idxSrc d then movePiece mem c g st x.row x.off (List.replicate n 0)
  else if sXpose d then
    let eb := elemBytesOf (sFmt d)
    let r := (List.range 128).foldl (fun (acc : Core × Bool) j =>
      if acc.2 then
        let a := gaOff x.srcA + j * sSrcStride d + x.row * eb
        let q := busRead mem acc.1 g a eb (sTag d)
        match q.2 with
        | .data _ => (q.1, true)
        | e => (readOutcome q.1 g st (rowGa x.srcA (a - x.row * eb)) e, false)
      else acc) (c, true)
    if r.2 then movePiece mem r.1 g st x.row x.off (((xposeRow mem x x.row).drop x.off).take n) else (r.1, mem)
  else if merges x so then
    match refusalOf c g (so + x.off) n .r with
    | some t => (streamFault (refuse c g t.1 t.2 .r (sTag d)) g st 2 (rowGa x.srcA so), mem)
    | none => (joinWindow c g st ((so + x.off) / 256), mem)
  else if gaHere c x.srcA then
    let r := busRead mem c g (so + x.off) n (sTag d)
    match r.2 with
    | .data bs => movePiece mem r.1 g st x.row x.off bs
    | e => (readOutcome r.1 g st (rowGa x.srcA so) e, mem)
  else match egress c g (gaMod c x.srcA) 4 .r with
    | .go k =>
      let c := sendRead (openRow c g st x.row) k g ga n (fun t => .read g st t x.row x.off n)
      (setStrm c g st (advance (strm (stn c g) st) n), mem)
    | .refused t m => (streamFault (refuse c g t m .r (sTag d)) g st 2 (rowGa x.srcA so), mem)
    | .lost k => (streamLost c g st k ga, mem)
    | .wait => (c, mem)

/-- STREAM_TRANSFER (R198): the stream's next piece. A skip of a SCATTER or ATOMIC only counts as a row (R200). -/
def execStreamTransfer (g st : Nat) (s : State) : Out := inRange g 192 <| inRange st 16 <| onBoth (fun mem c =>
  let x := strm (stn c g) st
  if x.state ≠ 1 ∨ !x.credit ∨ sRows x.active ≤ x.row then (c, mem)
  else
    let r := rowIndex mem c g st
    match r.2 with
    | none => (r.1, mem)
    | some i =>
      let c := r.1
      if idxDst x.active && isSkip x.active i then
        let y := advance x (sRowBytes x.active)
        (setStrm c g st { y with rowsDone := rowsAcked y }, mem)
      else match (if x.off = 0 then badRow x i else none) with
        | some a => (streamAddrFault c g st x.row a, mem)
        | none => transferPiece mem c g st i) s

/-- A member of a merge window receives its bytes (R205): its read has returned (R222). A word that cannot be corrected faults the
stream (R183). -/
def deliverMerged (line : Nat) (data : Bytes) (acc : Core × Memory) (p : Nat × Nat × Nat) : Core × Memory :=
  let g := p.1
  let st := p.2.1
  let c := closeXfer acc.1 g p.2.2
  let x := strm (stn c g) st
  if x.state ≠ 1 ∨ !x.credit then (c, acc.2)
  else
    let i := if sIdxBytes x.active = 0 then 0 else (indexAt acc.2 c x x.row).getD 0
    let so := srcRow x x.row i
    let a := so + x.off
    let n := pieceLen x so (dstRow x x.row i)
    if a / 256 ≠ line then (c, acc.2)
    else match eccBad c [a] n with
      | some w => (streamFault (memError c g (sTag x.active) w) g st 3 (rowGa x.srcA so), acc.2)
      | none => movePiece acc.2 (vigilRead c g a n) g st x.row x.off ((data.drop (a % 256)).take n)

/-- MERGE_WINDOW (R205): one read of the line for every member of its oldest window; the read stood already if a write
closed the window. -/
def execMergeWindow (line : Nat) (s : State) : Out := onBoth (fun mem c =>
  match c.merge.find? fun w => w.line = line with
  | none => (c, mem)
  | some w =>
    let data := w.data.getD (mreadN mem (line * 256) 256)
    w.members.foldl (deliverMerged line data) ({ c with merge := c.merge.erase w }, mem)) s

/-- STREAM_UNIT_DONE (R199, R202): the next unit, once all its rows are acknowledged, signals FULL_REF. -/
def execStreamUnitDone (g st : Nat) (s : State) : Out := inRange g 192 <| inRange st 16 <| onCore (fun c =>
  let x := strm (stn c g) st
  let d := x.active
  let stop := min ((x.units + 1) * sUnitRows d) (sRows d)
  if x.state = 0 ∨ unitCount d ≤ x.units ∨ x.row < stop ∨ x.openRows.any (fun r => decide (r < stop)) then c
  else signalFull (setStrm c g st { x with units := x.units + 1 }) g d) s

/-- STREAM_COMPLETE (R197): DONE_REF, then PENDING is promoted or the stream is IDLE. -/
def execStreamComplete (g st : Nat) (s : State) : Out := inRange g 192 <| inRange st 16 <| onCore (fun c =>
  let x := strm (stn c g) st
  let d := x.active
  if x.state ≠ 1 ∨ x.row < sRows d ∨ !x.openRows.isEmpty ∨ x.units < unitCount d then c
  else
    let c := if refOn (sDone d) then unitSignal c (refField (sDone d)) (refSem (sDone d)) g .unit else c
    let x := strm (stn c g) st
    match x.pending with
    | some p => setStrm c g st (activate c x p)
    | none => setStrm c g st { x with state := 0 }) s

/-- STREAM_STALL (R209, R210): reported once when WATCHDOG × 1,024 ticks have passed without progress. -/
def execStreamStall (g st : Nat) (s : State) : Out := inRange g 192 <| inRange st 16 <| onCore (fun c =>
  let x := strm (stn c g) st
  let d := x.active
  if x.state ≠ 1 ∨ sWatchdog d = 0 ∨ x.stalled then c
  else
    let member := ((creditMembers c d).find? fun i => !x.got.contains i).getD 0
    let name := if x.waits then semName c (refField (sEmpty d)) (refSem (sEmpty d) + member) else 0
    raise (setStrm c g st { x with stalled := true }) 0x0704 .report g (sTag d) [g, st, name]) s

/-- STREAM_ARM (R196): a write by a master into the control block, judged as any write there. -/
def execStreamArm (master addr : Nat) (data : Bytes) (s : State) : Out := onBoth (fun mem c =>
  if inCtl addr && decide (0x18000 ≤ (addr - 0xF0000000000) % 0x20000 ∧ (addr - 0xF0000000000) % 0x20000 < 0x19000) then
    let r := busWrite mem c master addr data 0
    (r.1, r.2.1)
  else (c, mem)) s

/-- INSTRUCTION_WRITE (R242): a write by a master into instruction memory. -/
def execInstructionWrite (master addr : Nat) (data : Bytes) (s : State) : Out := onBoth (fun mem c =>
  if inImem addr && inImem (addr + (data.length - 1)) then
    let r := busWrite mem c master addr data 0
    (r.1, r.2.1)
  else (c, mem)) s

/-- STR (R263): the descriptor is read and arms the stream; its status is LAST_STATUS, known some cycles after issue (R253). -/
def execStr (g : Nat) (s : State) : Out := inRange g 192 <| onCoreMem (fun mem c =>
  match atPc mem c g .str with
  | none => c
  | some w =>
    let a := namedAddr (stn c g) (bits w 48 4) (bits w 26 22)
    match readStop c g [a] 64 64 with
    | some c => c
    | none =>
      let c := vigilRead c g (stBase g + a) 64
      let r := armStream c g (bits w 52 4) (mnum mem (stBase g + a) 64)
      holdCycles (lastStatus (issued r.1 g) g r.2) g 9 6) s

/-- MCAST_DETACH (R346): a member stalls when it alone of the attached members has given no credit for a unit that
waits, its semaphore empty for DETACH_TIME × 1,024 ticks (log entry 4). -/
def execMcastDetach (g st member : Nat) (s : State) : Out := inRange g 192 <| inRange st 16 <| onCore (fun c =>
  let x := strm (stn c g) st
  let d := x.active
  match modGroup c (mcGroup d) with
  | none => c
  | some mg =>
    let sem := refSem (sEmpty d) + member
    let others := (creditMembers c d).filter fun i => i ≠ member
    if x.state ≠ 1 ∨ sKind d ≠ 5 ∨ !bit d 53 ∨ x.credit ∨ sRows d ≤ x.row ∨ !refOn (sEmpty d)
        ∨ (mcMembers c d).length ≤ member ∨ isDetached c d member ∨ !others.all (fun i => x.got.contains i)
        ∨ x.got.contains member ∨ (semOf c (refField (sEmpty d)) sem).count ≠ 0 then c
    else
      let c := { c with alm := { c.alm with
        detached := tset c.alm.detached mg.num (tgetD c.alm.detached mg.num 0 + 2 ^ member) } }
      let c := raise c 0x0614 .report g (sTag d) [mg.num, member, x.row / sUnitRows d]
      let c := setStrm c g st { strm (stn c g) st with waits := false }
      let c := dropSlot c (refField (sEmpty d)) (streamSlot g st)
      match (mcMembers c d)[member]? with
      | some none =>
        ((List.range 8).filter fun f => (mcReceivers c d).any fun k => k / 24 = f).foldl
          (fun c f => if refOn (sFull d) then poison c f (refSem (sFull d)) 6 else c) c
      | some (some m) =>
        match egressNow c g m 0 .w with
        | .go i => enqueue c i 8 g 0 (mcastAddr (bits (sArg d) 0 8) (refSem (sFull d)) true false 0) 0 0 [] .none
        | .refused t n => streamFault (refuse c g t n .w (sTag d)) g st 2 (rowGa (fieldAt 48 m) (gaOff x.dstA))
        | .lost _ => c
        | .wait => c
      | none => c) s

end Sys2Proof.Machine
end

