-- ==== Sys2Proof/Machine/Carousel.lean ====
section
/-! DEFINITION. Operand rows and weight tiles on the Carousel (R114 to R120), and the deferred-W queue (R125 to R131,
R269). -/

namespace Sys2Proof.Machine

/-- The first row of a class that has still to leave clockwise (R117). -/
def rowToSend (c : Core) (g : Nat) (deferred : Bool) : Option Nat :=
  (opBuf (stn c g) deferred).findIdx? fun r => !r.fwd && decide (r.hop < r.h)

/-- Whether the next station's buffer of a class has a credit (R115). -/
def ringCredit (c : Core) (g : Nat) (deferred : Bool) : Bool :=
  decide ((opBuf (stn c (atDistance (obj c Key.loopLength) g 1)) deferred).length < ringCap deferred)

/-- Whether a row of a class can leave now: rows of a class that is sent first come before the others (R115). -/
def canSend (c : Core) (g : Nat) (deferred : Bool) : Bool := (rowToSend c g deferred).isSome && ringCredit c g deferred

/-- Whether the clockwise link of a station moves at all: a loop is in force, its clock runs, the domain is not held (R119), no crossing
on it has stopped (R401). -/
def linkMoves (c : Core) (g : Nat) : Bool :=
  decide (0 < obj c Key.loopLength) && !stGated c g && !heldNow c && !hopStopped c (obj c Key.loopLength) g

/-- A row comes into a buffer: at its last station, untaken, it retires at once (R117). -/
def rowArrives (b : List OpRow) (r : OpRow) : List OpRow := if rowDone r then b else b ++ [r]

/-- Cycles pass in which a class has data to send and no credit (R138): how many is open. -/
def creditStall (c : Core) : Core :=
  let d := draw c
  addObj d.2 Key.ringCreditStalls (1 + Config.freeNat d.1)

/-- CAROUSEL_FORWARD (R115, R117): the first row of the class not yet forwarded goes to the next station, if its buffer
has a credit and no critical row goes first; the row leaves when it has nothing left to do here. -/
def execCarouselForward (g : Nat) (deferred : Bool) (s : State) : Out := inRange g 192 <| onCore (fun c =>
  let b := opBuf (stn c g) deferred
  let nxt := atDistance (obj c Key.loopLength) g 1
  match rowToSend c g deferred with
  | none => c
  | some i =>
    if !linkMoves c g then c
    else if !ringCredit c g deferred then creditStall c
    else if deferred && canSend c g false then c
    else match b[i]? with
      | none => c
      | some r =>
        let c := setOpBuf c g deferred ((b.set i { r with fwd := true }).filter fun q => !rowDone q)
        let c := setOpBuf c nxt deferred
          (rowArrives (opBuf (stn c nxt) deferred) { r with hop := r.hop + 1, fwd := false, used := false })
        addObj c Key.cwRows 1) s

/-- WEIGHT_TILE_FORWARD (R115, R120): a complete tile with stations still to come goes to the next, empty weight buffer, behind
the operand rows that can leave. -/
def execWeightTileForward (g : Nat) (s : State) : Out := inRange g 192 <| onCore (fun c =>
  let nxt := atDistance (obj c Key.loopLength) g 1
  let s := stn c g
  match s.ring.wbuf with
  | none => c
  | some b =>
    if !linkMoves c g ∨ b.got < 32768 ∨ b.sent ∨ b.left = 0 then c
    else if (stn c nxt).ring.wbuf.isSome then creditStall c
    else if canSend c g false ∨ canSend c g true then c
    else
      let c := setStn c g { s with ring := { s.ring with wbuf := if b.taken then none else some { b with sent := true } } }
      let n := stn c nxt
      let c := setStn c nxt { n with ring := { n.ring with
        wbuf := some { b with left := b.left - 1, taken := false, sent := false } } }
      addObj c Key.cwWeightTiles 1) s

/-! ### The deferred-W queue -/

/-- The wait-slot number of a deferred-W queue (R229, log entry 21). -/
def dfwSlot (g : Nat) : Nat := 0x20000 + g

/-- A station's deferred-W queue changed. -/
def modDfw (c : Core) (g : Nat) (f : DfwQueue → DfwQueue) : Core := setStn c g { stn c g with dfw := f (stn c g).dfw }

/-- DFW (R253, R269): the entry joins the queue of 64. -/
def execDfw (g : Nat) (s : State) : Out := inRange g 192 <| onCoreMem (fun m c =>
  match atPc m c g .dfw with
  | none => c
  | some w =>
    let s := stn c g
    let e := bits w 48 8
    if 64 ≤ s.dfw.entries.length then waitOn c g 14
    else
      let x : DfwEntry := { pc := s.seq.pc, a := descE s e, b := descE s (e + 1), started := false, restored := false,
                            tileK := 0, row := 0, drained := false }
      let c := modDfw c g fun q => { q with entries := q.entries ++ [x] }
      let c := setObj c Key.dfwMaxDepth (max (obj c Key.dfwMaxDepth) (s.dfw.entries.length + 1))
      issued c g) s

/-- The first entry replaced. -/
def setHead (c : Core) (g : Nat) (e : DfwEntry) : Core :=
  modDfw c g fun q => { q with entries := e :: q.entries.drop 1 }

/-- A tile whose drain belonged to a discarded entry is OPEN again, with its contents (R131). -/
def freeDfwTile (c : Core) (g t : Nat) : Core :=
  match (tileOf (stn c g) t).state with
  | .draining d => if d.dfw then setTile c g t { tileOf (stn c g) t with state := .open } else c
  | .open => c

/-- Every entry is discarded, and one that drains stops (R131, R234, R269). -/
def dropDfw (c : Core) (g : Nat) : Core :=
  admitRows (freeDfwTile (freeDfwTile (modDfw c g fun q => { q with entries := [] }) g 0) g 1) g 16

/-- ADDRESS_FAULT of an entry (R249, R269): at the station, and the queue is discarded. -/
def dfwAddrFault (c : Core) (g pc a : Nat) : Core :=
  dropDfw (faultSeq (raise c 0x0702 .fault g 0 [g, 0xFF, 0, a]) g pc 2) g

/-- MEM_UNCORRECTABLE of an entry's reads (R183, R269). -/
def dfwMemFault (c : Core) (g pc x : Nat) : Core := dropDfw (instrMemFault c g pc x) g

/-- DFW_ENTRY_START (R127): the first entry takes its wait count. -/
def execDfwEntryStart (g : Nat) (s : State) : Out := inRange g 192 <| onCore (fun c =>
  match (stn c g).dfw.entries with
  | [] => c
  | e :: _ =>
    if e.started ∨ heldNow c then c
    else if !bit e.b 78 then setHead c g { e with started := true }
    else
      let r := slotTake c (dfwSlot g) (g / 24) (bits e.b 79 12) (bits e.b 91 12) g
      match r.2 with
      | .ok => setHead r.1 g { e with started := true }
      | .taken => r.1
      | .busy => r.1
      | .lost => modDfw (dropDfw r.1 g) g fun q => { q with lost := true }
      | _ => dropDfw (syncRefused r.1 g e.pc) g) s

/-- DFW_RESTORE (R127): with no row in flight in its OPEN tile, the PAIR image enters the tile. -/
def execDfwRestore (g : Nat) (s : State) : Out := inRange g 192 <| onBoth (fun m c =>
  match (stn c g).dfw.entries with
  | [] => (c, m)
  | e :: _ =>
    let t := bits e.a 0 1
    let x := tileOf (stn c g) t
    if !e.started ∨ e.restored ∨ !bit e.a 34 ∨ heldNow c ∨ !isOpen x ∨ !x.inflight.isEmpty then (c, m)
    else
      let base := bits e.b 34 22
      let rows := bits e.a 2 8 + 1
      let n := 8 * (bits e.a 10 8 + 1)
      match addrFault ((List.range rows).map fun r => base + r * 2048) n 64 with
      | some a => (dfwAddrFault c g e.pc a, m)
      | none =>
      match rowsBad c g ((List.range rows).map fun r => base + r * 2048) n with
      | some x => (dfwMemFault c g e.pc x, m)
      | none =>
        let c := (List.range rows).foldl (fun c r => vigilRead c g (stBase g + base + r * 2048) n 5) c
        (setHead c g { e with restored := true },
         (List.range rows).foldl (fun m r => mwriteN m (accAddr g t r 0) (mreadN m (stBase g + base + r * 2048) n)) m)) s

/-- The streamed rows of a chunk: those of the deferred buffer, or of station memory (R126). -/
def chunkRows (m : Memory) (c : Core) (g : Nat) (e : DfwEntry) (n : Nat) : List Bytes :=
  if bit e.a 32 then ((headRows (stn c g).ring.defr).take n).map fun r => r.data
  else (List.range n).map fun i =>
    mreadN m (stBase g + bits e.a 36 22 + 128 * e.tileK + (e.row + i) * bits e.a 58 16) 128

/-- The addresses that an entry's next chunk touches in station memory. -/
def chunkAddrs (e : DfwEntry) (n : Nat) : List Nat :=
  if bit e.a 32 then []
  else (List.range n).map fun i => bits e.a 36 22 + 128 * e.tileK + (e.row + i) * bits e.a 58 16

/-- The addresses of an entry's stationary rows for its K tile. -/
def statAddrs (e : DfwEntry) : List Nat :=
  let d := depthOf (bits e.b 30 4)
  (List.range d).map fun k => bits e.a 74 22 + (e.tileK * d + k) * bits e.a 96 16

/-- What comes after a chunk: the next chunk, the next K tile, or the drain (R127). -/
def dfwAdvance (c : Core) (g : Nat) (e : DfwEntry) (n : Nat) : Core :=
  let m := bits e.a 2 8 + 1
  if e.row + n < m then setHead c g { e with row := e.row + n }
  else
    let c := if bits e.b 26 4 = 3 then c else modArr c g fun a => { a with dfwMma := a.dfwMma + 1 }
    if e.tileK < bits e.a 18 12 then setHead c g { e with row := 0, tileK := e.tileK + 1 }
    else
      let t := bits e.a 0 1
      let pair := bit e.a 35
      let cols := bits e.a 10 8 + 1
      let base := bits e.b 56 22
      let pitch := if pair then 2048 else 1024
      match addrFault ((List.range m).map fun r => base + r * pitch) (cols * if pair then 8 else 4) 64 with
      | some a => dfwAddrFault c g e.pc a
      | none =>
        let dr : Drain := { rows := m, cols := cols, pair := pair, dest := some (base, pitch), out := [], fin := none,
                            xfer := 0, begun := false, dfw := true, group := none, order := 0 }
        setHead (setTile c g t { tileOf (stn c g) t with state := .draining dr }) g { e with drained := true }

/-- Whether the sequencer has an MMA ready to issue (R129): the word at PC is one, and awaits nothing. -/
def mmaReady (m : Memory) (c : Core) (g : Nat) : Bool :=
  match atPc m c g .mma with
  | some w => (mmaWaits (stn c g) w).isNone
  | none => false

/-- DFW_CHUNK_ISSUE (R127 to R129): behind a sequencer MMA that is ready, the next rows of the entry's K tile; its stationary tile is loaded with the first. -/
def execDfwChunkIssue (g : Nat) (s : State) : Out := inRange g 192 <| onCoreMem (fun m c =>
  let st := stn c g
  match st.dfw.entries with
  | [] => c
  | e :: _ =>
    let t := bits e.a 0 1
    let p := bits e.a 1 1
    let rows := bits e.a 2 8 + 1
    let n := min (32 <<< bits e.a 30 2) (rows - e.row)
    let fa := bits e.b 26 4
    let fw := bits e.b 30 4
    let ring := bit e.a 32
    let busy : Bool := match st.arr.load with | some l => decide (l.plane = p) | none => false
    if !e.started ∨ (bit e.a 34 ∧ !e.restored) ∨ e.drained ∨ heldNow c ∨ stGated c g ∨ !isOpen (tileOf st t) ∨ busy
        ∨ mmaReady m c g then c
    else if ring ∧ (e.row = 0 ∧ headTile st.ring.defr = none ∨ (headRows st.ring.defr).length < n ∧ 0 < e.row) then c
    else if ring ∧ e.row = 0 ∧ ((headRows st.ring.defr).map fun r => r.rows).headD rows ≠ rows then
      dropDfw (faultSeq (raise c 0x0802 .fault g 0
        [g, e.pc, ((headRows st.ring.defr).map fun r => r.rows).headD 0]) g e.pc 4) g
    else if ring ∧ ((headRows st.ring.defr).take n).any (fun r => r.fmt ≠ fa) then
      dropDfw (formatMismatch c g e.pc) g
    else
      match (addrFault (chunkAddrs e n) 128 64 <|> (if e.row = 0 then addrFault (statAddrs e) (if fw = 3 then 512 else 256) 64
          else none)) with
      | some a => dfwAddrFault c g e.pc a
      | none =>
      let statN := if fw = 3 then 512 else 256
      match rowsBad c g (chunkAddrs e n) 128 <|> (if e.row = 0 then rowsBad c g (statAddrs e) statN else none) with
      | some x => dfwMemFault c g e.pc x
      | none =>
        let c := (chunkAddrs e n).foldl (fun c a => vigilRead c g (stBase g + a) 128 1) c
        let c := if e.row = 0 then (statAddrs e).foldl (fun c a => vigilRead c g (stBase g + a) statN 2) c else c
        let c := if e.row = 0 then
            let bs := ((statAddrs e).map fun a => mreadN m (stBase g + a) (if fw = 3 then 512 else 256)).flatten
            setPlane c g p { tag := some fw, data := placeTile fw (widthOf c g) bs } else c
        let h : Shape := { m := rows, n := bits e.a 10 8 + 1, k := depthOf fw,
                           mode := if e.tileK = 0 ∧ !bit e.a 34 then .overwrite else .compensate,
                           fa := fa, fw := fw, sa := bits e.b 0 13, sw := bits e.b 13 13, stride := 0 }
        let xs := (chunkRows m c g e n).map fun bs => rowElems fa h.k bs
        let pl := (planeOf (stn c g) p).data
        let upd := mmaRows c h pl xs e.row h.mode false none
        let c := countProducts c h pl xs
        let c := addObj (addObj c Key.arrayBusyCycles n) Key.dfwArrayCycles n
        let c := if ring then setOpBuf c g true (useRows (stn c g).ring.defr n) else c
        let c := if fa = 3 then c else keepAudit c g (2 ^ 63 + (stn c g).arr.dfwMma) h upd
        let c := modArr c g fun a => { a with chunk := n }
        dfwAdvance (addInflight c g t upd) g e n) s

end Sys2Proof.Machine
end

