-- ==== Sys2Proof/Machine/StationSync.lean ====
section
/-! DEFINITION. Station synchronization: SIG, TAK, WAT, FNC, their replies and messages (R222, R223, R228 to R236, R264 to
R267). -/

namespace Sys2Proof.Machine

/-! ### Operations that leave a station -/

/-- The code of an operation in a SYNC packet (R296). -/
def SyncKind.code : SyncKind → Nat
  | .add => 0 | .sub => 1 | .tak => 2 | .wat => 3 | .poison => 0 | .gate => 1

/-- The payload of a SYNC packet: n, then the cookie and the waiter's proxy (log entry 14). -/
def syncPayload (op : SyncOp) : Bytes := leBytes 4 op.n ++ leBytes 4 op.cookie ++ leBytes 4 op.slot

/-- The message a proxy's waiter gets when the home is lost (R235). -/
def proxyLost (c : Core) (x : Proxy) : WatchMsg :=
  { status := .lost, cause := 3, sem := x.sem, cookie := x.cookie, noWatch := true, localOrigin := true, handle := 0,
    count := 0, thresh := x.n, frame := obj c Key.frameCount }

/-- An operation whose flow has aborted, or that has no flow left (R235, R266): LOST, and for a WAT the LOST message too. -/
def remoteLost (c : Core) (op : SyncOp) (proxy : Option (Nat × Proxy)) : Core :=
  let c := awayReply c op.back .lost
  match proxy with
  | some (_, x) => sendWatch c x.waiter x.slot (proxyLost c x)
  | none => c

/-- An operation leaves for another module (R236, R302); a WAT's proxy is kept once it is on its way (R235). The packet waits in
its flow's queue while the replay store has no room. -/
def sendRemote (c : Core) (module name : Nat) (op : SyncOp) (proxy : Option (Nat × Proxy)) : Core :=
  match egressNow c op.issuer module 64 op.kind.right with
  | .go i =>
    let r := newTag c i name (.sync op.back (proxy.map fun p => p.1))
    let c := match proxy with
      | some (p, x) => { r.2 with fab := { r.2.fab with proxies := tset r.2.fab.proxies p x } }
      | none => r.2
    enqueue c i 5 op.issuer r.1 name 0 op.kind.code (syncPayload op) .none
  | .refused t m => giveReply (refuse c op.issuer t m op.kind.right) op.back .access
  | .lost _ => remoteLost c op proxy
  | .wait => remoteLost c op proxy

/-- The name of a semaphore that a word addresses (R214): module, field, number. -/
def wordSem (c : Core) (module field sem : Nat) (self : Bool) : Nat :=
  fieldAt 16 (if self then ownMod c else module) + fieldAt 12 field + sem

/-- Whether a word addresses this module: SELF, or its own module ID (R250, R214). -/
def wordHere (c : Core) (module : Nat) (self : Bool) : Bool := self || module = ownMod c

/-! ### SIG -/

/-- The SIGs of a station's signal queue. -/
def sigCount (s : Station) : Nat := (s.fq.filter fun x => match x with | .sig _ _ _ _ => true | _ => false).length
/-- The fences of a station that have not retired. -/
def fenceCount (s : Station) : Nat := (s.fq.filter fun x => match x with | .fence _ _ => true | _ => false).length

/-- A SIG enters the signal queue (R223, R264). -/
def sigIssue (m : Memory) (c : Core) (g : Nat) (o : Op) (k : SyncKind) : Core :=
  match atPc m c g o with
  | none => c
  | some w =>
    let s := stn c g
    if 16 ≤ sigCount s then waitOn c g 11
    else
      let op : SyncOp := { issuer := g, kind := k, sem := bits w 13 12, n := bits w 40 16, cookie := 0, slot := 0,
                           back := .sig g s.seq.pc }
      let e : FenceOrSig := .sig s.seq.pc (if wordHere c (bits w 28 12) (bit w 12) then none else some (bits w 28 12))
        (bits w 25 3) op
      issued (setStn c g { s with fq := s.fq ++ [e] }) g

/-- SIG_ADD (R264). -/
def execSigAdd (g : Nat) (s : State) : Out := inRange g 192 <| onCoreMem (fun m c => sigIssue m c g .sigAdd .add) s

/-- SIG_SUB (R264). -/
def execSigSub (g : Nat) (s : State) : Out := inRange g 192 <| onCoreMem (fun m c => sigIssue m c g .sigSub .sub) s

/-- SIG_RELEASE (R223): the SIG with no fence before it leaves the queue. -/
def execSigRelease (g : Nat) (s : State) : Out := inRange g 192 <| onCore (fun c =>
  match (stn c g).fq with
  | .sig _ none f op :: rest => holdOp (setStn c g { stn c g with fq := rest }) f op
  | .sig _ (some n) f op :: rest =>
    let c := sendRemote c n (fieldAt 16 n + fieldAt 12 f + op.sem) op none
    setStn c g { stn c g with fq := rest }
  | _ => c) s

/-! ### TAK and WAT -/

/-- TAK (R265): the operation leaves and the sequencer is held until its reply. -/
def execTak (g : Nat) (s : State) : Out := inRange g 192 <| onCoreMem (fun m c =>
  match atPc m c g .tak with
  | none => c
  | some w =>
    let f := bits w 21 3
    let op : SyncOp := { issuer := g, kind := .tak, sem := bits w 9 12, n := bits w 36 20, cookie := 0, slot := 0,
                         back := .tak g (stn c g).seq.pc }
    if wordHere c (bits w 24 12) (bit w 8) then holdSeq (holdOp (issued c g) f op) g 10 .reply
    else
      holdSeq (issued (sendRemote c (bits w 24 12) (wordSem c (bits w 24 12) f op.sem false) op none) g) g 10 .reply) s

/-- The lowest free watch index of a station (R228, R266). -/
def freeIdx (s : Station) : Option Nat := (List.range 16).find? fun i => (tget s.watches i).isNone

/-- A watch index put in use. -/
def setWatch (c : Core) (g i : Nat) (x : WatchIdx) : Core := setStn c g { stn c g with watches := tset (stn c g).watches i x }
/-- A watch index freed, with its inbox entry. -/
def freeWatchIdx (c : Core) (g i : Nat) : Core := setStn c g { stn c g with watches := tdel (stn c g).watches i }

/-- The inbox entry of a watch refused with BUSY (R266). -/
def busyMsg (name cookie n frame : Nat) : WatchMsg :=
  { status := .busy, cause := 0, sem := name, cookie := cookie, noWatch := true, localOrigin := true, handle := 0,
    count := 0, thresh := n, frame := frame }

/-- The lowest free proxy, if one of the 1,024 is free (R235). -/
def freeProxy (c : Core) : Option Nat :=
  if 1024 ≤ c.fab.proxies.length then none else (List.range 1024).find? fun i => (tget c.fab.proxies i).isNone

/-- An answer known at once: the status goes to LAST_STATUS and the sequencer goes on (R266). -/
def watAnswered (c : Core) (g : Nat) (s : Status) : Core := errStatus (lastStatus (issued c g) g s) s

/-- A WAT with SUB POST or BLOCK (R266): index and cookie, then the registration leaves. -/
def watIssue (m : Memory) (c : Core) (g : Nat) (o : Op) (block : Bool) : Core :=
  match atPc m c g o with
  | none => c
  | some w =>
    let s := stn c g
    let f := bits w 21 3
    let ck := bits w 0 8
    let module := bits w 24 12
    let hold := fun (c : Core) (i : Nat) => holdSeq (issued c g) g 10 (if block then .message i else .reply)
    match freeIdx s with
    | none => addObj (watAnswered c g .busy) Key.watchBusy 1
    | some i =>
      if s.watches.any fun p => p.2.cookie = ck then watAnswered c g .state
      else
        let name := wordSem c module f (bits w 9 12) (bit w 8)
        let x : WatchIdx := { cookie := ck, block := block, sem := name, thresh := bits w 36 20, inbox := none }
        let op : SyncOp := { issuer := g, kind := .wat, sem := bits w 9 12, n := bits w 36 20, cookie := ck, slot := i,
                             back := .wat g i s.seq.pc block }
        if wordHere c module (bit w 8) then hold (holdOp (setWatch c g i x) f op) i
        else
          match freeProxy c with
          | none =>
            let c := addObj (errStatus c .busy) Key.watchBusy 1
            if block then lastStatus (issued c g) g .busy
            else
              let b := busyMsg name ck op.n (obj c Key.frameCount)
              lastStatus (issued (setWatch c g i { x with inbox := some b }) g) g .busy
          | some p =>
            let y : Proxy := { home := module, waiter := g, slot := i, sem := name, n := op.n, cookie := ck }
            hold (sendRemote (setWatch c g i x) module name { op with slot := p } (some (p, y))) i

/-- WAT_POST (R266). -/
def execWatPost (g : Nat) (s : State) : Out := inRange g 192 <| onCoreMem (fun m c => watIssue m c g .watPost false) s

/-- WAT_BLOCK (R266). -/
def execWatBlock (g : Nat) (s : State) : Out := inRange g 192 <| onCoreMem (fun m c => watIssue m c g .watBlock true) s

/-- A WAIT finds its entry: status, and index and entry are free (R266). -/
def takeInbox (c : Core) (g i : Nat) (m : WatchMsg) : Core := freeWatchIdx (lastStatus c g m.status) g i

/-- WAT_WAIT (R266). -/
def execWatWait (g : Nat) (s : State) : Out := inRange g 192 <| onCoreMem (fun m c =>
  match atPc m c g .watWait with
  | none => c
  | some w =>
    match (stn c g).watches.find? fun p => p.2.cookie = bits w 0 8 with
    | none => watAnswered c g .state
    | some p => match p.2.inbox with
      | some x => takeInbox (issued c g) g p.1 x
      | none => holdSeq (issued c g) g 10 (.inbox (bits w 0 8))) s

/-! ### Replies and messages -/

/-- A TAK's or a POST's status ends the hold (R265, R266). -/
def endReply (c : Core) (g : Nat) (s : Status) : Core :=
  if (stn c g).seq.hold = .reply then releaseSeq (lastStatus c g s) g else c

/-- A refused registration fills the entry with BUSY; a BLOCK is released and its entry freed (R266). -/
def watBusy (c : Core) (g i : Nat) (block : Bool) : Core :=
  if block then freeWatchIdx (if (stn c g).seq.hold = .message i then releaseSeq (lastStatus c g .busy) g else c) g i
  else
    let c := match tget (stn c g).watches i with
      | some x => setWatch c g i { x with inbox := some (busyMsg x.sem x.cookie x.thresh (obj c Key.frameCount)) }
      | none => c
    endReply c g .busy

/-- A reply reaches its station (R253, R264 to R266, R497). -/
def stationReply (c : Core) (b : Back) (s : Status) : Core :=
  match b with
  | .sig g pc => if s = .ok then c else if s = .lost then sigLost c g else syncRefused c g pc
  | .comp g pc => if s = .ok then c else if s = .lost then sigLost c g else syncRefused c g pc
  | .tak g pc => if s = .ok ∨ s = .taken ∨ s = .lost then endReply c g s else syncRefused c g pc
  | .wat g i pc block =>
    if s = .ok then (if block then c else endReply c g .ok)
    else if s = .lost then (if block then c else endReply c g .lost)
    else if s = .busy then watBusy c g i block
    else syncRefused (freeWatchIdx c g i) g pc
  | .host _ _ _ _ _ => c
  | .engine _ => c
  | .unit => c

/-- The station a reply goes to. -/
def Back.station : Back → Option Nat
  | .sig g _ => some g
  | .comp g _ => some g
  | .tak g _ => some g
  | .wat g _ _ _ => some g
  | .host _ _ _ _ _ => none
  | .engine _ => none
  | .unit => none

/-- Whether a message inside the module is a reply to station `g`. -/
def isReplyTo (g : Nat) (m : NetMsg) : Bool :=
  match m with
  | .reply b _ => b.station = some g
  | .watch _ _ _ => false

/-- Whether a message inside the module is a watch message for a unit. -/
def isWatchFor (u : Nat) (m : NetMsg) : Bool :=
  match m with
  | .watch k _ _ => k = u
  | .reply _ _ => false

/-- SYNC_OPERATION_REPLY (R253): the oldest reply on its way to the station arrives. -/
def execSyncOperationReply (g : Nat) (s : State) : Out := inRange g 192 <| onCore (fun c =>
  match c.net.find? (isReplyTo g) with
  | some (.reply b st) => stationReply { c with net := c.net.erase (.reply b st) } b st
  | _ => c) s

/-- A watch message in a station's inbox (R228, R230, R266): a BLOCK or a WAIT for it ends. -/
def stationMessage (c : Core) (g i : Nat) (m : WatchMsg) : Core :=
  match tget (stn c g).watches i with
  | none => c
  | some x =>
    let c := setWatch c g i { x with inbox := some m }
    match (stn c g).seq.hold with
    | .message k => if k = i then releaseSeq (takeInbox c g i m) g else c
    | .inbox ck => if ck = x.cookie then releaseSeq (takeInbox c g i m) g else c
    | _ => c

/-- A watch message in a wait slot (R229, R234): after an OK the unit's TAK is due; LOST ends a stream or the queue. A
reduction engine meets either when it takes again (R502). -/
def slotMessage (c : Core) (u : Nat) (m : WatchMsg) : Core :=
  let f := bits m.sem 12 3
  let lost := m.status = .lost
  if 0x30000 ≤ u then slotPhase c f u 2
  else if 0x20000 ≤ u then
    let g := u - 0x20000
    if lost then modDfw (dropDfw (dropSlot c f u) g) g fun q => { q with lost := true } else slotPhase c f u 2
  else
    let g := (u - 0x10000) / 16
    let st := (u - 0x10000) % 16
    if lost then streamLost (dropSlot c f u) g st m.sem m.sem
    else setStrm (slotPhase c f u 2) g st { strm (stn c g) st with waits := false }

/-- WATCH_MESSAGE (R230): the oldest watch message on its way to the unit arrives in its inbox or wait slot. -/
def execWatchMessage (unit : Nat) (s : State) : Out := onCore (fun c =>
  if 192 ≤ unit ∧ unit < 0x10000 then c
  else
    match c.net.find? (isWatchFor unit) with
    | some (.watch u i m) =>
      let c := { c with net := c.net.erase (.watch u i m) }
      if u < 192 then stationMessage c u i m else slotMessage c u m
    | _ => c) s

/-! ### Fences -/

/-- A fence over the transfers issued since the one before it (R222, R267); the Vigil numbers it (R376). -/
def addFence (c : Core) (g : Nat) : Core :=
  let s := stn c g
  let c := setStn c g { s with fq := s.fq ++ [.fence s.waitStart s.nextX], waitStart := s.nextX }
  { c with vigil := { c.vigil with issued := tset c.vigil.issued g (tgetD c.vigil.issued g 0 + 1) } }

/-- FNC (R253, R267). -/
def execFnc (g : Nat) (s : State) : Out := inRange g 192 <| onCoreMem (fun m c =>
  match atPc m c g .fnc with
  | none => c
  | some _ => if 16 ≤ fenceCount (stn c g) then waitOn c g 12 else issued (addFence c g) g) s

/-- FNC_WAIT (R267). -/
def execFncWait (g : Nat) (s : State) : Out := inRange g 192 <| onCoreMem (fun m c =>
  match atPc m c g .fncWait with
  | none => c
  | some _ => if 16 ≤ fenceCount (stn c g) then waitOn c g 12 else holdSeq (issued (addFence c g) g) g 12 .fences) s

/-- The signal order cut at its first fence: what stands before it, the fence, what stands behind it. -/
def splitFence : List FenceOrSig → Option (List FenceOrSig × (Nat × Nat) × List FenceOrSig)
  | [] => none
  | .fence a b :: rest => some ([], (a, b), rest)
  | .sig p n f op :: rest => match splitFence rest with
    | some (pre, x, post) => some (.sig p n f op :: pre, x, post)
    | none => none

/-- The SIGs behind a fence and before the next one. -/
def heldSigs : List FenceOrSig → List FenceOrSig × List FenceOrSig
  | .sig p n f op :: rest => let r := heldSigs rest; (.sig p n f op :: r.1, r.2)
  | l => ([], l)

/-- FENCE_RETIRE (R222, R267): the first fence retires once none of its transfers is outstanding; if one was lost, the
SIGs it held are discarded. -/
def execFenceRetire (g : Nat) (s : State) : Out := inRange g 192 <| onCore (fun c =>
  let s := stn c g
  match splitFence s.fq with
  | none => c
  | some (pre, (start, upto), post) =>
    if s.openX.any fun x => decide (x < upto) then c
    else
      let lost := s.lostX.any fun x => decide (start ≤ x ∧ x < upto)
      let cut := heldSigs post
      let rest := pre ++ (if lost then cut.2 else post)
      let c := setStn c g { s with fq := rest, idleX := s.idleX.filter fun x => decide (upto ≤ x) }
      let c := if lost then cut.1.foldl (fun c _ => sigLost c g) c else c
      let c := { c with vigil := { c.vigil with retired := tset c.vigil.retired g (tgetD c.vigil.retired g 0 + 1) } }
      if (stn c g).seq.hold = .fences ∧ fenceCount (stn c g) = 0 then
        releaseSeq (lastStatus c g (if lost then .lost else .ok)) g
      else c) s

end Sys2Proof.Machine
end

