-- ==== Sys2Proof/Machine/Update.lean ====
section
/-! DEFINITION. The update engine (R145 to R159, R352, R496, R499, R500): INIT, NORM, PREPARE and APPLY passes. -/

namespace Sys2Proof.Machine

/-- Whether the frame in progress is one of the prologue (R351). -/
def inPrologue (c : Core) : Bool :=
  match c.alm.image with
  | some im => decide (obj c Key.frameCount < im.prologue.length)
  | none => false

/-! ### The arithmetic of one element (R54, R57, R150 to R152) -/

/-- The learning rate between points (R150). -/
def lrGo : List (Nat × Nat) → Nat → Nat
  | [], _ => 0
  | [(_, l)], _ => l
  | (s0, l0) :: (s1, l1) :: r, s =>
    if s < s1 then
      let f := fp32.div (fp32.ofInt ((s - s0 : Nat) : Int)) (fp32.ofInt ((s1 - s0 : Nat) : Int))
      fp32.fma f (fp32.sub l1 l0) l0
    else lrGo ((s1, l1) :: r) s

/-- The learning rate of a step (R150). -/
def lrAt (pts : List (Nat × Nat)) (s : Nat) : Nat :=
  match pts with
  | [] => 0
  | (s0, l0) :: _ => if s ≤ s0 then l0 else lrGo pts s

/-- A power of a decay factor (R151). -/
def betaPower (beta t : Nat) : Nat :=
  (List.range 32).foldl (fun p i =>
    let p := fp32.mul p p
    if bit t (31 - i) then fp32.mul p beta else p) fp32.one

/-- The 16 random bits of a moment (R54). -/
def srBits (seed p sel : Nat) : Nat :=
  let m32 := 2 ^ 32
  let x := (p % m32) ^^^ (seed % m32)
  let x := x * 0x85EBCA6B % m32
  let x := x ^^^ (x >>> 13)
  let x := x ^^^ ((bits p 32 8 <<< 8) ||| sel) ^^^ bits seed 32 32
  let x := x * 0xC2B2AE35 % m32
  let x := x ^^^ (x >>> 16)
  x % 65536

/-- A moment written by stochastic rounding, and whether it was clamped (R57). -/
def srWrite (v r : Nat) : Nat × Bool :=
  match fp32.dec v with
  | .nan neg => (bf16.qnan neg, false)
  | .inf _ => (v / 65536, false)
  | .fin _ _ _ =>
    let t := (v + r) % 2 ^ 32
    if bits t 23 8 = 255 then (fieldAt 15 (b2n (bit v 31)) + 0x7F7F, true) else (t / 65536, false)

/-- The inputs of R152 that are the same for every element of a UPD. -/
structure AdamCtx where
  gr : OptGroup
  lr : Nat
  clip : Nat
  seed : Nat
  omb1 : Nat
  omb2 : Nat
  bc1 : Nat
  bc2 : Nat
  deriving DecidableEq, Repr

/-- What R152 gives for an element: W32 master, moments, whether a value was not finite (R156), and what the counters
count (W32 clamp, moment clamps, NaN). -/
structure AdamOut where
  w : Nat
  m : Nat
  v : Nat
  bad : Bool
  clampW : Bool
  clampM : Nat
  nan : Bool
  deriving DecidableEq, Repr

/-- The inputs of a group at a step (R55, R149 to R153). -/
def adamCtx (im : Image) (gr : OptGroup) (s clip jobSeed : Nat) : AdamCtx :=
  let pts := ((im.scheds.find? fun x => x.num = gr.sched).map fun x => x.points).getD []
  let one := fp32.one
  { gr := gr, lr := lrAt pts s, clip := clip, seed := jobSeed ^^^ (s <<< 32), omb1 := fp32.sub one gr.beta1,
    omb2 := fp32.sub one gr.beta2, bc1 := fp32.sub one (betaPower gr.beta1 (s + 1)),
    bc2 := fp32.sub one (betaPower gr.beta2 (s + 1)) }

/-- One element of the update (R152). -/
def adamElement (x : AdamCtx) (i w mOld vOld gRed : Nat) : AdamOut :=
  let g := fp32.mul (fp32.mul gRed x.gr.gradMult) x.clip
  let wf := fp32.enc (decW32 w)
  let g := if x.gr.decay = 2 then fp32.fma x.gr.lambda wf g else g
  let m := fp32.fma x.gr.beta1 (bf16.conv fp32 mOld) (fp32.mul x.omb1 g)
  let v := fp32.fma x.gr.beta2 (bf16.conv fp32 vOld) (fp32.mul x.omb2 (fp32.mul g g))
  let ms := srWrite m (srBits x.seed i 0)
  let vs := srWrite v (srBits x.seed i 1)
  let mh := bf16.conv fp32 ms.1
  let vh := bf16.conv fp32 vs.1
  let mh := if x.gr.bias then fp32.div mh x.bc1 else mh
  let vh := if x.gr.bias then fp32.div vh x.bc2 else vh
  let u := fp32.div mh (fp32.add (fp32.sqrt vh) x.gr.eps)
  let u := if x.gr.decay = 1 then fp32.fma x.gr.lambda wf u else u
  let d := fp32.mul x.lr u
  let r := toW32 ((decW32 w).add (fp32.dec d).flip)
  { w := r.1, m := ms.1, v := vs.1, bad := [g, m, v, u, d].any fun p => !(fp32.dec p).isFin, clampW := r.2.1,
    clampM := b2n ms.2 + b2n vs.2, nan := r.2.2 }

/-! ### Blocks -/

/-- The master ID of a field's update engine (R34). -/
def updMaster (f : Nat) : Nat := 0x100 + f

/-- What an UPDATE entry names: image, tensor, group, shard (R148, R252). -/
structure UpdArgs where
  im : Image
  t : TensorDecl
  gr : OptGroup
  sh : ShardDecl
  first : Nat
  count : Nat
  deriving DecidableEq, Repr

/-- The declarations an UPDATE entry names. -/
def updArgs (c : Core) (d : Nat) : Option UpdArgs :=
  match c.alm.image with
  | none => none
  | some im =>
    match tensorOf im (bits d 8 16), groupOf im (bits d 2 6) with
    | some t, some gr => (shardMine im t.stage).map fun sh =>
        { im := im, t := t, gr := gr, sh := sh, first := bits d 24 20, count := bits d 44 20 + 1 }
    | _, _ => none

/-- The first parameter index of block `b` of a UPD. -/
def blockIndex (u : UpdArgs) (b : Nat) : Nat := u.sh.start + 1024 * (u.first + b)

/-- Whether a parameter's block is frozen (R158). -/
def frozen (mem : Memory) (base i : Nat) : Bool :=
  bit (mread mem (gaOff base + i / 1024 / 8)).toNat (i / 1024 % 8)

/-- The first of some accesses of an engine that the tables refuse. -/
def engRefused (c : Core) (m : Nat) (l : List (Nat × Nat × Right)) : Option (Nat × Nat × Right) :=
  l.findSome? fun x => (refusalOf c m x.1 x.2.1 x.2.2).map fun t => (t.1, t.2, x.2.2)

/-- What stops some accesses of an engine before any of them is made: a refusal by the tables (R192), or an uncorrectable error in
what it reads (R183); the core with the event raised, and the status. -/
def engStop (c : Core) (m : Nat) (l : List (Nat × Nat × Right)) : Option (Core × Status) :=
  match engRefused c m l with
  | some t => some (refuse c m t.1 t.2.1 t.2.2, .access)
  | none => ((l.filter fun x => x.2.2 = .r).findSome? fun x => eccBad c [x.1] x.2.1).map fun x => (memError c m 0 x, .integrity)

/-- The reads among some accesses of an engine are made (R183, R377). -/
def engReads (c : Core) (m : Nat) (l : List (Nat × Nat × Right)) : Core :=
  l.foldl (fun c x => if x.2.2 = .r then vigilRead c m x.1 x.2.1 else c) c

/-- A write of an engine: windows open on its lines close first (R205, R378). -/
def engWrite (m : Nat) (acc : Core × Memory) (a : Nat) (bs : Bytes) : Core × Memory :=
  (vigilWrite (closeWindows acc.2 acc.1 a bs.length) m a bs.length, mwriteN acc.2 a bs)

/-- Offsets of a block's master, moments and reduced gradient (R142). -/
def masterAt (u : UpdArgs) (b : Nat) : Nat := gaOff u.sh.master + 4 * (1024 * (u.first + b))
/-- Offset of a block's first moment. -/
def moment1At (u : UpdArgs) (b : Nat) : Nat := gaOff u.sh.moment1 + 2 * (1024 * (u.first + b))
/-- Offset of a block's second moment. -/
def moment2At (u : UpdArgs) (b : Nat) : Nat := gaOff u.sh.moment2 + 2 * (1024 * (u.first + b))
/-- Offset of a block's reduced gradient for a step: the buffer of its parity (R161). -/
def gradAt (u : UpdArgs) (s b : Nat) : Nat :=
  gaOff (if s % 2 = 0 then u.sh.grad0 else u.sh.grad1) + 4 * (1024 * (u.first + b))

/-- Bytes of an element of the tensor's working copy. -/
def wcBytes (u : UpdArgs) : Nat := if u.t.fmt = 3 then 2 else 1
/-- Offset of a block's working copy in buffer A or B (R143, R174). -/
def wcAt (u : UpdArgs) (bufB : Bool) (b : Nat) : Nat :=
  gaOff u.t.wc + (if bufB then u.im.wcDelta else 0) + wcBytes u * (blockIndex u b - u.t.start)

/-- W32 values formed into working-copy bytes under a scale (R145, R52). -/
def formCopy (c : Core) (f : Nat) (u : UpdArgs) (k : Int) (ws : List Nat) : Core × Bytes :=
  if u.t.fmt = 3 then (c, elemBytes 2 (ws.map fun w => bf16.enc (decW32 w)))
  else
    let r := convScaledAll c f (updMaster f) u.t.scale u.t.fmt k (ws.map decW32)
    (r.1, elemBytes 1 r.2)

/-- One block of INIT: both buffers from the master (R146, R154). -/
def initBlock (f : Nat) (u : UpdArgs) (acc : Core × Memory) (b : Nat) : Core × Memory :=
  let c := acc.1
  let mem := acc.2
  let n := 1024 * wcBytes u
  let l := [(masterAt u b, 4096, .r), (wcAt u false b, n, .w), (wcAt u true b, n, .w)]
  match engStop c (updMaster f) l with
  | some r => (r.1, mem)
  | none =>
    let c := engReads c (updMaster f) l
    let ws := elems 4 1024 (mreadN mem (masterAt u b) 4096)
    let x := scaleE c u.t.scale
    let ra := formCopy c f u x.scaleA ws
    let rb := formCopy ra.1 f u x.scaleB ws
    engWrite (updMaster f) (engWrite (updMaster f) (rb.1, mem) (wcAt u false b) ra.2) (wcAt u true b) rb.2

/-- The accesses of a block of PREPARE or APPLY that read. -/
def readsOf (u : UpdArgs) (s b : Nat) : List (Nat × Nat × Right) :=
  [(masterAt u b, 4096, .r), (moment1At u b, 2048, .r), (moment2At u b, 2048, .r), (gradAt u s b, 4096, .r),
   (gaOff u.im.maskBase + blockIndex u b / 1024 / 8, 1, .r)]

/-- R152 over a block. -/
def adamBlock (mem : Memory) (u : UpdArgs) (x : AdamCtx) (s b : Nat) : List AdamOut :=
  let ws := elems 4 1024 (mreadN mem (masterAt u b) 4096)
  let ms := elems 2 1024 (mreadN mem (moment1At u b) 2048)
  let vs := elems 2 1024 (mreadN mem (moment2At u b) 2048)
  let gs := elems 4 1024 (mreadN mem (gradAt u s b) 4096)
  (List.range 1024).map fun i =>
    adamElement x (blockIndex u b + i) (ws.getD i 0) (ms.getD i 0) (vs.getD i 0) (gs.getD i 0)

/-- The counters of a PREPARE block (R45, R57, R152). -/
def countAdam (c : Core) (os : List AdamOut) : Core :=
  let c := addObj c Key.w32Clamp (os.filter fun o => o.clampW).length
  let c := addObj c Key.momentClamp (os.map fun o => o.clampM).sum
  addObj c Key.nanConverted (os.filter fun o => o.nan).length

/-- One block of PREPARE (R154, R156, R159): the idle working copy; `bad` says a value was not finite. -/
def prepareBlock (f : Nat) (u : UpdArgs) (x : AdamCtx) (s : Nat) (acc : Core × Memory × Bool) (b : Nat) :
    Core × Memory × Bool :=
  let c := acc.1
  let mem := acc.2.1
  let idleB : Bool := obj c Key.commits % 2 = 0
  let l := readsOf u s b ++ [(wcAt u idleB b, 1024 * wcBytes u, .w)]
  match engStop c (updMaster f) l with
  | some r => (r.1, mem, acc.2.2)
  | none =>
    let c := engReads c (updMaster f) l
    let k := scaleIdle c u.t.scale
    if frozen mem u.im.maskBase (blockIndex u b) then
      let r := formCopy c f u k (elems 4 1024 (mreadN mem (masterAt u b) 4096))
      let w := engWrite (updMaster f) (r.1, mem) (wcAt u idleB b) r.2
      (w.1, w.2, acc.2.2)
    else
      let os := adamBlock mem u x s b
      let r := formCopy (countAdam c os) f u k (os.map fun o => o.w)
      let w := engWrite (updMaster f) (r.1, mem) (wcAt u idleB b) r.2
      (w.1, w.2, acc.2.2 || os.any fun o => o.bad)

/-- One block of APPLY (R155, R159): masters and moments in place. -/
def applyBlock (f : Nat) (u : UpdArgs) (x : AdamCtx) (s : Nat) (acc : Core × Memory) (b : Nat) : Core × Memory :=
  let c := acc.1
  let mem := acc.2
  let l := readsOf u s b ++ [(masterAt u b, 4096, .w), (moment1At u b, 2048, .w), (moment2At u b, 2048, .w)]
  match engStop c (updMaster f) l with
  | some r => (r.1, mem)
  | none =>
    let c := engReads c (updMaster f) l
    if frozen mem u.im.maskBase (blockIndex u b) then (c, mem)
    else
      let os := adamBlock mem u x s b
      let w := engWrite (updMaster f) (c, mem) (masterAt u b) (elemBytes 4 (os.map fun o => o.w))
      let w := engWrite (updMaster f) w (moment1At u b) (elemBytes 2 (os.map fun o => o.m))
      engWrite (updMaster f) w (moment2At u b) (elemBytes 2 (os.map fun o => o.v))

/-! ### NORM (R153, R340) -/

/-- A reference slot no image has declared (R324). -/
def RefSlot.blank : RefSlot := { eRef := 0, eInit := 0, h := 4, ptr := 0, fixed := false, g := 8, hist := [] }
/-- The E_ref of a reduction: that of its reference slot (R318, R324). -/
def eRefOf (c : Core) (r : RedDecl) : Int := (tgetD c.slots r.slot RefSlot.blank).eRef

/-- A partial with nothing in it. -/
def NormPart.blank : NormPart := { sum := 0, ovf := false, eObs := none }

/-- The larger of two observed exponents. -/
def maxObs (a b : Option Int) : Option Int :=
  match a, b with
  | some x, some y => some (max x y)
  | some x, none => some x
  | none, y => y

/-- One squared gradient joins the partial (R153, R321, R340). -/
def normAdd (er : Int) (p : NormPart) (q : Nat) : NormPart :=
  match fp32.dec q with
  | .fin _ m e =>
    if m = 0 then p
    else if (er + 20) ≤ obsExp m e then { p with ovf := true, eObs := maxObs p.eObs (some (obsExp m e)) }
    else { p with sum := p.sum + floorAt false m (e + 107 - er) }
  | _ => { p with ovf := true }

/-- One block of NORM. -/
def normBlock (mem : Memory) (f : Nat) (u : UpdArgs) (er : Int) (s : Nat) (acc : Core × NormPart) (b : Nat) :
    Core × NormPart :=
  let l := [(gradAt u s b, 4096, .r), (gaOff u.im.maskBase + blockIndex u b / 1024 / 8, 1, .r)]
  match engStop acc.1 (updMaster f) l with
  | some r => (r.1, acc.2)
  | none =>
    let c := engReads acc.1 (updMaster f) l
    if frozen mem u.im.maskBase (blockIndex u b) then (c, acc.2)
    else (c, (elems 4 1024 (mreadN mem (gradAt u s b) 4096)).foldl (fun p g =>
      let y := fp32.mul g u.gr.gradMult
      normAdd er p (fp32.mul y y)) acc.2)

/-- Whether a partial leaves the range of FX128 (R340). -/
def normOvf (p : NormPart) : Bool := p.ovf || decide (p.sum < -(2 ^ 127 : Int) ∨ (2 ^ 127 : Int) ≤ p.sum)

/-! ### The passes -/

/-- The engine's next submission, if it is of a pass and the engine may start it (R147). One that waits for its clip factor (R499) has
not started, and keeps its place at the front of the 16 of the queue (log entry 98). -/
def nextUpd (c : Core) (f pass : Nat) : Option UpdSub :=
  let e := (fld c f).upd
  match e.running, e.queue with
  | none, x :: _ => if bits x.entry 0 2 = pass ∧ !updGated c f then some x else none
  | _, _ => none

/-- The submission leaves the queue and runs. -/
def startUpd (c : Core) (f : Nat) (x : UpdSub) (did : Bool) : Core :=
  let y := fld c f
  setFld c f { y with upd := { y.upd with queue := y.upd.queue.drop 1, running := some { x with did := did } } }

/-- The cycles of a pass: 32 elements in each (R147). -/
def updCycles (c : Core) (blocks : Nat) : Core := addObj c Key.updBusyCycles (32 * blocks)

/-- UPD_INIT (R146). -/
def execUpdInit (f : Nat) (s : State) : Out := inRange f 8 <| onBoth (fun mem c =>
  match nextUpd c f 0 with
  | none => (c, mem)
  | some x =>
    let c := startUpd c f x true
    match updArgs c x.entry with
    | none => (c, mem)
    | some u => (List.range u.count).foldl (initBlock f u) (updCycles c u.count, mem)) s

/-- UPD_NORM (R153, R340): the sum joins the partial of the norm reduction, which is written to its source address. -/
def execUpdNorm (f : Nat) (s : State) : Out := inRange f 8 <| onBoth (fun mem c =>
  match nextUpd c f 1 with
  | none => (c, mem)
  | some x =>
    let c := startUpd c f x true
    match updArgs c x.entry with
    | none => (c, mem)
    | some u =>
      match redDecl u.im (bits x.entry 77 12) with
      | none => (c, mem)
      | some r =>
        let p0 := tgetD c.norm r.redno NormPart.blank
        let z := (List.range u.count).foldl (normBlock mem f u (eRefOf c r) (obj c Key.stepNumber)) (c, p0)
        let c := updCycles { z.1 with norm := tset z.1.norm r.redno z.2 } u.count
        match engStop c (updMaster f) [(gaOff r.source, 16, .w)] with
        | some r => (r.1, mem)
        | none =>
          engWrite (updMaster f) (c, mem) (gaOff r.source) (leBytes 16 (if normOvf z.2 then 0 else unsigned 128 z.2.sum))) s

/-- The clip factor a group has recorded for a step (R499). -/
def clipAt (c : Core) (f group step : Nat) : Option Nat :=
  ((fld c f).upd.clips.find? fun p => p.1 = group ∧ p.2.1 = step).map fun p => p.2.2

/-- The clip factor of a UPD at a step: 1.0 without clipping, else the recorded one; none while it is awaited (R153, R499). -/
def clipOf (c : Core) (f d : Nat) (u : UpdArgs) (step : Nat) : Option Nat :=
  if bit d 64 then clipAt c f u.gr.num step else some fp32.one

/-- UPD_PREPARE (R145, R152, R156, R499): waits for the clip factor of the step. UPD_ELEMENTS counts all the elements of the entry's
blocks, frozen ones and blocks that a check stops included (R170; log entry 99). -/
def execUpdPrepare (f : Nat) (s : State) : Out := inRange f 8 <| onBoth (fun mem c =>
  match nextUpd c f 2 with
  | none => (c, mem)
  | some x =>
    match updArgs c x.entry with
    | none => (startUpd c f x true, mem)
    | some u =>
      let step := obj c Key.stepNumber
      match clipOf c f x.entry u step with
      | none => (c, mem)
      | some k =>
        let c := addObj (updCycles (startUpd c f x true) u.count) Key.updElements (1024 * u.count)
        let z := (List.range u.count).foldl (prepareBlock f u (adamCtx u.im u.gr step k (obj c Key.jobSeed)) step)
          (c, mem, false)
        if z.2.2 then
          let c := raise z.1 0x0807 .step (updMaster f) 0 [f, u.t.num, u.first]
          ({ c with alm := { c.alm with marks := { c.alm.marks with nonfinite := true } } }, z.2.1)
        else (z.1, z.2.1)) s

/-- Whether an APPLY placed in the frame in progress computes (R352). -/
def applyRuns (c : Core) : Bool := if inPrologue c then c.alm.applyStart else c.alm.cycleCommitted

/-- UPD_APPLY (R155, R352, R499, R500): the step of the last vote. -/
def execUpdApply (f : Nat) (s : State) : Out := inRange f 8 <| onBoth (fun mem c =>
  match nextUpd c f 3 with
  | none => (c, mem)
  | some x =>
    if !applyRuns c then (startUpd c f x false, mem)
    else
      match updArgs c x.entry with
      | none => (startUpd c f x false, mem)
      | some u =>
        let step := obj c Key.lastVoteStep
        match clipOf c f x.entry u step with
        | none => (c, mem)
        | some k =>
          (List.range u.count).foldl (applyBlock f u (adamCtx u.im u.gr step k (obj c Key.jobSeed)) step)
            (updCycles (startUpd c f x true) u.count, mem)) s

/-- The shard blocks that the module holds (R496). -/
def heldBlocks (c : Core) : Nat :=
  match c.alm.image with
  | some im => ((im.shards.filter fun x => x.mine).map fun x => x.blocks).sum
  | none => 0

/-- Blocks of APPLY counted; the last of them completes the step's APPLY passes (R496, R500). -/
def countApplied (c : Core) (n : Nat) : Core :=
  let c := { c with alm := { c.alm with applied := c.alm.applied + n } }
  if heldBlocks c ≤ c.alm.applied then
    let c := setObj c Key.applyDoneStep (obj c Key.lastVoteStep)
    if c.alm.applyStart then setObj { c with alm := { c.alm with applyStart := false } } Key.commitState 1 else c
  else c

/-- UPD_COMPLETE (R148, R224, R496): the completion semaphore is signalled. A block that an APPLY skipped because an access was stopped
counts as processed (log entry 100). -/
def execUpdComplete (f : Nat) (s : State) : Out := inRange f 8 <| onCore (fun c =>
  let y := fld c f
  match y.upd.running with
  | none => c
  | some x =>
    let d := x.entry
    let c := setFld c f { y with upd := { y.upd with running := none } }
    let c := { c with alm := { c.alm with updsDone := (f, d) :: c.alm.updsDone } }
    let c := if x.did ∧ bits d 0 2 = 3 then countApplied c (bits d 44 20 + 1) else c
    if bit d 89 then unitSignal c f (bits d 90 12) (updMaster f) .unit else c) s

end Sys2Proof.Machine
end

