-- ==== Sys2Proof/Machine/Control.lean ====
section
/-! DEFINITION. Sequencer control (R243 to R248, R268, R270 to R272): delays, jumps, loops, segments, submissions. -/

namespace Sys2Proof.Machine

/-- NOP (R253, R272): the sequencer is held for CYCLES further cycles. -/
def execNop (g : Nat) (s : State) : Out := inRange g 192 <| onCoreMem (fun m c =>
  match atPc m c g .nop with
  | none => c
  | some w => holdCycles (issued c g) g 16 (bits w 0 16)) s

/-- Whether a JMP condition holds (R270). -/
def jmpHolds (q : Seq) (cond : Nat) : Bool :=
  if cond = 0 then true
  else if cond = 1 then q.lastStatus = Status.ok.code
  else if cond = 2 then q.lastStatus ≠ Status.ok.code
  else if cond = 3 then q.lastStatus = Status.taken.code
  else if cond = 4 then q.lastStatus = Status.lost.code
  else if cond = 5 then q.lastStatus = Status.busy.code
  else q.sigLost

/-- A jump is taken: one extra cycle (R253). -/
def jumpTo (c : Core) (g target : Nat) : Core := holdCycles (modSeq c g fun x => { x with pc := target }) g 17 1

/-- JMP (R254, R270). -/
def execJmp (g : Nat) (s : State) : Out := inRange g 192 <| onCoreMem (fun m c =>
  match atPc m c g .jmp with
  | none => c
  | some w =>
    let q := (stn c g).seq
    let cond := bits w 52 4
    let c := modSeq (issued c g) g fun x => { x with sigLost := if cond = 6 then false else x.sigLost }
    if jmpHolds q cond then jumpTo c g (bits w 39 13) else c) s

/-- SETA (R270). -/
def execSeta (g : Nat) (s : State) : Out := inRange g 192 <| onCoreMem (fun m c => issueNow m c g .seta fun w c =>
  setStn c g { stn c g with ba := tset (stn c g).ba (bits w 52 4) (bits w 28 24),
                            bi := tset (stn c g).bi (bits w 52 4) (bits w 4 24) }) s

/-- LSET (R271). -/
def execLset (g : Nat) (s : State) : Out := inRange g 192 <| onCoreMem (fun m c => issueNow m c g .lset fun w c =>
  setStn c g { stn c g with lc := tset (stn c g).lc (bits w 54 2) (bits w 34 20) }) s

/-- The base registers of a mask advance by their increments (R271). -/
def advanceBases (s : Station) (mask : Nat) : Station :=
  let step := fun (ba : Tab Nat) (k : Nat) => tset ba k ((tgetD ba k 0 + tgetD s.bi k 0) % 2 ^ 24)
  { s with ba := ((List.range 16).filter (bit mask)).foldl step s.ba }

/-- LEND (R271). -/
def execLend (g : Nat) (s : State) : Out := inRange g 192 <| onCoreMem (fun m c =>
  match atPc m c g .lend with
  | none => c
  | some w =>
    let n := tgetD (stn c g).lc (bits w 54 2) 0
    let c := issued (setStn c g (advanceBases (stn c g) (bits w 25 16))) g
    if n = 0 then c
    else
      let c := setStn c g { stn c g with lc := tset (stn c g).lc (bits w 54 2) (n - 1) }
      if n = 1 then c else jumpTo c g (bits w 41 13)) s

/-- LYR (R208, R269): issues and is held. -/
def execLyr (g : Nat) (s : State) : Out := inRange g 192 <| onCoreMem (fun m c =>
  match atPc m c g .lyr with
  | none => c
  | some _ => holdSeq (issued c g) g 15 .lyr) s

/-- Whether what LYR waits for is quiet (R208): rows in flight and drains of the sequencer's own tiles, and the MVA. -/
def lyrQuiet (c : Core) (g : Nat) : Bool :=
  let s := stn c g
  let lent := ((curTemplate c).bind fun t => t.dfw).map fun p => p.1
  let quiet := fun (t : Nat) (x : Tile) =>
    lent = some t || (x.inflight.isEmpty && (match x.state with | .open => true | .draining d => d.dfw))
  quiet 0 s.arr.tile0 && quiet 1 s.arr.tile1 && s.arr.mva.isNone

/-- LYR_RELEASE (R208). -/
def execLyrRelease (g : Nat) (s : State) : Out := inRange g 192 <| onCore (fun c =>
  if (stn c g).seq.hold = .lyr ∧ lyrQuiet c g then releaseSeq c g else c) s

/-- ILLEGAL_INSTRUCTION (R247): a word that fails the checks reaches issue. -/
def execIllegalInstruction (g : Nat) (s : State) : Out := inRange g 192 <| onCoreMem (fun m c =>
  match ready m c g with
  | none => c
  | some w => if (opOf w).isSome ∧ issueOk c g w then c else illegal c g) s

/-- RED (R253, R268, R317): the submission joins the engine's queue of 16. -/
def execRed (g : Nat) (s : State) : Out := inRange g 192 <| onCoreMem (fun m c =>
  match atPc m c g .red with
  | none => c
  | some w =>
    let f := g / 24
    let x := fld c f
    if redGated c f then c
    else if 16 ≤ x.red.queue.length then waitOn c g 13
    else
      let sub := (bits w 44 12, if bit w 43 then some (bits w 31 12) else none)
      issued (setFld c f { x with red := { x.red with queue := x.red.queue ++ [sub] } }) g) s

/-- UPD (R147, R253, R268): the submission joins the engine's queue of 16. -/
def execUpd (g : Nat) (s : State) : Out := inRange g 192 <| onCoreMem (fun m c =>
  match atPc m c g .upd with
  | none => c
  | some w =>
    let f := g / 24
    let x := fld c f
    if updGated c f then c
    else if 16 ≤ x.upd.queue.length then waitOn c g 13
    else
      let sub : UpdSub := { g := g, entry := descE (stn c g) (bits w 48 8), did := false }
      issued (setFld c f { x with upd := { x.upd with queue := x.upd.queue ++ [sub] } }) g) s

/-! ### Segments -/

/-- The domain tick of a start point of the present frame (R353). -/
def startTick (c : Core) (e : SegEntry) : Nat := obj c Key.frameCount * obj c Key.frameTicks + e.offset

/-- The start points of the present frame for a station and entry that lie ahead and have not been reached (R21, R353). -/
def startPoints (c : Core) (g entry : Nat) : List SegEntry :=
  match curTemplate c with
  | none => []
  | some t => t.segments.filter fun e => e.station = g && e.entry = entry && decide (obj c Key.domainTick ≤ startTick c e)
      && !c.alm.starts.contains (g, e.offset)

/-- The first of some start points. -/
def firstPoint (l : List SegEntry) : Option SegEntry := l.find? fun e => l.all fun k => decide (e.offset ≤ k.offset)

/-- A segment begins: PC is loaded (R243). -/
def beginSegment (c : Core) (g entry : Nat) : Core :=
  modSeq c g fun q => { q with state := .running, waitCause := 0, pc := entry % 8192, pendingStart := none, hold := .free }

/-- SEGMENT_START (R243, R353): the next start point that the frame's template lists for the station is reached, once; the segment
must end by its close boundary. -/
def execSegmentStart (g entry : Nat) (s : State) : Out := inRange g 192 <| onCore (fun c =>
  if almState c ≠ 4 then c
  else match firstPoint (startPoints c g entry) with
  | none => c
  | some e =>
    let c := reachTick c (startTick c e)
    let c := { c with alm := { c.alm with starts := c.alm.starts ++ [(g, e.offset)] } }
    let q := (stn c g).seq
    let owe := fun (c : Core) => { c with alm := { c.alm with segs := c.alm.segs ++ [(g, obj c Key.frameCount + e.close + 1)] } }
    match q.state with
    | .idle => beginSegment (owe c) g entry
    | .stopped => c
    | .faulted => c
    | _ =>
      if q.pendingStart.isSome then
        faultSeq (raise c 0x0805 .fault g 0 [g, entry]) g q.pc 6
      else
        let c := modSeq (owe c) g fun q => { q with pendingStart := some entry, late := true }
        raise c 0x0804 .report g 0 [g, entry]) s

/-- The oldest segment of a station leaves the list of those whose END is owed. -/
def dropSeg (l : List (Nat × Nat)) (g : Nat) : List (Nat × Nat) :=
  match l with
  | [] => []
  | p :: r => if p.1 = g then r else p :: dropSeg r g

/-- END (R243): the sequencer is IDLE, or the pending start is carried out. -/
def execEndSeg (g : Nat) (s : State) : Out := inRange g 192 <| onCoreMem (fun m c =>
  match atPc m c g .endSeg with
  | none => c
  | some _ =>
    let c := issued c g
    let c := { c with alm := { c.alm with segs := dropSeg c.alm.segs g } }
    match (stn c g).seq.pendingStart with
    | some e => readyCheck (beginSegment c g e)
    | none => readyCheck (modSeq c g fun q => { q with state := .idle, waitCause := 0 })) s

end Sys2Proof.Machine
end

