-- ==== Sys2Proof/Machine/Flow.lean ====
section
/-! DEFINITION. Fabric flows as a whole (R235, R287 to R305): acknowledged and lost transfers, routes, aborting; and the end
of a host session's context (R427). -/

namespace Sys2Proof.Machine

/-! ### Ports and notices -/

/-- The first 32 bytes of the digest of the identity public key (R289). -/
def ownDigest (fu : Fuses) : Nat := leNat ((shake 64 fu.identityKey).take 32)

/-- The module's link-state advert (R289, R307, R386). -/
def ownAdvert (fu : Fuses) (c : Core) : Advert :=
  let src := obj c Key.tickSource % 4096
  let dist := if src = ownMod c then 0 else ((topoOf c src).map fun t => t.distance).getD 0
  { modId := ownMod c, digest := ownDigest fu, bootEpoch := Config.fresh c.boot.epochDraw,
    links := (upPorts c).map fun p => ((portOf c p).peerMod, (portOf c p).peerPort, (portOf c p).latency),
    hops := 1, refDepth := obj c Key.refDepth, tick := obj c Key.domainTick, tickSource := src, distance := dist,
    instId := obj c Key.installationId, valid := obj c Key.moduleIdValid = 1 }

/-! ### Topology (R289, R307, R312) -/

/-- A module of the topology as a node: its assigned ID, or one beyond all IDs for a digest without one. -/
def nodeOf (valid : Bool) (m digest : Nat) : Nat := if valid then m else 4096 + digest

/-- The nodes that the links of a node's advert lead to: known modules of the ID it names. -/
def nextNodes (c : Core) (n : Nat) : List Nat :=
  let links := if n < 4096 then ((topoOf c n).map fun t => t.links).getD [] else ((tget c.fab.strays (n - 4096)).map fun t => t.2.links).getD []
  links.flatMap fun l => (if (topoOf c l.1).isSome then [l.1] else []) ++ (c.fab.strays.filter fun t => t.2.1 = l.1).map fun t => 4096 + t.1

/-- The nodes within `k` more links of a front at a distance, with their distances. -/
def reachFrom (c : Core) : Nat → Nat → List Nat → List (Nat × Nat) → List (Nat × Nat)
  | 0, _, _, seen => seen
  | k + 1, d, front, seen =>
    let new := (front.filter fun n => !seen.any fun p => p.1 = n).dedup
    reachFrom c k (d + 1) (new.flatMap (nextNodes c)) (seen ++ new.map fun n => (n, d))

/-- Every node within six links of this module, over its UP ports, with its distance (R289). -/
def reach (c : Core) : List (Nat × Nat) :=
  reachFrom c 6 1 ((upPorts c).map fun p => nodeOf (portOf c p).peerValid (portOf c p).peerMod (portOf c p).peerDigest) []

/-- The modules with an ID that are in the topology: known by an advert, or neighbours (R289). -/
def inTopo (c : Core) : List Nat :=
  (c.fab.topo.map fun t => t.1) ++ ((upPorts c).filter fun p => (portOf c p).peerValid).map fun p => (portOf c p).peerMod

/-- A record of the topology once links have changed: at its distance while a path of known links leads to it; gone once none does
any more, or once the port its advert came over is not UP (R289; log entry 94). -/
def settleOne (c : Core) (r : List (Nat × Nat)) (n : Nat) (t : Topo) : Option Topo :=
  match r.find? fun p => p.1 = n with
  | some p => some { t with distance := p.2, linked := true }
  | none => if !t.linked && (upPorts c).contains t.port then some t else none

/-- The topology keeps the modules that are still reached, at their distances; claims to an ID that none holds end (R289). -/
def settleTopo (c : Core) : Core :=
  let r := reach c
  let topo := c.fab.topo.filterMap fun t => (settleOne c r t.1 t.2).map fun x => (t.1, x)
  { c with fab := { c.fab with
      topo := topo,
      strays := c.fab.strays.filterMap fun t => (settleOne c r (4096 + t.1) t.2.2).map fun x => (t.1, t.2.1, x),
      claims := c.fab.claims.filter fun p => p.1 = ownMod c || r.any (fun q => q.1 = p.1) || topo.any fun t => t.1 = p.1 } }

/-- The tick source (R307): the lowest assigned module ID among this module and those of its topology with the same
installation; this module where there is none. -/
def chooseSource (c : Core) : Nat :=
  let others := (c.fab.topo.filter fun t => t.2.instId = obj c Key.installationId).map fun t => t.1
  let all := if obj c Key.moduleIdValid = 1 then ownMod c :: others else others
  match all with
  | [] => ownMod c
  | m :: r => r.foldl min m

/-- TICK_SOURCE's value: source and TICK_ALIGNED (R307). -/
def setSource (c : Core) (src : Nat) (aligned : Bool) : Core :=
  setObj c Key.tickSource (src + fieldAt 15 (b2n aligned))

/-- The tick source is chosen anew, unless an Almanac runs (R307). -/
def sourceAnew (c : Core) : Core :=
  let src := chooseSource c
  if running c then c
  else if src = ownMod c then setSource c src true
  else if obj c Key.tickSource % 4096 = src then c else setSource c src false

/-- What follows when links or adverts have changed (R289, R307, R312): the topology and the tick source; modules that have left
are lost to a running job; a hold may resume. `before` is the core before the change. -/
def topoChanged (before c : Core) : Core :=
  let c := settleTopo c
  let here := inTopo c
  holdLoss before (sourceAnew (loseMods c ((inTopo before).filter fun m => !here.contains m)))

/-- The module floods its advert on every UP port (R289). -/
def floodAdvert (fu : Fuses) (c : Core) : Core := floodOn c (upPorts c) (.advert (ownAdvert fu c))

/-! ### Acknowledged and lost transfers -/

/-- A transfer of a stream's row is acknowledged. -/
def ackXfer (c : Core) (g st xfer row : Nat) : Core :=
  let c := closeXfer c g xfer
  settleFault (setStrm c g st (ackRow (strm (stn c g) st) row)) g st

/-- A transfer of a stream's row is lost: it leaves the open rows, and no row from it on counts as moved (R303). -/
def loseRow (c : Core) (g st xfer row : Nat) : Core :=
  let c := loseXfer c g xfer
  let x := strm (stn c g) st
  setStrm c g st { x with openRows := x.openRows.erase row, row := min x.row row }

/-- A packet or request can never be acknowledged: what that means for its station (R267, R303), sync operation or
channel. -/
def loseCause (c : Core) (cause : Cause) : Core :=
  match cause with
  | .none => c
  | .write g st x row => loseRow c g st x row
  | .read g st x row _ _ => loseRow c g st x row
  | .atomic g st x row => loseRow c g st x row
  | .index g _ x => loseXfer c g x
  | .sync b _ => awayReply c b .lost
  | .coll _ _ => c

/-- The stream and transfer number of a cause. -/
def Cause.stream : Cause → Option (Nat × Nat × Nat)
  | .write g st x _ => some (g, st, x)
  | .read g st x _ _ _ => some (g, st, x)
  | .atomic g st x _ => some (g, st, x)
  | .index g st x => some (g, st, x)
  | .none => Option.none
  | .sync _ _ => Option.none
  | .coll _ _ => Option.none

/-- The streams that lost a transfer, each with the address of its first one (R303). -/
def lostStreams (l : List (Nat × Cause)) : List (Nat × Nat × Nat) :=
  let xs := l.filterMap fun p => p.2.stream.map fun q => (q.1, q.2.1, q.2.2, p.1)
  let keys := (xs.map fun q => (q.1, q.2.1)).dedup
  keys.filterMap fun k =>
    let mine := xs.filter fun q => q.1 = k.1 ∧ q.2.1 = k.2
    (mine.find? fun q => mine.all fun r => decide (q.2.2.1 ≤ r.2.2.1)).map fun q => (k.1, k.2, q.2.2.2)

/-- The address of the transfer that a packet carries (R303): of a multicast packet, its place in the station memories of the member
it goes to (R331). -/
def lostAddr (p : Packet) : Nat :=
  if p.typ = 8 then fieldAt 48 p.dstMod + (0x81000000000 + bits p.addr 0 38) else p.addr

/-- Everything a context had outstanding: packets stored and queued, and requests that await a response. -/
def outstanding (c : Core) (i : Nat) : List (Nat × Cause) :=
  let x := ctxOf c i
  ((x.store ++ x.queue).map fun p => (lostAddr p.pkt, p.cause)) ++
    ((c.fab.reqs.filter fun r => r.2.1 = i).map fun r => (r.2.2.1, r.2.2.2))

/-! ### Channels of reductions (R319, R329, R330, R336) -/

/-- The parent of a position (R330). -/
def parentPos (fanin j : Nat) : Nat := (j - 1) / max 1 fanin
/-- The children of a position among P (R330). -/
def childPos (fanin j p : Nat) : List Nat := (List.range p).filter fun k => decide (0 < k) && parentPos fanin k = j
/-- This module's position among the participants. -/
def ownPos (c : Core) (ch : ChannelDecl) : Nat := ch.participants.idxOf (ownMod c)
/-- The module at a position. -/
def modAt (ch : ChannelDecl) (j : Nat) : Nat := ch.participants.getD j 0

/-- The modules with which this participant exchanges packets of a reduction. -/
def partners (c : Core) (r : RedDecl) (ch : ChannelDecl) : List Nat :=
  let p := ch.participants.length
  let j := ownPos c ch
  let tree := (if j = 0 then [] else [modAt ch (parentPos ch.fanin j)]) ++ (childPos ch.fanin j p).map (modAt ch)
  let chain := (if j = 0 then [] else [modAt ch (j - 1)]) ++ (if j + 1 < p then [modAt ch (j + 1)] else [])
  let copy := match ch.copyHolder with
    | some k => if j = 0 ∧ k ≠ 0 then [modAt ch k] else if j = k ∧ k ≠ 0 then [modAt ch 0] else []
    | none => []
  let moves := (r.moves.filter fun m => m.srcMod = ownMod c ∨ m.dstMod = ownMod c).flatMap fun m => [m.srcMod, m.dstMod]
  let all := tree ++ (if r.chain then chain ++ copy else []) ++ (if r.kind = .permute then moves else [])
  (all.filter fun m => m ≠ ownMod c).dedup

/-- A channel of a field's engine. -/
def chanOf (c : Core) (f ch : Nat) : Channel := tgetD (fld c f).red.channels ch Channel.reset
/-- A channel replaced. -/
def setChan (c : Core) (f ch : Nat) (x : Channel) : Core :=
  let y := fld c f
  setFld c f { y with red := { y.red with channels := tset y.red.channels ch x } }

/-- A lost module is known to every running reduction that uses a flow to it and has no decided record (R336). -/
def loseReductions (c : Core) (peer : Nat) : Core :=
  match c.alm.image with
  | none => c
  | some im =>
    im.channels.foldl (fun c ch =>
      let x := chanOf c ch.field ch.num
      match x.run with
      | none => c
      | some r =>
        match redDecl im r.redno with
        | none => c
        | some d =>
          if r.decided.isNone && (partners c d ch).contains peer then
            setChan c ch.field ch.num { x with run := some { r with lost := true } }
          else c) c

/-! ### Poisoning by owner, proxies (R232, R235) -/

/-- Every semaphore of this module with an owner is poisoned (R232). -/
def poisonOwned (c : Core) (owner cause : Nat) : Core :=
  (List.range 8).foldl (fun c f =>
    ((syncU c f).sems.filter fun p => p.2.valid && p.2.owner = owner).foldl (fun c p => poison c f p.1 cause) c) c

/-- Every proxy whose home is a module is freed, with LOST to its waiter (R235). -/
def loseProxies (c : Core) (home : Nat) : Core :=
  let mine := c.fab.proxies.filter fun p => p.2.home = home
  let c := { c with fab := { c.fab with proxies := c.fab.proxies.filter fun p => p.2.home ≠ home } }
  mine.foldl (fun c p => sendWatch c p.2.waiter p.2.slot (proxyLost c p.2)) c

/-! ### Contexts -/

/-- The contexts that are not FREE (R292, R316). -/
def usedCtxs (c : Core) : Nat := (c.fab.ctxs.filter fun p => p.2.state ≠ 0).length

/-- CTX_USED and CTX_HIGH follow the pool (R316). -/
def noteCtxs (c : Core) : Core :=
  let n := usedCtxs c
  setObj (setObj c Key.ctxUsed n) Key.ctxHigh (max (obj c Key.ctxHigh) n)

/-- A context becomes FREE. -/
def freeCtx (c : Core) (i : Nat) : Core := noteCtxs { c with fab := { c.fab with ctxs := tdel c.fab.ctxs i } }

/-- The lowest FREE context. -/
def lowestFree (c : Core) : Option Nat := (List.range 4096).find? fun i => (ctxOf c i).state = 0

/-- What the loss of a module means once no flow to it is open (R232 cause 3, R235). -/
def moduleLost (c : Core) (peer : Nat) : Core :=
  if c.fab.ctxs.any fun p => p.2.kind = 0 && p.2.state = 1 && p.2.peerMod = peer then c
  else loseProxies (poisonOwned c (0x8000 + peer) 3) peer

/-- A fabric flow aborts with PARTNER_LOST (R293, R303, R305); a CLOSING one becomes FREE. -/
def abortFlow (c : Core) (i cause : Nat) : Core :=
  let c0 := c
  let x := ctxOf c i
  if x.kind ≠ 0 ∨ (x.state ≠ 1 ∧ x.state ≠ 2) then c
  else
    let lost := outstanding c i
    let c := setCtx c i { x with state := 3, abortCause := cause, queue := [], store := [] }
    let c := { c with fab := { c.fab with reqs := c.fab.reqs.filter (fun r => r.2.1 ≠ i),
                                          lastLost := (i, x.peerMod, cause, obj c Key.frameCount) } }
    let c := { c with alm := { c.alm with marks := { c.alm.marks with lost := true } } }
    let c := raise c 0x0607 .step mgmt 0 [i, x.peerMod, cause]
    let c := lost.foldl (fun c p => loseCause c p.2) c
    let c := (lostStreams lost).foldl (fun c q => settleFault (streamLost c q.1 q.2.1 i q.2.2) q.1 q.2.1) c
    let c := moduleLost (loseReductions c x.peerMod) x.peerMod
    holdLoss c0 (if x.state = 2 then freeCtx c i else c)

/-! ### Routes (R297, R300) -/

/-- The measured propagation of a declared link that is UP between assigned modules: from this module's ports, or from the advert of
the module it leads to, which names the port at the other end (R288, R289, R299). -/
def linkBound (c : Core) (l : LinkDecl) : Option Nat :=
  if l.src = ownMod c then
    let x := portOf c l.port
    if pstate c l.port = 3 && x.peerValid && x.peerMod = l.dst then some x.latency else none
  else if l.dst = ownMod c then
    ((upPorts c).find? fun p => (portOf c p).peerValid && (portOf c p).peerMod = l.src && (portOf c p).peerPort = l.port).map fun p =>
      (portOf c p).latency
  else match topoOf c l.dst with
    | some t => if (topoOf c l.src).isSome then (t.links.find? fun k => k.1 = l.src && k.2.1 = l.port).map fun k => k.2.2 else none
    | none => none

/-- Whether a link of a route is UP (R300). -/
def linkUp (c : Core) (l : LinkDecl) : Bool :=
  (linkBound c l).isSome

/-- The declared routes of a context's flow. -/
def routesOf (c : Core) (x : Ctx) : List (List LinkDecl) :=
  match c.alm.image with
  | none => []
  | some im => ((im.flows.find? fun fl => fl.num = x.flow).map fun fl => fl.routes).getD []

/-- A flow resends from a sequence number on: the stored packets wait again, ahead of the others (R294). -/
def resendFrom (x : Ctx) (seq : Nat) : Ctx :=
  let back := x.store.filter fun p => decide ((p.pkt.seq + 2 ^ 32 - seq) % 2 ^ 32 < 2 ^ 31)
  { x with store := x.store.filter (fun p => !back.contains p), queue := (back.map fun p => { p with sent := true }) ++ x.queue,
           txSeq := (x.txSeq + 2 ^ 32 - back.length) % 2 ^ 32 }

/-- A flow whose route has a link that is not UP takes the lowest-numbered other route that is UP and resends all that is
unacknowledged (R300); with none it waits. -/
def rerouteOne (c : Core) (i : Nat) : Core :=
  let x := ctxOf c i
  if x.kind ≠ 0 ∨ (x.state ≠ 1 ∧ x.state ≠ 2) ∨ ((routesOf c x).getD x.route []).all (linkUp c) then c
  else
    match (List.range (routesOf c x).length).find? fun k => k ≠ x.route && ((routesOf c x).getD k []).all (linkUp c) with
    | none => c
    | some k => raise (setCtx c i { resendFrom x x.ackedSeq with route := k }) 0x0606 .report mgmt 0 [i, k]

/-- Every flow is judged for its route. -/
def reroute (c : Core) : Core := (c.fab.ctxs.map fun p => p.1).foldl rerouteOne c

/-! ### The end of a session's context (R232 cause 2, R233, R427, R435) -/

/-- The watches of a session are freed without a message (R233). -/
def dropWatches (c : Core) (master : Nat) : Core :=
  (List.range 8).foldl (fun c f => setSync c f { syncU c f with
    watches := (syncU c f).watches.filter fun p => p.2.dest ≠ master }) c

/-- The waiter of a proxy whose session has ended: no destination is left (R233). -/
def goneWaiter : Nat := 0xFFFF

/-- What the module still holds for a session that ends goes with it: messages on their way to it, and the places its remote
operations were to answer to (R233, R427). -/
def dropMessages (c : Core) (ctx : Nat) : Core :=
  let master := 0x1000 + ctx
  let mine := fun (m : NetMsg) => match m with
    | .watch u _ _ => u ≠ master
    | .reply _ _ => true
  let cut := fun (b : Cause) => match b with
    | .sync (.host k _ _ _ _) p => if k = ctx then .sync .unit p else b
    | _ => b
  { c with net := c.net.filter mine,
           fab := { c.fab with
             proxies := c.fab.proxies.map fun p => if p.2.waiter = master then (p.1, { p.2 with waiter := goneWaiter }) else p,
             reqs := c.fab.reqs.map fun r => (r.1, r.2.1, r.2.2.1, cut r.2.2.2) } }

/-- A host session's context is removed: its transfers with it, its watches without message, its semaphores poisoned, its
context FREE. -/
def dropSession (c : Core) (ctx : Nat) : Core :=
  let c := { c with host := { c.host with sessions := tdel c.host.sessions ctx } }
  freeCtx (poisonOwned (dropMessages (dropWatches c (0x1000 + ctx)) ctx) (0x1000 + ctx) 2) ctx

/-- A host session ends (R427): cause 0 CLOSE, 1 timeout. -/
def removeSession (c : Core) (ctx cause : Nat) : Core := raise (dropSession c ctx) 0x0502 .info mgmt 0 [ctx, cause]

end Sys2Proof.Machine
end

