-- ==== Sys2Proof/Machine/Packets.lean ====
section
/-! DEFINITION. Packets of the fabric flows (R236, R283, R284, R294 to R305): sending, receiving, acknowledging, transit,
timers. -/

namespace Sys2Proof.Machine

/-! ### Sending -/

/-- A packet of link control leaves on a port (R282, R296). -/
def sendControl (c : Core) (port : Nat) (p : Packet) : Core := send c (.control port p)

/-- A packet of link control of a context leaves: the peer hears of the flow (R305). -/
def sendOf (c : Core) (i port : Nat) (p : Packet) : Core :=
  sendControl (setCtx c i { ctxOf c i with lastSent := obj c Key.uptimeTicks }) port p

/-- An ACK or NAK of a context: sequence number and status (R294, R296). -/
def ackPkt (c : Core) (i typ seq status : Nat) : Packet :=
  let x := ctxOf c i
  { mkPkt typ x.peerMod (ownMod c) x.peerCtx mgmt 0 0 status 0 [] with seq := seq }

/-- A cumulative ACK leaves, over the reverse of the route in use (R297). -/
def sendAck (c : Core) (i seq status : Nat) : Core :=
  let x := ctxOf c i
  sendOf (setCtx c i { x with unacked := 0 }) i (egressPort c i) (ackPkt c i 9 seq status)

/-- A slot's declared owner on a link direction in the frame in progress (R283, R355). -/
def slotDecl (c : Core) (port slot : Nat) (out : Bool) : Option SlotOwner :=
  (curTemplate c).bind fun t => t.slots.find? fun s => s.out == out && s.port = port && s.slot = slot

/-- The flow that holds a slot. -/
def slotOwner (c : Core) (port slot : Nat) (out : Bool) : Option Nat := (slotDecl c port slot out).map fun s => s.flow

/-- The bytes a slot gives to flow packets: its groups 2 to 24 (R282). -/
def slotCap (c : Core) (port : Nat) : Nat := if joined c port then 117760 else 58880

/-- The bytes of flow packets sent in a slot of the frame (R282). -/
def slotUsed (c : Core) (port slot : Nat) : Nat := tgetD (portOf c port).used slot 0

/-- A flow packet takes its bytes of a slot (R282, R283). -/
def useSlot (c : Core) (port slot n : Nat) : Core :=
  let x := portOf c port
  { c with fab := { c.fab with ports := tset c.fab.ports port { x with used := tset x.used slot (slotUsed c port slot + n) } } }

/-- SLOT_MISSED of a flow, once in a frame (R284). -/
def slotMissed (c : Core) (i port slot : Nat) : Core :=
  let x := ctxOf c i
  if x.missed then c
  else raise (setCtx c i { x with missed := true }) 0x0601 .report mgmt 0 [x.flow, port, slot]

/-- What is due in a slot cannot be sent in it any more (R284): what is left of the slot is less than what is left of the bytes
declared for it, because replays took the room or because the unit that sends is late (log entry 95). -/
def slotLate (c : Core) (i port slot free : Nat) : Core :=
  if (slotDecl c port slot true).any fun s => decide (slotUsed c port slot + free < s.bytes) then slotMissed c i port slot else c

/-- The bytes of packets in the replay store of a context (R294). -/
def storedBytes (x : Ctx) : Nat := ((x.store ++ x.queue.filter fun q => q.sent).map fun q => pktBytes q.pkt).sum

/-- Whether the replay store takes a packet: 1 MiB a direction, 32 MiB in all; one sent before is in it (R294). -/
def storeTakes (c : Core) (i : Nat) (q : FlowPkt) : Bool :=
  q.sent || (decide (storedBytes (ctxOf c i) + pktBytes q.pkt ≤ 2 ^ 20)
    && decide ((c.fab.ctxs.map fun p => storedBytes p.2).sum + pktBytes q.pkt ≤ 2 ^ 25))

/-- The packet at the front of a context's queue leaves in a slot (R283, R294). -/
def launch (c : Core) (i port slot : Nat) (q : FlowPkt) : Core :=
  let x := ctxOf c i
  let p := { q.pkt with seq := x.txSeq }
  let y := { x with queue := x.queue.tail, store := x.store ++ [{ q with pkt := p, sent := true }], txSeq := (x.txSeq + 1) % 2 ^ 32,
                    bytesTx := x.bytesTx + 64 * pktUnits p, lastSent := obj c Key.uptimeTicks }
  send (useSlot (setCtx c i y) port slot (pktBytes p)) (.packet port slot p)

/-- FLOW_PACKET_SEND (R282 to R284, R294): the flow's next packet leaves in a slot that the flow holds, if what is left of the slot's
flow groups takes the whole packet; it waits otherwise. `room` is what replays leave of the slot. -/
def execFlowPacketSend (ctx port slot room : Nat) (s : State) : Out := inRange ctx 4096 <| inRange port 16 <| onCore (fun c =>
  let x := ctxOf c ctx
  let free := min room (slotCap c port - slotUsed c port slot)
  if x.kind ≠ 0 ∨ x.state ≠ 1 ∨ !running c ∨ pstate c port ≠ 3 ∨ slotOwner c port slot true ≠ some x.flow
      ∨ egressPort c ctx ≠ port then c
  else match x.queue with
    | [] => slotLate c ctx port slot free
    | q :: _ =>
      if !storeTakes c ctx q then c
      else if free < pktBytes q.pkt then slotLate c ctx port slot free
      else launch c ctx port slot q) s

/-! ### Receiving -/

/-- SLOT_COLLISION (R298): the packet is discarded. -/
def collide (c : Core) (rx : Rx) : Core :=
  raise c 0x0602 .fault mgmt 0 [rx.port, rx.slot, rx.pkt.srcMod, rx.pkt.dstCtx]

/-- The FLOW_CTL reset that answers a packet for a context that is not open (R305); it names the sender's context where a
record gives it. -/
def sendReset (c : Core) (rx : Rx) : Core :=
  let d := draw c
  let back := match tget c.fab.ctxs rx.pkt.dstCtx with
    | some x => x.peerCtx
    | none => Config.freeNat d.1 % 4096
  sendControl d.2 rx.port (mkPkt 0xB rx.pkt.srcMod (ownMod c) back mgmt 0 0 0 1 [])

/-- A packet of a flow that travels in its slots arrives: slot, context, CRC and sequence number are judged (R294, R298,
R305); the context, if the packet is to be applied. One applied before is acknowledged again (log entry 96). -/
def accept (c : Core) (rx : Rx) : Core × Option Nat :=
  let p := rx.pkt
  let i := p.dstCtx
  let x := ctxOf c i
  let opened : Bool := x.kind = 0 && x.state = 1
  if p.dstMod ≠ ownMod c then (if running c then collide c rx else c, none)
  else if running c && (slotOwner c rx.port rx.slot false).isNone then (collide c rx, none)
  else if !crcHolds rx then
    let c := addObj c Key.flowCrcCount 1
    (if opened then sendOf (setCtx c i { x with lastHeard := obj c Key.uptimeTicks }) i rx.port (ackPkt c i 10 p.seq 0)
     else c, none)
  else if !opened then (sendReset c rx, none)
  else if running c && (slotOwner c rx.port rx.slot false ≠ some x.flow || x.peerMod ≠ p.srcMod) then (collide c rx, none)
  else
    let y := { x with lastHeard := obj c Key.uptimeTicks }
    if p.seq ≠ x.rxSeq then
      (setCtx c i { y with unacked := if decide ((x.rxSeq + 2 ^ 32 - p.seq) % 2 ^ 32 < 2 ^ 31) then x.unacked + 1 else x.unacked }, none)
    else (setCtx c i { y with rxSeq := (x.rxSeq + 1) % 2 ^ 32, bytesRx := x.bytesRx + 64 * pktUnits p,
                              unacked := x.unacked + 1 }, some i)

/-- A link-control packet of a flow arrives: its context, if it is open or closing here and the packet is whole (R293, R294,
R305). -/
def acceptControl (c : Core) (rx : Rx) : Core × Option Nat :=
  let p := rx.pkt
  let i := p.dstCtx
  let x := ctxOf c i
  if p.dstMod ≠ ownMod c then (c, none)
  else if !crcHolds rx then (addObj c Key.flowCrcCount 1, none)
  else if x.kind ≠ 0 ∨ (x.state ≠ 1 ∧ x.state ≠ 2) ∨ x.peerMod ≠ p.srcMod then
    (if p.typ = 0xB ∧ p.op = 1 then c else sendReset c rx, none)
  else (setCtx c i { x with lastHeard := obj c Key.uptimeTicks }, some i)

/-- The master ID of requests on a flow (R34, R291). -/
def peerMaster (p : Packet) : Nat := 0x8000 + p.srcMod

/-- Whether a request's address lies in this module and is well formed (R172). -/
def addrHere (c : Core) (p : Packet) (n : Nat) : Bool :=
  decide (gaClass p.addr < 2) && gaOk p.addr n && gaMod c p.addr = ownMod c

/-- FABRIC_WRITE (R302): written under the flow's master ID; what is turned away is answered at once with its status. -/
def execFabricWrite (rx : Rx) (s : State) : Out := onBoth (fun mem c =>
  let r := accept c rx
  match r.2 with
  | none => (r.1, mem)
  | some i =>
    let p := rx.pkt
    if p.typ ≠ 0 then (r.1, mem)
    else if !addrHere r.1 p (max 1 p.payload.length) then
      (sendAck (errStatus r.1 .range) i p.seq Status.range.code, mem)
    else
      let w := busWrite mem r.1 (peerMaster p) (gaOff p.addr) p.payload 0
      (if w.2.2 = .ok then w.1 else sendAck w.1 i p.seq w.2.2.code, w.2.1)) s

/-- A response leaves on the flow its request came on. -/
def reply (c : Core) (i typ : Nat) (p : Packet) (status : Nat) (bs : Bytes) : Core :=
  enqueue c i typ p.issuer p.opTag p.addr status 0 bs .none

/-- FABRIC_READ (R302): answered with READ_DATA, or with INTEGRITY where the target's memory holds an uncorrectable error. -/
def execFabricRead (rx : Rx) (s : State) : Out := onCoreMem (fun mem c =>
  let r := accept c rx
  match r.2 with
  | none => r.1
  | some i =>
    let p := rx.pkt
    let n := leNat (p.payload.take 4)
    if p.typ ≠ 1 then r.1
    else if !addrHere r.1 p n ∨ 512 < n ∨ n = 0 then reply (errStatus r.1 .range) i 2 p Status.range.code []
    else
      let b := busRead mem r.1 (peerMaster p) (gaOff p.addr) n 0
      match b.2 with
      | .refused => reply b.1 i 2 p Status.access.code []
      | .bad => reply b.1 i 2 p Status.integrity.code []
      | .data bs => reply b.1 i 2 p 0 bs) s

/-- FABRIC_ATOMIC (R206, R302): carried out at the target and answered with ATOMIC_RET. -/
def execFabricAtomic (rx : Rx) (s : State) : Out := onBoth (fun mem c =>
  let r := accept c rx
  match r.2 with
  | none => (r.1, mem)
  | some i =>
    let p := rx.pkt
    let o := gaOff p.addr
    let n := atomicTarget p.op
    if p.typ ≠ 3 then (r.1, mem)
    else if !addrHere r.1 p n ∨ o % n ≠ 0 ∨ 4 < p.op ∨ p.payload.length < atomicOperand p.op
        ∨ !(inHbm o || inSlice o || inStation o) then
      (reply (errStatus r.1 .range) i 4 p Status.range.code [], mem)
    else
      let b := busAtomic mem r.1 (peerMaster p) o p.op (p.payload.take (atomicOperand p.op)) 0
      (match b.2.2 with
        | .refused => reply b.1 i 4 p Status.access.code []
        | .bad => reply b.1 i 4 p Status.integrity.code []
        | .data old => reply b.1 i 4 p 0 old, b.2.1)) s

/-- FABRIC_SYNC (R236): the operation is applied under R219 with the requester's master ID, and its status returns. -/
def execFabricSync (rx : Rx) (s : State) : Out := onCore (fun c =>
  let r := accept c rx
  match r.2 with
  | none => r.1
  | some i =>
    let p := rx.pkt
    let f := bits p.addr 12 3
    let kind : SyncKind := if p.op = 0 then .add else if p.op = 1 then .sub else if p.op = 2 then .tak else .wat
    let op : SyncOp := { issuer := peerMaster p, kind := kind, sem := bits p.addr 0 12, n := leNat (p.payload.take 4),
                         cookie := leNat ((p.payload.drop 4).take 4), slot := leNat ((p.payload.drop 8).take 4),
                         back := .unit }
    if p.typ ≠ 5 then r.1
    else if bits p.addr 16 12 ≠ ownMod c ∨ 3 < p.op then reply (errStatus r.1 .range) i 6 p Status.range.code []
    else
      let a := applyOp r.1 f op
      reply a.1 i 6 p a.2.code []) s

/-- The request a response answers, taken from those that wait. -/
def takeReq (c : Core) (tag : Nat) : Core × Option (Nat × Cause) :=
  match tget c.fab.reqs tag with
  | some r => ({ c with fab := { c.fab with reqs := tdel c.fab.reqs tag } }, some r.2)
  | none => (c, none)

/-- A remote request of a stream was turned away at the target: the transfer is over and the stream FAULTED (R302). -/
def refusedXfer (c : Core) (g st xfer row addr status : Nat) : Core :=
  let c := closeXfer c g xfer
  let x := strm (stn c g) st
  let c := setStrm c g st { x with openRows := x.openRows.erase row, row := min x.row row }
  let c := if status = Status.access.code then streamFault c g st 2 addr
           else if status = Status.integrity.code then streamFault c g st 3 addr
           else if status = Status.lost.code then streamFault c g st 4 addr
           else streamAddrFault c g st row addr
  settleFault c g st

/-- READ_DATA (R302): the bytes go where the stream sends them, or join its index list. -/
def execReadData (rx : Rx) (s : State) : Out := onBoth (fun mem c =>
  let r := accept c rx
  match r.2 with
  | none => (r.1, mem)
  | some _ =>
    let p := rx.pkt
    if p.typ ≠ 2 then (r.1, mem)
    else
      let q := takeReq r.1 p.opTag
      match q.2 with
      | some (addr, .read g st xfer row off n) =>
        if p.status ≠ 0 then (refusedXfer q.1 g st xfer row addr p.status, mem)
        else
          let w := putPiece mem q.1 g st row off (p.payload.take n)
          (ackXfer w.1 g st xfer row, w.2)
      | some (addr, .index g st xfer) =>
        let c := closeXfer q.1 g xfer
        if p.status ≠ 0 then (streamFault c g st (if p.status = Status.integrity.code then 3 else 2) addr, mem)
        else
          let x := strm (stn c g) st
          (setStrm c g st { x with idx := x.idx ++ p.payload.take (x.idxReq - x.idx.length), stalled := false }, mem)
      | _ => (q.1, mem)) s

/-- ATOMIC_RET (R206, R302): the old value goes to the row's place in the return area. -/
def execAtomicRet (rx : Rx) (s : State) : Out := onBoth (fun mem c =>
  let r := accept c rx
  match r.2 with
  | none => (r.1, mem)
  | some _ =>
    let p := rx.pkt
    if p.typ ≠ 4 then (r.1, mem)
    else
      let q := takeReq r.1 p.opTag
      match q.2 with
      | some (addr, .atomic g st xfer row) =>
        if p.status ≠ 0 then (refusedXfer q.1 g st xfer row addr p.status, mem)
        else
          let d := (strm (stn q.1 g) st).active
          let a := stBase g + bits (sArg d) 0 44 + row * atomicTarget (bits (sArg d) 60 4)
          let old := p.payload.take (atomicTarget (bits (sArg d) 60 4))
          let c := addObj (vigilWrite q.1 g a old.length 3) Key.streamBytes old.length
          (ackXfer c g st xfer row, mwriteN mem a old)
      | _ => (q.1, mem)) s

/-- SYNC_REPLY (R236): the status goes on to its issuer; a registration that was turned away frees its proxy. -/
def execSyncReply (rx : Rx) (s : State) : Out := onCore (fun c =>
  let r := accept c rx
  match r.2 with
  | none => r.1
  | some _ =>
    let p := rx.pkt
    if p.typ ≠ 6 then r.1
    else
      let q := takeReq r.1 p.opTag
      match q.2 with
      | some (_, .sync back proxy) =>
        let st := ([Status.ok, .busy, .state, .range, .access, .noctx, .deadline, .profile, .width, .auth, .integrity,
          .lost, .taken].find? fun x => x.code = p.status).getD .range
        let c := match proxy with
          | some k => if st = .ok ∨ st = .lost then q.1
                      else { q.1 with fab := { q.1.fab with proxies := tdel q.1.fab.proxies k } }
          | none => q.1
        awayReply c back st
      | _ => q.1) s

/-- A watch message as it arrives in a packet (R230). -/
def parseWatch (bs : Bytes) : WatchMsg :=
  let w0 := leNat (bs.take 8)
  let w1 := leNat ((bs.drop 8).take 8)
  let w2 := leNat ((bs.drop 16).take 8)
  { status := if bits w0 48 8 = 0 then .ok else .lost, cause := bits w0 40 8, sem := bits w0 0 32, cookie := bits w1 32 32,
    noWatch := bit w1 30, localOrigin := bit w1 29, handle := bits w1 16 13, count := bits w2 20 20,
    thresh := bits w2 0 20, frame := leNat ((bs.drop 24).take 8) }

/-- FABRIC_WATCH (R235): the message goes to the proxy's waiter, and the proxy is free. -/
def execFabricWatch (rx : Rx) (s : State) : Out := onCore (fun c =>
  let r := accept c rx
  match r.2 with
  | none => r.1
  | some _ =>
    match tget r.1.fab.proxies rx.pkt.opTag with
    | some x =>
      if rx.pkt.typ ≠ 7 then r.1
      else
        let c := { r.1 with fab := { r.1.fab with proxies := tdel r.1.fab.proxies rx.pkt.opTag } }
        if x.waiter = goneWaiter then c
        else { c with net := c.net ++ [.watch x.waiter x.slot (parseWatch rx.pkt.payload)] }
    | none => r.1) s

/-! ### Acknowledgements -/

/-- The master ID of a field's reduction engine (R34). -/
def redMaster (f : Nat) : Nat := 0x108 + f

/-- One arrival signal of a permutation (R342): on the destination's semaphore, one for each move. -/
def arrivalSignal (f : Nat) (a : Nat × Nat) (c : Core) (m : Move) : Core :=
  if m.dstMod = ownMod c then unitSignal c a.1 a.2 (redMaster f) .unit
  else
    let op : SyncOp := { issuer := redMaster f, kind := .add, sem := a.2, n := 1, cookie := 0, slot := 0,
                         back := .engine (redMaster f) }
    sendRemote c m.dstMod (fieldAt 16 m.dstMod + fieldAt 12 a.1 + a.2) op none

/-- A permutation whose writes are all acknowledged signals its arrivals, once (R342). -/
def permuteSignal (c : Core) (f ch : Nat) : Core :=
  let x := chanOf c f ch
  match x.run, c.alm.image with
  | some r, some im =>
    match redDecl im r.redno with
    | none => c
    | some d =>
      if d.kind ≠ .permute ∨ r.openW ≠ 0 ∨ r.signalled then c
      else
        let c := setChan c f ch { x with run := some { r with signalled := true } }
        match d.arrival with
        | none => c
        | some a => (d.moves.filter fun m => m.srcMod = ownMod c).foldl (arrivalSignal f a) c
  | _, _ => c

/-- What the acknowledgement of a packet means to its cause; a status other than OK is a refusal of that packet (R302). -/
def packetAcked (c : Core) (p : FlowPkt) (status : Nat) : Core :=
  match p.cause with
  | .write g st x row =>
    if status = 0 then ackXfer c g st x row
    else refusedXfer c g st x row p.pkt.addr status
  | .coll f ch =>
    let y := chanOf c f ch
    match y.run with
    | some r =>
      let r := { r with openW := r.openW - 1 }
      let r := if status = 0 then r else { r with flags := r.flags ||| 32, srcFail := some .access }
      permuteSignal (setChan c f ch { y with run := some r }) f ch
    | none => c
  | _ => c

/-- Whether a cumulative acknowledgement of a sequence number covers a packet that has been sent. -/
def covered (seq : Nat) (q : FlowPkt) : Bool := q.sent && decide ((seq + 2 ^ 32 - q.pkt.seq) % 2 ^ 32 < 2 ^ 31)

/-- A CLOSING context whose sent packets are all acknowledged becomes FREE (R293). -/
def closeIfDone (c : Core) (i : Nat) : Core :=
  let x := ctxOf c i
  if x.state = 2 ∧ x.store.isEmpty ∧ x.queue.isEmpty then freeCtx c i else c

/-- ACK (R293, R294): the packets up to the sequence number leave the replay store, those that wait to be resent with them. -/
def execAck (rx : Rx) (s : State) : Out := onCore (fun c =>
  let r := acceptControl c rx
  match r.2 with
  | none => r.1
  | some i =>
    let p := rx.pkt
    let x := ctxOf r.1 i
    if p.typ ≠ 9 then r.1
    else
      let done := (x.store ++ x.queue).filter (covered p.seq)
      let next := (p.seq + 1) % 2 ^ 32
      let c := setCtx r.1 i { x with store := x.store.filter fun q => !covered p.seq q, queue := x.queue.filter fun q => !covered p.seq q,
                                     txSeq := if x.queue.any (covered p.seq) then next else x.txSeq,
                                     ackedSeq := if done.isEmpty then x.ackedSeq else next }
      let c := done.foldl (fun c q => packetAcked c q (if q.pkt.seq = p.seq then p.status else 0)) c
      closeIfDone c i) s

/-- The packets of a CLOSING context that wait to be resent leave at once: no frame gives it a slot any more (log entry 97). -/
def resendClosing (c : Core) (i : Nat) : Core :=
  let x := ctxOf c i
  if x.state ≠ 2 then c
  else x.queue.foldl (fun c q => launch c i (egressPort c i) 0 q) c

/-- NAK (R294): the sender resends from the refused packet. -/
def execNak (rx : Rx) (s : State) : Out := onCore (fun c =>
  let r := acceptControl c rx
  match r.2 with
  | none => r.1
  | some i =>
    if rx.pkt.typ ≠ 10 then r.1
    else resendClosing (setCtx r.1 i (resendFrom (ctxOf r.1 i) rx.pkt.seq)) i) s

/-- FLOW_CTL_KEEPALIVE (R305): the partner has been heard. -/
def execFlowCtlKeepalive (rx : Rx) (s : State) : Out := onCore (fun c => (acceptControl c rx).1) s

/-- FLOW_CTL_RESET (R305): the flow aborts. -/
def execFlowCtlReset (rx : Rx) (s : State) : Out := onCore (fun c =>
  let r := acceptControl c rx
  match r.2 with
  | none => r.1
  | some i => if rx.pkt.typ = 0xB ∧ rx.pkt.op = 1 then abortFlow r.1 i 2 else r.1) s

/-! ### Transit -/

/-- The transit entries of the frame in progress. -/
def transits (c : Core) : List TransitEntry := ((curTemplate c).map fun t => t.transit).getD []

/-- The slot of the frame that the module stands in and the bytes of its flow groups that time still leaves: 2,000 a tick on a
four-lane port (R279, R281, R282). -/
def slotNow (c : Core) (port after : Nat) : Nat × Nat :=
  let t := (obj c Key.domainTick + after) % max 1 (obj c Key.frameTicks)
  (t / 32, (32 - t % 32) * (if joined c port then 4000 else 2000))

/-- The earliest slot that a packet's flow holds on an outgoing link, from `after` ticks on, in which the whole packet still fits
(R297): the slots that the transit entries of its modules give on that link. -/
def transitSlot (c : Core) (port after : Nat) (p : Packet) : Option Nat :=
  let now := slotNow c port after
  let mine := ((transits c).filter fun e => e.outPort = port && e.srcMod = p.srcMod && e.dstMod = p.dstMod).map fun e => e.outSlot
  let fits := mine.filter fun j => decide (now.1 ≤ j) && decide (slotUsed c port j + pktBytes p ≤ slotCap c port)
    && (now.1 ≠ j || decide (pktBytes p ≤ now.2))
  match fits with
  | [] => none
  | j :: r => some (r.foldl min j)

/-- Two packets are of one flow between two modules. -/
def sameWay (p q : Packet) : Bool := p.srcMod = q.srcMod && p.dstMod = q.dstMod && p.dstCtx = q.dstCtx

/-- A packet in transit leaves in its slot, behind those of its flow that came before it; it waits where there is none yet or the
port is not UP (R297). -/
def passOn (after : Nat) (c : Core) (e : Nat × Packet) : Core :=
  let wait := { c with fab := { c.fab with transit := c.fab.transit ++ [e] } }
  if pstate c e.1 ≠ 3 ∨ c.fab.transit.any fun q => sameWay q.2 e.2 then wait
  else match transitSlot c e.1 after e.2 with
    | some j => send (useSlot c e.1 j (pktBytes e.2)) (.packet e.1 j e.2)
    | none => wait

/-- The packets in transit that wait are judged anew, in order: a frame has begun or a port has come UP. -/
def drainTransit (c : Core) : Core :=
  c.fab.transit.foldl (passOn 0) { c with fab := { c.fab with transit := [] } }

/-- A new pass of the slot grid: nothing is sent in its slots, no flow has missed one, and what waits in transit goes on (R281,
R284, R297, R311). -/
def newGrid (c : Core) : Core :=
  let onTime := fun (x : Ctx) => { x with missed := false }
  let fresh := fun (x : Port) => { x with used := [] }
  drainTransit { c with fab := { c.fab with ctxs := c.fab.ctxs.map fun p => (p.1, onTime p.2),
                                            ports := c.fab.ports.map fun p => (p.1, fresh p.2) } }

/-- TRANSIT_FORWARD (R297, R298, R304): a packet wholly received goes on, 4 ticks later at the earliest, in a slot the flow holds on the
outgoing link; link control follows the transit entries in reverse. `since` ticks have passed since its last byte came. -/
def execTransitForward (rx : Rx) (since : Nat) (s : State) : Out := onCore (fun c =>
  let p := rx.pkt
  if !running c ∨ p.dstMod = ownMod c then c
  else if 9 ≤ p.typ then
    match (transits c).find? fun e => e.outPort = rx.port && e.srcMod = p.dstMod && e.dstMod = p.srcMod with
    | some e => sendControl c e.inPort p
    | none => c
  else
    match (transits c).find? fun e => e.inPort = rx.port && e.slot = rx.slot with
    | none => collide c rx
    | some e => if e.srcMod ≠ p.srcMod ∨ e.dstMod ≠ p.dstMod then collide c rx else passOn (4 - since) c (e.outPort, p)) s

/-! ### Timers -/

/-- FLOW_ACK_TIMER (R294): what has been received and not acknowledged is acknowledged cumulatively. -/
def execFlowAckTimer (ctx : Nat) (s : State) : Out := inRange ctx 4096 <| onCore (fun c =>
  let x := ctxOf c ctx
  if x.kind ≠ 0 ∨ (x.state ≠ 1 ∧ x.state ≠ 2) ∨ x.unacked = 0 then c
  else sendAck c ctx ((x.rxSeq + 2 ^ 32 - 1) % 2 ^ 32) 0) s

/-- KEEPALIVE_TIMER (R305): a flow on which nothing was sent for 2,000 ticks sends a keepalive. -/
def execKeepaliveTimer (ctx : Nat) (s : State) : Out := inRange ctx 4096 <| onCore (fun c =>
  let x := ctxOf c ctx
  if x.kind ≠ 0 ∨ x.state ≠ 1 ∨ obj c Key.uptimeTicks < x.lastSent + 2000 then c
  else
    let p := { mkPkt 0xB x.peerMod (ownMod c) x.peerCtx mgmt 0 0 0 0 [] with seq := x.txSeq }
    sendOf c ctx (egressPort c ctx) p) s

/-- PARTNER_LOST (R305): no packet from the peer for PARTNER_TIMEOUT ticks. -/
def execPartnerLost (ctx : Nat) (s : State) : Out := inRange ctx 4096 <| onCore (fun c =>
  let x := ctxOf c ctx
  if x.kind ≠ 0 ∨ (x.state ≠ 1 ∧ x.state ≠ 2) ∨ obj c Key.uptimeTicks < x.lastHeard + obj c Key.partnerTimeout then c
  else abortFlow c ctx 1) s

end Sys2Proof.Machine
end

