-- ==== Sys2Proof/Machine/Session.lean ====
section
/-! DEFINITION. Sessioned requests (R419 to R423) and the frame of a dictionary write (R428 to R431, R464). -/

namespace Sys2Proof.Machine

/-- What a request did: fuses, core, memory, the outcome, the response header's status and the payload; `later`: the response
follows when another module has answered (R436, R437). -/
structure Done where
  fu : Fuses
  c : Core
  mem : Memory
  st : Status
  hdr : Status
  payload : Bytes
  later : Bool := false

/-- What carries a request out. -/
abbrev Handler := Fuses → Memory → Core → Done

/-- AUTH_FAILED (R421). -/
def authFailed (c : Core) (port typ : Nat) : Core :=
  raise (addObj c Key.authFailures 1) 0x0503 .report mgmt 0 [port, typ]

/-- A response leaves under a session key, on the port of its request, to its source (R421, R423). -/
def respondKey (c : Core) (key : Bytes) (h : Hdr) (r : Resp) : Core :=
  send (sentOn c h.ctx r.payload.length) (.bamcen h.port h.source h.ctx h.seq r (tagOf key h.ctx 1 h.seq r))

/-- A response, or its place, is kept under its SEQ, with the 63 before it (R422). -/
def keepResp (x : Session) (seq : Nat) (r : Option Resp) : Session := { x with kept := ((seq, r) :: x.kept).take 64 }

/-- A request is carried out for the first time: its response is kept, with the 63 before it (R422). -/
def carryOut (typ : Nat) (h : Hdr) (f : Handler) (after : Fuses → Status → Core → Core) (key : Bytes) (fu : Fuses) (mem : Memory)
    (c : Core) : Fuses × Memory × Core :=
  let d := f fu mem c
  let r : Resp := { typ := typ, status := d.hdr.code, payload := d.payload }
  if d.later then (d.fu, d.mem, d.c)
  else
    let c := match sessionOf d.c h.ctx with
      | some y => setSession d.c h.ctx (keepResp y h.seq (some r))
      | none => d.c
    (d.fu, d.mem, after d.fu d.st (respondKey c key h r))

/-- A context's record shows when its peer was last heard, and the payload bytes received (R295). -/
def hearCtx (c : Core) (h : Hdr) : Core :=
  let x := ctxOf c h.ctx
  setCtx c h.ctx { x with lastHeard := obj c Key.uptimeTicks, bytesRx := x.bytesRx + h.len }

/-- A sessioned request of a type arrives (R421, R422): discarded if it does not authenticate, carried out once, answered
again from the responses kept, or discarded. -/
def request (typ : Nat) (h : Hdr) (f : Handler) (after : Fuses → Status → Core → Core) (fu : Fuses) (mem : Memory) (c : Core) :
    Fuses × Memory × Core :=
  match sessionOf c h.ctx with
  | none => (fu, mem, authFailed c h.port typ)
  | some x =>
    if !h.tagOk then (fu, mem, authFailed c h.port typ)
    else
      let y := { x with heard := obj c Key.uptimeTicks, port := h.port, source := h.source }
      let d := (h.seq + 2 ^ 32 - x.h % 2 ^ 32) % 2 ^ 32
      if 1 ≤ d ∧ d < 2 ^ 31 then
        carryOut typ h f after x.key fu mem (setSession (hearCtx c h) h.ctx { y with h := h.seq })
      else
        let c := setSession (hearCtx c h) h.ctx y
        match x.kept.find? fun p => p.1 = h.seq with
        | some (_, some r) => (fu, mem, respondKey c x.key h r)
        | _ => (fu, mem, c)

/-- A frame received on an Ethernet port is counted (R445, R494); one command is one frame (log entry 27). -/
def countRx (c : Core) (p : Nat) : Core := trafficOn (addObj c (Key.port p 10) 1) p

/-- A frame that is dropped is counted (R445). -/
def countDiscarded (c : Core) (p : Nat) : Core := addObj c (Key.port p 11) 1

/-- The UDP port on which a type is valid (R420): bulk transfer 50472, everything else 50471 (R2). -/
def udpPort (typ : Nat) : Nat := if 0x50 ≤ typ ∧ typ ≤ 0x54 then 50472 else 50471

/-- What a datagram of a type becomes that arrives on a UDP port (R417, R419): one on a port where the type is not valid is discarded
without a reply; on a port that is not taken at all it counts as a frame of another port. -/
def onUdp (typ port udp : Nat) (take : Core → Core) (c : Core) : Core :=
  let c := countRx c port
  if udp = udpPort typ then take c
  else if udp = 50471 ∨ udp = 50472 then c
  else countDiscarded c port

/-- A command that is a sessioned request. -/
def handle (typ : Nat) (h : Hdr) (f : Handler) (after : Fuses → Status → Core → Core) (s : State) : Out :=
  inRange h.port 3 (.next (if powered s.core then
    if h.udp = udpPort typ then
      let r := request typ h f after s.fuse s.mem (countRx s.core h.port)
      { s with fuse := r.1, mem := r.2.1, core := r.2.2 }
    else { s with core := onUdp typ h.port h.udp (fun c => c) s.core } else s))

/-- Nothing follows the response. -/
def noMore (_ : Fuses) (_ : Status) (c : Core) : Core := c

/-- A request answered with a status alone; its error counter is raised (R11). -/
def answer (fu : Fuses) (mem : Memory) (c : Core) (st : Status) : Done :=
  { fu := fu, c := errStatus c st, mem := mem, st := st, hdr := st, payload := [] }

/-! ### Dictionary items -/

/-- The master ID of a session (R291). -/
def sessionMaster (ctx : Nat) : Nat := 0x1000 + ctx

/-- The head of a response item (R428). -/
def itemHead (key : Nat) (st : Status) (ty len : Nat) : Bytes :=
  leBytes 2 (key / 256) ++ leBytes 1 (key % 256) ++ leBytes 1 st.code ++ leBytes 1 ty ++ leBytes 1 0 ++ leBytes 2 len

/-- The indices the boot ROM's dictionary holds (R464). -/
def romIndex (i : Nat) : Bool :=
  i = 0x0100 || (0x0200 ≤ i && i ≤ 0x0202) || i = 0x0300 || i = 0x0301 || (0x0500 ≤ i && i ≤ 0x0503) || i = 0x0C00 ||
    i = 0x0C01

/-- Whether a request of a session for an object may go on to the object's own rule: it exists (R430), the boot ROM holds
it (R464), the dictionary's table permits it (R431) and its access rights do. -/
def dictGate (c : Core) (ctx key : Nat) (rt : Right) : Status :=
  match objFind key with
  | none => .range
  | some o =>
    if c.boot.rom && !romIndex (key / 256) then .state
    else if !tablePermits c.acc 138 (sessionMaster ctx) key rt then .access
    else if rt = .w ∧ (o.acc = .ro ∨ o.acc = .rc) then .access
    else if rt = .r ∧ o.acc = .wo then .access
    else .ok

/-- What a refusal by `dictGate` records: a request that the dictionary's table does not permit is a refused request of
target 138 (R188, R192); else the error counter (R11). -/
def dictDeny (c : Core) (ctx key : Nat) (rt : Right) (st : Status) : Core :=
  if st = .access && !tablePermits c.acc 138 (sessionMaster ctx) key rt then refuse c (sessionMaster ctx) 138 key rt
  else errStatus c st

/-- The type code of an object. -/
def objType (key : Nat) : Nat := ((objFind key).map fun o => o.ty).getD 0

/-- The rule of one object's write: it gives the core and the status. -/
abbrev WriteRule := Fuses → Memory → Core → Core × Status

/-- A command that is a WRITE of one item: the common checks, then the object's rule. -/
def writeItemM (key : Nat) (h : Hdr) (f : Fuses → Memory → Core → Fuses × Core × Memory × Status) (after : Fuses → Status → Core → Core)
    (s : State) : Out :=
  handle 0x21 h (fun fu mem c =>
    let g := dictGate c h.ctx key .w
    let r := if g = .ok then (let y := f fu mem c; (y.1, errStatus y.2.1 y.2.2.2, y.2.2.1, y.2.2.2))
      else (fu, dictDeny c h.ctx key .w g, mem, g)
    { fu := r.1, c := r.2.1, mem := r.2.2.1, st := r.2.2.2, hdr := .ok,
      payload := itemHead key r.2.2.2 (objType key) 0 }) after s

/-- A write whose rule leaves the memory alone. -/
def writeItemF (key : Nat) (h : Hdr) (f : Fuses → Memory → Core → Fuses × Core × Status) (after : Fuses → Status → Core → Core)
    (s : State) : Out :=
  writeItemM key h (fun fu mem c => let r := f fu mem c; (r.1, r.2.1, mem, r.2.2)) after s

/-- A write whose rule leaves the fuses alone. -/
def writeItem (key : Nat) (h : Hdr) (f : WriteRule) (s : State) : Out :=
  writeItemF key h (fun fu mem c => let r := f fu mem c; (fu, r.1, r.2)) noMore s

/-- Whether an image is loaded: LOADED to STOPPED (R380). -/
def loaded (c : Core) : Bool := decide (2 ≤ almState c)

/-- Whether no Almanac is loaded or stopped: EMPTY or STOPPED (R380). -/
def emptyOrStopped (c : Core) : Bool := almState c = 0 || almState c = 6

end Sys2Proof.Machine
end

