-- ==== Sys2Proof/Machine/Clock.lean ====
section
/-! DEFINITION. Clock sources, operating points, leaps, crossings, gating (chapter 12), and the Vigil's switch (R374). -/

namespace Sys2Proof.Machine

/-- A FAULT stop is asked for without an event of class FAULT (R407). -/
def faultStop (c : Core) (code m : Nat) : Core :=
  if running c && c.alm.fault.isNone then { c with alm := { c.alm with fault := some (code, m, frameNow c) } } else c

/-- The clock sources' record changed. -/
def modClk (c : Core) (f : Clocks → Clocks) : Core := { c with clk := f c.clk }

/-! ### Reference sources (R384 to R388, R405, R407) -/

/-- The bit of REF_READY of a candidate: 0 crystal, 1 EXT10, 2 + p FABRIC of port p. -/
def readyBit (src : Nat) : Nat := if src < 2 then src else 14 + src
/-- Whether a candidate is ready. -/
def isReady (c : Core) (src : Nat) : Bool := bit (obj c Key.refReady) (readyBit src)
/-- REF_READY with a candidate's bit set or cleared. -/
def setReady (c : Core) (src : Nat) (b : Bool) : Core :=
  let m := 2 ^ readyBit src
  let v := obj c Key.refReady
  setObj c Key.refReady (if b then v ||| m else if isReady c src then v - m else v)

/-- The candidate in force, if one is: none in HOLDOVER. -/
def refInForce (c : Core) : Option Nat :=
  let a := obj c Key.refActive
  if a = 2 then some (2 + obj c Key.refPort) else if a < 2 then some a else none

/-- Whether the monitors are in RECOVERED mode (R402). -/
def recoveredMode (c : Core) : Bool :=
  let m := obj c Key.monitorMode
  if m = 1 then false else if m = 2 then true
  else if obj c Key.refActive = 3 then c.clk.recovered else obj c Key.refActive = 2

/-- A field's generator replaced. -/
def setGen (c : Core) (f : Nat) (g : Gen) : Core := setFld c f { fld c f with gen := g }

/-- Every generator runs free at its last control value (R407). -/
def allFree (c : Core) : Core :=
  let c := modClk c fun k => { k with freeRun := List.range 11, stopped := true }
  (List.range 8).foldl (fun c f => setGen c f { (fld c f).gen with locked := 3 }) c

/-- A candidate is no longer ready; what follows when it is in force (R385, R405, R407). The code of the cause in REF_LOST is
open. -/
def unready (c : Core) (src : Nat) : Core :=
  let was := isReady c src
  let c := setReady c src false
  let r0 := tgetD c.clk.refs src { run := 0, last := none, counts := [] }
  let c := modClk c fun k => { k with refs := tset k.refs src { r0 with run := 0 } }
  let lost := fun (c : Core) (code port : Nat) =>
    let d := draw c
    raise d.2 0x0403 .report mgmt 0 [code, port, Config.freeNat d.1]
  if !was then c
  else if src = 0 then
    let c := lost c 0 0
    if obj c Key.refActive = 0 ∨ obj c Key.refActive = 3 then faultStop (allFree c) 0x0403 mgmt else c
  else if refInForce c = some src then
    let keep := recoveredMode c
    let c := lost c (if src = 1 then 1 else 2) (src - 2)
    if isReady c 0 then
      let c := modClk c fun k => { k with recovered := keep }
      setObj (setObj c Key.refActive 3) Key.refDepth 255
    else faultStop (allFree c) 0x0403 mgmt
  else c

/-- The partner's REF_DEPTH on a port, from its advert (R386). -/
def partnerDepth (c : Core) (p : Nat) : Nat := ((topoOf c (portOf c p).peerMod).map fun t => t.refDepth).getD 0

/-- Whether a window's count passes (R385). -/
def windowPasses (c : Core) (src count : Nat) (last : Option Nat) : Bool :=
  if src = 0 then
    decide (31785 ≤ count ∧ count ≤ 33751) &&
      (match last with | none => true | some l => decide (count ≤ l + 33 ∧ l ≤ count + 33))
  else if src = 1 then decide (99980 ≤ count ∧ count ≤ 100020)
  else decide (999800 ≤ count ∧ count ≤ 1000200) && pstate c (src - 2) = 3 && decide (partnerDepth c (src - 2) ≤ 14)

/-- The crystal's frequency relative to a source, in parts per 10^9, over its last passing windows (R405, R413). -/
def xtalOffset (src : Nat) (counts : List Nat) : Int :=
  let n : Int := (if src = 1 then 100000 else 1000000) * counts.length
  let t : Int := (counts.sum : Nat)
  if t = 0 then 0 else (n - t) * 1000000000 / t

/-- REF_WINDOW (R385): a judging window of a candidate ends. -/
def execRefWindow (src count : Nat) (s : State) : Out := inRange src 18 <| onCore (fun c =>
  if src ≠ 0 ∧ !isReady c 0 then c
  else
    let r := tgetD c.clk.refs src { run := 0, last := none, counts := [] }
    if windowPasses c src count r.last then
      let y : RefSource := { run := r.run + 1, last := some count, counts := (count :: r.counts).take 8 }
      let c := modClk c fun k => { k with refs := tset k.refs src y }
      if (if src = 0 then 8 else 3) ≤ y.run then
        let c := setReady c src true
        if src = 0 then c else setObj c Key.xtalOffset (unsigned 32 (xtalOffset src y.counts))
      else c
    else
      let c := unready c src
      modClk c fun k => { k with refs := tset k.refs src { r with run := 0, last := some count } }) s

/-- REF_EDGE_LOSS (R385): no edge for 1 µs. -/
def execRefEdgeLoss (src : Nat) (s : State) : Out := inRange src 18 <| onCore (fun c => unready c src) s

/-- The rule of REF_SELECT (R387). -/
def refSelectRule (v : Nat) : WriteRule := fun _ _ c =>
  let code := bits v 0 8
  let port := bits v 8 4
  let src := if code = 2 then 2 + port else code
  if 2 ^ 12 ≤ v ∨ 3 ≤ code then (c, .range)
  else if c.clk.switch.isSome then (c, .busy)
  else if refInForce c = some src then (setObj c Key.refSelect v, .ok)
  else if !isReady c src then (c, .state)
  else (modClk (setObj c Key.refSelect v) fun k => { k with switch := some v }, .ok)

/-- REF_SELECT (R387). -/
def execRefSelect (h : Hdr) (v : Nat) (s : State) : Out := writeItem Key.refSelect h (refSelectRule v) s

/-- REF_SWITCH (R386, R388): the accepted switch is made, with phase build-out. -/
def execRefSwitch (s : State) : Out := onCore (fun c =>
  match c.clk.switch with
  | none => c
  | some v =>
    let code := bits v 0 8
    let port := if code = 2 then bits v 8 4 else 0
    let c := modClk c fun k => { k with switch := none }
    let c := setObj (setObj c Key.refActive code) Key.refPort port
    setObj c Key.refDepth (if code = 2 then min 255 (partnerDepth c port + 1) else 0)) s

/-! ### Generators and crossings (R389 to R401) -/

/-- The crossings of the die as (writer, reader), by writer. -/
def crossings : List (Nat × Nat) := (List.range 8).flatMap fun a => (neighbours a).map fun b => (a, b)

/-- SLIP_FAULT of a crossing (R389, R401); its skew in 8 bits (log entry 120). -/
def slipFault (c : Core) (a b : Nat) (d : Int) : Core :=
  let c := modClk c fun k => { k with slips := if k.slips.contains (a * 8 + b) then k.slips else k.slips ++ [a * 8 + b] }
  raise c 0x0402 .fault mgmt 0 [a, b, unsigned 8 d]

/-- Every crossing is aligned to 4 entries and every skew is zero (R389, R400). -/
def recentre (c : Core) : Core :=
  (List.range 8).foldl (fun c f => setGen c f { (fld c f).gen with skew := [], occ := [] }) c

/-- The eight field generators locked at the multiplier in force (R389). -/
def lockGens (c : Core) : Core :=
  (List.range 8).foldl (fun c f => setGen c f { (fld c f).gen with locked := 2, mult := obj c Key.opMult }) c

/-- FIELD_LOCK (R389 steps 4 to 6): with the crystal ready and no Almanac running, the generators are locked; a crossing
that does not hold 4 entries after its idle entries raises SLIP_FAULT, else the data path runs. -/
def execFieldLock (occupancy : List Nat) (s : State) : Out := onCore (fun c =>
  if !isReady c 0 ∨ running c then c
  else
    let c := recentre (lockGens c)
    let c := modClk c fun k => { k with freeRun := [], slips := [] }
    let bad := (crossings.zip occupancy).filter fun p => p.2 ≠ 4
    if bad.isEmpty then modClk c fun k => { k with stopped := false }
    else bad.foldl (fun c p => slipFault c p.1.1 p.1.2 (4 - (p.2 : Int))) c) s

/-- The smallest multiplier a request may name (R368, R458). -/
def multFloor (c : Core) : Nat := if loaded c then bits (obj c Key.multRange) 0 8 else 8
/-- The largest multiplier a host may name (R368). -/
def multCeil (c : Core) : Nat := if loaded c then bits (obj c Key.multRange) 8 8 else 18

/-- A change joins the queue: every standby synthesiser locks to it (R391, R392). -/
def queueOp (c : Core) (q : OpQueued) : Core :=
  let c := modClk c fun k => { k with queued := some q }
  (List.range 8).foldl (fun c f => setGen c f { (fld c f).gen with standbyMult := q.mult, standbyLocked := false }) c

/-- A change takes effect in all eight fields (R391); a host's sets the power controller's target (R458). -/
def takeOp (c : Core) (mult origin : Nat) : Core :=
  let c := addObj (setObj c Key.opMult mult) Key.opChanges 1
  let c := if origin = 0 then setObj c Key.targetMult mult else c
  let c := { c with power := { c.power with sinceChange := 0 } }
  recentre ((List.range 8).foldl (fun c f =>
    let g := (fld c f).gen
    setGen c f { g with mult := mult, standbyMult := 0, standbyLocked := false, activeSyn := 1 - g.activeSyn }) c)

/-- A request of the monitors (origin 1) or the power controller (origin 2) (R393); with no Almanac running it takes effect
as a host's change does, 2,000 ticks later. -/
def requestOp (c : Core) (mult origin : Nat) : Core :=
  if !running c then
    if c.clk.direct.isSome then c
    else
      let c := modClk c fun k => { k with direct := some (mult, origin) }
      (List.range 8).foldl (fun c f => setGen c f { (fld c f).gen with standbyMult := mult, standbyLocked := false }) c
  else
    let at4 := obj c Key.frameCount + 4
    match c.clk.queued with
    | none => queueOp c { mult := mult, frame := at4, origin := origin }
    | some q => if mult < q.mult then queueOp c { mult := mult, frame := max q.frame at4, origin := origin } else c

/-- The rule of OP_CHANGE (R392, R368). -/
def opChangeRule (mult frame : Nat) : WriteRule := fun _ _ c =>
  if mult < 8 ∨ 18 < mult ∨ 2 ^ 64 ≤ frame then (c, .range)
  else if loaded c && (decide (mult < multFloor c) || decide (multCeil c < mult)) then (c, .state)
  else if running c then
    if frame < obj c Key.frameCount + 4 then (c, .state)
    else if c.clk.queued.isSome ∨ c.clk.direct.isSome then (c, .busy)
    else (queueOp c { mult := mult, frame := frame, origin := 0 }, .ok)
  else if frame ≠ 0 then (c, .state)
  else if c.clk.queued.isSome ∨ c.clk.direct.isSome then (c, .busy)
  else
    let c := (List.range 8).foldl (fun c f =>
      setGen c f { (fld c f).gen with standbyMult := mult, standbyLocked := false }) c
    (modClk c fun k => { k with direct := some (mult, 0) }, .ok)

/-- OP_CHANGE (R392). -/
def execOpChange (h : Hdr) (mult frame : Nat) (s : State) : Out := writeItem Key.opChange h (opChangeRule mult frame) s

/-- STANDBY_LOCK (R391): a standby synthesiser that locks to a queued multiplier is locked. -/
def execStandbyLock (f : Nat) (s : State) : Out := inRange f 8 <| onCore (fun c =>
  let g := (fld c f).gen
  if g.standbyMult = 0 then c else setGen c f { g with standbyLocked := true }) s

/-- OP_CHANGE_TAKES_EFFECT (R392): a change accepted with F = 0. -/
def execOpChangeTakesEffect (s : State) : Out := onCore (fun c =>
  match c.clk.direct with
  | none => c
  | some m => modClk (takeOp c m.1 m.2) fun k => { k with direct := none }) s

/-- The leap budget Q_m (R361); open while no Almanac is loaded (R403). -/
def leapBudget (c : Core) : Nat :=
  let m := obj c Key.opMult
  if loaded c then (obj c Key.frameTicks * m * obj c Key.leapReserve + 999) / 1000 else Config.idleBudget m

/-- The skew of two neighbours (R398). -/
def skewOf (c : Core) (a b : Nat) : Int := tgetD (fld c a).gen.skew b 0

/-- A skew changed on both sides, with the occupancies it gives (R398). -/
def setSkew (c : Core) (a b : Nat) (d : Int) : Core :=
  let one := fun (c : Core) (n k : Nat) (d : Int) =>
    let g := (fld c n).gen
    setGen c n { g with skew := tset g.skew k d, occ := tset g.occ k (4 + d).toNat,
                        curSkew := tset g.curSkew k (max (tgetD g.curSkew k 0) d.natAbs) }
  one (one c a b d) b a (-d)

/-- A field loses one cycle: counts, budget, skews (R394, R396, R398, R401). -/
def takeLeap (c : Core) (f : Nat) (own : Bool) : Core :=
  let g := (fld c f).gen
  let g := { g with own := if own then min 65535 (g.own + 1) else g.own,
                    companion := if own then g.companion else min 65535 (g.companion + 1), total := (g.total + 1) % 2 ^ 64 }
  let c := addObj (setGen c f g) Key.leapsTotal 1
  let n := g.own + g.companion
  let c := if running c && c.alm.hold.heldAt.isNone && decide (leapBudget c < n) && !g.overBudget then
      raise (setGen c f { g with overBudget := true }) 0x0401 .report mgmt 0 [f, n] else c
  (neighbours f).foldl (fun c b =>
    if c.clk.slips.contains (f * 8 + b) ∨ c.clk.slips.contains (b * 8 + f) then c
    else
      let d := skewOf c f b + 1
      let c := setSkew c f b d
      if 4 ≤ d.natAbs then slipFault c f b d else c) c

/-- LEAP (R394, R395): a replica path reports a low margin and the field's next period is stretched. -/
def execLeap (f margin path : Nat) (s : State) : Out := inRange f 8 <| inRange path 32 <| onCore (fun c =>
  let g := (fld c f).gen
  if g.locked = 0 then c
  else
    let low := decide (min margin 255 < g.curMargin)
    let g := if low then { g with curMargin := min margin 255, curPath := path } else g
    takeLeap (setGen c f g) f true) s

/-- COMPANION_LEAP (R399): a field that has leaped two fewer than a neighbour follows. -/
def execCompanionLeap (f : Nat) (s : State) : Out := inRange f 8 <| onCore (fun c =>
  if (neighbours f).any fun b => decide (skewOf c f b ≤ -2) then takeLeap c f false else c) s

/-- A frame of leaps ends (R396, R403, R412): the counts restart, and eight frames above half the budget in LOCAL mode ask
for one multiplier less. -/
def closeLeaps (c : Core) : Core :=
  let half := leapBudget c
  let judge := !recoveredMode c && obj c Key.stepdownEnable = 1
  let r := (List.range 8).foldl (fun (acc : Core × Bool) f =>
    let g := (fld acc.1 f).gen
    let n := g.own + g.companion
    let k := if judge && decide (half < 2 * n) then g.highLeaps + 1 else 0
    let g := { g with own := 0, companion := 0, lastFrame := min 65535 n, marginMin := g.curMargin, marginPath := g.curPath,
                      curMargin := 0xFF, curPath := 0, maxSkew := g.curSkew, curSkew := [], overBudget := false,
                      highLeaps := if 8 ≤ k then 0 else k }
    (setGen acc.1 f g, acc.2 || decide (8 ≤ k))) (c, false)
  let m := obj r.1 Key.opMult
  if r.2 && decide (multFloor r.1 < m) then requestOp r.1 (m - 1) 1 else r.1

/-- LEAP_COUNT_INTERVAL (R396, R403, R501): 2,000 ticks with no Almanac running. -/
def execLeapCountInterval (s : State) : Out := onCore (fun c =>
  if running c then c
  else
    let c := closeLeaps c
    { c with ev := { c.ev with interval := [] } }) s

/-- CLOCK_UNLOCK (R408): a generator loses lock and runs free. -/
def execClockUnlock (gen : Nat) (s : State) : Out := inRange gen 11 <| onCore (fun c =>
  if c.clk.freeRun.contains gen then c
  else
    let c := modClk c fun k => { k with freeRun := k.freeRun ++ [gen] }
    let c := if gen < 8 then setGen c gen { (fld c gen).gen with locked := 3 } else c
    raise c 0x0405 .fault mgmt 0 [gen]) s

/-! ### Gating (R409 to R411) -/

/-- An Ethernet port loses its link (R416): HOSTPORT_DOWN if it had one. -/
def hostDown (c : Core) (p : Nat) : Core :=
  if obj c (Key.port p 2) = 1 then
    raise (setObj (setObj c (Key.port p 2) 0) (Key.port p 3) 0) 0x0501 .report mgmt 0 [p, obj c (Key.port p 3)]
  else c

/-- Whether a gating object may be written (R411). -/
def gateWritable (c : Core) : Bool := almState c = 0 || almState c = 2 || almState c = 6

/-- The rule of a gating object (R411): STATE outside EMPTY, LOADED and STOPPED. -/
def gateRule (key bound v : Nat) (c : Core) : Core × Status :=
  if bound ≤ v then (c, .range) else if gateWritable c then (setObj c key v, .ok) else (c, .state)

/-- GATE_STATIONS (R409, R411). -/
def execGateStations (h : Hdr) (data : Bytes) (s : State) : Out := writeItem Key.gateStations h (fun _ _ c =>
  if data.length ≠ 24 then (c, .range) else gateRule Key.gateStations (2 ^ 192) (leNat data) c) s

/-- GATE_ENGINES (R409, R411). -/
def execGateEngines (h : Hdr) (v : Nat) (s : State) : Out := writeItem Key.gateEngines h (fun _ _ c =>
  gateRule Key.gateEngines (2 ^ 16) v c) s

/-- GATE_HBM (R409, R411). -/
def execGateHbm (h : Hdr) (v : Nat) (s : State) : Out := writeItem Key.gateHbm h (fun _ _ c =>
  gateRule Key.gateHbm (2 ^ 32) v c) s

/-- GATE_HOSTPORTS (R409 to R411, R416): a gated port has no link. -/
def execGateHostports (h : Hdr) (v : Nat) (s : State) : Out := writeItem Key.gateHostports h (fun _ _ c =>
  let r := gateRule Key.gateHostports 4 v c
  if r.2 = .ok then
    (((List.range 2).filter fun p => !bit v p).foldl hostDown r.1, .ok)
  else r) s

/-- VIGIL_ENABLE (R374). -/
def execVigilEnable (h : Hdr) (v : Nat) (s : State) : Out := writeItem Key.vigilEnable h (fun _ _ c =>
  if 2 ≤ v then (c, .range) else if emptyOrStopped c then (setObj c Key.vigilEnable v, .ok) else (c, .state)) s

/-- VIGIL_PAUSE (R375): in the paused cycle no unit of the stations or field engines advances. -/
def execVigilPause (s : State) : Out := onCore (fun c => c) s

end Sys2Proof.Machine
end

