-- ==== Sys2Proof/Machine/Links.lean ====
section
/-! DEFINITION. Fabric ports: training, identity, codeword groups, link-state adverts, the tick count (R278 to R290, R307,
R315). -/

namespace Sys2Proof.Machine

/-- A port's record replaced. -/
def setPort (c : Core) (p : Nat) (x : Port) : Core := { c with fab := { c.fab with ports := tset c.fab.ports p x } }

/-- A port goes DOWN (R285): LINK_DOWN; if it was UP, topology, routes, holds, reference and adverts follow (R289, R300, R385). -/
def portDown (fu : Fuses) (c : Core) (p cause : Nat) : Core :=
  let x := portOf c p
  if x.pstate = 0 then c
  else
    let y := setPort c p { x with pstate := 0, phase := 0, downCause := cause, again := false, rxGroup := 0, tries := 0,
                                  badRun := [] }
    let y := unready (raise y 0x0603 .report mgmt 0 [p, cause]) (2 + p)
    if x.pstate = 3 then floodAdvert fu (reroute (topoChanged c y)) else y

/-- A port on which commands of a link act: enabled, and not the odd member of a pair (R278). -/
def portActs (c : Core) (p : Nat) : Bool := bit (obj c Key.portEnable) p && !(joined c p && p % 2 = 1)

/-- A command of a port of the fabric. -/
def onPort (p : Nat) (f : Fuses → Core → Port → Core) (s : State) : Out := inRange p 16 <| onFuse (fun fu _ c =>
  if portActs c p then f fu c (portOf c p) else c) s

/-- The nonce of 32 bytes that a port sends in IDENT (R286). -/
def identNonce (x : Port) : Bytes := leBytes 32 (Config.fresh x.nonceDraw)

/-- The fields that this module sends on a port in IDENT (R286, R468). -/
def identOut (fu : Fuses) (c : Core) (p : Nat) : IdentOut :=
  { key := fu.identityKey, cert := fu.cert, nonce := identNonce (portOf c p), port := p, modId := ownMod c,
    modValid := obj c Key.moduleIdValid = 1, instId := obj c Key.installationId, bootEpoch := Config.fresh c.boot.epochDraw, lc := fu.lc }

/-- The bytes of those fields, in the order of R286 (log entry 93). -/
def identBytes (m : IdentOut) : Bytes :=
  m.key ++ m.cert ++ leBytes 1 m.port ++ leBytes 2 m.modId ++ leBytes 1 (b2n m.modValid) ++ leBytes 8 m.instId ++ leBytes 8 m.bootEpoch
    ++ leBytes 1 m.lc

/-- The signature that follows once the partner's nonce is here: over a digest of both nonces and all the fields (R286). -/
def identProof (fu : Fuses) (m : IdentOut) (nonce : Bytes) : Bytes := identitySig fu (shake 64 (m.nonce ++ nonce ++ identBytes m))

/-- The module's identity leaves on a port in IDENT, with a fresh nonce (R286). -/
def startIdent (fu : Fuses) (c : Core) (p : Nat) (again : Bool) : Core :=
  let d := draw c
  let c := setPort d.2 p { portOf c p with pstate := 2, phase := 5, again := again, nonceDraw := d.1 }
  send c (.ident p (identOut fu c p))

/-- LINK_TRAINING_PHASE (R285): the phase under way is complete. A DOWN port begins with DETECT once the runtime firmware
runs. -/
def execLinkTrainingPhase (p roundTrip : Nat) (s : State) : Out := onPort p (fun fu c x =>
  if c.boot.rom then c
  else if x.pstate = 0 then setPort c p { x with pstate := 1, phase := 1, trainings := min (x.trainings + 1) (2 ^ 32 - 1) }
  else if x.pstate = 1 then
    if x.phase < 4 then setPort c p { x with phase := x.phase + 1 }
    else startIdent fu (setPort c p { x with latency := min 255 ((roundTrip - 12 + 1) / 2), rxGroup := 0, tries := 0 }) p false
  else c) s

/-- TRAINING_TIMEOUT (R285): a phase beyond its limit returns the port to DETECT, which has no limit. -/
def execTrainingTimeout (p : Nat) (s : State) : Out := onPort p (fun _ c x =>
  if x.pstate = 2 ∨ (x.pstate = 1 ∧ 0 < x.phase) then setPort c p { x with pstate := 1, phase := 0, again := false } else c) s

/-- LOSS_OF_SIGNAL (R285). -/
def execLossOfSignal (p : Nat) (s : State) : Out := onPort p (fun fu c _ => portDown fu c p 1) s

/-! ### Topology (R287 to R289) -/

/-- For how long a digest that was heard claims its module ID: two advert periods (log entry 94). -/
def claimTicks : Nat := 200000

/-- Whether two identity digests claim a module ID, one of which may be this module's own (R289). -/
def inConflict (fu : Fuses) (c : Core) (m : Nat) : Bool :=
  let own : List Nat := if m = ownMod c && obj c Key.moduleIdValid = 1 then [ownDigest fu] else []
  let heard : List Nat := ((tgetD c.fab.claims m []).filter fun p => decide (obj c Key.uptimeTicks < p.2 + claimTicks)).map fun p => p.1
  decide (1 < (own ++ heard).dedup.length)

/-- A digest learned for a module ID (R289): a conflict is reported once while it lasts. -/
def learnDigest (fu : Fuses) (c : Core) (m digest : Nat) : Core :=
  let y := { c with fab := { c.fab with claims := tset c.fab.claims m (tset (tgetD c.fab.claims m []) digest (obj c Key.uptimeTicks)) } }
  if inConflict fu y m && !inConflict fu c m then raise y 0x0605 .report mgmt 0 [m] else y

/-- Every open flow to a module that reports a new boot epoch aborts (R287, R305). -/
def newEpoch (c : Core) (m : Nat) : Core :=
  ((c.fab.ctxs.filter fun p => p.2.kind = 0 && p.2.peerMod = m).map fun p => p.1).foldl (fun c i => abortFlow c i 2) c

/-- IDENT (R286, R287): the exchange on a port is received and judged. -/
def execIdent (p : Nat) (i : IdentMsg) (s : State) : Out := onPort p (fun fu c x =>
  if x.pstate ≠ 2 then c
  else
    let c := send c (.identSig p (identProof fu (identOut fu c p) i.nonce))
    if x.again && x.peerDigest ≠ i.digest then portDown fu c p 4
    else if !i.sigOk ∨ !i.certOk ∨ i.instId ≠ obj c Key.installationId then
      raise (setPort c p { x with pstate := 4, again := false }) 0x0604 .report mgmt 0 [p]
    else
      let known := (if x.peerValid && x.peerMod = i.modId && x.peerDigest ≠ 0 then [x.peerEpoch] else []) ++
        (match topoOf c i.modId with | some t => [t.epoch] | none => [])
      let y := if i.modValid then learnDigest fu c i.modId i.digest else c
      let y := setPort y p { x with pstate := 3, phase := 6, again := false, peerMod := i.modId, peerValid := i.modValid,
                                    peerPort := i.peerPort, peerDigest := i.digest, peerEpoch := i.bootEpoch, badRun := [] }
      let y := if i.modValid && known.any (fun e => e ≠ i.bootEpoch) then newEpoch y i.modId else y
      floodAdvert fu (drainTransit (reroute (topoChanged c y)))) s

/-! ### Codeword groups (R279, R280) -/

/-- The runs of uncorrectable codewords of the lanes after a group. -/
def badRuns (t : Tab Nat) (bad : List Nat) : Tab Nat := bad.foldl (fun n l => tset n l (tgetD t l 0 + 1)) []

/-- The lanes of a port: four, or eight of a joined pair (R276). -/
def portLanes (c : Core) (p : Nat) : Nat := if joined c p then 8 else 4

/-- CODEWORD_GROUP (R279, R280, R285): of each lane's codeword, at most 16 symbols in error are corrected. A group in turn is
delivered and acknowledged, and the group it acknowledges is no longer replayed; one that cannot be corrected is discarded, with every
later one, and its replay requested. Groups are exchanged from IDENT on. -/
def execCodewordGroup (p seq : Nat) (errs : List Nat) (acked : Option Nat) (s : State) : Out := onPort p (fun fu c x =>
  if x.pstate = 0 then c
  else
    let lanes := (List.range (portLanes c p)).map fun l => (l, errs.getD l 0)
    let bad := (lanes.filter fun l => decide (16 < l.2)).map fun l => l.1
    let fixed := ((lanes.filter fun l => decide (l.2 ≤ 16)).map fun l => l.2).sum
    let past : Bool := acked.any fun (a : Nat) => decide ((a + 65536 - x.replaySeq) % 65536 < 512)
    let x : Port := { x with fec := min (x.fec + fixed) (2 ^ 64 - 1), badRun := badRuns x.badRun bad }
    let c := addObj c Key.fecCorrected fixed
    if bad.isEmpty then
      if x.pstate ≠ 1 ∧ seq = x.rxGroup then
        let tries := if past then 0 else x.tries
        send (setPort c p { x with rxGroup := (seq + 1) % 65536, tries := tries }) (.groupAck p seq)
      else setPort c p x
    else
      let c := addObj (setPort c p { x with groupsLost := min (x.groupsLost + 1) (2 ^ 64 - 1) }) Key.groupsLost 1
      let c := if x.pstate = 1 then c else send c (.groupNak p x.rxGroup)
      if x.badRun.any fun r => decide (64 ≤ r.2) then portDown fu c p 2 else c) s

/-- REPLAY (R280): the kept groups from the one asked for are sent again; after 8 replays of a group in succession the port
goes DOWN. How many groups stand behind it is open, up to the 512 kept. -/
def execReplay (p seq : Nat) (s : State) : Out := onPort p (fun fu c x =>
  if x.pstate = 0 then c
  else
    let tries := if x.replaySeq = seq then x.tries + 1 else 1
    if 8 < tries then portDown fu c p 3
    else
      let d := draw c
      let n := 1 + Config.freeNat d.1 % 512
      let c := setPort d.2 p { x with replaySeq := seq, tries := tries, replays := min (x.replays + n) (2 ^ 64 - 1) }
      send (addObj c Key.linkReplays n) (.groupReplay p seq)) s

/-! ### Adverts and the tick count (R289, R307, R386) -/

/-- Whether a neighbour ranks before another as parent: nearer to the source, lower ID, lower port. -/
def parentLt (a b : Nat × Nat × Nat) : Bool :=
  decide (a.1 < b.1) || (a.1 = b.1 && (decide (a.2.1 < b.2.1) || (a.2.1 = b.2.1 && decide (a.2.2 < b.2.2))))

/-- The parent's port (R307): the neighbour on the shortest path to the source. -/
def parentPort (c : Core) (src : Nat) : Option Nat :=
  let cand := (upPorts c).filterMap fun p =>
    let m := (portOf c p).peerMod
    if !(portOf c p).peerValid then none
    else if m = src then some (0, m, p)
    else match topoOf c m with
      | some t => if t.tickSource = src then some (t.tickDist, m, p) else none
      | none => none
  (cand.find? fun a => cand.all fun b => a == b || parentLt a b).map fun a => a.2.2

/-- The count is aligned to an advert of the parent; never while an Almanac runs (R307). -/
def alignTick (c : Core) (p : Nat) (a : Advert) : Core :=
  let src := obj c Key.tickSource % 4096
  if running c ∨ src = ownMod c ∨ a.hops ≠ 1 ∨ parentPort c src ≠ some p then c
  else
    let count := (a.tick + (portOf c p).latency + 6) % 2 ^ 64
    let here := obj c Key.domainTick
    match topoOf c a.modId with
    | none => setObj c Key.domainTick count
    | some t =>
      let close := decide (count ≤ here + 1 ∧ here ≤ count + 1)
      let n := if close then t.agreed + 1 else 0
      let c := { c with fab := { c.fab with topo := tset c.fab.topo a.modId { t with agreed := n } } }
      setSource (setObj c Key.domainTick count) src (bit (obj c Key.tickSource) 15 || decide (2 ≤ n))

/-- The topology's record of an advert: by the shortest way it came (R289). -/
def topoFrom (old : Option Topo) (p : Nat) (a : Advert) : Topo :=
  let fresh : Topo := { digest := a.digest, epoch := a.bootEpoch, distance := a.hops, links := a.links, port := p,
                        refDepth := a.refDepth, tickSource := a.tickSource, tickDist := a.distance, instId := a.instId,
                        agreed := 0, linked := false }
  match old with
  | none => fresh
  | some t =>
    let y := { fresh with agreed := t.agreed, linked := t.linked }
    if t.distance < a.hops then { y with distance := t.distance, port := t.port } else y

/-- REF_DEPTH and a FABRIC reference follow the partner's depth (R385, R386). -/
def followDepth (c : Core) (p depth : Nat) : Core :=
  let c := if 14 < depth then unready c (2 + p) else c
  if obj c Key.refActive = 2 ∧ obj c Key.refPort = p then setObj c Key.refDepth (min 255 (depth + 1)) else c

/-- An advert enters the topology: under its assigned ID, or among the modules without one (R288, R289). -/
def noteAdvert (c : Core) (p : Nat) (a : Advert) : Core :=
  if a.valid then
    let t := topoFrom (topoOf c a.modId) p a
    { c with fab := { c.fab with topo := tset c.fab.topo a.modId t, strays := tdel c.fab.strays a.digest } }
  else
    let t := topoFrom ((tget c.fab.strays a.digest).map fun t => t.2) p a
    { c with fab := { c.fab with strays := tset c.fab.strays a.digest (a.modId, t) } }

/-- LINK_STATE_ADVERT (R289, R305, R307): an advert arrives on an UP port, within six links, and is passed on. -/
def execLinkStateAdvert (p : Nat) (a : Advert) (s : State) : Out := onPort p (fun fu c x =>
  if x.pstate ≠ 3 ∨ 6 < a.hops ∨ a.digest = ownDigest fu then c
  else
    let y := if a.valid then learnDigest fu c a.modId a.digest else c
    if a.valid ∧ a.modId = ownMod c ∧ obj c Key.moduleIdValid = 1 then y
    else
      let moved : Bool := a.valid && (match topoOf c a.modId with
        | some t => decide (t.epoch ≠ a.bootEpoch)
        | none => false)
      let y := noteAdvert y p a
      let y := if moved then newEpoch y a.modId else y
      let y := if a.hops = 1 then followDepth y p a.refDepth else y
      let y := topoChanged c y
      let y := reroute (if a.valid then alignTick y p a else y)
      if a.hops < 6 then floodOn y ((upPorts y).filter fun q => q ≠ p) (.advert { a with hops := a.hops + 1 }) else y) s

/-- ADVERT_TIMER (R289). -/
def execAdvertTimer (s : State) : Out := onFuse (fun fu _ c => if c.boot.rom then c else floodAdvert fu c) s

/-! ### Writes (R278, R288, R315) -/

/-- IDENT runs again on every port in some states; the ports that leave UP change the topology, and the advert tells (R289). -/
def identAgain (fu : Fuses) (c : Core) (states : List Nat) : Core :=
  let ports := (List.range 16).filter fun p => portActs c p && states.contains (portOf c p).pstate
  let y := ports.foldl (fun c p => startIdent fu c p ((portOf c p).pstate = 3)) c
  if ports.isEmpty then sourceAnew y else floodAdvert fu (reroute (topoChanged c y))

/-- Whether a fabric flow is open (R288). -/
def flowOpen (c : Core) : Bool := c.fab.ctxs.any fun p => p.2.kind = 0 && p.2.state ≠ 0

/-- MODULE_ID and MODULE_ID_VALID (R288, R315); `sub` is the subindex. -/
def execModuleId (h : Hdr) (sub v : Nat) (s : State) : Out :=
  let key := if sub = 1 then Key.moduleId else Key.moduleIdValid
  if sub = 1 ∨ sub = 2 then
    writeItem key h (fun fu _ c =>
      if (if sub = 1 then 4096 else 2) ≤ v then (c, .range)
      else if loaded c ∨ flowOpen c then (c, .state)
      else (identAgain fu (setObj c key v) [3], .ok)) s
  else handle 0x21 h (fun fu mem c =>
    { fu := fu, c := errStatus c .range, mem := mem, st := .range, hdr := .ok, payload := itemHead (0x060000 + sub) .range 0 0 })
    noMore s

/-- The ports that a write under R278 changes go DOWN and train again. -/
def changedDown (fu : Fuses) (c : Core) (ports : List Nat) : Core := ports.foldl (fun c p => portDown fu c p 5) c

/-- PORT_JOIN (R278, R315). -/
def execPortJoin (h : Hdr) (v : Nat) (s : State) : Out := writeItem Key.portJoin h (fun fu _ c =>
  if 256 ≤ v then (c, .range)
  else if loaded c then (c, .state)
  else
    let old := obj c Key.portJoin
    let hit := (List.range 16).filter fun p => bit old (p / 2) != bit v (p / 2)
    (changedDown fu (setObj c Key.portJoin v) hit, .ok)) s

/-- PORT_ENABLE (R278, R315). -/
def execPortEnable (h : Hdr) (v : Nat) (s : State) : Out := writeItem Key.portEnable h (fun fu _ c =>
  if 65536 ≤ v then (c, .range)
  else if loaded c then (c, .state)
  else
    let old := obj c Key.portEnable
    let hit := (List.range 16).filter fun p => bit old p != bit v p
    (changedDown fu (setObj c Key.portEnable v) hit, .ok)) s

/-- INSTALLATION_ID (R315): IDENT runs again on every port that is UP or REFUSED. -/
def execInstallationId (h : Hdr) (v : Nat) (s : State) : Out := writeItem Key.installationId h (fun fu _ c =>
  if 2 ^ 64 ≤ v then (c, .range)
  else if loaded c then (c, .state)
  else (identAgain fu (setObj c Key.installationId v) [3, 4], .ok)) s

end Sys2Proof.Machine
end

