-- ==== Sys2Proof/Machine/Collectives.lean ====
section
/-! DEFINITION. Reductions, permutations and multicast delivery (R317 to R349, R502). -/

namespace Sys2Proof.Machine

/-! ### Checksums (R326) -/

/-- The modulus of the checksums. -/
def csumP : Nat := 2 ^ 61 - 1
/-- The multiplier of an execution at a step. -/
def csumK (seed step : Nat) : Nat := ((seed ^^^ (step <<< 32)) % 2 ^ 64) % (csumP - 2) + 2
/-- A power modulo p. -/
def powP (k n : Nat) : Nat :=
  (List.range 64).foldl (fun x i =>
    let y := x * x % csumP
    if bit n (63 - i) then y * k % csumP else y) 1
/-- The checksum of values whose first weight is w. -/
def csumFrom (k w : Nat) (vs : List Int) : Nat :=
  (vs.foldl (fun (a : Nat × Nat) v => ((a.1 + a.2 * (v % (csumP : Int)).toNat) % csumP, a.2 * k % csumP)) (0, w)).1
/-- The checksum of an execution's values. -/
def csum (k : Nat) (vs : List Int) : Nat := csumFrom k k vs

/-! ### Agreement records (R327, R328) -/

/-- E_OBS as its 16 bits. -/
def obsBits (o : Option Int) : Nat := match o with
  | none => 0x8000
  | some e => unsigned 16 e

/-- A record's 64 bytes. -/
def recordBytes (r : Record) : Bytes :=
  leBytes 8 r.csumIn ++ leBytes 8 r.csumOut
    ++ leBytes 8 (obsBits r.eObs + fieldAt 16 (unsigned 16 r.eMin) + fieldAt 32 (unsigned 16 r.eMax) + fieldAt 48 r.flags)
    ++ leBytes 8 (r.count + fieldAt 16 r.rseq + fieldAt 32 r.channel) ++ leBytes 8 r.csumRx ++ List.replicate 24 0

/-- The record that 64 bytes hold. -/
def parseRecord (bs : Bytes) : Record :=
  let w := fun i => leNat ((bs.drop (8 * i)).take 8)
  let o := bits (w 2) 0 16
  { csumIn := bits (w 0) 0 61, csumOut := bits (w 1) 0 61, eObs := if o = 0x8000 then none else some (signed 16 o),
    eMin := signed 16 (bits (w 2) 16 16), eMax := signed 16 (bits (w 2) 32 16), flags := bits (w 2) 48 16,
    count := bits (w 3) 0 16, rseq := bits (w 3) 16 16, channel := bits (w 3) 32 6, csumRx := bits (w 4) 0 61 }

/-- Two records combined. -/
def Record.join (a b : Record) : Record :=
  { csumIn := (a.csumIn + b.csumIn) % csumP, csumOut := (a.csumOut + b.csumOut) % csumP, eObs := maxObs a.eObs b.eObs,
    eMin := min a.eMin b.eMin, eMax := max a.eMax b.eMax, flags := a.flags ||| b.flags,
    count := (a.count + b.count) % 65536, rseq := a.rseq, channel := a.channel, csumRx := (a.csumRx + b.csumRx) % csumP }

/-- WINDOW_OVERFLOW of a decided record. -/
def Record.overflow (r : Record) : Bool := !bit r.flags 5 && decide (r.flags % 8 ≠ 0)
/-- CHECKSUM_MISMATCH of a decided record of P participants. -/
def Record.mismatch (r : Record) (kind : RedKind) (p : Nat) : Bool :=
  !bit r.flags 5 && (r.count ≠ p || r.eMin ≠ r.eMax || bit r.flags 3 || bit r.flags 4 ||
    (if kind = .max then r.csumRx ≠ p * r.csumOut % csumP else r.csumIn ≠ r.csumOut))
/-- The status a decided record gives. -/
def Record.status (r : Record) (kind : RedKind) (p : Nat) : Status :=
  if bit r.flags 5 then .lost else if r.mismatch kind p then .integrity else if r.overflow then .range else .ok

/-! ### Contributions (R321, R323, R340) -/

/-- A converted contribution: values, flags, observed exponent. -/
structure Contrib where
  vals : List Int
  flags : Nat
  eObs : Option Int
  deriving DecidableEq, Repr

/-- One element converted against E_ref: N, flags, observed exponent. -/
def convElem (er : Int) (fmt p : Nat) : Int × Nat × Option Int :=
  if fmt = 6 then
    let n := signed 128 p
    (n, 0, if n = 0 then none else some (obsExp n.natAbs (er - 107)))
  else match decTag fmt p with
    | .fin neg m e =>
      if m = 0 then (0, 0, none)
      else if er + 20 ≤ obsExp m e then (0, 1, some (obsExp m e))
      else (floorAt neg m (e + 107 - er), 0, some (obsExp m e))
    | _ => (0, 2, none)

/-- An element joins a contribution. -/
def Contrib.add (x : Contrib) (y : Int × Nat × Option Int) : Contrib :=
  { vals := x.vals ++ [y.1], flags := x.flags ||| y.2.1, eObs := maxObs x.eObs y.2.2 }

/-- What a read of the source has given: core, contribution, the status of a piece that could not be read. -/
abbrev SrcAcc := Core × Contrib × Option Status

/-- 64 elements of the source, fewer at the end: a piece that cannot be read gives zeros (R502), a frozen block zeros
(R161). -/
def readPiece (mem : Memory) (im : Image) (d : RedDecl) (f : Nat) (er : Int) (acc : SrcAcc) (b : Nat) : SrcAcc :=
  let w := tagBytes d.fmt
  let n := min 64 (d.n - 64 * b)
  let a := gaOff d.source + 64 * b * w
  let i := d.first + 64 * b
  let reads := [(a, n * w, Right.r)] ++ (if d.mask then [(gaOff im.maskBase + i / 1024 / 8, 1, Right.r)] else [])
  match engStop acc.1 (redMaster f) reads with
  | some t => (t.1, { acc.2.1 with vals := acc.2.1.vals ++ List.replicate n 0 }, some t.2)
  | none =>
    if d.mask && frozen mem im.maskBase i then
      (acc.1, { acc.2.1 with vals := acc.2.1.vals ++ List.replicate n 0 }, acc.2.2)
    else
      let c := vigilRead acc.1 (redMaster f) a (n * w)
      let zs := elems w n (mreadN mem a (n * w))
      if d.kind = .max then (c, { acc.2.1 with vals := acc.2.1.vals ++ zs.map fun p => (p : Int) }, acc.2.2)
      else (c, zs.foldl (fun x p => x.add (convElem er d.fmt p)) acc.2.1, acc.2.2)

/-- The largest pending amax of an entry's eight field copies (R64). -/
def amaxSource (c : Core) (e : Nat) : Nat := ((scaleE c e).pend.map fun p => p.2).foldl max 0

/-- This module's contribution to a sum or a maximum: the vote's 0 or 1 (R162), an amax (R64), else its source; NORM's
flags and exponent for a norm reduction (R340), whose partial starts anew once it has been read, and at START (R153; log entry 102). -/
def contribution (mem : Memory) (c : Core) (im : Image) (d : RedDecl) (f : Nat) (er : Int) : SrcAcc :=
  let none' : Contrib := { vals := [], flags := 0, eObs := none }
  if d.vote then (c, none'.add (convElem er 4 (if c.alm.vote.own = some 1 then fp32.one else 0)), none)
  else match d.amaxOf with
    | some e => (c, { none' with vals := [(amaxSource c e : Int)] }, none)
    | none =>
      let r := (List.range ((d.n + 63) / 64)).foldl (readPiece mem im d f er) (c, none', none)
      match tget c.norm d.redno with
      | some p => if d.norm.isSome then
          ({ r.1 with norm := tdel r.1.norm d.redno },
           { r.2.1 with flags := r.2.1.flags ||| b2n (normOvf p), eObs := maxObs r.2.1.eObs p.eObs }, r.2.2)
          else r
      | none => r

/-! ### Sending (R329 to R331) -/

/-- The ADDR word of a COLL packet (R331). -/
def collAddr (ch rseq part first : Nat) : Nat := fieldAt 58 ch + fieldAt 42 rseq + fieldAt 40 part + first

/-- The execution under way on a channel changed. -/
def modRun (c : Core) (f ch : Nat) (g : RedRun → RedRun) : Core :=
  let x := chanOf c f ch
  setChan c f ch { x with run := x.run.map g }

/-- A packet of the engine leaves for a module; with no open flow to it the reduction is lost (R336). -/
def sendEngine (c : Core) (f ch m typ tag addr : Nat) (bs : Bytes) : Core :=
  match egressNow c (redMaster f) m bs.length .w with
  | .go i => enqueue c i typ (redMaster f) tag addr 0 0 bs (.coll f ch)
  | .refused t n => modRun (refuse c (redMaster f) t n .w) f ch fun r => { r with lost := true }
  | _ => modRun c f ch fun r => { r with lost := true }

/-- A COLL packet of an execution (R331): OP_TAG carries REDNO. -/
def sendColl (c : Core) (f ch m : Nat) (r : RedRun) (part first : Nat) (bs : Bytes) : Core :=
  sendEngine c f ch m 8 r.redno (collAddr ch r.rseq part first) bs

/-- The payload of a PARTIAL. -/
def partialBytes (vs : List Int) : Bytes :=
  let ps := (vs ++ List.replicate (28 - vs.length) 0).map (unsigned 144)
  ps.flatMap (fun v => leBytes 16 (v % 2 ^ 128)) ++ ps.flatMap (fun v => leBytes 2 (v / 2 ^ 128)) ++ List.replicate 8 0

/-- The elements of a PARTIAL's payload. -/
def partialVals (bs : Bytes) (n : Nat) : List Int :=
  (List.range n).map fun i =>
    signed 144 (leNat ((bs.drop (16 * i)).take 16) + fieldAt 128 (leNat ((bs.drop (448 + 2 * i)).take 2)))

/-- Elements from one index to another sent as PARTIALs of 28. -/
def sendPartials (c : Core) (f ch m : Nat) (r : RedRun) (lo hi : Nat) : Core :=
  (List.range ((hi - lo + 27) / 28)).foldl (fun c i =>
    let a := lo + 28 * i
    sendColl c f ch m r 0 a (partialBytes ((r.vals.drop a).take (min 28 (hi - a))))) c

/-- Results sent as RESULT packets of 128. -/
def sendResults (c : Core) (f ch : Nat) (ms : List Nat) (r : RedRun) (lo : Nat) (vs : List Nat) : Core :=
  ms.foldl (fun c m => (List.range ((vs.length + 127) / 128)).foldl (fun c i =>
    let part := (vs.drop (128 * i)).take 128
    sendColl c f ch m r 1 (lo + 128 * i) (elemBytes 4 (part ++ List.replicate (128 - part.length) 0))) c) c

/-! ### An execution's progress -/

/-- The positions whose partials a participant adds (R329, R330). -/
def feeders (d : RedDecl) (ch : ChannelDecl) (j : Nat) : List Nat :=
  let p := ch.participants.length
  if d.kind = .permute then [] else if d.chain then (if j + 1 < p then [j + 1] else []) else childPos ch.fanin j p

/-- Whether this module receives RESULT packets: all but the root of a tree, the copy holder of a chain. -/
def takesResults (d : RedDecl) (ch : ChannelDecl) (j : Nat) : Bool :=
  j ≠ 0 && d.kind ≠ .permute && (!d.chain || ch.copyHolder = some j)

/-- Where a participant sends results it has. -/
def resultTargets (d : RedDecl) (ch : ChannelDecl) (j : Nat) : List Nat :=
  if d.kind = .permute then []
  else if d.chain then (match ch.copyHolder with
    | some k => if j = 0 ∧ k ≠ 0 then [modAt ch k] else []
    | none => [])
  else (childPos ch.fanin j ch.participants.length).map (modAt ch)

/-- Values joined from an index on: added, or the larger taken (R322, R338). -/
def joinAt (kind : RedKind) (vals : List Int) (first : Nat) (xs : List Int) : List Int :=
  let m := (vals.drop first).zip xs
  vals.take first ++ m.map (fun p => if kind = .max then max p.1 p.2 else p.1 + p.2) ++ vals.drop (first + m.length)

/-- Elements converted or added are counted (R348). -/
def countElems (c : Core) (f n : Nat) : Core :=
  let y := fld c f
  setFld c f { y with red := { y.red with elements := (y.red.elements + n) % 2 ^ 64 } }

/-- One staged PARTIAL of the execution under way is added; a chain sends the chunk on (R329, R330). -/
def absorbOne (d : RedDecl) (ch : ChannelDecl) (c : Core) (s : Staged) : Core :=
  let f := ch.field
  let j := ownPos c ch
  let k := ch.participants.idxOf s.src
  match (chanOf c f ch.num).run with
  | none => c
  | some r =>
    if !(feeders d ch j).contains k then c
    else
      let hi := min d.n (s.first + s.vals.length)
      let forward := d.chain && decide (0 < j)
      let r := { r with vals := joinAt d.kind r.vals s.first s.vals,
                        flags := if s.bad then r.flags ||| 32 else r.flags,
                        srcFail := if s.bad then some .access else r.srcFail,
                        added := if d.n ≤ s.first + s.vals.length then r.added ++ [k] else r.added,
                        sent := if forward then hi else r.sent }
      let c := countElems (modRun c f ch.num fun _ => r) f (hi - s.first)
      if forward then sendPartials c f ch.num (modAt ch (j - 1)) r s.first hi else c

/-- Every staged PARTIAL of the execution under way is added. -/
def absorb (d : RedDecl) (ch : ChannelDecl) (c : Core) : Core :=
  let x := chanOf c ch.field ch.num
  match x.run with
  | none => c
  | some r =>
    let mine := x.staged.filter fun s => s.rseq = r.rseq
    let c := setChan c ch.field ch.num { x with staged := x.staged.filter fun s => s.rseq ≠ r.rseq }
    mine.foldl (absorbOne d ch) c

/-- The bucket of a reduction (R160). -/
def bucketOf (im : Image) (r : Nat) : Option BucketDecl := im.buckets.find? fun b => b.redno = r

/-- Where this module writes an execution's results: for a bucket of a shard it holds, the reduced-gradient buffer of the step's parity
(R139, R161, R339); else the entry's result address (R318). -/
def resultAt (c : Core) (d : RedDecl) (step : Nat) : Option Nat :=
  let home := c.alm.image.bind fun im => (bucketOf im d.redno).bind fun b =>
    (im.shards.find? fun s => s.mine && s.stage = b.stage && decide (s.start ≤ b.start ∧ b.start < s.start + 1024 * s.blocks)).map fun s =>
      (if step % 2 = 0 then s.grad0 else s.grad1) + 4 * (b.start - s.start)
  d.result.map fun a => home.getD a

/-- Results written at the result address (R322, R330); a refusal is recorded (R502). -/
def writeResults (mem : Memory) (c : Core) (d : RedDecl) (f ch step : Nat) (vs : List Nat) : Core × Memory :=
  match resultAt c d step with
  | none => (modRun c f ch fun r => { r with written := true }, mem)
  | some a =>
    let w := busWrite mem c (redMaster f) (gaOff a) (elemBytes 4 vs) 0
    (modRun w.1 f ch fun r =>
      if w.2.2 = .ok then { r with written := true }
      else { r with written := true, srcFail := some .access, flags := r.flags ||| 32 }, w.2.1)

/-- One result of a sum (R322): its FP32 pattern, and whether it overflowed. -/
def sumResult (er : Int) (s : Int) : Nat × Bool :=
  if s < -(2 ^ 127 : Int) ∨ (2 ^ 127 : Int) ≤ s then (0, true) else (fp32.enc (.fin (decide (s < 0)) s.natAbs (er - 107)), false)

/-- What a participant of a maximum does with r (R338): CSUM_RX and GT. -/
def takeMax (k : Nat) (r : RedRun) : RedRun :=
  { r with csumRx := csum k (r.results.map fun p => (p : Int)),
           flags := if (r.own.zip r.results).any (fun p => decide ((p.2 : Int) < p.1)) then r.flags ||| 8 else r.flags }

/-- The sink or root forms the results, writes and sends them (R322, R329, R330, R338). -/
def formResults (mem : Memory) (c : Core) (d : RedDecl) (ch : ChannelDecl) (r : RedRun) : Core × Memory :=
  let f := ch.field
  let k := csumK d.seed r.step
  let r := if d.kind = .max then
      takeMax k { r with results := r.vals.map Int.toNat, csumOut := csum k r.vals }
    else
      let zs := r.vals.map (sumResult r.eRef)
      let top := r.vals.foldl (fun o s => if s = 0 then o else maxObs o (some (obsExp s.natAbs (r.eRef - 107)))) r.eObs
      { r with results := zs.map fun z => z.1, csumOut := csum k r.vals, eObs := top,
               flags := if zs.any fun z => z.2 then r.flags ||| 4 else r.flags }
  let c := modRun c f ch.num fun _ => { r with summed := true }
  let w := writeResults mem c d f ch.num r.step r.results
  (sendResults w.1 f ch.num (resultTargets d ch 0) r 0 r.results, w.2)

/-- Whether a packet of the execution was refused (R334): it then waits for no partial and no result (log entry 24). -/
def orderBroken (c : Core) (f ch : Nat) (r : RedRun) : Bool := (chanOf c f ch).order.contains r.rseq

/-- A participant whose partials are all added sends its sum on, or forms the results. -/
def sumStep (mem : Memory) (c : Core) (d : RedDecl) (ch : ChannelDecl) : Core × Memory :=
  let f := ch.field
  let j := ownPos c ch
  match (chanOf c f ch.num).run with
  | none => (c, mem)
  | some r =>
    if d.kind = .permute || r.summed || !((feeders d ch j).all r.added.contains || orderBroken c f ch.num r) then (c, mem)
    else if j = 0 then formResults mem c d ch r
    else
      let next := if d.chain then j - 1 else parentPos ch.fanin j
      let c := modRun c f ch.num fun r => { r with summed := true, sent := d.n }
      (sendPartials c f ch.num (modAt ch next) r r.sent d.n, mem)

/-- The record of this participant (R326, R327). -/
def ownRecord (c : Core) (ch : ChannelDecl) (r : RedRun) : Record :=
  { csumIn := r.csumIn, csumOut := r.csumOut, eObs := r.eObs, eMin := r.eRef, eMax := r.eRef,
    flags := if orderBroken c ch.field ch.num r then r.flags ||| 16 else r.flags, count := 1, rseq := r.rseq,
    channel := ch.num, csumRx := r.csumRx }

/-- Whether this participant's own part is done (R329, R330, R338, R342). -/
def ownDone (c : Core) (d : RedDecl) (ch : ChannelDecl) (r : RedRun) : Bool :=
  let j := ownPos c ch
  let got := r.written || orderBroken c ch.field ch.num r
  r.summed && (if d.kind = .max then got else if d.chain && takesResults d ch j then got else true)

/-- The decided record is known: it goes down the tree (R327, R330). -/
def decide' (c : Core) (ch : ChannelDecl) (r : RedRun) (x : Record) : Core :=
  let f := ch.field
  let j := ownPos c ch
  let c := modRun c f ch.num fun r => { r with decided := some x, recSent := true }
  (childPos ch.fanin j ch.participants.length).foldl (fun c k =>
    sendColl c f ch.num (modAt ch k) r 2 0 (recordBytes x)) c

/-- The participant's combined record goes up, or is the decided one at the root. -/
def recordStep (c : Core) (d : RedDecl) (ch : ChannelDecl) : Core :=
  let f := ch.field
  let j := ownPos c ch
  match (chanOf c f ch.num).run with
  | none => c
  | some r =>
    let kids := childPos ch.fanin j ch.participants.length
    if r.recSent || !ownDone c d ch r || !(kids.all fun k => r.recs.any fun p => p.1 = k) then c
    else
      let x := r.recs.foldl (fun a p => a.join p.2) (ownRecord c ch r)
      if j = 0 then decide' c ch r x
      else
        let c := modRun c f ch.num fun r => { r with recSent := true }
        sendColl c f ch.num (modAt ch (parentPos ch.fanin j)) r 2 0 (recordBytes x)

/-- Everything an execution can do now. -/
def pump (mem : Memory) (c : Core) (d : RedDecl) (ch : ChannelDecl) : Core × Memory :=
  let w := sumStep mem (absorb d ch c) d ch
  (permuteSignal (recordStep w.1 d ch) ch.field ch.num, w.2)

/-- The pump of a channel's execution, if one is under way. -/
def pumpChan (mem : Memory) (c : Core) (ch : ChannelDecl) : Core × Memory :=
  match (chanOf c ch.field ch.num).run, c.alm.image with
  | some r, some im => match redDecl im r.redno with
    | some d => pump mem c d ch
    | none => (c, mem)
  | _, _ => (c, mem)

/-! ### Starting (R317, R333, R342, R502) -/

/-- A channel's declaration on this module, where it takes part. -/
def chanDecl (c : Core) (num : Nat) : Option ChannelDecl :=
  match c.alm.image with
  | none => none
  | some im => im.channels.find? fun x => x.num = num && x.participants.contains (ownMod c)

/-- The REDNO that the local program submits as a channel's execution: the one running, or one that waits (R334). -/
def rednoAt (c : Core) (im : Image) (ch : ChannelDecl) (rseq : Nat) : Option Nat :=
  let x := chanOf c ch.field ch.num
  let waiting := ((fld c ch.field).red.queue.map fun q => q.1).filter fun n =>
    ((redDecl im n).map fun d => d.channel) = some ch.num
  match x.run with
  | some r => if rseq = r.rseq then some r.redno else if rseq = x.next then waiting.head? else none
  | none => if rseq = x.next then waiting.head? else if rseq = (x.next + 1) % 65536 then waiting[1]? else none

/-- REDUCTION_ORDER (R334): event; the record of the current execution carries the flag. -/
def orderFault (c : Core) (ch : ChannelDecl) (rseq m : Nat) : Core :=
  let x := chanOf c ch.field ch.num
  let c := setChan c ch.field ch.num { x with order := if x.order.contains m then x.order else x.order ++ [m] }
  raise c 0x0612 .step (redMaster ch.field) 0 [ch.num, rseq, m]

/-- The words of the moves before each move. -/
def moveOffsets (ms : List Move) : List (Move × Nat) :=
  (ms.foldl (fun (a : List (Move × Nat) × Nat) m => (a.1 ++ [(m, a.2)], a.2 + m.length / 4)) ([], 0)).1

/-- A move's source is read in pieces of 512 bytes; what cannot be read is zeros (R342, R502). -/
def readMove (mem : Memory) (c : Core) (f : Nat) (m : Move) : Core × Bytes × Option Status :=
  (List.range ((m.length + 511) / 512)).foldl (fun (acc : Core × Bytes × Option Status) i =>
    let n := min 512 (m.length - 512 * i)
    let r := busRead mem acc.1 (redMaster f) (m.src + 512 * i) n 0
    match r.2 with
    | .data bs => (r.1, acc.2.1 ++ bs, acc.2.2)
    | .refused => (r.1, acc.2.1 ++ List.replicate n 0, some .access)
    | .bad => (r.1, acc.2.1 ++ List.replicate n 0, some .integrity)) (c, [], none)

/-- One outgoing move (R342): read, summed, and sent as WRITE packets or copied within the module. -/
def sendMove (d : RedDecl) (ch : ChannelDecl) (acc : Core × Memory) (p : Move × Nat) : Core × Memory :=
  let f := ch.field
  let m := p.1
  let a := gaOff ch.stagingBase + m.staging
  match (chanOf acc.1 f ch.num).run with
  | none => acc
  | some r =>
    let k := csumK d.seed r.step
    let q := readMove acc.2 acc.1 f m
    let s := csumFrom k (powP k (p.2 + 1)) ((elems 4 (m.length / 4) q.2.1).map fun x => (x : Int))
    let c := modRun q.1 f ch.num fun r =>
      let r := { r with csumIn := (r.csumIn + s) % csumP }
      if q.2.2.isSome then { r with srcFail := q.2.2, flags := r.flags ||| 32 } else r
    if m.dstMod = ownMod c then
      let w := busWrite acc.2 c (redMaster f) a q.2.1 0
      (if w.2.2 = .ok then w.1 else modRun w.1 f ch.num fun r =>
        { r with srcFail := some .access, flags := r.flags ||| 32 }, w.2.1)
    else
      ((List.range ((m.length + 511) / 512)).foldl (fun c i =>
        let c := modRun c f ch.num fun r => { r with openW := r.openW + 1 }
        sendEngine c f ch.num m.dstMod 0 0 (fieldAt 48 m.dstMod + (a + 512 * i)) ((q.2.1.drop (512 * i)).take 512)) c, acc.2)

/-- Whether packets of a channel's earlier execution are still to be sent (R333). -/
def unsent (c : Core) (f ch : Nat) : Bool := c.fab.ctxs.any fun p => p.2.queue.any fun q => q.cause = .coll f ch

/-- A blank execution of a submission. -/
def newRun (c : Core) (d : RedDecl) (rseq : Nat) (sem : Option Nat) : RedRun :=
  { redno := d.redno, rseq := rseq, sem := sem, step := obj c Key.stepNumber,
    eRef := if d.kind = .sum then eRefOf c d else 0, own := [], vals := [], sent := 0, csumIn := 0, csumOut := 0, csumRx := 0,
    eObs := none, flags := 0, srcFail := none, lost := false, added := [], summed := false, results := [], openW := 0,
    signalled := false, recs := [], recSent := false, decided := none, written := false }

/-- The contribution enters the execution (R321, R326, R342), unless the ready wait failed (R502). -/
def contribute (mem : Memory) (c : Core) (im : Image) (d : RedDecl) (ch : ChannelDecl) (ready : Bool) : Core × Memory :=
  let f := ch.field
  match (chanOf c f ch.num).run with
  | none => (c, mem)
  | some r =>
    if !ready then
      (modRun c f ch.num fun r => { r with own := List.replicate d.n 0, vals := List.replicate d.n 0, flags := 32,
                                           srcFail := some .lost }, mem)
    else if d.kind = .permute then
      ((moveOffsets d.moves).filter fun p => p.1.srcMod = ownMod c).foldl (sendMove d ch) (c, mem)
    else
      let z := contribution mem c im d f r.eRef
      let r := { r with own := z.2.1.vals, vals := z.2.1.vals, eObs := z.2.1.eObs,
                        csumIn := if d.kind = .sum then csum (csumK d.seed r.step) z.2.1.vals else 0,
                        flags := z.2.1.flags ||| (if z.2.2.isSome then 32 else 0), srcFail := z.2.2 }
      (countElems (modRun z.1 f ch.num fun _ => r) f d.n, mem)

/-- A submission starts as the channel's next execution: the queue, the order number, what had come early (R333, R334). -/
def beginRun (c : Core) (d : RedDecl) (ch : ChannelDecl) (sub : Nat × Option Nat) : Core :=
  let f := ch.field
  let y := fld c f
  let c := setFld c f { y with red := { y.red with queue := y.red.queue.erase sub } }
  let x := chanOf c f ch.num
  let m := x.next
  let run : RedRun := { newRun c d m sub.2 with recs := (x.early.filter fun p => p.1 = m).map fun p => p.2 }
  let lost := (partners c d ch).any fun k => (flowFor c (redMaster f) k).isNone
  let wrong := x.staged.filter fun s => s.rseq = m && s.redno ≠ d.redno
  let x := { x with next := (m + 1) % 65536, run := some { run with lost := lost },
                    early := x.early.filter fun p => p.1 ≠ m,
                    staged := x.staged.filter fun s => !(s.rseq = m && s.redno ≠ d.redno) }
  wrong.foldl (fun c _ => orderFault c ch m m) (setChan c f ch.num x)

/-- The wait-slot number of a reduction engine (R229, log entry 21). -/
def redSlot (f : Nat) : Nat := 0x30000 + f

/-- A wait of a reduction engine in its one wait slot (R229): while the slot waits on another semaphore nothing happens: BUSY. -/
def engineTake (c : Core) (f fs s n : Nat) : Core × Status :=
  let held := (List.range 8).any fun k => (syncU c k).waits.any fun y => y.unit = redSlot f && !(k = fs && y.sem = s && y.n = n)
  if held then (c, .busy) else slotTake c (redSlot f) fs s n (redMaster f)

/-- REDUCTION_START (R317, R333, R502): the next submission of its channel takes its ready count and starts. -/
def execReductionStart (f redno : Nat) (s : State) : Out := inRange f 8 <| onBoth (fun mem c =>
  match c.alm.image with
  | none => (c, mem)
  | some im =>
    match redDecl im redno with
    | none => (c, mem)
    | some d =>
      let q := (fld c f).red.queue.filter fun x => ((redDecl im x.1).map fun y => y.channel) = some d.channel
      match chanDecl c d.channel, q with
      | some ch, sub :: _ =>
        let busy := ((fld c f).red.channels.filter fun p => p.2.run.isSome).length
        if ch.field ≠ f ∨ sub.1 ≠ redno ∨ redGated c f ∨ 8 ≤ busy ∨ (chanOf c f ch.num).run.isSome ∨ unsent c f ch.num
            ∨ (d.vote ∧ c.alm.vote.own.isNone) then (c, mem)
        else
          let t := match d.ready with
            | none => (c, Status.ok)
            | some r => engineTake c f r.1 r.2.1 r.2.2
          if t.2 = .taken ∨ t.2 = .busy then (t.1, mem)
          else
            let w := contribute mem (beginRun t.1 d ch sub) im d ch (t.2 = .ok)
            pump w.2 w.1 d ch
      | _, _ => (c, mem)) s

/-! ### COLL packets (R331 to R334) -/

/-- A COLL packet of a part of this module's channels arrives (R331, R334): the channel, if its sequence number is that of
the current execution or the next; any other is REDUCTION_ORDER. -/
def acceptColl (c : Core) (rx : Rx) (part : Nat) : Core × Option ChannelDecl :=
  let r := accept c rx
  let a := rx.pkt.addr
  match r.2, chanDecl r.1 (bits a 58 6) with
  | some _, some ch =>
    if rx.pkt.typ ≠ 8 ∨ bits a 40 2 ≠ part then (r.1, none)
    else
      let x := chanOf r.1 ch.field ch.num
      let m := match x.run with
        | some y => y.rseq
        | none => x.next
      if bits a 42 16 = m ∨ bits a 42 16 = (m + 1) % 65536 then (r.1, some ch)
      else (orderFault r.1 ch (bits a 42 16) m, none)
  | _, _ => (r.1, none)

/-- The half of a staging region that an execution uses, as base and size (R332). -/
def stagingHalf (ch : ChannelDecl) (rseq : Nat) : Nat × Nat :=
  (gaOff ch.stagingBase + rseq % 2 * (ch.stagingSize / 2), ch.stagingSize / 2)

/-- What a PARTIAL leaves in its staging half (R332): the layout is open, so every byte of the half is a free value. The engine writes it
under its own master ID, and a refusal leaves no trace there (R18, R34; log entry 101). -/
def stageBytes (mem : Memory) (c : Core) (f n : Nat) (h : Nat × Nat) : Core × Memory × Status :=
  busWrite mem c (redMaster f) h.1 ((List.range h.2).map (Config.undefinedByte n)) 0

/-- COLL_PARTIAL (R332, R334): staged, and added when the execution runs. -/
def execCollPartial (rx : Rx) (s : State) : Out := onBoth (fun mem c =>
  let r := acceptColl c rx 0
  match r.2, c.alm.image with
  | some ch, some im =>
    let a := rx.pkt.addr
    let rseq := bits a 42 16
    let x := chanOf r.1 ch.field ch.num
    let m := match x.run with
      | some y => y.rseq
      | none => x.next
    if (rednoAt r.1 im ch rseq).any fun n => n ≠ rx.pkt.opTag then (orderFault r.1 ch rseq m, mem)
    else
      let n := ((redDecl im rx.pkt.opTag).map fun d => d.n).getD 0
      let vs := partialVals rx.pkt.payload (min 28 (n - bits a 0 32))
      let d := draw r.1
      let w := stageBytes mem d.2 ch.field d.1 (stagingHalf ch rseq)
      let bad : Bool := w.2.2 ≠ .ok
      let st : Staged := { rseq := rseq, redno := rx.pkt.opTag, src := rx.pkt.srcMod, first := bits a 0 32,
                           vals := if bad then vs.map fun _ => 0 else vs, bad := bad }
      let c := setChan w.1 ch.field ch.num { x with staged := x.staged ++ [st] }
      pumpChan w.2.1 (if bad then c else addObj c Key.stagingBytes (18 * vs.length)) ch
  | _, _ => (r.1, mem)) s

/-- COLL_RESULT (R329, R330, R338): results join, go on down the tree, and are written when they are whole. -/
def execCollResult (rx : Rx) (s : State) : Out := onBoth (fun mem c =>
  let q := acceptColl c rx 1
  match q.2, c.alm.image with
  | some ch, some im =>
    let f := ch.field
    match (chanOf q.1 f ch.num).run with
    | none => (q.1, mem)
    | some r =>
      match redDecl im r.redno with
      | none => (q.1, mem)
      | some d =>
        let first := bits rx.pkt.addr 0 32
        let j := ownPos q.1 ch
        if bits rx.pkt.addr 42 16 ≠ r.rseq ∨ first ≠ r.results.length ∨ !takesResults d ch j then (q.1, mem)
        else
          let vs := elems 4 (min 128 (d.n - first)) rx.pkt.payload
          let r := { r with results := r.results ++ vs }
          let c := modRun q.1 f ch.num fun _ => r
          let c := if d.chain then c else sendResults c f ch.num (resultTargets d ch j) r first vs
          if r.results.length < d.n then (c, mem)
          else
            let c := if d.kind = .max then modRun c f ch.num (takeMax (csumK d.seed r.step)) else c
            let w := writeResults mem c d f ch.num r.step r.results
            pump w.2 w.1 d ch
  | _, _ => (q.1, mem)) s

/-- COLL_AGREE (R327, R330): a child's record joins, or the decided record arrives. -/
def execCollAgree (rx : Rx) (s : State) : Out := onBoth (fun mem c =>
  let q := acceptColl c rx 2
  match q.2 with
  | none => (q.1, mem)
  | some ch =>
    let f := ch.field
    let x := chanOf q.1 f ch.num
    let rseq := bits rx.pkt.addr 42 16
    let k := ch.participants.idxOf rx.pkt.srcMod
    let j := ownPos q.1 ch
    let v := parseRecord rx.pkt.payload
    let now : Bool := match x.run with
      | some r => r.rseq = rseq
      | none => false
    if (childPos ch.fanin j ch.participants.length).contains k then
      if now then pumpChan mem (modRun q.1 f ch.num fun r => { r with recs := r.recs ++ [(k, v)] }) ch
      else (setChan q.1 f ch.num { x with early := x.early ++ [(rseq, k, v)] }, mem)
    else match x.run with
      | some r => if now && j ≠ 0 && k = parentPos ch.fanin j && r.decided.isNone then (decide' q.1 ch r v, mem) else (q.1, mem)
      | none => (q.1, mem)) s

/-! ### Completion (R328, R335, R336, R502) -/

/-- The clip factor of a norm's result (R153, R499). -/
def clipFactor (g : OptGroup) (ok : Bool) (results : List Nat) : Nat :=
  let n := fp32.sqrt (results.headD 0)
  if ok && (fp32.dec g.clipMax).lt (fp32.dec n) then fp32.div g.clipMax n else fp32.one

/-- The factor recorded in every update engine, with that of the step before (R499). -/
def recordClip (c : Core) (g step k : Nat) : Core :=
  (List.range 8).foldl (fun c f =>
    let y := fld c f
    let mine := (y.upd.clips.filter fun p => p.1 = g && p.2.1 ≠ step).take 1
    setFld c f { y with upd := { y.upd with
      clips := (g, step, k) :: mine ++ y.upd.clips.filter fun p => p.1 ≠ g } }) c

/-- The events of a decided record (R328). -/
def redEvents (c : Core) (d : RedDecl) (ch : ChannelDecl) (r : RedRun) (x : Record) : Core :=
  let p := ch.participants.length
  let args := [d.redno, ch.num, r.rseq, x.flags]
  let c := if x.overflow then raise c 0x0611 .step (redMaster ch.field) 0 args else c
  if x.mismatch d.kind p then raise c 0x0610 .step (redMaster ch.field) 0 args else c

/-- What a status means for the step (R163, R328, R343): reductions of the step, not permutations, not the vote. -/
def redMarks (c : Core) (d : RedDecl) (st : Status) (over' mis : Bool) : Core :=
  if inPrologue c || d.kind = .permute || d.vote then c
  else
    let k := c.alm.marks
    { c with alm := { c.alm with marks := { k with
        integrity := k.integrity || mis || st = .integrity, window := k.window || over' || st = .range,
        lost := k.lost || st = .lost || st = .access } } }

/-- What a completed reduction means to the parts that wait for it: the vote (R164), a scale entry (R64), a clip factor
(R499), the reference slot's record (R325). -/
def redUses (c : Core) (im : Image) (d : RedDecl) (r : RedRun) (st : Status) : Core :=
  let c := if d.vote && c.alm.vote.own.isSome then
      { c with alm := { c.alm with vote := if st = .lost ∧ r.decided.isNone then { c.alm.vote with lost := true }
                          else { c.alm.vote with result := some (st = .ok && r.results.headD 1 = 0) } } }
    else c
  let c := match d.amaxOf with
    | some e => if st = .ok then setScale c e { scaleE c e with amax := r.results.head? } else c
    | none => c
  let c := match d.norm.bind (groupOf im) with
    | some g => recordClip c g.num r.step (clipFactor g (st = .ok) r.results)
    | none => c
  match r.decided with
  | some x => if d.kind = .sum ∧ !inPrologue c then
      { c with alm := { c.alm with recs := c.alm.recs ++ [(d.redno, x.eObs, x.flags)] } } else c
  | none => c

/-- Whether an execution is complete on this participant (R335, R336). -/
def redComplete (c : Core) (d : RedDecl) (ch : ChannelDecl) (r : RedRun) : Bool :=
  match r.decided with
  | none => r.lost
  | some x =>
    if d.kind = .permute then r.written || x.status d.kind ch.participants.length ≠ .ok
    else r.written || !(takesResults d ch (ownPos c ch)) || orderBroken c ch.field ch.num r

/-- The status with which an execution ends on this participant (R328, R336, R502). -/
def endStatus (d : RedDecl) (ch : ChannelDecl) (r : RedRun) : Status :=
  match r.decided with
  | none => .lost
  | some x => r.srcFail.getD (x.status d.kind ch.participants.length)

/-- REDUCTION_COMPLETE (R335, R348, R349): status, events, what waits for it, and the completion signal. -/
def finishRed (c : Core) (im : Image) (d : RedDecl) (ch : ChannelDecl) (r : RedRun) : Core :=
  let f := ch.field
  let dr := draw c
  let free := Config.freeNat dr.1
  let shown : Option Int × Nat := match r.decided with
    | some x => (x.eObs, x.flags)
    | none => (some (signed 16 (free % 65536)), free / 65536 % 64)
  let p := ch.participants.length
  let c := match r.decided with
    | some x => redEvents c d ch r x
    | none => dr.2
  let st := endStatus d ch r
  let c := redMarks c d st ((r.decided.map fun x => x.overflow).getD false) ((r.decided.map fun x => x.mismatch d.kind p).getD false)
  let c := if d.kind = .permute ∧ st ≠ .ok then raise c 0x0613 .report (redMaster f) 0 [d.redno, st.code] else c
  let y := fld c f
  let row : RedStatus := { status := st, rseq := r.rseq, eRef := r.eRef, eObs := shown.1, flags := shown.2 % 32 }
  let c := setFld c f { y with red := { y.red with status := tset y.red.status d.redno row } }
  let last := leBytes 2 d.redno ++ leBytes 1 ch.num ++ leBytes 2 r.rseq ++ leBytes 1 st.code ++ leBytes 1 (shown.2 % 64)
    ++ leBytes 1 0 ++ leBytes 8 (obj c Key.frameCount)
  let c := if st = .ok then c else { c with alm := { c.alm with lastRed := last } }
  let c := addObj { c with alm := { c.alm with redsDone := d.redno :: c.alm.redsDone } } Key.redDone 1
  let c := redUses c im d r st
  let x := chanOf c f ch.num
  let c := setChan c f ch.num { x with run := none, decidedSeq := if r.decided.isSome then r.rseq else x.decidedSeq,
                                       order := x.order.erase r.rseq, staged := x.staged.filter fun s => s.rseq ≠ r.rseq }
  match r.sem with
  | some k => unitSignal c f k (redMaster f) .unit
  | none => c

/-- Results written under a status that is not OK are undefined (R502): each of their bytes is a free value. -/
def resultsLost (mem : Memory) (c : Core) (d : RedDecl) (ch : ChannelDecl) (r : RedRun) : Core × Memory :=
  match resultAt c d r.step with
  | none => (c, mem)
  | some a =>
    if endStatus d ch r = .ok ∨ d.kind = .permute ∨ !r.written then (c, mem)
    else
      let n := draw c
      (n.2, (busWrite mem c (redMaster ch.field) (gaOff a) ((List.range (4 * d.n)).map (Config.undefinedByte n.1)) 0).2.1)

/-- REDUCTION_COMPLETE (R335, R336). -/
def execReductionComplete (f ch : Nat) (s : State) : Out := inRange f 8 <| onBoth (fun mem c =>
  match chanDecl c ch, c.alm.image with
  | some x, some im =>
    let w := pumpChan mem c x
    match (chanOf w.1 f ch).run with
    | none => w
    | some r =>
      match redDecl im r.redno with
      | none => w
      | some d =>
        if x.field = f && redComplete w.1 d x r then
          let v := resultsLost w.2 w.1 d x r
          (finishRed v.1 im d x r, v.2)
        else w
  | _, _ => (c, mem)) s

/-! ### Permutations (R342, R343) -/

/-- The incoming moves of a permutation. -/
def incoming (c : Core) (d : RedDecl) : List (Move × Nat) := (moveOffsets d.moves).filter fun p => p.1.dstMod = ownMod c

/-- The reads of the staging area that the engine makes (R34, R342). -/
def stagedReads (c : Core) (d : RedDecl) (ch : ChannelDecl) : List (Nat × Nat × Right) :=
  (incoming c d).map fun p => (gaOff ch.stagingBase + p.1.staging, p.1.length, Right.r)

/-- The checksum of the staging area (R342). -/
def stagedSum (mem : Memory) (c : Core) (d : RedDecl) (ch : ChannelDecl) (k : Nat) : Nat :=
  ((incoming c d).map fun p => csumFrom k (powP k (p.2 + 1))
    ((elems 4 (p.1.length / 4) (mreadN mem (gaOff ch.stagingBase + p.1.staging) p.1.length)).map fun x => (x : Int))).sum % csumP

/-- The staging area is copied into the destination ranges (R342). -/
def placeMoves (mem : Memory) (c : Core) (d : RedDecl) (ch : ChannelDecl) : Core × Memory :=
  let f := ch.field
  let w : Core × Memory := match engStop c (redMaster f) (stagedReads c d ch) with
  | some t => (modRun t.1 f ch.num fun r => { r with srcFail := some t.2 }, mem)
  | none => (incoming c d).foldl (fun (acc : Core × Memory) (p : Move × Nat) =>
    let bs := mreadN mem (gaOff ch.stagingBase + p.1.staging) p.1.length
    let w := busWrite acc.2 acc.1 (redMaster f) p.1.dst bs 0
    (if w.2.2 = .ok then w.1 else modRun w.1 f ch.num fun r => { r with srcFail := some .access }, w.2.1)) (c, mem)
  (modRun w.1 f ch.num fun r => { r with written := true }, w.2)

/-- PERMUTE_PLACE (R342): the arrivals are taken and the participant joins the agreement; decided OK, the staging area is
placed. -/
def execPermutePlace (f ch : Nat) (s : State) : Out := inRange f 8 <| onBoth (fun mem c =>
  match chanDecl c ch, c.alm.image with
  | some x, some im =>
    let c := permuteSignal c f ch
    match (chanOf c f ch).run with
    | none => (c, mem)
    | some r =>
      match redDecl im r.redno with
      | none => (c, mem)
      | some d =>
        if d.kind ≠ .permute ∨ x.field ≠ f then (c, mem)
        else match r.decided with
          | some v => if v.status .permute x.participants.length = .ok ∧ !r.written then placeMoves mem c d x else (c, mem)
          | none =>
            if r.summed ∨ !r.signalled then (c, mem)
            else
              let n := (incoming c d).length
              let t := match d.arrival with
                | some a => if n = 0 then (c, Status.ok) else engineTake c f a.1 a.2 n
                | none => (c, Status.ok)
              if t.2 = .taken ∨ t.2 = .busy then (t.1, mem)
              else if t.2 = .ok then
                match engStop t.1 (redMaster f) (stagedReads t.1 d x) with
                | some q => pump mem (modRun q.1 f ch fun r =>
                    { r with summed := true, flags := r.flags ||| 32, srcFail := some q.2 }) d x
                | none => pump mem (modRun t.1 f ch fun r =>
                    { r with summed := true, csumOut := stagedSum mem t.1 d x (csumK d.seed r.step) }) d x
              else pump mem (modRun t.1 f ch fun r =>
                  { r with summed := true, flags := r.flags ||| 32, srcFail := some .lost }) d x
  | _, _ => (c, mem)) s

/-! ### Multicast delivery (R344, R346) -/

/-- The fields of this module that hold a receiver of a set. -/
def setFields (c : Core) (set : Nat) : List Nat :=
  (List.range 8).filter fun f => (tgetD c.recv set []).any fun g => g / 24 = f

/-- COLL_MCAST (R344): the rows reach every receiver of the set; the unit's end is signalled. -/
def execCollMcast (rx : Rx) (s : State) : Out := onBoth (fun mem c =>
  let q := accept c rx
  let p := rx.pkt
  let a := p.addr
  match q.2 with
  | none => (q.1, mem)
  | some i =>
    if p.typ ≠ 8 ∨ bits a 40 2 ≠ 3 ∨ bit a 39 then (q.1, mem)
    else
      let set := bits a 58 6
      let w := (tgetD q.1.recv set []).foldl (fun (acc : Core × Memory × Status) g =>
        let w := busWrite acc.2.1 acc.1 (peerMaster p) (stBase g + bits a 0 22) p.payload 0
        (w.1, w.2.1, if acc.2.2 = .ok then w.2.2 else acc.2.2)) (q.1, mem, .ok)
      let c := if w.2.2 = .ok then w.1 else sendAck w.1 i p.seq w.2.2.code
      (if bit a 38 then (setFields c set).foldl (fun c f => unitSignal c f (bits a 46 12) (peerMaster p) .unit) c else c,
       w.2.1)) s

/-- DETACH_NOTE (R346): the consumer semaphores of the set are poisoned behind the units that came before. -/
def execDetachNote (rx : Rx) (s : State) : Out := onCore (fun c =>
  let q := accept c rx
  let a := rx.pkt.addr
  match q.2 with
  | none => q.1
  | some _ =>
    if rx.pkt.typ ≠ 8 ∨ bits a 40 2 ≠ 3 ∨ !bit a 39 then q.1
    else (setFields q.1 (bits a 58 6)).foldl (fun c f => holdPoison c f (bits a 46 12) (peerMaster rx.pkt) 6) q.1) s

end Sys2Proof.Machine
end

