-- ==== Sys2Proof/Machine/Program.lean ====
section
/-! DEFINITION. The image's code read statically (R353, R498): reachable words, control-flow paths, and what they place. -/

namespace Sys2Proof.Machine

/-- A word of the image's code regions. -/
def codeWord (im : Image) (g a : Nat) : Option Nat :=
  im.code.findSome? fun r => if r.station = g && decide (r.start ≤ a) then r.words[a - r.start]? else none

/-- A word of instruction memory as LOAD leaves it: zero outside the code regions (R353). -/
def codeAt (im : Image) (g a : Nat) : Nat := (codeWord im g a).getD 0

/-- The addresses that may follow an instruction: fall-through, the targets of JMP and LEND (R498). -/
def nextPcs (w a : Nat) : List Nat :=
  match opOf w with
  | some .endSeg => []
  | some .jmp => if bits w 52 4 = 0 then [bits w 39 13] else [(a + 1) % 8192, bits w 39 13]
  | some .lend => [(a + 1) % 8192, bits w 41 13]
  | _ => [(a + 1) % 8192]

/-- The addresses reachable from a work list; each of the 8,192 is taken once. -/
def reachable (im : Image) (g : Nat) : Nat → List Nat → List Nat → List Nat
  | 0, _, seen => seen
  | _ + 1, [], seen => seen
  | k + 1, a :: r, seen =>
    if seen.contains a then reachable im g k r seen else reachable im g k (nextPcs (codeAt im g a) a ++ r) (a :: seen)

/-- The addresses of the code reachable from a segment entry (R498). -/
def segAddrs (im : Image) (e : SegEntry) : List Nat := reachable im e.station 24577 [e.entry] []

/-- The segments of a template by start offset and then station number (R498). -/
def orderedSegs (t : Template) : List SegEntry :=
  t.segments.insertionSort fun a b => a.offset < b.offset ∨ (a.offset = b.offset ∧ a.station ≤ b.station)

/-- The segments that some frames place, each with the position of its frame. -/
def placedSegs (im : Image) (ts : List Nat) : List (Nat × SegEntry) :=
  ts.zipIdx.flatMap fun t => ((im.templates[t.1]?).map fun x => (orderedSegs x).map fun e => (t.2, e)).getD []

/-- The words reachable from the segments of some templates, with their stations. -/
def placedWords (im : Image) (ts : List Nat) : List (Nat × Nat) :=
  (placedSegs im ts.dedup).flatMap fun p => (segAddrs im p.2).map fun a => (p.2.station, codeAt im p.2.station a)

/-- The words of a kind along every control-flow path from an address to END, each counted loop COUNT times (R498): no list where a
loop whose repetitions are not counted holds such a word. `here` are the states (address and loop counters) passed since the last
such word, `past` those before; a path that returns to one of `here` adds nothing. -/
def paths (im : Image) (g : Nat) (keep : Nat → Bool) :
    Nat → Nat → Tab Nat → List (Nat × Tab Nat) → List (Nat × Tab Nat) → Option (List (List Nat))
  | 0, _, _, _, _ => none
  | k + 1, a, lc, here, past =>
    if past.contains (a, lc) then none
    else if here.contains (a, lc) then some []
    else
      let w := codeAt im g a
      let kept := keep w
      let here' := if kept then [] else (a, lc) :: here
      let past' := if kept then (a, lc) :: (here ++ past) else past
      let add := fun (l : List (List Nat)) => if kept then l.map (fun p => w :: p) else l
      match opOf w with
      | some .endSeg => some (add [[]])
      | some .lset => (paths im g keep k ((a + 1) % 8192) (tset lc (bits w 54 2) (bits w 34 20)) here' past').map add
      | some .lend =>
        let n := tgetD lc (bits w 54 2) 0
        let next := if 1 < n then bits w 41 13 else (a + 1) % 8192
        (paths im g keep k next (tset lc (bits w 54 2) (n - 1)) here' past').map add
      | some .jmp =>
        if bits w 52 4 = 0 then (paths im g keep k (bits w 39 13) lc here' past').map add
        else match paths im g keep k ((a + 1) % 8192) lc here' past', paths im g keep k (bits w 39 13) lc here' past' with
          | some x, some y => some (add (x ++ y).dedup)
          | _, _ => none
      | _ => (paths im g keep k ((a + 1) % 8192) lc here' past').map add

/-- The paths of a segment. -/
def segPaths (im : Image) (keep : Nat → Bool) (e : SegEntry) : Option (List (List Nat)) :=
  paths im e.station keep (2 ^ 96) e.entry [] [] []

/-- The words of a kind that some frames place, in R498's order, with the positions of their frames, their segments and places in
them; each segment read along its first path. -/
def placedOrder (im : Image) (keep : Nat → Nat → Bool) (ts : List Nat) : List (Nat × SegEntry × Nat × Nat) :=
  (placedSegs im ts).flatMap fun p =>
    (((segPaths im (keep p.2.station) p.2).getD []).headD []).zipIdx.map fun w => (p.1, p.2, w.2, w.1)

/-- Whether every segment of some templates has its paths counted and all of them place the same words of a kind. -/
def placedAgree (im : Image) (keep : Nat → Nat → Bool) (ts : List Nat) : Bool :=
  (placedSegs im ts.dedup).all fun p => match segPaths im (keep p.2.station) p.2 with
    | some l => l.all fun x => x = l.headD []
    | none => false

/-! ### What the words place -/

/-- A RED word. -/
def isRed (w : Nat) : Bool := opOf w = some .red

/-- The REDNOs that some templates submit, with the submitting stations. -/
def placedReds (im : Image) (ts : List Nat) : List (Nat × Nat) :=
  (placedWords im ts).filterMap fun p => if isRed p.2 then some (p.1, bits p.2 44 12) else none

/-- The reductions of the step: those of the step cycle (R498). -/
def stepReds (im : Image) : List Nat := ((placedReds im im.cycle).map fun p => p.2).dedup

/-- A declared descriptor-table entry. -/
def imageDesc (im : Image) (g e : Nat) : Nat :=
  ((im.desc.find? fun d => d.station = g && d.entry = e).map fun d => d.value).getD 0

/-- The UPDATE entry of a word of station `g`. -/
def updOf (im : Image) (g w : Nat) : Nat := imageDesc im g (bits w 48 8)

/-- A UPD of a pass. -/
def isUpd (im : Image) (pass g w : Nat) : Bool := opOf w = some .upd && bits (updOf im g w) 0 2 = pass

/-- Whether some templates place a UPD of a pass. -/
def placesUpd (im : Image) (ts : List Nat) (pass : Nat) : Bool := (placedWords im ts).any fun p => isUpd im pass p.1 p.2

/-- The stage of an UPDATE entry's tensor. -/
def updStage (im : Image) (d : Nat) : Option Nat := (tensorOf im (bits d 8 16)).map fun t => t.stage

/-- Whether an UPDATE entry covers a block of a stage's shard. -/
def updCovers (im : Image) (stage b d : Nat) : Bool :=
  updStage im d = some stage && decide (bits d 24 20 ≤ b ∧ b < bits d 24 20 + bits d 44 20 + 1)

/-- Whether two UPDATE entries have a block in common. -/
def updMeet (im : Image) (d e : Nat) : Bool :=
  (updStage im d).isSome && updStage im d == updStage im e
    && decide (bits d 24 20 < bits e 24 20 + bits e 44 20 + 1 ∧ bits e 24 20 < bits d 24 20 + bits d 44 20 + 1)

/-- Whether the UPDs of a pass that some frames place cover every block of every shard the module holds exactly once, whichever paths
the segments take (R496). -/
def coversOnce (im : Image) (ts : List Nat) (pass : Nat) : Bool :=
  (im.shards.filter fun s => s.mine).all fun s => (List.range s.blocks).all fun b =>
    let segs := (placedSegs im ts).map fun p =>
      (segPaths im (isUpd im pass p.2.station) p.2).map fun l => l.map fun x =>
        (x.filter fun w => updCovers im s.stage b (updOf im p.2.station w)).length
    segs.all (fun x => match x with | some l => l.all (fun n => n = l.headD 0) | none => false)
      && (segs.map fun x => (x.getD []).headD 0).sum = 1

/-- Whether the image declares a pending-apply prologue (R500). One that places no APPLY UPD declares none, also on a module that holds
no shard: DEDUCED, log entry 103. -/
def pendingApply (im : Image) : Bool := placesUpd im im.prologue 3 && coversOnce im im.prologue 3

end Sys2Proof.Machine
end

