-- ==== Sys2Proof/Machine/Order.lean ====
section
/-! DEFINITION. The load refusals that rest on where the image places work (R29, R37, R64, R91 to R94, R112, R125, R130, R144, R146,
R157, R225, R498). What the placed words decide is computed; what only the descriptors in memory or the course of time decides is
Config.scheduleOk, a free verdict (log entry 7). -/

namespace Sys2Proof.Machine

/-- The template of a frame of the run (R351). -/
def tmplAt (im : Image) (f : Nat) : Option Template := im.templates[frameTemplate im f]?

/-- How many frames show every placement once: prologue and step cycle. -/
def frameCount (im : Image) : Nat := im.prologue.length + im.cycle.length

/-- A refusal judged case by case: none may fail, and where one is not decided by the placement the free verdict stands. -/
def judged (im : Image) (rule : Nat) (l : List (Option Bool)) : Bool :=
  l.all (fun v => v ≠ some false) && (l.all (fun v => v.isSome) || Config.scheduleOk im rule)

/-! ### Loop lengths and K-splits (R91 to R94, R112) -/

/-- The loop length in force in a frame (R112). -/
def loopAt (im : Image) : Nat → Nat
  | 0 => im.loop
  | f + 1 => ((tmplAt im f).bind fun t => t.loop).getD (loopAt im f)

/-- The addresses of a K-split group's MMAs at a station (R92). -/
def groupRuns (k : KSplit) (g : Nat) : List Nat := if k.owner ≤ g then k.runs.getD (g - k.owner) [] else []

/-- The loop lengths in force in the frames that place a group's MMAs; the first one where none does. -/
def groupLoops (im : Image) (k : KSplit) : List Nat :=
  let used := (List.range (frameCount im + im.cycle.length)).filter fun f => (tmplAt im f).any fun t =>
    t.segments.any fun e => (segAddrs im e).any fun a => (groupRuns k e.station).contains a
  if used.isEmpty then [im.loop] else used.map (loopAt im)

/-- The distances at which a group collects partials: the owner and the heads of the sub-groups (R93). -/
def collectors (s : Nat) : List Nat := if s ≤ 1 then [] else 0 :: ((List.range 8).map fun i => 24 * i).filter fun d => decide (0 < d ∧ d < s)

/-- A K-split group (R91, R94): a split and a place that every loop in force allows, no more stations than K tiles, a LAST MMA at every
collector, into the group's tile at the owner, and one add mode. -/
def groupOk (im : Image) (k : KSplit) : Bool :=
  let mmas := fun (j : Nat) => ((k.runs.getD j []).map fun a => codeAt im (k.owner + j) a).filter fun w => opOf w = some .mma
  (groupLoops im k).all (fun l => kSplitOk l k.s && k.owner % l % max 1 k.s = 0) && decide (k.s ≤ k.kTiles ∧ k.owner < 192)
    && (collectors k.s).all (fun j => (mmas j).any fun w => bit w 54 && (j ≠ 0 || bits w 56 1 = k.tile))
    && (k.s ≤ 1 || ((k.mode = 1 || k.mode = 2) && (List.range k.s).all fun j => (mmas j).all fun w =>
      let m := bits (imageDesc im (k.owner + j) (bits w 46 8)) 24 2
      m = 0 || m = k.mode))

/-- R112: only an Almanac that changes the loop length can be refused for what stands in the Carousel at the boundary. -/
def loopOk (im : Image) : Bool :=
  (List.range (frameCount im + im.cycle.length)).all (fun f => loopAt im (f + 1) = loopAt im f) || Config.scheduleOk im 112

/-! ### The deferred-W queue (R125, R130) -/

/-- A DFW word. -/
def isDfw (w : Nat) : Bool := opOf w = some .dfw

/-- R125: a queue that receives no more than 64 entries, from the prologue and one step, never holds more. -/
def queueOk (im : Image) : Bool :=
  let ts := im.prologue ++ im.cycle
  let l := placedOrder im (fun _ w => isDfw w) ts
  (placedAgree im (fun _ w => isDfw w) ts
      && (List.range 192).all fun g => decide ((l.filter fun p => p.2.1.station = g).length ≤ 64))
    || Config.scheduleOk im 125

/-- Whether a sequencer word names a lent tile or plane (R130). -/
def namesLent (x : Nat × Nat) (w : Nat) : Bool :=
  match opOf w with
  | some .mma => bits w 56 1 = x.1 || bits w 55 1 = x.2
  | some .drn => bits w 58 1 = x.1
  | some .ldw => bits w 56 1 = x.2
  | _ => false

/-- R130: no word of a segment that may run in a frame that lends a tile and a plane names them, and every entry names the lent ones. -/
def lentOk (im : Image) : Bool :=
  (List.range (frameCount im)).all fun f => match tmplAt im f with
    | none => true
    | some t => t.segments.all fun e => (segAddrs im e).all fun a =>
      let w := codeAt im e.station a
      (List.range (e.close + 1)).all (fun d => match (tmplAt im (f + d)).bind fun y => y.dfw with
          | some x => !namesLent x w
          | none => true)
        && (!isDfw w ||
          let d := imageDesc im e.station (bits w 48 8)
          let x := (bits d 0 1, bits d 1 1)
          match t.dfw with
          | some y => x = y
          | none => im.templates.any fun y => y.dfw = some x)

/-! ### Working copies and the update (R29, R37, R64, R144, R146, R157) -/

/-- R29: a stream whose work window stands across a commit boundary. -/
def crossesCommit (im : Image) : Bool :=
  im.cycle.zipIdx.any fun t => im.windows.any fun w => w.template = t.1 && w.kind = 0
    && decide (t.2 * im.frameTicks + w.start < im.cycle.length * im.frameTicks
      ∧ im.cycle.length * im.frameTicks ≤ t.2 * im.frameTicks + w.stop)

/-- R29, R37, R144: an image without working copies keeps them; for the others the descriptors in memory decide. -/
def copiesOk (im : Image) : Bool :=
  im.tensors.isEmpty || ((!crossesCommit im || Config.scheduleOk im 29) && Config.scheduleOk im 37 && Config.scheduleOk im 144)

/-- R146: INIT stands in the prologue alone; whether a reading stream precedes the last gather, the descriptors decide. -/
def initOk (im : Image) : Bool := !placesUpd im im.cycle 0 && (im.tensors.isEmpty || Config.scheduleOk im 146)

/-- Whether a word placed in one segment certainly stands before one placed in another, in frames: the first segment has closed. -/
def closedBefore (a b : Nat × SegEntry × Nat × Nat) : Bool := decide (a.1 + a.2.1.close < b.1)

/-- R157 on a PREPARE and an APPLY that have a block in common, with their places in the static order. -/
def applyFirst (p a : (Nat × SegEntry × Nat × Nat) × Nat) : Option Bool :=
  if p.1.2.1.station = a.1.2.1.station then some (decide (a.2 < p.2))
  else if closedBefore p.1 a.1 then some false
  else if p.1.2.1.station / 24 = a.1.2.1.station / 24 ∧ closedBefore a.1 p.1 then some true
  else none

/-- R157: in the step cycle no PREPARE stands before an APPLY of one of its blocks. An APPLY never stands before its step's commit
boundary: R352 gives it the step of the cycle before. -/
def prepareOk (im : Image) : Bool :=
  let keep := fun (g w : Nat) => isUpd im 2 g w || isUpd im 3 g w
  let ts := im.prologue ++ im.cycle
  let l := (placedOrder im keep ts).zipIdx
  let entry := fun (x : (Nat × SegEntry × Nat × Nat) × Nat) => updOf im x.1.2.1.station x.1.2.2.2
  let prep := l.filter fun x => bits (entry x) 0 2 = 2 && decide (im.prologue.length ≤ x.1.1)
  judged im 157 ((if placedAgree im keep ts then [] else [none]) ++ prep.flatMap fun p =>
    (l.filter fun a => bits (entry a) 0 2 = 3 && updMeet im (entry p) (entry a)).map fun a => applyFirst p a)

/-- A word of station `g` that converts under a scale entry: a PACK, or a PREPARE of a tensor that the entry governs (R64). -/
def convertsUnder (im : Image) (e g w : Nat) : Bool :=
  (opOf w = some .pack && (bits w 48 4 = 1 || bits w 48 4 = 2) && bits w 28 13 = e)
    || (isUpd im 2 g w && (tensorOf im (bits (updOf im g w) 8 16)).any fun t => t.scale = e && t.fmt ≠ 3)

/-- R64 on a max-combine's RED and a conversion: one that reads its source without a ready semaphore stands before no conversion. -/
def combineLast (im : Image) (r x : (Nat × SegEntry × Nat × Nat) × Nat) : Option Bool :=
  let pack : Bool := opOf x.1.2.2.2 = some .pack
  if ((redDecl im (bits r.1.2.2.2 44 12)).bind fun d => d.ready).isSome then none
  else if (r.1.2.1.station = x.1.2.1.station && decide (r.2 < x.2)) || closedBefore r.1 x.1 then some false
  else if pack && (r.1.2.1.station = x.1.2.1.station || closedBefore x.1 r.1) then some true
  else none

/-- R64: every SHARED entry's max-combine stands behind the last conversion under it. -/
def combinesOk (im : Image) : Bool :=
  (im.scales.filter fun s => s.shared).all fun s =>
    let mine := fun (w : Nat) => isRed w && (redDecl im (bits w 44 12)).any fun d => d.amaxOf = some s.entry
    let keep := fun (g w : Nat) => mine w || convertsUnder im s.entry g w
    let l := (placedOrder im keep im.cycle).zipIdx
    let reds := l.filter fun x => mine x.1.2.2.2
    judged im 64 ((if placedAgree im keep im.cycle then [] else [none]) ++ reds.flatMap fun r =>
      (l.filter fun x => !mine x.1.2.2.2).map fun x => combineLast im r x)

/-! ### Watches (R225) -/

/-- A WAT word. -/
def isWat (w : Nat) : Bool := opOf w = some .watPost || opOf w = some .watBlock || opOf w = some .watWait

/-- Whether a WAT names a semaphore of a field of this module (R214). -/
def watHere (own f w : Nat) : Bool := bits w 21 3 = f && (bit w 8 || bits w 24 12 = own)

/-- The watches a station holds after one more WAT, each with its cookie and whether it stands at the field, and the most it has held
there at once (R228, R266): nothing fires before its WAIT. -/
def watchStep (own f : Nat) (s : List (Nat × Bool) × Nat) (w : Nat) : List (Nat × Bool) × Nat :=
  let here := (s.1.filter fun x => x.2).length + b2n (watHere own f w)
  match opOf w with
  | some .watPost => if s.1.length < 16 then (s.1 ++ [(bits w 0 8, watHere own f w)], max s.2 here) else s
  | some .watBlock => if s.1.length < 16 then (s.1, max s.2 here) else s
  | some .watWait => (s.1.eraseP fun x => x.1 = bits w 0 8, s.2)
  | _ => s

/-- The most watches that a station's programs hold at once at a field, over the prologue and as many step cycles as fill its 16. -/
def heldWatches (own : Nat) (im : Image) (f g : Nat) : Nat :=
  let words := fun ts => ((placedOrder im (fun _ w => isWat w) ts).filter fun p => p.2.1.station = g).map fun p => p.2.2.2
  ((words im.prologue ++ (List.replicate 17 (words im.cycle)).flatten).foldl (watchStep own f) ([], 0)).2

/-- R225: the programs hold no more watches at a field than the image declares; where paths differ, the verdict is free. -/
def watchesOk (own : Nat) (im : Image) : Bool :=
  let ts := im.prologue ++ im.cycle
  if placedAgree im (fun _ w => isWat w) ts then
    (List.range 8).all fun f => decide (((List.range 192).map (heldWatches own im f)).sum
      ≤ ((im.watchRes.find? fun p => p.1 = f).map fun p => p.2).getD 0)
  else Config.scheduleOk im 225

/-! ### The program order of a channel (R320, R498) -/

/-- The REDNOs of a channel among RED words. -/
def channelReds (im : Image) (ch : Nat) (ws : List Nat) : List Nat :=
  (ws.map fun w => bits w 44 12).filter fun r => (redDecl im r).any fun d => d.channel = ch

/-- R498: on every segment all paths submit the same reductions of a channel, and no uncounted loop submits one. -/
def pathsOk (im : Image) : Bool :=
  im.templates.all fun t => t.segments.all fun e => match segPaths im isRed e with
    | some l => im.channels.all fun ch => l.all fun x => channelReds im ch.num x = channelReds im ch.num (l.headD [])
    | none => false

/-- The refusals of this file. -/
def orderOk (own : Nat) (im : Image) : Bool :=
  im.ksplits.all (groupOk im) && loopOk im && queueOk im && lentOk im && copiesOk im && initOk im && prepareOk im && combinesOk im
    && watchesOk own im && pathsOk im

end Sys2Proof.Machine
end

