-- ==== Sys2Proof/Machine/Timing.lean ====
section
/-! DEFINITION. The timing check (R27, R132, R304, R309, R361, R362, R498). What the image's words, windows and routes fix is counted
here; the interlocks and waits that rest on other units are Config.waits, a free number of cycles added to it (log entry 9). -/

namespace Sys2Proof.Machine

/-- Cycles of a number of ticks, with the Vigil's pauses (R361). -/
def cyclesOf (ticks m : Nat) (vigil : Bool) : Nat := if vigil then ticks * m * 12 / 13 else ticks * m
/-- The leap reserve Q_m. -/
def leapReserve (im : Image) (m : Nat) : Nat := (im.frameTicks * m * im.reserve + 999) / 1000

/-- A setting of the check: the multiplier, and whether the Vigil is on. -/
structure Setting where
  m : Nat
  vigil : Bool
  deriving DecidableEq, Repr

/-- The cycles of a frame (R361). -/
def frameCycles (im : Image) (s : Setting) : Nat := cyclesOf im.frameTicks s.m s.vigil

/-! ### Segments (R243, R253, R79, R129) -/

/-- The M rows of an MMA of station `g`. -/
def westRows (im : Image) (g w : Nat) : Nat := bits (imageDesc im g (bits w 46 8)) 0 8 + 1

/-- The cycles by which the next word issues later than the cycle after a word (R253 rows 9 and 16). -/
def issueHold (w : Nat) : Nat :=
  match opOf w with
  | some .nop => bits w 0 16
  | some .str => 6
  | _ => 0

/-- Whether a word's issue or completion rests on another unit or on what ran before it: all but NOP, STR, jumps, loops and SETA. -/
def waitsOn (w : Nat) : Bool :=
  match opOf w with
  | some .nop | some .str | some .jmp | some .endSeg | some .seta | some .lset | some .lend => false
  | _ => true

/-- The latest issue of END, and of the last FNC, over every path of a segment, in cycles: one word a cycle, the holds of R253, an MMA on
the west edge for its M rows (R79) after at most `pre` cycles of a deferred chunk (R129). None where a loop is not counted. -/
def walk (im : Image) (g pre : Nat) :
    Nat → Nat → Tab Nat → List (Nat × Tab Nat) → Nat → Nat → Option Nat → Option (Nat × Option Nat)
  | 0, _, _, _, _, _, _ => none
  | k + 1, a, lc, seen, t, west, fnc =>
    if seen.contains (a, lc) then none
    else
      let w := codeAt im g a
      let op := opOf w
      let mma : Bool := op = some .mma
      let at' := if mma then max t west + pre else t
      let west := if mma then at' + westRows im g w else west
      let fnc := if op = some .fnc ∨ op = some .fncWait then some at' else fnc
      let next := at' + 1 + issueHold w
      let seen := (a, lc) :: seen
      match op with
      | some .endSeg => some (at', fnc)
      | some .lset => walk im g pre k ((a + 1) % 8192) (tset lc (bits w 54 2) (bits w 34 20)) seen next west fnc
      | some .lend =>
        let n := tgetD lc (bits w 54 2) 0
        let lc := tset lc (bits w 54 2) (n - 1)
        if 1 < n then walk im g pre k (bits w 41 13) lc seen (next + 1) west fnc
        else walk im g pre k ((a + 1) % 8192) lc seen next west fnc
      | some .jmp =>
        let taken := walk im g pre k (bits w 39 13) lc seen (next + 1) west fnc
        if bits w 52 4 = 0 then taken
        else match walk im g pre k ((a + 1) % 8192) lc seen next west fnc, taken with
          | some x, some y => some (max x.1 y.1, match x.2, y.2 with
            | some i, some j => some (max i j)
            | some i, none => some i
            | none, j => j)
          | _, _ => none
      | _ => walk im g pre k ((a + 1) % 8192) lc seen next west fnc

/-- The largest row chunk among the entries that the frames submit (R126), 0 where there is none. -/
def maxChunk (im : Image) : Nat :=
  (((placedWords im (im.prologue ++ im.cycle)).filter fun p => isDfw p.2).map fun p =>
    32 * 2 ^ bits (imageDesc im p.1 (bits p.2 48 8)) 30 2).foldl max 0

/-- The wait of a critical MMA for a deferred chunk in a template (R129). -/
def preempt (im : Image) (t : Template) : Nat := if t.dfw.isSome then maxChunk im - 1 else 0

/-- A segment walked from its start point (R243). -/
def walkSeg (im : Image) (s : Setting) (t : Template) (e : SegEntry) : Option (Nat × Option Nat) :=
  let start := cyclesOf e.offset s.m s.vigil + 4
  walk im e.station (preempt im t) (2 ^ 96) e.entry [] [] start start none

/-- Whether the end of a segment rests on more than its own words. -/
def segWaits (im : Image) (s : Setting) (t : Template) (e : SegEntry) : Bool :=
  (walkSeg im s t e).isNone || (segAddrs im e).any fun a => waitsOn (codeAt im e.station a)

/-- The free part of an item, where it has one. -/
def freePart (im : Image) (s : Setting) (b : Bool) (i : TimingItem) : Nat := if b then Config.waits im s.m s.vigil i else 0

/-- The worst-case end of segment `i` of template `n`, in cycles of its frame. -/
def segEnd (im : Image) (s : Setting) (n : Nat) (t : Template) (i : Nat) (e : SegEntry) : Nat :=
  ((walkSeg im s t e).map fun x => x.1).getD (cyclesOf e.offset s.m s.vigil + 4)
    + freePart im s (segWaits im s t e) ⟨1, n, e.station, i⟩

/-! ### Remote fences (R27, R304) -/

/-- The latency of a remote fence on a flow's primary route, but for the waits for its slots, in hundredths of a tick: die network,
links with one replay each, transit, target, and the acknowledgement's way back with a control-reserve wait on each link (R304). -/
def fenceLatency (f : FlowDecl) : Nat :=
  let r := f.routes.headD []
  let hop := (r.map fun l => 600 + 100 * l.bound + 100 * (2 * l.bound + 8)).sum
  let transit := 400 * (r.length - 1)
  600 + hop + transit + 400 + 4800 + 600 + (hop + 2944 * r.length) + transit + 400

/-- The flows on which a station's remote transfers travel (R301). -/
def stationFlows (im : Image) (g : Nat) : List FlowDecl := im.flows.filter fun f => f.issuers.contains g

/-! ### The deferred-W queue (R132) -/

/-- The cycles of an entry: restore, the rows of every MMA, drain (R96, R127). -/
def entryCycles (a : Nat) : Nat :=
  let m := bits a 2 8 + 1
  (if bit a 34 then 2 * m else 0) + (bits a 18 12 + 1) * m + (if bit a 35 then 2 * m else m)

/-- The cycles a station's entries of a step need. -/
def queueNeeds (im : Image) (g : Nat) : Nat :=
  (((placedOrder im (fun _ w => isDfw w) im.cycle).filter fun p => p.2.1.station = g).map fun p =>
    entryCycles (imageDesc im g (bits p.2.2.2 48 8))).sum

/-- The array cycles left idle for the queue of a station in a step: in the frames that lend, up to the vote point, what the critical
MMAs and the leap reserve leave. -/
def queueIdle (im : Image) (s : Setting) (g : Nat) : Nat :=
  (im.cycle.map fun n => match im.templates[n]? with
    | none => 0
    | some t =>
      let free := match t.vote with
        | some v => cyclesOf v s.m s.vigil
        | none => frameCycles im s
      let busy := (((placedOrder im (fun _ w => opOf w = some .mma) [n]).filter fun p => p.2.1.station = g).map fun p =>
        westRows im g p.2.2.2).sum
      if t.dfw.isSome then free - leapReserve im s.m - busy else 0).sum

/-! ### The items (R362) -/

/-- Where the semaphore that signals the end of a work window lies: its field and number. -/
def windowSem (w : Window) : Nat × Nat := (w.sem / 4096, w.sem % 4096)

/-- Whether a word of station `g` signals a semaphore of this module (R250). -/
def signals (own f n g w : Nat) : Bool :=
  let fin := fun (en sem : Nat) => bit w en && g / 24 = f && bits w sem 12 = n
  match opOf w with
  | some .sigAdd => bits w 25 3 = f && bits w 13 12 = n && (bit w 12 || bits w 28 12 = own)
  | some .mma => fin 19 7
  | some .mva => fin 14 2
  | some .drn => fin 22 10
  | _ => false

/-- The ends of a gate's producers in its frame: the ends of the windows that signal it, and of the segments that do (R354, R362). -/
def gateEnd (own : Nat) (im : Image) (s : Setting) (n : Nat) (t : Template) (g : GateDecl) : Nat :=
  let ws := (im.windows.filter fun w => w.template = n && windowSem w = (g.field, g.sem)).map fun w => cyclesOf w.stop s.m s.vigil
  let es := (t.segments.zipIdx.filter fun e => (segAddrs im e.1).any fun a =>
    signals own g.field g.sem e.1.station (codeAt im e.1.station a)).map fun e => segEnd im s n t e.2 e.1
  (ws ++ es).foldl max 0

/-- The next start point of a segment's station, in ticks from the start of the segment's frame `f` (R243). -/
def nextStart (im : Image) (f : Nat) (e : SegEntry) : Option Nat :=
  let starts := (List.range 17).flatMap fun d => ((tmplAt im (f + d)).map fun t =>
    (t.segments.filter fun x => x.station = e.station).map fun x => d * im.frameTicks + x.offset).getD []
  match starts.filter fun x => decide (e.offset < x) with
  | [] => none
  | x :: r => some (r.foldl min x)

/-- An item of the check: what it concerns, the cycle in which it ends at worst, and the one by which it must end. -/
structure Deadline where
  item : TimingItem
  offset : Nat
  ends : Nat
  limit : Nat
  deriving DecidableEq, Repr

/-- The items of the segments of frame `f`: their close boundaries, the next start points, their remote fences (R362 items 1, 3, 4). -/
def segItems (im : Image) (s : Setting) (f n : Nat) (t : Template) : List Deadline :=
  let c := frameCycles im s
  t.segments.zipIdx.flatMap fun e =>
    let x := segEnd im s n t e.2 e.1
    let flows := stationFlows im e.1.station
    [⟨⟨1, n, e.1.station, e.2⟩, e.1.offset, x, (e.1.close + 1) * c - leapReserve im s.m⟩]
      ++ ((nextStart im f e.1).map fun o => (⟨⟨3, n, e.1.station, e.2⟩, e.1.offset, x, cyclesOf o s.m s.vigil⟩ : Deadline)).toList
      ++ match (walkSeg im s t e.1).bind fun y => y.2 with
        | none => []
        | some i =>
          if flows.isEmpty then []
          else
            let late := ((flows.map fenceLatency).foldl max 0 * s.m + 99) / 100
            [⟨⟨4, n, e.1.station, e.2⟩, e.1.offset, i + late + freePart im s true ⟨4, n, e.1.station, e.2⟩, (i / c + 1) * c⟩]

/-- The items of a template: its windows, gates, vote and audit work (R362 items 1, 2, 5, 7). -/
def templateItems (own : Nat) (im : Image) (s : Setting) (n : Nat) (t : Template) : List Deadline :=
  let c := frameCycles im s
  let g := cyclesOf (im.frameTicks - holdLead im.lMax) s.m s.vigil
  (((im.windows.filter fun w => w.template = n).zipIdx).map fun w =>
      let i : TimingItem := ⟨1, n, w.1.unit, 65536 + w.2⟩
      (⟨i, w.1.start, cyclesOf w.1.start s.m s.vigil + freePart im s true i, cyclesOf w.1.stop s.m s.vigil⟩ : Deadline))
    ++ (t.gates.zipIdx.map fun x => ⟨⟨2, n, x.1.field, x.2⟩, 0, gateEnd own im s n t x.1, g - leapReserve im s.m⟩)
    ++ (t.vote.map fun v => (⟨⟨5, n, 0, 0⟩, v, cyclesOf v s.m s.vigil + freePart im s true ⟨5, n, 0, 0⟩, c⟩ : Deadline)).toList
    ++ if im.auditK = 0 then [] else [⟨⟨7, n, 0, 0⟩, 0, freePart im s true ⟨7, n, 0, 0⟩, c⟩]

/-- The items of the deferred-W queues of a step (R132, R362 item 6). -/
def queueItems (im : Image) (s : Setting) : List Deadline :=
  (List.range 192).filterMap fun g =>
    let need := queueNeeds im g
    if need = 0 then none
    else some ⟨⟨6, im.cycle.getLastD 0, g, 0⟩, 0, need + freePart im s true ⟨6, im.cycle.getLastD 0, g, 0⟩, queueIdle im s g⟩

/-- Every item of the check at a setting: the frames of prologue and step cycle, then the queues. -/
def timingItems (own : Nat) (im : Image) (s : Setting) : List Deadline :=
  ((List.range (frameCount im)).flatMap fun f => ((tmplAt im f).map fun t =>
    segItems im s f (frameTemplate im f) t ++ templateItems own im s (frameTemplate im f) t).getD []) ++ queueItems im s

/-- The settings of a load check: every multiplier of the range (R361). -/
def settings (im : Image) (vigil : Bool) : List Setting :=
  (List.range (im.mMax + 1 - im.mMin)).map fun i => { m := im.mMin + i, vigil := vigil }

/-- The first item that ends too late, as the report of R360: order, template, frame offset, multiplier, unit, required and available
cycles. -/
def timingFault (own : Nat) (im : Image) (vigil : Bool) : Option (List Nat) :=
  (settings im vigil).findSome? fun s => (timingItems own im s).findSome? fun d =>
    if d.limit < d.ends then some [8, d.item.template, d.offset, s.m, d.item.unit, d.ends, d.limit] else none

/-! ### Segments that run at the same time (R498) -/

/-- The placed segments with the cycles of the run in which they start and end at worst. -/
def spans (im : Image) (s : Setting) : List (SegEntry × Nat × Nat) :=
  let c := frameCycles im s
  (List.range (frameCount im + 16)).flatMap fun f => ((tmplAt im f).map fun t => t.segments.zipIdx.map fun e =>
    (e.1, f * c + cyclesOf e.1.offset s.m s.vigil, f * c + segEnd im s (frameTemplate im f) t e.2 e.1)).getD []

/-- The channels on which a segment submits REDs. -/
def segChannels (im : Image) (e : SegEntry) : List Nat :=
  ((segAddrs im e).filterMap fun a =>
    let w := codeAt im e.station a
    if isRed w then (redDecl im (bits w 44 12)).map fun d => d.channel else none).dedup

/-- R498: no two segments that can run at the same time submit REDs of one channel. -/
def apartOk (im : Image) (vigil : Bool) : Bool :=
  (settings im vigil).all fun s =>
    let l := ((spans im s).filter fun x => !(segChannels im x.1).isEmpty).zipIdx
    l.all fun x => l.all fun y => decide (y.2 ≤ x.2) || !(decide (x.1.2.1 ≤ y.1.2.2 ∧ y.1.2.1 ≤ x.1.2.2))
      || (segChannels im x.1.1).all fun ch => !(segChannels im y.1.1).contains ch

end Sys2Proof.Machine
end

