-- ==== Sys2Proof/Machine/Check.lean ====
section
/-! DEFINITION. The load check (R350 to R364, R379 and the load refusals of chapters 2 to 10). -/

namespace Sys2Proof.Machine

/-! ### Container (R356 to R359) -/

/-- The section types of R357. -/
def sectionTypes : List Nat := (List.range 13).map (· + 1) ++ [0x100, 0x101, 0x102, 0x103, 0x104, 0xFFFF]
/-- The sections a container must have (R350, R379). -/
def requiredSections : List Nat := [0x0C, 0x100, 0x101, 0x102, 0x103, 0x104]

/-- Sections lie in table order and do not overlap. -/
def sectionsRise (lo : Nat) : List Section → Bool
  | [] => true
  | s :: r => decide (lo ≤ s.offset) && s.offset % 64 = 0 && sectionsRise (s.offset + s.len) r

/-- Header and section table keep R356 and R357, and no required section is missing. -/
def headerOk (c : Container) : Bool :=
  c.magic = 0x52534344 && c.version = 1 && decide (0 < c.sections.length ∧ c.sections.length ≤ 64) && decide (c.flags < 4)
    && decide (c.length ≤ 2 ^ 28) && c.zeros && (bit c.flags 0 || c.uwidth = 0)
    && sectionsRise (0x80 + 96 * c.sections.length) c.sections
    && c.sections.all (fun s => sectionTypes.contains s.typ && s.zeros && decide (s.offset + s.len ≤ c.length))
    && c.sections.dropLast.all (fun s => s.typ ≠ 0xFFFF)
    && c.sections.all (fun s => s.typ ≠ 0xFFFF || s.len = 3309)
    && requiredSections.all fun t => c.sections.any fun s => s.typ = t

/-- The signature that REQUIRE_SIGNED asks for (R359). -/
def signedOk (c : Core) (k : Container) : Bool :=
  obj c Key.requireSigned = 0 || (k.sigOk && k.sections.any fun s => s.typ = 0xFFFF)

/-- The profiles a part holds: those of its own and of earlier steppings (R364). -/
def profileKnown (fu : Fuses) (p : Nat) : Bool := (p = 0xA0 || p = 0xB0) && decide (p ≤ fu.stepping)

/-- UNIFORM_WIDTH: what was written, else the die-wide minimum (R105). -/
def uniformWidth (fu : Fuses) (c : Core) : Nat := (tget c.dict Key.uniformWidth).getD fu.minWidth
/-- A station's presented width on this part. -/
def partWidth (fu : Fuses) (g : Nat) : Nat := fu.widths.getD g 256

/-- The widths an image declares, by station (R104). -/
def imageWidths (k : Container) : List Nat := if bit k.flags 0 then List.replicate 192 k.uwidth else k.image.widths

/-- The width rule of R104. -/
def widthOk (fu : Fuses) (c : Core) (k : Container) : Bool :=
  if bit k.flags 0 then obj c Key.widthMode = 1 && uniformWidth fu c = k.uwidth
  else obj c Key.widthMode = 0 && k.image.widths = (List.range 192).map (partWidth fu)

/-! ### Refusals with RANGE (order 7) -/

/-- The limits of R350, R292 and R344. -/
def limitsOk (im : Image) : Bool :=
  decide (500 ≤ im.frameTicks ∧ im.frameTicks ≤ 20000) && decide (8 ≤ im.mMin ∧ im.mMin ≤ im.mMax ∧ im.mMax ≤ 18)
    && decide (20 ≤ im.reserve ∧ im.reserve ≤ 200) && decide (0 < im.templates.length ∧ im.templates.length ≤ 1024)
    && decide (im.prologue.length ≤ 65535) && decide (0 < im.cycle.length ∧ im.cycle.length ≤ 1000000)
    && (im.prologue ++ im.cycle).all (fun t => decide (t < im.templates.length)) && decide (im.flows.length ≤ 4096)
    && decide (im.domain < 64) && decide (im.modGroups.length ≤ 255) && decide (im.reds.length ≤ 4096)
    && im.modGroups.all (fun g => decide (0 < g.num ∧ g.num ≤ 255 ∧ g.members.length ≤ 63 ∧ 0 < g.detachTime ∧ g.detachTime ≤ 65535))
    && im.templates.zipIdx.all (fun t =>
      decide (t.1.gates.length ≤ 256)
        && (List.range 192).all (fun g => decide ((t.1.segments.filter fun e => e.station = g).length ≤ 32))
        && decide ((im.windows.filter fun w => w.template = t.2).length ≤ 65536))

/-- VOTE stands on the last template of the cycle alone (R351). -/
def votesOk (im : Image) : Bool :=
  let votes := fun t => ((im.templates[t]?).bind fun x => x.vote).isSome
  im.prologue.all (fun t => !votes t) && im.cycle.dropLast.all (fun t => !votes t) && im.cycle.getLast?.any votes

/-- Segment entries (R353) and gates (R354). -/
def templatesOk (im : Image) : Bool :=
  im.templates.all fun t =>
    t.segments.all (fun e => decide (e.station < 192 ∧ e.offset < im.frameTicks ∧ e.close ≤ 15)
      && (codeWord im e.station e.entry).isSome)
    && t.gates.all fun g => decide (0 < g.n ∧ g.n ≤ 65535) && isGate im g.field g.sem

/-- Semaphore declarations (R215, R354, R503) and watch reservations (R225). -/
def semsOk (im : Image) : Bool :=
  im.sems.all (fun s => decide (0 < s.cap ∧ s.cap < 2 ^ 20 ∧ s.count ≤ s.cap ∧ s.field < 8 ∧ s.num < 4096))
    && (im.sems.map fun s => (s.field, s.num)).Nodup
    && decide ((im.sems.filter fun s => s.commit).length ≤ 1) && im.sems.all (fun s => !(s.commit && s.gate))
    && im.watchRes.all fun p => decide (p.2 ≤ 1024)

/-- Scale entries (R58, R59, R65) and what governs a working copy (R62). -/
def scalesOk (im : Image) : Bool :=
  decide (im.scales.length ≤ 8192)
    && im.scales.all (fun s => decide (s.entry < 8192 ∧ 1 ≤ s.h ∧ s.h ≤ 32 ∧ s.margin ≤ 3) && (s.fmt = 1 || s.fmt = 2)
      && decide (-127 ≤ s.init ∧ s.init ≤ 127))
    && im.tensors.all (fun t => (t.fmt = 1 || t.fmt = 3) && t.start % 1024 = 0
      && (t.fmt = 3 || (scaleDecl im t.scale).any fun s => s.fmt = t.fmt && s.shared && s.dbuf))
    && (im.scales.filter fun s => s.shared).all fun s =>
      ((placedOrder im (fun _ w => isRed w) im.cycle).filter fun p =>
        (redDecl im (bits p.2.2.2 44 12)).any fun d => d.amaxOf = some s.entry).length = 1

/-- Whether an FP32 pattern is finite and not below zero. -/
def fpNonneg (p : Nat) : Bool := (fp32.dec p).isFin && ((fp32.dec p).isZero || !(fp32.dec p).neg)

/-- Optimizer groups (R149) and schedules (R150). -/
def groupsOk (im : Image) : Bool :=
  let beta := fun b => fpNonneg b && (fp32.dec b).lt (fp32.dec fp32.one)
  decide (im.groups.length ≤ 64 ∧ im.scheds.length ≤ 16)
    && im.groups.all (fun g => decide (g.num < 64) && beta g.beta1 && beta g.beta2 && fpNonneg g.eps
      && !(fp32.dec g.eps).isZero && fpNonneg g.lambda && decide (g.decay < 3) && (fp32.dec g.gradMult).isFin
      && !(fp32.dec g.gradMult).isZero && decide (g.sched < 16) && fpNonneg g.clipMax)
    && im.scheds.all fun s => decide (s.num < 16 ∧ 0 < s.points.length ∧ s.points.length ≤ 64)
      && s.points.all (fun p => decide (p.1 < 2 ^ 32) && (fp32.dec p.2).isFin)
      && (s.points.zip (s.points.drop 1)).all fun p => decide (p.1.1 < p.2.1)

/-- Shards (R141): no module holds two of one stage. -/
def shardsOk (im : Image) : Bool :=
  im.shards.all (fun s => s.start % 1024 = 0 && s.holders.any (fun h => h.2.2)
      && (match s.holders with | [a, b] => a.2.1 ≠ b.2.1 | _ => true) && decide (0 < s.holders.length ∧ s.holders.length ≤ 2))
    && (im.shards.flatMap fun s => s.holders.map fun h => (h.1, s.stage)).Nodup
    && ((im.shards.filter fun s => s.mine).map fun s => s.stage).Nodup

/-- The job's modules (R314): a domain holds at most 64, and a replica lies in one. -/
def domainsOk (im : Image) : Bool :=
  im.members.all fun m => decide (m.domain < 64)
    && decide (((im.members.filter fun x => x.domain = m.domain).map fun x => x.module).dedup.length ≤ 64)
    && im.members.all fun x => x.replica ≠ m.replica || x.domain = m.domain

/-- Whether two ranges meet. -/
def meets (a n b m : Nat) : Bool := decide (a < b + m ∧ b < a + n)

/-- Buckets (R39, R160): of FP32 or BF16 contributions, at most 4,096 for a stage. -/
def bucketsOk (im : Image) : Bool :=
  im.buckets.all (fun b => b.start % 1024 = 0 && b.length % 1024 = 0 && decide (1024 ≤ b.length ∧ b.length ≤ 16777216)
      && (b.fmt = 3 || b.fmt = 4) && decide ((im.buckets.filter fun x => x.stage = b.stage).length ≤ 4096)
      && (redDecl im b.redno).all fun d => d.fmt = b.fmt)
    && im.buckets.zipIdx.all fun p => im.buckets.zipIdx.all fun q =>
      p.2 = q.2 || p.1.stage ≠ q.1.stage || !meets p.1.start p.1.length q.1.start q.1.length

/-- The source formats of a kind of reduction (R39, R318). -/
def redFmtOk (d : RedDecl) : Bool :=
  match d.kind with
  | .sum => d.fmt = 3 || d.fmt = 4 || d.fmt = 6
  | .max => d.fmt = 4
  | .permute => true

/-- The ranges of an entry of the reduction table (R318, R342); an address of class LOCAL holds what it names. -/
def redRangesOk (d : RedDecl) : Bool :=
  let w := if d.fmt = 3 then 2 else if d.fmt = 6 then 16 else 4
  decide (d.redno < 4096 ∧ d.slot < 4096 ∧ d.seed < 2 ^ 64 ∧ d.moves.length ≤ 65536)
    && (d.kind = .permute || d.vote || d.amaxOf.isSome || (gaClass d.source = 1 && gaOk d.source (w * d.n)))
    && d.result.all fun a => gaClass a = 1 && gaOk a (4 * d.n)

/-- The ranges of an entry of the channel table (R319). -/
def channelOk (ch : ChannelDecl) : Bool :=
  decide (ch.num < 64 ∧ ch.field < 8 ∧ 0 < ch.participants.length ∧ ch.participants.length ≤ 4096 ∧ 2 ≤ ch.fanin ∧ ch.fanin ≤ 8)
    && ch.participants.all (fun m => decide (m < 4096)) && ch.copyHolder.all (fun p => decide (p < ch.participants.length))
    && inHbm (gaOff ch.stagingBase) && (ch.stagingSize = 0 || inHbm (gaOff ch.stagingBase + (ch.stagingSize - 1)))

/-- Reductions (R318 to R320, R324, R332, R343), judged on this module. -/
def redsOk (c : Core) (im : Image) : Bool :=
  im.code.all (fun r => r.words.all fun w => !isRed w ||
      (redDecl im (bits w 44 12)).any fun d => (channelDecl im d.channel).any fun ch =>
        ch.participants.contains (ownMod c) && ch.field = r.station / 24)
    && (stepReds im).all (fun a => (stepReds im).all fun b =>
      a = b || match redDecl im a, redDecl im b with
        | some x, some y => x.kind ≠ .sum || y.kind ≠ .sum || x.slot ≠ y.slot
            || (im.refSlots.find? fun s => s.slot = x.slot).any fun s => s.fixed
        | _, _ => true)
    && im.reds.all (fun d =>
      decide (0 < d.n ∧ d.n ≤ 16777216) && redFmtOk d && redRangesOk d
        && (match bucketOf im d.redno with
          | some b =>
            (!d.mask || d.first = b.start) && (!d.chain || im.shards.any fun s => s.stage = b.stage
              && decide (s.start ≤ b.start ∧ b.start + b.length ≤ s.start + 1024 * s.blocks))
          | none => true)
        && (!d.mask || d.first % 1024 = 0)
        && (channelDecl im d.channel).any (fun ch =>
          (d.kind = .permute || decide (36 * d.n ≤ ch.stagingSize))
            && d.moves.all fun m => m.length % 64 = 0
              && !(im.channels.any fun k => meets (gaOff k.stagingBase) k.stagingSize m.src m.length
                || meets (gaOff k.stagingBase) k.stagingSize m.dst m.length)))
    && im.channels.all channelOk && (im.channels.map fun ch => ch.num).Nodup && (im.reds.map fun d => d.redno).Nodup
    && im.refSlots.all fun s => decide (s.slot < 4096 ∧ -160 ≤ s.eInit ∧ s.eInit ≤ 107 ∧ 1 ≤ s.hlen ∧ s.hlen ≤ 8 ∧ 1 ≤ s.g ∧ s.g ≤ 19)

/-- Slots (R281 to R283) and routes (R297, R304): no slot is given twice, and the packets declared for one, sent or in transit, fit it. -/
def slotsOk (c : Core) (im : Image) : Bool :=
  let fits := fun (port bytes : Nat) => decide (bytes ≤ slotCap c port)
  im.templates.all (fun t =>
    let uses := t.slots.map (fun s => (s.port, s.out, s.slot)) ++ t.transit.map (fun e => (e.inPort, false, e.slot))
      ++ t.transit.map fun e => (e.outPort, true, e.outSlot)
    uses.Nodup && uses.all (fun u => decide (u.1 < 16 ∧ u.2.2 < (im.frameTicks - 8) / 32))
      && t.slots.all (fun s => fits s.port s.bytes) && t.transit.all fun e => fits e.inPort e.bytes && fits e.outPort e.bytes)
    && im.flows.all fun f => decide (0 < f.routes.length ∧ f.routes.length ≤ 4) && f.routes.all fun r =>
      decide (r.length ≤ 6) && r.all (fun l => decide (l.bound ≤ 100)) && (r.map (fun l => l.src) ++ (r.getLast?.map fun l => [l.dst]).getD []).Nodup

/-- Access-section records (R190): the reserved bits of an entry are zero, its BASE does not exceed its LIMIT. -/
def accessOk (im : Image) : Bool :=
  im.access.all (fun p => decide (p.1 ≤ 154) && bits p.2 120 4 = 0 && bits p.2 80 8 = 0 && bits p.2 0 8 = 0
      && decide (bits p.2 44 36 ≤ bits p.2 8 36))
    && (List.range 155).all fun t => decide ((im.access.filter fun p => p.1 = t).length ≤ 62)

/-- The capacity of a memory (R379). -/
def memCap (k : MemKind) : Nat := match k with
  | .station _ => stSize
  | .slice _ => 0x400000
  | .hbm => 0x18000000000
  | .imem _ => 0x10000

/-- The footprint check of R360 and R379: every buffer within its memory, and what is live in a frame within the capacity,
with the code regions live always. -/
def footprintOk (im : Image) : Bool :=
  let live := fun (b : BufDecl) (x : BufDecl) => x.template = b.template && decide (x.first ≤ b.first ∧ b.first ≤ x.last)
  let sizes := fun (l : List BufDecl) => (l.map fun x => x.size).sum
  im.buffers.all fun b =>
    let now := im.buffers.filter (live b)
    let code := match b.mem with
      | .imem g => ((im.code.filter fun r => r.station = g).map fun r => 8 * r.words.length).sum
      | _ => 0
    decide (b.base + b.size ≤ memCap b.mem) && decide (code + sizes (now.filter fun x => x.mem = b.mem) ≤ memCap b.mem)
      && decide (sizes (now.filter fun x => match x.mem with | .slice _ => true | _ => false) ≤ 0x20000000)

/-- Code regions: within instruction memory, every word passes its checks (R242, R247). -/
def codeOk (own : Nat) (im : Image) : Bool :=
  im.code.all (fun r => decide (r.station < 192 ∧ r.start + r.words.length ≤ 8192)
    && r.words.all fun w => wordOk true own im (imageDesc im r.station) r.station w)

/-- A declared descriptor-table entry, whether a word names it or not (R38, R215, R251, R499): formats that may meet, scale entries of
them, declared semaphores, the clip rule. -/
def entryOk (im : Image) (x : DescDecl) : Bool :=
  let d := x.value
  let sem := fun (en n : Nat) => bit d en = false || semDeclared im (x.station / 24) (bits d n 12)
  decide (x.station < 192 ∧ x.entry < 256) && match dKind d with
    | 1 => shapeFmtOk true im d
    | 3 => sem 89 90 && (groupOf im (bits d 2 6)).all fun gr => clipOk im gr d
    | 5 => pairOk (bits d 26 4) (bits d 30 4) && scaleOk im (bits d 26 4) (bits d 0 13) && scaleOk im (bits d 30 4) (bits d 13 13)
      && sem 78 79 && sem 103 104
    | _ => true

/-- The descriptor tables. -/
def descsOk (im : Image) : Bool := im.desc.all (entryOk im)

/-- Loop lengths (R110, R112), receiver sets, audit, bindings. -/
def mappingOk (im : Image) : Bool :=
  [24, 48, 96, 192].contains im.loop
    && im.templates.all (fun t => (t.loop.map fun l => [24, 48, 96, 192].contains l).getD true)
    && im.recvSets.all (fun r => decide (r.1 < 64) && r.2.all fun g => decide (g < 192))
    && (im.auditK = 0 || decide (4 ≤ im.auditK ∧ im.auditK ≤ 20)) && im.bindings.all (fun b => decide (b < 256))

/-- APPLY in the step cycle and in the prologue covers every block once, where it is placed at all (R496, R500). -/
def applyOk (im : Image) : Bool :=
  (!placesUpd im im.cycle 3 || coversOnce im im.cycle 3) && (!placesUpd im im.prologue 3 || coversOnce im im.prologue 3)

/-- Order 7: no refusal with RANGE. -/
def rangeOk (c : Core) (im : Image) : Bool :=
  limitsOk im && votesOk im && templatesOk im && semsOk im && scalesOk im && groupsOk im && shardsOk im && bucketsOk im
    && domainsOk im && redsOk c im && slotsOk c im && accessOk im && footprintOk im && codeOk (ownMod c) im && descsOk im
    && mappingOk im && applyOk im && orderOk (ownMod c) im && apartOk im (vigilOn c)

/-- The load check from order 2 on: the first failure, with its report (R360). -/
def loadFault (fu : Fuses) (c : Core) (k : Container) : Option (Status × List Nat) :=
  let im := { k.image with widths := imageWidths k }
  if !headerOk k then some (.range, [2])
  else if !(k.sections.all fun s => s.digestOk) then some (.integrity, [3])
  else if !signedOk c k then some (.auth, [4])
  else if !profileKnown fu k.profile then some (.profile, [5])
  else if !widthOk fu c k then some (.width, [6])
  else if !rangeOk c im then some (.range, [7])
  else if vigilOn c && !bit k.flags 1 then some (.deadline, [8])
  else if decide (im.frameTicks < 2 * holdLead im.lMax) then some (.deadline, [8])
  else (timingFault (ownMod c) im (vigilOn c)).map fun r => (.deadline, r)

end Sys2Proof.Machine
end

