-- ==== Sys2Proof/Machine/Almanac.lean ====
section
/-! DEFINITION. The Almanac's commands (R350 to R372, R495): LOAD, START, STOP, UNLOAD, frame zero, the stop, RESOLVE; what a
commit and an abort leave (R63, R64, R164 to R167, R325). -/

namespace Sys2Proof.Machine

/-- The Almanac's runtime changed. -/
def modAlm (c : Core) (f : Almanac → Almanac) : Core := { c with alm := f c.alm }

/-- ALMANAC_STATE set (R380). -/
def setAlm (c : Core) (v : Nat) : Core := setObj c Key.almanacState v

/-! ### LOAD (R353, R356 to R360) -/

/-- The rule of LOAD (R360 order 1, R473): the check begins, or STATE. -/
def loadRule (k : Container) : WriteRule := fun fu _ c =>
  if fu.lc ≠ 2 ∨ !emptyOrStopped c ∨ obj c Key.hbmWiping = 1 then
    (modAlm (setObj c Key.loadStatus Status.state.code) fun a => { a with checkReport := [1] }, .state)
  else
    let old := almState c
    (modAlm (setAlm c 1) fun a => { a with checking := some k, before := old }, .ok)

/-- LOAD (R360). -/
def execLoadImage (h : Hdr) (k : Container) (s : State) : Out := writeItem Key.almanacCmd h (loadRule k) s

/-- The header and the section entries of some types, as the digests cover them (R358). -/
def digestBytes (m : Memory) (k : Container) (p : Nat → Bool) : Bytes :=
  k.sections.zipIdx.flatMap fun s => if p s.1.typ then mreadN m (0x80 + 96 * s.2) 96 else []

/-- The image digest (R358). -/
def imageDigest (m : Memory) (k : Container) : Bytes :=
  shake 64 (mreadN m 0 128 ++ digestBytes m k fun t => decide (t < 0x100))

/-- The Almanac digest (R358). -/
def almanacDigest (m : Memory) (k : Container) : Bytes :=
  shake 64 (digestBytes m k fun t => decide (0x100 ≤ t ∧ t ≤ 0x104))

/-- One code region written. -/
def installRegion (m : Memory) (r : CodeRegion) : Memory :=
  mwriteN m (ctlBase r.station + 8 * r.start) (r.words.flatMap (leBytes 8))

/-- Instruction memory at LOAD: every code region, zero everywhere else (R353). -/
def installCode (m : Memory) (im : Image) : Memory := im.code.foldl installRegion (m.filter fun p => !inImem p.1)

/-- The objects that show a loaded image, with the values it gives them (R71, R138, R170, R213, R380); the scale table follows at START
(R65). -/
def imageObjects (k : Container) (im : Image) : List (Nat × Nat) :=
  [(Key.frameTicks, im.frameTicks), (Key.multRange, im.mMin + 256 * im.mMax), (Key.leapReserve, im.reserve),
   (Key.imageProfile, k.profile), (Key.wcDelta, im.wcDelta), (Key.auditK, im.auditK), (Key.retainedLayers, im.retained),
   (Key.maskBase, im.maskBase)]

/-- Several objects set. -/
def setObjs (c : Core) (l : List (Nat × Nat)) : Core := l.foldl (fun c p => setObj c p.1 p.2) c

/-- The image is installed (R353, R360). -/
def installImage (k : Container) (mem : Memory) (c : Core) : Core × Memory :=
  let im := { k.image with widths := imageWidths k }
  let dig := (imageDigest c.host.loadBuf k, almanacDigest c.host.loadBuf k, c.alm.digests.2.2)
  let recv := im.recvSets.foldl (fun t r => tset t r.1 r.2) []
  let c := modAlm { c with recv := recv } fun a =>
    { a with image := some im, checking := none, digests := dig, checkReport := [] }
  (setAlm (setObjs c ((Key.loadStatus, 0) :: imageObjects k im)) 2, installCode mem im)

/-- LOAD_CHECK_DONE (R360): the load check of the container ends. -/
def execLoadCheckDone (s : State) : Out :=
  .next (if powered s.core then
    match s.core.alm.checking with
    | none => s
    | some k =>
      if almState s.core ≠ 1 then s
      else match loadFault s.fuse s.core k with
        | some r =>
          let c := setObj (setAlm s.core s.core.alm.before) Key.loadStatus r.1.code
          { s with core := modAlm (errStatus c r.1) fun a => { a with checking := none, checkReport := r.2 } }
        | none =>
          let r := installImage k s.mem s.core
          { s with core := r.1, mem := r.2 }
  else s)

/-! ### Commits and aborts (R53, R63 to R65, R131, R164, R165, R325) -/

/-- A BF16 pattern not below a nonnegative FP32 pattern (R63). -/
def roundUpBf16 (p : Nat) : Nat := (p + 0xFFFF) / 0x10000

/-- The scale exponent that R63 gives for a history maximum, a positive BF16 pattern; the pattern above every finite one
stands for 2^128. -/
def scaleExp (fmt margin a : Nat) : Int :=
  let e := a / 128
  let m := if e = 0 then a % 128 else 128 + a % 128
  let l := Nat.log2 m
  let ea : Int := (l : Int) - 133 + (if e = 0 then 0 else (e : Int) - 1)
  let p : Int := if fmt = 1 then 8 else 15
  let x := if 4 * m ≤ 7 * 2 ^ l then p - ea else p - ea - 1
  max (-127) (min 127 (x - margin))

/-- The pending amax of an entry at the commit boundary: the max-combine's result, or the largest of the copies (R64). -/
def pendAmax (x : ScaleEntry) : Nat :=
  if x.shared then x.amax.getD 0 else (x.pend.map fun p => p.2).foldl max 0

/-- What a step execution leaves in an entry is cleared (R53, R63, R64). -/
def clearPending (x : ScaleEntry) : ScaleEntry := { x with pend := [], nan := [], satRaised := false, amax := none }

/-- R63 on one entry. -/
def updateScale (x : ScaleEntry) : ScaleEntry :=
  let hist := tset x.hist x.ptr (roundUpBf16 (pendAmax x))
  let a := ((List.range x.h).map fun i => tgetD hist i 0).foldl max 0
  let e := scaleExp x.fmt x.margin a
  let toA := a ≠ 0 ∧ (!x.dbuf || !x.active)
  let toB := a ≠ 0 ∧ x.dbuf && x.active
  clearPending { x with hist := hist, ptr := (x.ptr + 1) % max 1 x.h, scaleA := if toA then e else x.scaleA,
                        scaleB := if toB then e else x.scaleB, active := if x.dbuf then !x.active else x.active }

/-- A table's records changed, each alone. -/
def tmap {α : Type} (f : α → α) (t : Tab α) : Tab α := t.map fun p => (p.1, f p.2)

/-- R325 on one slot. -/
def updateSlot (x : RefSlot) (eObs : Option Int) : RefSlot :=
  let hist := match eObs with
    | some e => tset x.hist x.ptr e
    | none => tdel x.hist x.ptr
  let seen := (List.range x.h).filterMap fun i => tget hist i
  let e := match seen with
    | [] => x.eRef
    | a :: r => max (-160) (min 107 (r.foldl max a + (x.g : Int) - 19))
  { x with hist := hist, ptr := (x.ptr + 1) % max 1 x.h, eRef := e }

/-- R325 over the decided records of the step. -/
def updateSlots (c : Core) (commit : Bool) : Core :=
  match c.alm.image with
  | none => c
  | some im =>
    c.alm.recs.foldl (fun c r =>
      match redDecl im r.1 with
      | none => c
      | some d =>
        let x := tgetD c.slots d.slot RefSlot.blank
        if !x.fixed && (commit || bit r.2.2 0 || bit r.2.2 2) then
          { c with slots := tset c.slots d.slot (updateSlot x r.2.1) }
        else c) c

/-- Nothing collected toward the next vote. -/
def StepMarks.none : StepMarks := { integrity := false, window := false, lost := false, nonfinite := false }

/-- What the step collected is forgotten: the next step execution begins (R53, R163). -/
def newExecution (c : Core) : Core :=
  modAlm c fun a => { a with marks := StepMarks.none, redsDone := [], updsDone := [], recs := [],
                             vote := { own := none, result := none, lost := false } }

/-- What the step left in a station's deferred-W queue is forgotten (R131), with the writes that still asked for a fence (R30). -/
def clearDfw (s : Station) : Station :=
  { s with dfw := { s.dfw with stepEnd := false, lost := false, faulted := false }, idleX := none }

/-- Every deferred-W queue discards its entries, those in progress too (R131, R371). -/
def discardDfw (c : Core) : Core := (c.st.map fun p => p.1).foldl dropDfw c

/-- The clip factors of an aborted step go: its re-issue has its own norm reduction (R499). -/
def dropClips (c : Core) (step : Nat) : Core :=
  (List.range 8).foldl (fun c f =>
    let y := fld c f
    setFld c f { y with upd := { y.upd with clips := y.upd.clips.filter fun p => p.2.1 ≠ step } }) c

/-- COMMIT (R164, R503): buffers, scales, counts, reference slots, the step-commit signal. -/
def commitStep (c : Core) : Core :=
  let step := obj c Key.stepNumber
  let c := updateSlots { c with scale := tmap updateScale c.scale } true
  let c := { c with scaleAt := c.scale, st := tmap clearDfw c.st }
  let c := setObj (addObj c Key.commits 1) Key.stepNumber ((step + 1) % 2 ^ 32)
  let c := setObj c Key.consecAborts 0
  let c := newExecution (modAlm c fun a => { a with cycleCommitted := true, applied := 0 })
  let c := if heldBlocks c = 0 then setObj c Key.applyDoneStep step else c
  match c.alm.image.bind fun im => im.sems.find? fun s => s.commit with
  | some s => (applyOp c s.field { issuer := mgmt, kind := .add, sem := s.num, n := 1, cookie := 0, slot := 0, back := .unit }).1
  | none => c

/-- ABORT (R64, R131, R165): the step's entries and pending values go; masters, moments and active buffers stay. -/
def abortStep (c : Core) (reason : Nat) : Core :=
  let c := raise c 0x0808 .info mgmt 0 [obj c Key.stepNumber, reason]
  let c := if bit reason 2 then updateSlots c false else c
  let c := dropClips (discardDfw { c with scale := tmap clearPending c.scale }) (obj c Key.stepNumber)
  let c := { c with st := tmap clearDfw c.st }
  newExecution (modAlm c fun a => { a with cycleCommitted := false })

/-- The idle buffers of the image's tensors, as base and bytes (R143). -/
def idleBuffers (c : Core) : List (Nat × Nat) :=
  match c.alm.image with
  | none => []
  | some im => im.tensors.map fun t =>
      (gaOff t.wc + (if obj c Key.commits % 2 = 0 then im.wcDelta else 0), (if t.fmt = 3 then 2 else 1) * t.length)

/-- What ABORT leaves in the idle buffers is undefined (R168): every byte of them is a free value. -/
def idleLost (mem : Memory) (c : Core) : Core × Memory :=
  let d := draw c
  (d.2, (idleBuffers c).foldl (fun m p => mwriteN m p.1 ((List.range p.2).map fun i => Config.undefinedByte d.1 (p.1 + i))) mem)

/-! ### The stop (R371, R372) -/

/-- A sequencer and its streams at a stop (R212, R371 steps 1 and 3). -/
def stopStation (s : Station) : Station :=
  let clear := fun (x : Stream) =>
    { Stream.reset with lastArm := x.lastArm, rowsDone := x.rowsDone, faultCause := x.faultCause, faultAddr := x.faultAddr }
  clearDfw { s with seq := { s.seq with state := .stopped, waitCause := 0, pendingStart := none, hold := .free },
                    streams := tmap clear s.streams }

/-- Every declared semaphore of a field poisoned with cause 4, then cleared to VALID = 0; POISON stays until a start or a reset (R233,
R371 step 4). -/
def stopSync (c : Core) (f : Nat) : Core :=
  let c := ((syncU c f).sems.filter fun p => p.2.valid).foldl (fun c p => poison c f p.1 4) c
  let invalid := fun (x : Sem) => { x with valid := false }
  setSync c f { syncU c f with sems := tmap invalid (syncU c f).sems, watches := [], waits := [], gates := [] }

/-- A fabric context at a stop (R293, R295): what was never sent goes; CLOSING while a packet sent is not acknowledged, else FREE; an
ABORTED one is FREE. -/
def stopCtx (t : Tab Ctx) : Tab Ctx :=
  t.filterMap fun p =>
    let sent := p.2.queue.filter fun q => q.sent
    if p.2.kind ≠ 0 ∨ p.2.state = 0 then some p
    else if p.2.state = 3 ∨ (sent.isEmpty ∧ p.2.store.isEmpty) then none
    else some (p.1, { p.2 with state := 2, abortCause := 4, queue := sent })

/-- Whether a committed step's APPLY passes are not complete (R371 step 7, R496). -/
def applyPending (c : Core) : Bool :=
  c.alm.applyStart || (decide (0 < obj c Key.commits) && decide (c.alm.applied < heldBlocks c))

/-- The record and the event of a fault stop (R372, R490). -/
def faultStopped (c : Core) : Core :=
  match c.alm.fault with
  | none => c
  | some q =>
    let c := raise (modAlm c fun a => { a with lastFault := q }) 0x0B01 .info mgmt 0 [q.1, q.2.1]
    { c with power := { c.power with faultN := c.power.housekeeping } }

/-- The Almanac stops, with a STOP_CAUSE (R371). -/
def almanacStop (c : Core) (cause : Nat) : Core :=
  let c := faultStopped c
  let state := if cause = 6 then 3 else if applyPending c then 4 else 0
  let c := discardDfw { c with st := tmap stopStation c.st, merge := [] }
  let c := (List.range 8).foldl stopSync c
  let c := (List.range 8).foldl (fun c f => setFld c f { fld c f with upd := { (fld c f).upd with queue := [] } }) c
  let c := noteCtxs { c with fab := { c.fab with ctxs := stopCtx c.fab.ctxs } }
  let c := { c with acc := { c.acc with entries := c.acc.entries.filter fun p => p.2.writer ≠ .start } }
  let c := setObjs c [(Key.commitState, state), (Key.almanacState, 6), (Key.stopCause, cause), (Key.holdLead, 0),
                      (Key.holdState, 0), (Key.loopLength, 0)]
  let c := modAlm c fun a => { a with stopAt := none, mismatch := false, fault := none, hold := HoldState.reset, segs := [], starts := [],
                                      detached := [], voted := false, decided := false, applyStart := false }
  raise c 0x0B02 .info mgmt 0 [cause]

/-! ### START (R367, R411 and the rules it runs) -/

/-- Whether what the image uses is gated (R411). -/
def startGated (c : Core) (im : Image) : Bool :=
  let words := placedWords im (im.prologue ++ im.cycle)
  im.code.any (fun r => stGated c r.station)
    || words.any (fun p => (opOf p.2 = some .upd && updGated c (p.1 / 24)) || (opOf p.2 = some .red && redGated c (p.1 / 24)))
    || obj c Key.gateHbm ≠ 2 ^ 32 - 1

/-- Whether a memory transfer outside HBM is open (R436). -/
def bulkOutside (c : Core) : Bool :=
  c.host.sessions.any fun x => x.2.bulk.any fun t =>
    decide (t.2.kind < 2) && !(inHbm (gaOff t.2.addr) && inHbm (gaOff t.2.addr + (t.2.length - 1)))

/-- Whether a pending APPLY stands against the start (R167, R500). -/
def pendingRefuses (c : Core) (im : Image) : Bool :=
  obj c Key.commitState = 4 &&
    (!pendingApply im || obj c Key.startStep ≠ (obj c Key.lastVoteStep + 1) % 2 ^ 32)

/-- The context that a binding slot names (R441). -/
def bindingOf (c : Core) (slot : Nat) : Nat := bits (obj c Key.slotBindings) (16 * slot) 16

/-- Whether every declared binding slot names an open host session (R441). -/
def bindingsOk (c : Core) (im : Image) : Bool :=
  (im.bindings ++ (im.sems.filter fun s => s.slot).map fun s => s.owner).all fun b => (sessionOf c (bindingOf c b)).isSome

/-- Whether a link of a primary route is UP, joins the declared modules and keeps its bound (R299). -/
def linkOk (c : Core) (l : LinkDecl) : Bool := (linkBound c l).any fun n => decide (n ≤ l.bound)

/-- The first link of a primary route that fails, as flow, route and link (R299). -/
def routeFault (c : Core) (im : Image) : Option (Nat × Nat × Nat) :=
  im.flows.findSome? fun f =>
    ((f.routes.headD []).zipIdx.find? fun l => !linkOk c l.1).map fun l => (f.num, 0, l.2)

/-- The access-section records with the entry each is written to: per target from entry 2 on (R190). -/
def startEntries (im : Image) : List (Nat × Nat) :=
  (List.range 155).flatMap fun t => (im.access.filter fun p => p.1 = t).zipIdx.map fun p => (t * 64 + 2 + p.2, p.1.2)

/-- Whether START would write over an entry of ACCESS_EDIT (R190). -/
def entryTaken (c : Core) (im : Image) : Bool :=
  (startEntries im).any fun e => ((tget c.acc.entries e.1).map fun x => x.writer) = some .edit

/-- The rules that refuse START, in order; the core holds what a refusal records. -/
def startRefusal (c : Core) (im : Image) : Core × Status :=
  let t := obj c Key.startTick
  let d := obj c Key.domainTick
  if almState c ≠ 2 ∧ almState c ≠ 6 then (c, .state)
  else if t < d + 2 * im.frameTicks ∨ d + 100000000 < t then (c, .range)
  else if startGated c im then (c, .state)
  else if !bit (obj c Key.tickSource) 15 then (c, .state)
  else if bulkOutside c then (c, .state)
  else if pendingRefuses c im then (c, .state)
  else if !bindingsOk c im then (c, .state)
  else if 4096 - usedCtxs c < im.flows.length then (addObj c Key.noctxCount 1, .noctx)
  else match routeFault c im with
    | some r => ({ c with fab := { c.fab with routeCheck := r } }, .state)
    | none => if entryTaken c im then (c, .state) else (c, .ok)

/-- A declared semaphore's record at START, its owner bound (R215, R216). -/
def startSem (c : Core) (d : SemDecl) : Sem :=
  { valid := true, poison := false, owner := if d.slot then 0x1000 + bindingOf c d.owner else d.owner, cap := d.cap,
    count := d.count, cause := 0, pframe := 0 }

/-- A field's sync unit, update engine and reduction engine at START (R215, R225, R239, R348, R499). -/
def startField (im : Image) (c : Core) (f : Nat) : Core :=
  let y := fld c f
  let sems := (im.sems.filter fun d => d.field = f).foldl (fun t d => tset t d.num (startSem c d)) []
  let res := ((im.watchRes.find? fun p => p.1 = f).map fun p => p.2).getD 0
  setFld c f { y with
    sync := { y.sync with sems := sems, watches := [], waits := [], watchRes := res, gates := [], ops := 0 },
    upd := { y.upd with queue := [] }, red := { queue := [], elements := 0, channels := [], status := [] } }

/-- The descriptor table of a station (R251). -/
def startDesc (im : Image) (g : Nat) : Tab Nat :=
  (im.desc.filter fun d => d.station = g).foldl (fun t d => tset t d.entry d.value) []

/-- A station at START (R67, R244, R246, R251, R256): sequencer registers cleared, descriptors written, plane tags and
audit numbers gone, no transfer of an earlier run outstanding. -/
def startStation (im : Image) (c : Core) (g : Nat) : Core :=
  let s := stn c g
  let untag := fun (p : Plane) => { p with tag := none }
  setStn c g { s with seq := { Seq.reset with state := .idle }, ba := [], bi := [], lc := [], vr := [], fq := [], watches := [],
                      desc := startDesc im g, openX := [], lostX := [], idleX := none,
                      arr := { s.arr with plane0 := untag s.arr.plane0, plane1 := untag s.arr.plane1, seqMma := 0, dfwMma := 0,
                                          audits := [] } }

/-- A scale entry at START (R65). -/
def startScale (d : ScaleDecl) : ScaleEntry :=
  { fmt := d.fmt, h := d.h, margin := d.margin, shared := d.shared, dbuf := d.dbuf, scaleA := d.init, scaleB := d.init,
    hist := [], ptr := 0, active := false, satCount := 0, pend := [], nan := [], satRaised := false, amax := none }

/-- A reference slot at START (R324). -/
def startSlot (d : RefSlotDecl) : RefSlot :=
  { eRef := d.eInit, eInit := d.eInit, h := d.hlen, ptr := 0, fixed := d.fixed, g := d.g, hist := [] }

/-- A declared flow takes the lowest FREE context (R291, R292); none to a module in conflict (R289). Which context the peer
gave the flow is open. -/
def startFlow (fu : Fuses) (c : Core) (f : FlowDecl) : Core :=
  match lowestFree c with
  | none => c
  | some i =>
    if inConflict fu c f.peer then c
    else
      let d := draw c
      setCtx d.2 i { Ctx.reset with state := 1, peerMod := f.peer, peerCtx := Config.freeNat d.1 % 4096,
                                    master := 0x8000 + f.peer, lastHeard := obj c Key.uptimeTicks, flow := f.num }

/-- The bytes the configuration digest covers (R358). -/
def configBytes (fu : Fuses) (c : Core) : Bytes :=
  let item := fun (key n v : Nat) => leBytes 2 (key / 256) ++ leBytes 1 (key % 256) ++ leBytes n v
  item Key.widthMode 1 (obj c Key.widthMode) ++ item Key.uniformWidth 2 (uniformWidth fu c)
    ++ item Key.jobSeed 8 (obj c Key.jobSeed) ++ item Key.startStep 4 (obj c Key.startStep)

/-- The objects START sets. -/
def startObjects (c : Core) (im : Image) : List (Nat × Nat) :=
  [(Key.frameCount, 0), (Key.commits, 0), (Key.stepNumber, obj c Key.startStep), (Key.consecAborts, 0), (Key.stopCause, 0),
   (Key.auditsRun, 0), (Key.commitState, if obj c Key.commitState = 4 then 4 else 1), (Key.loopLength, im.loop),
   (Key.holdLead, holdLead im.lMax), (Key.holdState, 0), (Key.vigilLogUsed, 0), (Key.scaleEntriesUsed, im.scales.length),
   (Key.almanacState, 3)]

/-- Every crossing is aligned again, those that had stopped too (R401). -/
def realign (c : Core) : Core :=
  let centre := fun (f : Field) => { f with gen := { f.gen with skew := [], occ := [] } }
  { c with clk := { c.clk with slips := [] }, fl := tmap centre c.fl }

/-- What an accepted START sets up (R67, R190, R215, R244, R251, R291, R324, R348, R358, R376, R490). -/
def startEffects (fu : Fuses) (c : Core) (im : Image) : Core :=
  let pending : Bool := obj c Key.commitState = 4
  let tick0 := obj c Key.startTick
  let dig := (c.alm.digests.1, c.alm.digests.2.1, shake 64 (configBytes fu c))
  let c := (List.range 8).foldl (startField im) (realign c)
  let c := (List.range 192).foldl (startStation im) c
  let sc := im.scales.foldl (fun t d => tset t d.entry (startScale d)) []
  let sl := im.refSlots.foldl (fun t d => tset t d.slot (startSlot d)) []
  let c := { c with scale := sc, scaleAt := sc, slots := sl, norm := [], vigil := Vigil.reset, merge := [],
                    net := c.net.filter fun m => match m with | .watch u _ _ => decide (0x1000 ≤ u ∧ u < 0x10000) | .reply _ _ => false }
  let c := noteCtxs (im.flows.foldl (startFlow fu) { c with fab := { c.fab with transit := [] } })
  let c := (startEntries im).foldl (fun c e =>
    { c with acc := { c.acc with entries := tset c.acc.entries e.1 { value := e.2, writer := .start } } }) c
  let c := newExecution (modAlm c fun a =>
    { a with digests := dig, zeroTick := tick0, stopAt := none, mismatch := false, fault := none, hold := HoldState.reset,
             segs := [], starts := [], decided := false, cycleCommitted := false, applyStart := pending, applied := 0, detached := [],
             voted := false, lost := [] })
  let c := setObjs c (startObjects c im)
  { c with power := { c.power with faultN := false } }

/-- The rule of START (R367). -/
def startRule : WriteRule := fun fu _ c =>
  match c.alm.image with
  | none => (c, .state)
  | some im =>
    let r := startRefusal c im
    if r.2 = .ok then (startEffects fu r.1 im, .ok) else r

/-- START (R367). -/
def execStart (h : Hdr) (s : State) : Out := writeItem Key.almanacCmd h startRule s

/-! ### STOP and UNLOAD (R370, R371) -/

/-- The boundary that ends the step cycle in progress, or the first one while the prologue runs. -/
def cycleEnd (im : Image) (f : Nat) : Nat :=
  let p := im.prologue.length
  let n := max 1 im.cycle.length
  if f < p then p + n else p + ((f - p) / n + 1) * n

/-- The rule of STOP (R370): the boundary at which the Almanac stops. -/
def stopRule : WriteRule := fun _ _ c =>
  match c.alm.image with
  | none => (c, .state)
  | some im =>
    let f := obj c Key.frameCount
    let v := obj c Key.stopAt
    if !running c then (c, .state)
    else if v = 0 then (modAlm c fun a => { a with stopAt := some (f + 1) }, .ok)
    else if v = 2 ^ 64 - 1 then (modAlm c fun a => { a with stopAt := some (cycleEnd im f) }, .ok)
    else if v < f then (c, .range)
    else (modAlm c fun a => { a with stopAt := some (v + 1) }, .ok)

/-- STOP (R370). -/
def execStop (h : Hdr) (s : State) : Out := writeItem Key.almanacCmd h stopRule s

/-- The rule of UNLOAD (R71, R371): no image is left, and no entry of its scale table. -/
def unloadRule : WriteRule := fun _ _ c =>
  if almState c ≠ 2 ∧ almState c ≠ 6 then (c, .state)
  else
    let keys := [Key.frameTicks, Key.multRange, Key.leapReserve, Key.imageProfile, Key.wcDelta, Key.auditK,
                 Key.retainedLayers, Key.maskBase, Key.scaleEntriesUsed]
    let c := keys.foldl (fun c k => setObj c k 0) c
    (setAlm (modAlm { c with scale := [], scaleAt := [] } fun a => { a with image := none, digests := ([], [], a.digests.2.2) }) 0, .ok)

/-- UNLOAD (R371). -/
def execUnload (h : Hdr) (s : State) : Out := writeItem Key.almanacCmd h unloadRule s

/-! ### Frame zero (R20, R367, R495) -/

/-- FRAME_ZERO: START_TICK is reached and frame 0 begins; not while the data path has no reference (R407). -/
def execFrameZero (s : State) : Out := onCore (fun c =>
  if almState c ≠ 3 ∨ c.clk.stopped then c
  else
    let c := newGrid (recentre (setAlm (reachTick c c.alm.zeroTick) 4))
    let c := { c with ev := { c.ev with interval := [] } }
    floodOn c (upPorts c) (.marker 0 false)) s

/-! ### RESOLVE (R166, R167) -/

/-- The rule of COMMIT written to RESOLVE: buffers and counts, no master, no signal. -/
def resolveCommitRule : WriteRule := fun _ _ c =>
  if obj c Key.commitState ≠ 3 then (c, .state)
  else
    let flip := fun (x : ScaleEntry) => { x with active := if x.dbuf then !x.active else x.active }
    let c := { c with scale := tmap flip c.scale }
    let c := setObj (addObj c Key.commits 1) Key.stepNumber ((obj c Key.stepNumber + 1) % 2 ^ 32)
    (setObj c Key.commitState 4, .ok)

/-- RESOLVE_COMMIT (R167). -/
def execResolveCommit (h : Hdr) (s : State) : Out := writeItem Key.resolve h resolveCommitRule s

/-- The rule of ABORT written to RESOLVE (R165). -/
def resolveAbortRule (mem : Memory) (c : Core) : Core × Memory × Status :=
  if obj c Key.commitState ≠ 3 then (c, mem, .state)
  else
    let w := idleLost mem c
    (setObj (abortStep w.1 (obj c Key.voteReason)) Key.commitState 0, w.2, .ok)

/-- RESOLVE_ABORT (R167). -/
def execResolveAbort (h : Hdr) (s : State) : Out :=
  writeItemM Key.resolve h (fun fu mem c => let r := resolveAbortRule mem c; (fu, r.1, r.2.1, r.2.2)) noMore s

end Sys2Proof.Machine
end

