-- ==== Sys2Proof/Machine/Audit.lean ====
section
/-! DEFINITION. The audit (R67 to R70). -/

namespace Sys2Proof.Machine

/-- y_ref and m of an element, as FP32 patterns, from BF16 operands in order of k (R69). -/
def auditSums (a w : List Nat) : Nat × Nat :=
  (a.zip w).foldl (fun r p =>
    let x := p.1 * 65536
    let y := p.2 * 65536
    (fp32.fma x y r.1, fp32.fma (x % 2 ^ 31) (y % 2 ^ 31) r.2)) (0, 0)

/-- |y − y_ref|, m and the ratio of an element, as FP32 patterns (R69). -/
def auditElem (a w : List Nat) (y : Nat) : Nat × Nat × Nat :=
  let r := auditSums a w
  let d := fp32.sub y r.1 % 2 ^ 31
  (d, r.2, fp32.div d r.2)

/-- Whether an element diverges (R69). -/
def diverges (t : Nat) (y : Nat) (e : Nat × Nat × Nat) : Bool :=
  if e.2.1 % 2 ^ 31 = 0 then y % 2 ^ 31 ≠ 0 else ((fp32.dec e.2.1).scale (-(t : Int))).lt (fp32.dec e.1)

/-- A ratio that is a number counts; 0 / 0 and the others do not. -/
def auditRatio (e : Nat × Nat × Nat) : Nat := if (fp32.dec e.2.2).isNan then 0 else e.2.2

/-- The worst element among some, as (row, column, ratio, diverges): of several with the largest ratio, which the spec does not tell
apart, the first by row and then by column (DESIGN CHOICE, log entry 104). -/
def worstOf (l : List (Nat × Nat × Nat × Bool)) : Option (Nat × Nat × Nat × Bool) :=
  match l with
  | [] => none
  | x :: r => some (r.foldl (fun a b => if a.2.2.1 < b.2.2.1 then b else a) x)

/-- The elements of a sampled MMA judged: row, column, ratio, whether it diverges. -/
def auditElems (t : Nat) (a w y : List (List Nat)) : List (Nat × Nat × Nat × Bool) :=
  y.zipIdx.flatMap fun r => r.1.zipIdx.map fun v =>
    let e := auditElem (a.getD r.2 []) (w.map fun x => x.getD v.2 0) v.1
    (r.2, v.2, auditRatio e, diverges t v.1 e)

/-- The number under which the array keeps a sample: a deferred-W MMA's has bit 63 set (R67). -/
def auditNumber (deferred : Bool) (n : Nat) : Nat := n % 2 ^ 63 + if deferred then 2 ^ 63 else 0

/-- AUDIT_CHECK (R69, R70): the results that the array kept of a sampled MMA, by its number in one of the two numberings of R67, are
compared with the placed recomputation from the BF16 copies of its operands; with AUDIT_ENABLE cleared the slot passes unused. How
row and column share their word of the event is open. -/
def execAuditCheck (g : Nat) (deferred : Bool) (n : Nat) (a w : List (List Nat)) (s : State) : Out := inRange g 192 <| onCore (fun c =>
  let n := auditNumber deferred n
  let y := tgetD (stn c g).arr.audits n []
  if !running c ∨ (tget (stn c g).arr.audits n).isNone then c
  else if obj c Key.auditEnable ≠ 1 then modArr c g fun x => { x with audits := tdel x.audits n }
  else
    let c := modArr c g fun x => { x with audits := tdel x.audits n }
    let es := auditElems (obj c Key.auditTol) a w y
    let c := addObj c Key.auditsRun 1
    let top := ((worstOf es).map fun e => e.2.2.1).getD 0
    let c := if obj c Key.auditWorst < top then setObj c Key.auditWorst top else c
    match worstOf (es.filter fun e => e.2.2.2) with
    | none => c
    | some e =>
      let place := leNat ((List.range 8).map (Config.layout 0x0902 [e.1, e.2.1]))
      raise c 0x0902 .report g 0 [g, n, place, e.2.2.1]) s

end Sys2Proof.Machine
end

