-- ==== Sys2Proof/Machine/Dictionary.lean ====
section
/-! DEFINITION. The dictionary service (R428 to R432): what every object shows, READ, and the WRITE of the objects that have no
row of their own. -/

namespace Sys2Proof.Machine

/-- The bytes of an object: how many, and each by its place. -/
structure Shown where
  len : Nat
  byte : Nat → Byte

/-- A byte of a number, the lowest first. -/
def byteAt (v i : Nat) : Byte := BitVec.ofNat 8 (v >>> (8 * i))
/-- The bytes of a list. -/
def shownList (l : Bytes) : Shown := { len := l.length, byte := fun i => l.getD i 0 }
/-- A number in so many bytes. -/
def shownNat (n v : Nat) : Shown := { len := n, byte := byteAt v }
/-- Words of 64 bits one after the other. -/
def shownWords (n : Nat) (f : Nat → Nat) : Shown := { len := 8 * n, byte := fun i => byteAt (f (i / 8)) (i % 8) }
/-- Values the manual gives no layout for, in a known number of bytes (log entry 28). -/
def shownFree (key n : Nat) (l : List Nat) : Shown := { len := n, byte := Config.layout key l }
/-- Values for which the manual gives neither layout nor length (log entry 28). -/
def shownOpen (key : Nat) (l : List Nat) : Shown := { len := Config.layoutLen key l, byte := Config.layout key l }
/-- A digest of 64 bytes, zero where there is none. -/
def shownDigest (d : Bytes) : Shown := shownList (if d.isEmpty then List.replicate 64 0 else d)

/-! ### The values of single objects -/

/-- The owner slot that is not revoked (R474). -/
def enrolled (fu : Fuses) : Option OwnerSlot := fu.slots.find? fun s => !s.revoked
/-- BOOT_EPOCH (R287). -/
def bootEpoch (c : Core) : Nat := Config.fresh c.boot.epochDraw % 2 ^ 64
/-- CLAIM_NONCE (R425). -/
def claimNonce (c : Core) : Nat := Config.fresh c.boot.nonceDraw % 2 ^ 128
/-- What the replay store holds, in KiB (R294, R316): a part of a KiB counts as one (log entry 105). -/
def replayKib (c : Core) : Nat := ((c.fab.ctxs.map fun p => storedBytes p.2).sum + 1023) / 1024

/-- The objects computed from the fuses and the state; none where the value is the one stored. -/
def computed (fu : Fuses) (c : Core) (ctx key : Nat) : Option Nat :=
  match key with
  | 0x010005 => some fu.stepping
  | 0x010006 => some fu.romVersion
  | 0x01000A => some (fu.oui % 2 ^ 24)
  | 0x020001 => some fu.lc
  | 0x020005 => some (((enrolled fu).map fun s => s.policy).getD 0)
  | 0x020006 => some fu.slots.length
  | 0x020102 => some (b2n (((sessionOf c ctx).bind fun x => x.report).any fun r => r.ready))
  | 0x020204 => some fu.minVersion
  | 0x020206 => some ((fu.revokedKeys.map fun k => fieldAt k 1).sum)
  | 0x050004 => some c.host.sessions.length
  | 0x050104 => some (fu.macs.getD 0 0)
  | 0x050204 => some (fu.macs.getD 1 0)
  | 0x050304 => some (fu.macs.getD 2 0)
  | 0x06000A => some (bootEpoch c)
  | 0x080102 => some (uniformWidth fu c)
  | 0x080103 => some fu.minWidth
  | 0x0A0007 => some c.fab.proxies.length
  | 0x0A0106 => some (replayKib c)
  | 0x0B000E => some fu.stepping
  | _ => none

/-- The counters of products are shown in units of 2^16 (R106). -/
def inUnits (key : Nat) : Bool := key = Key.productsGated || key = Key.productsTotal

/-- The value of an object that is a number. -/
def objNat (fu : Fuses) (c : Core) (ctx key : Nat) : Nat :=
  match computed fu c ctx key with
  | some v => v
  | none => if inUnits key then obj c key / 2 ^ 16 else obj c key

/-! ### Objects of several values -/

/-- A scale-table entry as a 128-bit word (R60). -/
def scaleWord (x : ScaleEntry) : Nat :=
  fieldAt 96 ((x.pend.map fun p => p.2).foldl max 0) + fieldAt 64 x.satCount + fieldAt 56 (unsigned 8 x.scaleA)
    + fieldAt 48 (unsigned 8 x.scaleB) + fieldAt 35 (x.h - 1) + fieldAt 30 x.ptr + fieldAt 28 x.margin + fieldAt 24 x.fmt
    + fieldAt 23 (b2n x.shared) + fieldAt 22 (b2n x.dbuf) + fieldAt 21 (b2n x.active)
    + fieldAt 20 (b2n (x.nan.any fun p => p.2)) + fieldAt 19 1

/-- The scale table and its histories (R60, R71): during a run, as of the last commit. -/
def shownScale (c : Core) : Shown :=
  let t := if running c then c.scaleAt else c.scale
  { len := 655360
    byte := fun i =>
      if i < 131072 then
        match tget t (i / 16) with
        | some x => byteAt (scaleWord x) (i % 16)
        | none => 0
      else
        match tget t ((i - 131072) / 64) with
        | some x => byteAt (tgetD x.hist ((i - 131072) % 64 / 2) 0) (i % 2)
        | none => 0 }

/-- A reference slot as a 256-bit word (R324); one that no image declares is zero. -/
def slotWord (x : RefSlot) : Nat :=
  unsigned 16 x.eRef + fieldAt 16 (unsigned 16 x.eInit) + fieldAt 32 (x.h - 1) + fieldAt 35 x.ptr + fieldAt 38 (b2n x.fixed)
    + fieldAt 39 x.g + (((List.range 8).map fun i => fieldAt (64 + 16 * i) (eObsCode (tget x.hist i))).sum)

/-- An optimizer group as the first 35 bytes of its record (R170). -/
def groupBytes (g : OptGroup) : Bytes :=
  [g.beta1, g.beta2, g.eps, g.lambda, g.gradMult, g.clipMax, fp32.sub fp32.one g.beta1, fp32.sub fp32.one g.beta2].flatMap
    (leBytes 4) ++ leBytes 1 g.decay ++ leBytes 1 (b2n g.bias) ++ leBytes 1 g.sched

/-- The optimizer groups (R170). -/
def shownGroups (c : Core) : Shown :=
  { len := 4096
    byte := fun i =>
      match (c.alm.image.bind fun im => im.groups.find? fun g => g.num = i / 64) with
      | some g => (groupBytes g).getD (i % 64) 0
      | none => 0 }

/-- The learning-rate schedules (R170); what stands past a schedule's points is open (log entry 28). -/
def shownScheds (c : Core) : Shown :=
  { len := 8192
    byte := fun i =>
      match (c.alm.image.bind fun im => im.scheds.find? fun s => s.num = i / 512).bind fun s => s.points[i % 512 / 8]? with
      | some p => byteAt (p.1 + fieldAt 32 p.2) (i % 8)
      | none => Config.layout Key.lrSchedules [i / 512, i % 512 / 8] (i % 8) }

/-- The presented width in force of a station (R104, R105). -/
def widthInForce (fu : Fuses) (c : Core) (g : Nat) : Nat :=
  if obj c Key.widthMode = 1 then uniformWidth fu c else partWidth fu g

/-- Whether a stack's sensor is at or above its throttle threshold (R456). -/
def stackAlarm (c : Core) (k : Nat) : Bool := bit (obj c Key.throttling) (8 + k)

/-- The event codes of the catalogue in order (R448). -/
def eventCodes : List Nat :=
  [0x0201, 0x0202, 0x0203, 0x0301, 0x0302, 0x0303, 0x0304, 0x0401, 0x0402, 0x0403, 0x0404, 0x0405, 0x0501, 0x0502, 0x0503,
   0x0504, 0x0601, 0x0602, 0x0603, 0x0604, 0x0605, 0x0606, 0x0607, 0x0608, 0x0609, 0x0610, 0x0611, 0x0612, 0x0613, 0x0614,
   0x0701, 0x0702, 0x0703, 0x0704, 0x0705, 0x0706, 0x0801, 0x0802, 0x0803, 0x0804, 0x0805, 0x0806, 0x0807, 0x0808, 0x0809,
   0x0901, 0x0902, 0x0A01, 0x0A02, 0x0B01, 0x0B02, 0x0D01, 0x0D02]

/-- The event log, oldest first (R447, R449). -/
def shownLog (c : Core) : Shown :=
  let l := c.ev.recs.reverse
  { len := 262144
    byte := fun i =>
      match l[i / 64]? with
      | some r => (evBytes r).getD (i % 64) 0
      | none => 0 }

/-- A port's IPv6 addresses (R417): link-local from the MAC address, then the global one with the same interface part. -/
def ipv6Bytes (fu : Fuses) (c : Core) (p : Nat) : Bytes :=
  let m := (leBytes 6 (fu.macs.getD p 0)).reverse
  let iid := [m.getD 0 0 ^^^ 2, m.getD 1 0, m.getD 2 0, 0xFF, 0xFE, m.getD 3 0, m.getD 4 0, m.getD 5 0]
  let e := tgetD c.host.eth p EthPort.reset
  [0xFE, 0x80, 0, 0, 0, 0, 0, 0] ++ iid ++ (match e.pfx with | some x => (leBytes 8 x).reverse ++ iid | none => [])

/-- The watches a session has registered (R437, R445). -/
def sessionWatches (c : Core) (ctx : Nat) : Nat :=
  ((List.range 8).map fun f => ((syncU c f).watches.filter fun w => w.2.dest = sessionMaster ctx).length).sum

/-- What SESSION_TABLE shows of a session (R445). -/
def sessionRow (c : Core) (ctx : Nat) (x : Session) : List Nat :=
  [ctx, x.source, x.port, x.bulk.length, sessionWatches c ctx, x.notes.length, x.missed]

/-- A session's row of 32 bytes, without a given layout. -/
def shownSessions (c : Core) : Shown :=
  { len := 32 * c.host.sessions.length
    byte := fun i =>
      match c.host.sessions[i / 32]? with
      | some p => Config.layout Key.sessionTable (sessionRow c p.1 p.2) (i % 32)
      | none => 0 }

/-- The numbers of the shard map (R170). -/
def shardNumbers (im : Image) : List Nat :=
  im.shards.flatMap fun s =>
    [s.stage, s.start, s.blocks, s.master, s.moment1, s.moment2, s.grad0, s.grad1, b2n s.mine, b2n s.primary]
      ++ s.holders.flatMap fun h => [h.1, h.2.1, b2n h.2.2]

/-- The bytes of an object of type DOMAIN or STR. -/
def objBytes (fu : Fuses) (c : Core) (ctx key : Nat) : Shown :=
  match key with
  | 0x010001 => shownList ("Eonel Semiconductor".toList.map fun x => BitVec.ofNat 8 x.toNat)
  | 0x010002 => shownList ("Kazek T8".toList.map fun x => BitVec.ofNat 8 x.toNat)
  | 0x010003 => shownList ("KZT8-1536".toList.map fun x => BitVec.ofNat 8 x.toNat)
  | 0x010004 => shownList fu.serial
  | 0x010008 => shownList fu.identityKey
  | 0x010009 => shownList (shake 64 fu.identityKey)
  | 0x020003 => shownNat 72 (obj c key)
  | 0x020004 => shownDigest (((enrolled fu).map fun s => s.digest).getD [])
  | 0x02000A => shownList fu.cert
  | 0x020103 => shownList ((((sessionOf c ctx).bind fun x => x.report).map fun r => r.report).getD [])
  | 0x020202 => shownNat 64 (obj c key)
  | 0x030107 => { len := 164, byte := fun i => byteAt (unsigned 32 (c.power.temps.getD (i / 4) 0)) (i % 4) }
  | 0x040009 => shownList (match c.clk.queued with
      | some q => leBytes 1 1 ++ leBytes 1 q.mult ++ leBytes 8 q.frame ++ leBytes 1 q.origin
      | none => List.replicate 11 0)
  | 0x04000C => { len := 16, byte := fun i => byteAt (fld c (i / 2)).gen.lastFrame (i % 2) }
  | 0x040012 => shownNat 24 (obj c key)
  | 0x050003 => shownNat 16 (claimNonce c)
  | 0x050006 => shownSessions c
  | 0x05000A => shownNat 512 (obj c key)
  | 0x060007 => { len := 16, byte := fun i => BitVec.ofNat 8 (pstate c i + fieldAt 3 (b2n (joined c i))) }
  | 0x060008 =>
    { len := 128
      byte := fun i =>
        let x := portOf c (i / 8)
        Config.layout key [x.peerMod, b2n x.peerValid, x.peerPort, x.latency] (i % 8) }
  | 0x060009 => shownOpen key (c.fab.topo.flatMap fun t =>
      [t.1, t.2.digest, t.2.epoch, t.2.distance] ++ t.2.links.flatMap (fun l => [l.1, l.2.1, l.2.2]) ++ c.fab.strays.flatMap fun t =>
      [t.2.1, t.1, t.2.2.epoch, t.2.2.distance] ++ t.2.2.links.flatMap fun l => [l.1, l.2.1, l.2.2])
  | 0x06000D => shownOpen key [c.fab.routeCheck.1, c.fab.routeCheck.2.1, c.fab.routeCheck.2.2]
  | 0x061005 => { len := 131072, byte := fun i => match tget c.slots (i / 32) with
      | some x => byteAt (slotWord x) (i % 32)
      | none => 0 }
  | 0x061006 => shownList c.alm.lastRed
  | 0x061102 => shownWords 256 fun i => tgetD c.alm.detached i 0
  | 0x070004 => { len := 32, byte := fun i => BitVec.ofNat 8 (b2n (c.boot.trained.contains i) + 2 * b2n (stackAlarm c i)) }
  | 0x070201 => shownWords 19840 fun i => accWord c (i / 128) (i % 128 * 8)
  | 0x070203 => match c.acc.lastRefusal with
    | some (m, t, r, off) => shownWords 2 fun i => if i = 0 then m + fieldAt 16 t + fieldAt 32 r else off
    | none => shownWords 2 fun _ => 0
  | 0x070306 => { len := 3072, byte := fun i =>
      let x := strm (stn c (i / 16)) (i % 16)
      BitVec.ofNat 8 (x.state + fieldAt 2 (b2n x.pending.isSome)) }
  | 0x080104 => { len := 192, byte := fun i =>
      let w := widthInForce fu c i
      if w < 256 then BitVec.ofNat 8 w else Config.layout key [w] i }
  | 0x080105 =>
    let columns := fun (g : Nat) => ((fu.bypass.getD g []).map fun n => fieldAt n 1).sum
    { len := 6144, byte := fun i => byteAt (columns (i / 32)) (i % 32) }
  | 0x080404 => shownGroups c
  | 0x080405 => shownScheds c
  | 0x080406 => shownOpen key ((c.alm.image.map shardNumbers).getD [])
  | 0x080603 => { len := 192, byte := fun i => BitVec.ofNat 8 ((stn c i).seq.state.code + fieldAt 3 (stn c i).seq.waitCause) }
  | 0x080609 => shownFree key 8 [c.alm.stationFault.1, c.alm.stationFault.2.1, c.alm.stationFault.2.2]
  | 0x090301 => shownScale c
  | 0x0A0005 => { len := 16, byte := fun i => byteAt (syncU c (i / 2)).watches.length (i % 2) }
  | 0x0A0008 => shownWords 32768 fun i => (syncWord (syncU c (i / 4096)) (i % 4096 * 8)).getD 0
  | 0x0A0009 => shownWords 4 fun i =>
      let f := obj c key
      if i = 0 then f else (syncWord (syncU c f) (0xC008 + 8 * i)).getD 0
  | 0x0A0104 => shownWords 32768 fun i => ctxWord (ctxShown c (i / 8)) (i % 8 * 8)
  | 0x0A0107 => shownFree key 16 [c.fab.lastLost.1, c.fab.lastLost.2.1, c.fab.lastLost.2.2.1, c.fab.lastLost.2.2.2]
  | 0x0B0004 => shownFree key 32 c.alm.checkReport
  | 0x0B000F => shownDigest c.alm.digests.1
  | 0x0B0010 => shownDigest c.alm.digests.2.1
  | 0x0B0011 => shownDigest c.alm.digests.2.2
  | 0x0B0013 => shownFree key 16 [c.alm.lastFault.1, c.alm.lastFault.2.1, c.alm.lastFault.2.2]
  | 0x0C0001 => shownLog c
  | 0x0C0005 => shownWords eventCodes.length fun i =>
      eventCodes.getD i 0 + fieldAt 32 (tgetD c.ev.counts (eventCodes.getD i 0) 0)
  | 0x0D0002 => shownWords 6 fun i => tgetD c.vigil.counts (i + 1) 0
  | 0x0D0003 => { len := 32 * c.vigil.log.length, byte := fun i => Config.layout key (c.vigil.log.getD (i / 32) []) (i % 32) }
  | _ =>
    if key % 256 = 5 then shownList (ipv6Bytes fu c (key / 256 - 0x0501))
    else if key % 256 = 7 then shownNat 12 (obj c key)
    else
      match (tgetD c.host.eth (key / 256 - 0x0501) EthPort.reset).peer with
      | some p => shownList (p.1 ++ p.2.1)
      | none => shownList []

/-! ### READ (R428 to R431) -/

/-- One READ item carried out: the core, the status and the bytes returned. -/
def readValue (fu : Fuses) (c : Core) (ctx key offset : Nat) (o : Obj) : Core × Status × Bytes :=
  if key = Key.attestReport ∧ !(((sessionOf c ctx).bind fun x => x.report).any fun r => r.ready) then (c, .state, [])
  else if o.ty = 9 then
    let b := objBytes fu c ctx key
    let n := min 1024 (b.len - offset)
    let bs := (List.range n).map fun i => b.byte (offset + i)
    let whole := fun (i : Nat) => decide (offset ≤ 64 * i ∧ 64 * i + 64 ≤ offset + n)
    let total := c.ev.recs.length
    let recs := c.ev.recs.zipIdx.map fun r => if whole (total - 1 - r.2) then { r.1 with read := true } else r.1
    let c := if key = Key.eventLog then { c with ev := { c.ev with recs := recs } } else c
    (c, .ok, bs)
  else if o.ty = 8 then
    let b := objBytes fu c ctx key
    (c, .ok, (List.range b.len).map b.byte)
  else
    let v := objNat fu c ctx key % 2 ^ (8 * o.size)
    let c' := if o.acc = .rc then setObj c key (if inUnits key then obj c key - v * 2 ^ 16 else 0)
      else c
    (c', .ok, leBytes o.size v)

/-- A response item: head and padded value (R428). -/
def readAnswer (key : Nat) (st : Status) (ty : Nat) (bs : Bytes) : Bytes :=
  itemHead key st ty bs.length ++ bs ++ List.replicate ((8 - bs.length % 8) % 8) 0

/-- Subindex 0 of an index (R431): the highest subindex. -/
def readMaxSub (c : Core) (ctx index : Nat) : Core × Bytes :=
  let key := index * 256
  match objMaxSub index with
  | none => (errStatus c .range, readAnswer key .range 0 [])
  | some n =>
    if c.boot.rom && !romIndex index then (errStatus c .state, readAnswer key .state 2 [])
    else if !tablePermits c.acc 138 (sessionMaster ctx) key .r then
      (refuse c (sessionMaster ctx) 138 key .r, readAnswer key .access 2 [])
    else (c, readAnswer key .ok 2 (leBytes 1 n))

/-- One item of a READ (R428 to R431). -/
def readItem (fu : Fuses) (ctx : Nat) (r : Core × Bytes) (i : ReadItem) : Core × Bytes :=
  let key := i.index * 256 + i.sub
  if i.sub = 0 then
    let x := readMaxSub r.1 ctx i.index
    (x.1, r.2 ++ x.2)
  else
    let g := dictGate r.1 ctx key .r
    match objFind key with
    | none => (errStatus r.1 .range, r.2 ++ readAnswer key .range 0 [])
    | some o =>
      if g = .ok then
        let v := readValue fu r.1 ctx key i.offset o
        (errStatus v.1 v.2.1, r.2 ++ readAnswer key v.2.1 o.ty v.2.2)
      else (dictDeny r.1 ctx key .r g, r.2 ++ readAnswer key g o.ty [])

/-- READ (R428): the items in order, each on its own. -/
def execReadDict (h : Hdr) (items : List ReadItem) (s : State) : Out := handle 0x20 h (fun fu mem c =>
  if items.length = 0 ∨ 64 < items.length ∨ items.any (fun i => decide (65536 ≤ i.index) || decide (256 ≤ i.sub)) then
    answer fu mem c .range
  else
    let r := items.foldl (readItem fu h.ctx) (c, [])
    { fu := fu, c := r.1, mem := mem, st := .ok, hdr := .ok, payload := r.2 }) noMore s

/-! ### WRITE (R428 to R432) -/

/-- The objects whose write is a row of its own: such a write is that row's command, not WRITE. -/
def ownRow : List Nat :=
  [Key.resolve, Key.hbmGranule, Key.accessEdit, Key.moduleId, Key.moduleIdValid, Key.portJoin, Key.portEnable,
   Key.installationId, Key.almanacCmd, Key.vigilEnable, Key.refSelect, Key.opChange, Key.gateStations, Key.gateEngines,
   Key.gateHbm, Key.gateHostports, Key.port 0 1, Key.port 1 1, Key.port 0 8, Key.port 1 8, Key.port 2 8, Key.lcCommand,
   Key.attestNonce, Key.fwRaiseMin, Key.eonelRevoke]

/-- Whether a value lies in an object's range (R71, R105, R315, R380, R402, R417, R427, R430, R479). -/
def inObjRange (fu : Fuses) (key v : Nat) : Bool :=
  if objType key = 1 then decide (v < 2)
  else if key = Key.auditTol then decide (1 ≤ v ∧ v ≤ 10)
  else if key = Key.widthMode then decide (v < 2)
  else if key = Key.uniformWidth then decide (252 ≤ v ∧ v ≤ fu.minWidth)
  else if key = Key.partnerTimeout then decide (20000 ≤ v ∧ v ≤ 100000000)
  else if key = Key.monitorMode then decide (v < 3)
  else if key = Key.sessionTimeout then decide (1000 ≤ v ∧ v ≤ 600000)
  else if key = Key.powerCap then v % 25 = 0 && decide (1500 ≤ v ∧ v ≤ 4500)
  else if key = Key.coolantType then decide (v < 2)
  else if key = Key.nextOwner then decide (v < 2 ^ 520)
  else if key = Key.port 0 6 ∨ key = Key.port 1 6 ∨ key = Key.port 2 6 then decide (v < 3)
  else true

/-- Whether an object may be written in the present state (R71, R105, R315, R359, R380, R402, R441). -/
def writableNow (c : Core) (key : Nat) : Bool :=
  if key = Key.jobSeed ∨ key = Key.startStep ∨ key = Key.monitorMode ∨ key = Key.slotBindings then !running c
  else if key = Key.widthMode ∨ key = Key.uniformWidth ∨ key = Key.partnerTimeout then !loaded c
  else if key = Key.startTick then almState c = 2 || almState c = 6
  else if key = Key.requireSigned then emptyOrStopped c
  else true

/-- The rule of a write of an object without a row of its own: RANGE, then STATE, else the value is stored. -/
def plainWrite (fu : Fuses) (c : Core) (key : Nat) (i : WriteItem) (o : Obj) : Core × Status :=
  if ownRow.contains key then (c, .range)
  else if i.typ ≠ o.ty ∨ i.value.length ≠ o.size ∨ !inObjRange fu key (leNat i.value) then (c, .range)
  else if !writableNow c key then (c, .state)
  else (setObj c key (leNat i.value), .ok)

/-- One item of a WRITE. -/
def writeOne (fu : Fuses) (ctx : Nat) (r : Core × Bytes) (i : WriteItem) : Core × Bytes :=
  let key := i.index * 256 + i.sub
  let g := if i.sub = 0 ∧ (objMaxSub i.index).isSome then
      (if r.1.boot.rom && !romIndex i.index then Status.state else .access)
    else dictGate r.1 ctx key .w
  match objFind key with
  | none => (errStatus r.1 g, r.2 ++ itemHead key g (if i.sub = 0 then 2 else 0) 0)
  | some o =>
    if g = .ok then
      let v := plainWrite fu r.1 key i o
      (errStatus v.1 v.2, r.2 ++ itemHead key v.2 o.ty 0)
    else (dictDeny r.1 ctx key .w g, r.2 ++ itemHead key g o.ty 0)

/-- WRITE (R428, R429): the items in order, each on its own. -/
def execWriteDict (h : Hdr) (items : List WriteItem) (s : State) : Out := handle 0x21 h (fun fu mem c =>
  if items.length = 0 ∨ 64 < items.length ∨ items.any (fun i => decide (65536 ≤ i.index) || decide (256 ≤ i.sub)) then
    answer fu mem c .range
  else
    let r := items.foldl (writeOne fu h.ctx) (c, [])
    { fu := fu, c := r.1, mem := mem, st := .ok, hdr := .ok, payload := r.2 }) noMore s

/-! ### ACCESS_EDIT (R191) and HBM_GRANULE (R181) -/

/-- Whether the reserved bits of an access-table entry are zero (R186). -/
def accReservedZero (v : Nat) : Bool := bits v 120 4 = 0 && bits v 80 8 = 0 && bits v 0 8 = 0

/-- The rule of ACCESS_EDIT, with the operation the command stands for (R191). -/
def accessEditRule (op : Nat) (data : Bytes) (c : Core) : Core × Status :=
  let v := leNat data
  let t := bits v 0 16
  let e := bits v 16 8
  let k := t * 64 + e
  if data.length ≠ 24 ∨ 155 ≤ t ∨ 64 ≤ e ∨ bits v 24 8 ≠ op ∨ bits v 32 32 ≠ 0 ∨ !accReservedZero (bits v 64 128) then (c, .range)
  else if e < 2 ∨ ((tget c.acc.entries k).map fun x => x.writer) = some .start then (c, .state)
  else if op = 0 then
    ({ c with acc := { c.acc with entries := tset c.acc.entries k { value := bits v 64 128, writer := .edit } } }, .ok)
  else ({ c with acc := { c.acc with entries := tdel c.acc.entries k } }, .ok)

/-- ACCESS_EDIT_WRITE (R191). -/
def execAccessEditWrite (h : Hdr) (data : Bytes) (s : State) : Out := writeItem Key.accessEdit h (fun _ _ c =>
  accessEditRule 0 data c) s

/-- ACCESS_EDIT_CLEAR (R191). -/
def execAccessEditClear (h : Hdr) (data : Bytes) (s : State) : Out := writeItem Key.accessEdit h (fun _ _ c =>
  accessEditRule 1 data c) s

/-- HBM_GRANULE (R181): the exponent is set and the wipe of all HBM starts, with cause code 0x10 (R461). -/
def execHbmGranule (h : Hdr) (v : Nat) (s : State) : Out := writeItem Key.hbmGranule h (fun _ _ c =>
  if v < 8 ∨ 16 < v then (c, .range)
  else if loaded c then (c, .state)
  else ({ setObj (setObj c Key.hbmGranule v) Key.hbmWiping 1 with boot := { c.boot with hbmWipe := some 0x10 } }, .ok)) s

end Sys2Proof.Machine
end

