-- ==== Sys2Proof/Machine/Hostnet.lean ====
section
/-! DEFINITION. The Ethernet ports and discovery (R414 to R418, R440, R445): links, LLDP, neighbour protocols, fragments, ANNOUNCE. -/

namespace Sys2Proof.Machine

/-- A command of an Ethernet port. -/
def onEth (p : Nat) (f : Fuses → Core → Core) (s : State) : Out := inRange p 3 <| onFuse (fun fu _ c => f fu c) s

/-- Whether a port has a link (R445). -/
def linked (c : Core) (p : Nat) : Bool := obj c (Key.port p 2) = 1
/-- A port's record. -/
def ethOf (c : Core) (p : Nat) : EthPort := tgetD c.host.eth p EthPort.reset
/-- A port's record replaced. -/
def setEth (c : Core) (p : Nat) (x : EthPort) : Core := { c with host := { c.host with eth := tset c.host.eth p x } }

/-! ### Links (R415, R416) -/

/-- HOSTPORT_DOWN (R416): a port that had a link loses it. -/
def execHostportDown (p : Nat) (s : State) : Out := onEth p (fun _ c => hostDown c p) s

/-- Whether a port may run at a speed in Gb/s: by SPEED_ALLOWED, the port's standard and its gating (R409, R414, R415). -/
def speedOk (c : Core) (p speed : Nat) : Bool :=
  let a := obj c (Key.port p 1)
  if p = 2 then speed = 1
  else bit (obj c Key.gateHostports) p && ((speed = 100 && bit a 0) || (speed = 200 && bit a 1) || (speed = 400 && bit a 2))

/-- HOSTPORT_LINK_UP (R415, R416): the link is up at a permitted speed; a link at another speed is lost first. -/
def execHostportLinkUp (p speed : Nat) (s : State) : Out := onEth p (fun _ c =>
  if !speedOk c p speed then c
  else
    let c := if linked c p && obj c (Key.port p 3) ≠ speed then hostDown c p else c
    setObj (setObj c (Key.port p 2) 1) (Key.port p 3) speed) s

/-! ### LLDP (R418; log entry 30) -/

/-- A TLV of IEEE 802.1AB: type and length in 16 bits, the value. -/
def tlv (typ : Nat) (v : Bytes) : Bytes := (leBytes 2 (typ * 512 + v.length)).reverse ++ v

/-- The characters of a text. -/
def chars (t : String) : Bytes := t.toList.map fun x => BitVec.ofNat 8 x.toNat

/-- A port's MAC address, first octet first. -/
def macBytes (fu : Fuses) (p : Nat) : Bytes := (leBytes 6 (fu.macs.getD p 0)).reverse

/-- The stepping in words. -/
def steppingName (fu : Fuses) : String := if fu.stepping = 0xB0 then " B0" else " A0"

/-- The LLDPDU of a port (R418). -/
def lldpdu (fu : Fuses) (c : Core) (p : Nat) : Bytes :=
  let name := if p = 0 then "host0" else if p = 1 then "host1" else "mgmt"
  let own := (shake 64 fu.identityKey).take 16 ++ leBytes 1 fu.lc ++ leBytes 1 (obj c Key.claimed)
    ++ (leBytes 2 50471).reverse
  tlv 1 (leBytes 1 4 ++ macBytes fu 0) ++ tlv 2 (leBytes 1 5 ++ chars name) ++ tlv 3 (leBytes 2 120).reverse
    ++ tlv 5 fu.serial ++ tlv 6 (chars "Eonel Kazek T8 KZT8-1536" ++ chars (steppingName fu))
    ++ tlv 8 (leBytes 1 17 ++ leBytes 1 2 ++ (ipv6Bytes fu c p).take 16 ++ leBytes 1 1 ++ leBytes 4 0 ++ leBytes 1 0)
    ++ tlv 127 ((leBytes 3 fu.oui).reverse ++ leBytes 1 1 ++ own) ++ tlv 0 []

/-- LLDPDU_SEND (R418). -/
def execLldpduSend (p : Nat) (s : State) : Out := onEth p (fun fu c =>
  if linked c p then send c (.lldp p (lldpdu fu c p)) else c) s

/-- LLDPDU_RECEIVE (R418): the last Chassis ID and Port ID are kept. -/
def execLldpduReceive (p : Nat) (chassis portId : Bytes) (ttl : Nat) (s : State) : Out := onEth p (fun _ c =>
  setEth (countRx c p) p { ethOf c p with peer := some (chassis, portId, ttl) }) s

/-- LLDP_PEER_EXPIRY (R418). -/
def execLldpPeerExpiry (p : Nat) (s : State) : Out := onEth p (fun _ c => setEth c p { ethOf c p with peer := none }) s

/-! ### Neighbour protocols and fragments (R415, R417) -/

/-- A port's IPv4 address, if it has one (R417): by DHCP or static. -/
def ip4Of (c : Core) (p : Nat) : Option Nat :=
  let mode := obj c (Key.port p 6)
  if mode = 1 then (if (ethOf c p).ip4 = 0 then none else some (ethOf c p).ip4)
  else if mode = 2 then some (leNat (leBytes 4 (obj c (Key.port p 7))).reverse)
  else none

/-- ARP (R417): a request for the port's address is answered. -/
def execArp (p ip : Nat) (s : State) : Out := onEth p (fun _ c =>
  let c := countRx c p
  if ip4Of c p = some ip then send c (.arp p ip) else c) s

/-- NEIGHBOUR_DISCOVERY (R417): a solicitation is answered; an advertised prefix forms the global address. -/
def execNeighbourDiscovery (p : Nat) (pfx : Option Nat) (s : State) : Out := onEth p (fun _ c =>
  let c := countRx c p
  match pfx with
  | some x => setEth c p { ethOf c p with pfx := some x }
  | none => send c (.nd p (ethOf c p).pfx)) s

/-- ICMP_ECHO (R417). -/
def execIcmpEcho (p : Nat) (data : Bytes) (s : State) : Out := onEth p (fun _ c => send (countRx c p) (.echo p data)) s

/-- DHCP (R417): with IPV4_MODE 1 the port takes the address assigned. -/
def execDhcp (p ip : Nat) (s : State) : Out := onEth p (fun _ c =>
  let c := countRx c p
  if obj c (Key.port p 6) = 1 then send (setEth c p { ethOf c p with ip4 := ip }) (.dhcp p ip) else c) s

/-- DISCARDED_FRAME (R415, R417, R445): how many uncorrectable codewords a host port met with it is open (log entry 29). -/
def execDiscardedFrame (p : Nat) (s : State) : Out := onEth p (fun _ c =>
  let c := countDiscarded (countRx c p) p
  if p = 2 then c
  else
    let d := draw c
    addObj d.2 (Key.port p 12) (Config.freeNat d.1)) s

/-- IP_FRAGMENT (R417): held for reassembly; more than 16,384 bytes are discarded; the frame that completes a datagram is
counted with the message it completes. -/
def execIpFragment (p id size : Nat) (complete : Bool) (s : State) : Out := onEth p (fun _ c =>
  let e := ethOf c p
  let total := tgetD e.frags id 0 + size
  if 16384 < total then countDiscarded (countRx (setEth c p { e with frags := tdel e.frags id }) p) p
  else if complete then setEth c p { e with frags := tdel e.frags id }
  else countRx (setEth c p { e with frags := tset e.frags id total }) p) s

/-- FRAGMENT_TIMEOUT (R417): an incomplete set is discarded and counted. -/
def execFragmentTimeout (p id : Nat) (s : State) : Out := onEth p (fun _ c =>
  let e := ethOf c p
  if (tget e.frags id).isSome then countDiscarded (setEth c p { e with frags := tdel e.frags id }) p else c) s

/-! ### Discovery (R440) -/

/-- The payload of ANNOUNCE (R440; three zero bytes follow ALMANAC_STATE, as the offsets have it: log entry 31). -/
def announceBody (fu : Fuses) (c : Core) : Bytes :=
  let head := fu.serial ++ leBytes 1 fu.stepping ++ leBytes 1 fu.lc ++ leBytes 1 (b2n !c.boot.rom)
    ++ leBytes 1 (obj c Key.claimed) ++ leBytes 1 (almState c) ++ leBytes 3 0
    ++ leBytes 2 (ownMod c + (if obj c Key.moduleIdValid = 1 then 0x8000 else 0)) ++ leBytes 2 0
    ++ leBytes 2 c.host.sessions.length ++ leBytes 2 (obj c Key.ctxUsed) ++ leBytes 8 (obj c Key.installationId)
    ++ leBytes 8 (bootEpoch c) ++ leBytes 16 (claimNonce c)
    ++ (((enrolled fu).map fun s => s.digest).getD (List.replicate 64 0)) ++ fu.identityKey
  head ++ identitySig fu head

/-- A port's ANNOUNCE to all (R440): by IPv6, and by IPv4 where it is configured. -/
def announceAll (fu : Fuses) (c : Core) (p : Nat) : Core :=
  let c := send c (.announce p none false (announceBody fu c))
  if (ip4Of c p).isSome then send c (.announce p none true (announceBody fu c)) else c

/-- ANNOUNCE (R440): a port that has a link. -/
def execAnnounce (p : Nat) (s : State) : Out := onEth p (fun fu c => if linked c p then announceAll fu c p else c) s

/-- DISCOVER (R440): answered to its source where the serial number matches or is absent. -/
def execDiscover (p : Nat) (source : Sender) (serial : Option Bytes) (s : State) : Out := onEth p (fun fu c => onUdp 0x02 p source.udp (fun c =>
  let mine : Bool := match serial with
    | some x => x = fu.serial
    | none => true
  if mine then send c (.announce p (some source.addr) false (announceBody fu c)) else c) c) s

/-! ### SPEED_ALLOWED and VLAN_ID (R445) -/

/-- Whether the speed of a link stays one that the port may run at. -/
def linkKept (c : Core) (p : Nat) : Bool := !linked c p || speedOk c p (obj c (Key.port p 3))

/-- The best speed that a port's SPEED_ALLOWED permits. -/
def bestSpeed (a : Nat) : Nat := if bit a 2 then 3 else if bit a 1 then 2 else if bit a 0 then 1 else 0

/-- SPEED_ALLOWED (R431, R445): 0 is refused; the link goes down when its speed is no longer permitted, or when a higher one
newly is. -/
def execSpeedAllowed (h : Hdr) (p v : Nat) (s : State) : Out := inRange p 3 <| writeItem (Key.port p 1) h (fun _ _ c =>
  if v = 0 ∨ 16 ≤ v then (c, .range)
  else
    let old := obj c (Key.port p 1)
    let c := setObj c (Key.port p 1) v
    let higher := bestSpeed old < bestSpeed v
    (if linkKept c p && !higher then c else hostDown c p, .ok)) s

/-- VLAN_ID (R445): a new VLAN takes the link down. -/
def execVlanId (h : Hdr) (p v : Nat) (s : State) : Out := inRange p 3 <| writeItem (Key.port p 8) h (fun _ _ c =>
  if 4095 ≤ v then (c, .range)
  else
    let same : Bool := obj c (Key.port p 8) = v
    let c := setObj c (Key.port p 8) v
    (if same then c else hostDown c p, .ok)) s

end Sys2Proof.Machine
end

