-- ==== Sys2Proof/Machine/Sessions.lean ====
section
/-! DEFINITION. Host sessions (R424 to R427) and what they carry beside the dictionary and the bulk service: sync requests
(R437), watch messages, notifications (R438), event subscriptions (R439). -/

namespace Sys2Proof.Machine

/-! ### OPEN (R424 to R426) -/

/-- The payload of an OPEN (R424). -/
def openBytes (m : OpenMsg) : Bytes := leBytes 16 m.nonce ++ leBytes 16 m.hostNonce ++ m.ek ++ m.pk ++ m.sig

/-- The first 0x452 bytes of an OPEN response (R424): CONTEXT, NEXT_NONCE, CT. -/
def openHead (ctx nonce : Nat) (ct : Bytes) : Bytes := leBytes 2 ctx ++ leBytes 16 nonce ++ ct

/-- The response to an OPEN leaves (R424, R425): sessionless, so without a tag; its SEQ is zero (log entry 32). -/
def answerOpen (fu : Fuses) (c : Core) (p : Nat) (m : OpenMsg) (st : Status) (head : Bytes) : Core :=
  send c (.bamcen p m.source 0xFFFF 0 { typ := 0x10, status := st.code, payload := head ++ identitySig fu (openBytes m ++ head) } 0)

/-- The first row of R425 that refuses an OPEN; OK where none does. -/
def openStatus (fu : Fuses) (c : Core) (m : OpenMsg) : Status :=
  match enrolled fu with
  | none => .state
  | some o =>
    if fu.lc ≠ 1 ∧ fu.lc ≠ 2 then .state
    else if m.nonce ≠ claimNonce c then .state
    else if m.pkDigest ≠ o.digest ∨ !m.sigOk then .auth
    else if (lowestFree c).isNone then .noctx
    else .ok

/-- A refused OPEN (R421, R425): error counter, AUTH_FAILED or NOCTX_COUNT, and the response with the nonce unchanged. -/
def refuseOpen (fu : Fuses) (c : Core) (p : Nat) (m : OpenMsg) (st : Status) : Core :=
  let c := errStatus c st
  let c := if st = .auth then authFailed c p 0x10 else if st = .noctx then addObj c Key.noctxCount 1 else c
  answerOpen fu c p m st (openHead 0xFFFF (claimNonce c) (List.replicate 1088 0))

/-- The owner's claim (R425, R426): CLAIMED, and entry 1 of every access table. -/
def claim (c : Core) (ctx : Nat) : Core :=
  if obj c Key.claimed = 1 then c
  else
    let put := fun (t : Tab AccEntry) (n : Nat) => tset t (n * 64 + 1) { value := wholeEntry n 0x1000 0xF000, writer := .claim }
    let c := setObj { c with acc := { c.acc with entries := (List.range 155).foldl put c.acc.entries } } Key.claimed 1
    raise c 0x0504 .info mgmt 0 [ctx]

/-- A session's record as its OPEN leaves it (R422, R424, R439). -/
def newSession (c : Core) (p : Nat) (m : OpenMsg) (key : Bytes) : Session :=
  { key := key, h := 0, kept := [], port := p, source := m.source, heard := obj c Key.uptimeTicks, mask := 0, noteNext := 1,
    notes := [], missed := 0, bulk := [], report := none }

/-- An accepted OPEN (R291, R424, R425): a context, a session with its key, a fresh claim nonce, the claim. -/
def acceptOpen (fu : Fuses) (c : Core) (p : Nat) (m : OpenMsg) (ctx : Nat) : Core :=
  let d := draw c
  let e := draw d.2
  let kem := Config.encaps m.ek (Config.fresh e.1)
  let c := { e.2 with boot := { e.2.boot with nonceDraw := d.1 } }
  let head := openHead ctx (claimNonce c) kem.1
  let key := (shake 32 (kem.2 ++ openBytes m ++ head)).take 32
  let now := obj c Key.uptimeTicks
  let c := noteCtxs (setCtx c ctx { Ctx.reset with state := 1, kind := 1, master := sessionMaster ctx, lastHeard := now })
  let c := setSession c ctx (newSession c p m key)
  answerOpen fu (claim c ctx) p m .ok head

/-- OPEN (R425). -/
def execOpenSession (p : Nat) (m : OpenMsg) (s : State) : Out := onEth p (fun fu c => onUdp 0x10 p m.udp (fun c =>
  let st := openStatus fu c m
  if st = .ok then acceptOpen fu c p m ((lowestFree c).getD 0) else refuseOpen fu c p m st) c) s

/-! ### CLOSE, KEEPALIVE, SESSION_TIMEOUT (R427) -/

/-- A request answered with OK and nothing else. -/
def plainOk : Handler := fun fu mem c => answer fu mem c .ok

/-- CLOSE (R427): the response leaves, then the session ends. -/
def execClose (h : Hdr) (s : State) : Out := handle 0x14 h plainOk (fun _ _ c => removeSession c h.ctx 0) s

/-- KEEPALIVE (R427). -/
def execKeepalive (h : Hdr) (s : State) : Out := handle 0x15 h plainOk noMore s

/-- Whether no message has been heard from a session for SESSION_TIMEOUT milliseconds, of 100,000 ticks each (R427). -/
def silentLong (c : Core) (x : Session) : Bool := decide (x.heard + 100000 * obj c Key.sessionTimeout ≤ obj c Key.uptimeTicks)

/-- SESSION_TIMEOUT (R427): a session that has been silent so long ends, cause 1. -/
def execSessionTimeout (ctx : Nat) (s : State) : Out := inRange ctx 4096 <| onCore (fun c =>
  if (sessionOf c ctx).any (silentLong c) then removeSession c ctx 1 else c) s

/-! ### SYNC (R236, R437) -/

/-- The flow to a module that carries the traffic of host sessions, whatever its state: the lowest context (log entry 33). -/
def hostFlow (c : Core) (m : Nat) : Option Nat :=
  (c.fab.ctxs.find? fun p => p.2.kind = 0 && p.2.state ≠ 0 && p.2.peerMod = m).map fun p => p.1

/-- An operation of a session leaves for another module: the response follows its reply (R436, R437). -/
def hostAway (c : Core) (h : Hdr) (typ i name : Nat) (op : SyncOp) (proxy : Option Nat) : Core :=
  let c := match sessionOf c h.ctx with
    | some x => setSession c h.ctx (keepResp x h.seq none)
    | none => c
  let r := newTag c i name (.sync (.host h.ctx h.seq typ h.port h.source) proxy)
  enqueue r.2 i 5 op.issuer r.1 name 0 op.kind.code (syncPayload op) .none

/-- A sync operation of a host session (R219, R235, R236): its status, or none where another module has yet to answer. -/
def hostOp (c : Core) (h : Hdr) (typ : Nat) (kind : SyncKind) (name n cookie : Nat) : Core × Option Status :=
  let master := sessionMaster h.ctx
  let module := bits name 16 12
  let op : SyncOp := { issuer := master, kind := kind, sem := bits name 0 12, n := n, cookie := cookie, slot := 0, back := .unit }
  if module = ownMod c then let r := applyOp c (bits name 12 3) op; (r.1, some r.2)
  else if !running c then (errStatus c .state, some .state)
  else
    match hostFlow c module with
    | none => (errStatus c .range, some .range)
    | some i =>
      if (ctxOf c i).state = 3 then (errStatus c .lost, some .lost)
      else
        let t := portTarget c (egressPort c i)
        if !tablePermits c.acc t master module kind.right then (refuse c master t module kind.right, some .access)
        else if kind = .wat then
          match freeProxy c with
          | none => (addObj (errStatus c .busy) Key.watchBusy 1, some .busy)
          | some p =>
            let y : Proxy := { home := module, waiter := master, slot := 0, sem := name, n := n, cookie := cookie }
            let c := { c with fab := { c.fab with proxies := tset c.fab.proxies p y } }
            (hostAway c h typ i name { op with slot := p } (some p), none)
        else (hostAway c h typ i name op none, none)

/-- Whether a number has the form of a semaphore name (R214). -/
def nameOk (name : Nat) : Bool := decide (name < 2 ^ 32) && bits name 28 4 = 0 && !bit name 15

/-- What counts toward a session's limit of 1,024 (R437): watches registered here and through proxies, and watch messages not
delivered. -/
def watchLoad (c : Core) (ctx : Nat) : Nat :=
  let x := (sessionOf c ctx).map fun x => (x.notes.filter fun p => p.2.typ = 0x31).length
  sessionWatches c ctx + (c.fab.proxies.filter fun p => p.2.waiter = sessionMaster ctx).length
    + (c.net.filter (isWatchFor (sessionMaster ctx))).length + x.getD 0

/-- A request whose status has been counted already, or follows later. -/
def counted (fu : Fuses) (mem : Memory) (r : Core × Option Status) : Done :=
  match r.2 with
  | some st => { fu := fu, c := r.1, mem := mem, st := st, hdr := st, payload := [] }
  | none => { fu := fu, c := r.1, mem := mem, st := .ok, hdr := .ok, payload := [], later := true }

/-- A SYNC request (R437). -/
def syncRequest (kind : SyncKind) (h : Hdr) (name n cookie : Nat) (s : State) : Out := handle 0x30 h (fun fu mem c =>
  if !nameOk name then answer fu mem c .range
  else if kind = .wat ∧ 1024 ≤ watchLoad c h.ctx then
    counted fu mem (addObj (errStatus c .busy) Key.watchBusy 1, some .busy)
  else counted fu mem (hostOp c h 0x30 kind name n cookie)) noMore s

/-- SYNC_SIG_ADD (R437). -/
def execSyncSigAdd (h : Hdr) (name delta : Nat) (s : State) : Out := syncRequest .add h name delta 0 s

/-- SYNC_SIG_SUB (R437). -/
def execSyncSigSub (h : Hdr) (name delta : Nat) (s : State) : Out := syncRequest .sub h name delta 0 s

/-- SYNC_TAK (R437). -/
def execSyncTak (h : Hdr) (name n : Nat) (s : State) : Out := syncRequest .tak h name n 0 s

/-- SYNC_WAT (R437). -/
def execSyncWat (h : Hdr) (name n cookie : Nat) (s : State) : Out := syncRequest .wat h name n cookie s

/-! ### Notifications (R438, R439) -/

/-- WATCH (R230, R438): the oldest watch message for the session leaves as a notification. -/
def execWatch (ctx : Nat) (s : State) : Out := inRange ctx 4096 <| onCore (fun c =>
  match c.net.find? (isWatchFor (sessionMaster ctx)) with
  | some (.watch u i m) => notify { c with net := c.net.erase (.watch u i m) } ctx 0x31 (watchBytes m)
  | _ => c) s

/-- A sessioned message without a response arrives (R421): where it authenticates, the session has been heard. -/
def heardMsg (typ : Nat) (h : Hdr) (f : Core → Session → Core) (c : Core) : Core :=
  match sessionOf c h.ctx with
  | none => authFailed c h.port typ
  | some x =>
    if !h.tagOk then authFailed c h.port typ
    else
      let y := { x with heard := obj c Key.uptimeTicks, port := h.port, source := h.source }
      f (setSession (hearCtx c h) h.ctx y) y

/-- Whether an acknowledgement covers a notification (R422, R438): cumulative, and SEQ 0 covers none. -/
def acked (seq n : Nat) : Bool := seq ≠ 0 && decide ((seq + 2 ^ 32 - n % 2 ^ 32) % 2 ^ 32 < 2 ^ 31)

/-- NOTE_ACK (R438). -/
def execNoteAck (h : Hdr) (s : State) : Out := inRange h.port 3 <| onCore (onUdp 0x32 h.port h.udp (fun c =>
  heardMsg 0x32 h (fun c x => setSession c h.ctx { x with notes := x.notes.filter fun p => !acked h.seq p.1 }) c)) s

/-- NOTIFICATION_RESEND (R438): every notification not acknowledged leaves again, in SEQ order. -/
def execNotificationResend (ctx : Nat) (s : State) : Out := inRange ctx 4096 <| onCore (fun c =>
  match sessionOf c ctx with
  | none => c
  | some x => x.notes.foldl (fun c p => sendNote c ctx p.1 p.2) c) s

/-- SUBSCRIBE (R439): a mask with a bit that names no class is refused (log entry 34). -/
def execSubscribe (h : Hdr) (mask : Nat) (s : State) : Out := handle 0x41 h (fun fu mem c =>
  match sessionOf c h.ctx with
  | none => answer fu mem c .state
  | some x =>
    if 16 ≤ mask then answer fu mem c .range
    else answer fu mem (setSession c h.ctx { x with mask := mask }) .ok) noMore s

end Sys2Proof.Machine
end

