-- ==== Sys2Proof/Machine/Bulk.lean ====
section
/-! DEFINITION. The bulk service (R433 to R436) and the verification of firmware (R465, R466). -/

namespace Sys2Proof.Machine

/-! ### Transfers -/

/-- A session's open transfer. -/
def transferOf (c : Core) (ctx tr : Nat) : Option Transfer := (sessionOf c ctx).bind fun x => tget x.bulk tr

/-- A session's transfer replaced. -/
def setTransfer (c : Core) (ctx tr : Nat) (t : Transfer) : Core :=
  match sessionOf c ctx with
  | some x => setSession c ctx { x with bulk := tset x.bulk tr t }
  | none => c

/-- A transfer closed. -/
def closeTransfer (c : Core) (ctx tr : Nat) : Core :=
  match sessionOf c ctx with
  | some x => setSession c ctx { x with bulk := tdel x.bulk tr }
  | none => c

/-- The segments of a transfer (R434). -/
def segCount (t : Transfer) : Nat := (t.length + t.seg - 1) / t.seg
/-- The bytes of segment `n`: only the last may be shorter. -/
def segLen (t : Transfer) (n : Nat) : Nat := min t.seg (t.length - n * t.seg)
/-- Whether the module sends the segments: READ_MEM and OBJECT_READ. -/
def sends (t : Transfer) : Bool := t.kind = 1 || t.kind = 4
/-- Whether every segment has been received, or acknowledged when the module sends. -/
def whole (t : Transfer) : Bool := (List.range (segCount t)).all fun n => t.got.contains n

/-- A sessioned message of the module leaves on the port of the session's latest message (R421, R423). -/
def sendBulk (c : Core) (ctx typ seq : Nat) (bs : Bytes) : Core := sendNote c ctx seq { typ := typ, status := 0, payload := bs }

/-- A segment leaves (R434, R435): READ_MEM reads memory as it stands now, under the tables (R436); a refused one, and one that cannot be corrected (R183), closes the transfer. -/
def sendSeg (mem : Memory) (c : Core) (ctx tr n : Nat) : Core :=
  match transferOf c ctx tr with
  | none => c
  | some t =>
    let r : Core × ReadAns := if t.kind = 1 then busRead mem c (sessionMaster ctx) (gaOff t.addr + n * t.seg) (segLen t n) 0
             else (c, .data ((t.data.drop (n * t.seg)).take (segLen t n)))
    match r.2 with
    | .refused => closeTransfer r.1 ctx tr
    | .bad => closeTransfer r.1 ctx tr
    | .data bs => addObj (sendBulk r.1 ctx 0x51 n (leBytes 8 tr ++ bs)) Key.bulkTxBytes bs.length

/-- The segments leave in order while fewer than 256 are unacknowledged (R434). -/
def pumpSegs (mem : Memory) (c : Core) (ctx tr : Nat) : Core :=
  match transferOf c ctx tr with
  | none => c
  | some t =>
    let upto := min (segCount t) (t.got.length + 256)
    let c := setTransfer c ctx tr { t with sent := max t.sent upto }
    (List.range' t.sent (upto - t.sent)).foldl (fun c n => sendSeg mem c ctx tr n) c

/-- The lowest segment not yet received. -/
def lowestMissing (t : Transfer) : Nat := ((List.range (segCount t)).find? fun n => !t.got.contains n).getD (segCount t)

/-- BULK_ACK of the module (R420, R434): SEQ, and the map of the 64 segments after it. -/
def sendBulkAck (c : Core) (ctx tr : Nat) : Core :=
  match transferOf c ctx tr with
  | none => c
  | some t =>
    let low := lowestMissing t
    let map := ((List.range 64).map fun i => fieldAt i (b2n (t.got.contains (low + i)))).sum
    let c := setTransfer c ctx tr { t with unacked := 0 }
    sendBulk c ctx 0x52 ((low + 2 ^ 32 - 1) % 2 ^ 32) (leBytes 8 tr ++ leBytes 8 map)

/-! ### BULK_OPEN (R433) -/

/-- Whether the fields that every kind has are in range (R433). -/
def openFields (o : BulkOpen) (kind : Nat) : Bool :=
  o.kind = kind && o.zeros && decide (512 ≤ o.segBytes ∧ o.segBytes ≤ 8192) && o.segBytes % 64 = 0
    && decide (1 ≤ o.length ∧ o.length ≤ 2 ^ 40)
    && (if o.sem = 0 then o.delta = 0 else nameOk o.sem && decide (1 ≤ o.delta ∧ o.delta ≤ 65535))

/-- The lowest transfer number that is free (R433). -/
def freeTransfer (c : Core) (ctx : Nat) : Option Nat :=
  match sessionOf c ctx with
  | none => none
  | some x => (List.range 16).find? fun i => (tget x.bulk i).isNone

/-- The OBJECT_READs open in the module. -/
def objectReads (c : Core) : Nat := (c.host.sessions.map fun x => (x.2.bulk.filter fun t => t.2.kind = 4).length).sum

/-- A BULK_OPEN that nothing refuses: BUSY beyond a limit, else the transfer is open (R433). -/
def openTransfer (fu : Fuses) (mem : Memory) (c : Core) (h : Hdr) (o : BulkOpen) (addr : Nat) (data : Bytes) (n : Nat) : Done :=
  match freeTransfer c h.ctx with
  | none => answer fu mem c .busy
  | some tr =>
    if o.kind = 4 ∧ 4 ≤ objectReads c then answer fu mem c .busy
    else
      let t : Transfer := { kind := o.kind, seg := o.segBytes, index := o.index, sub := o.sub, addr := addr, length := n,
                            sem := o.sem, delta := o.delta, got := [], sent := 0, unacked := 0, data := data }
      { fu := fu, c := setTransfer c h.ctx tr t, mem := mem, st := .ok, hdr := .ok, payload := leBytes 1 tr }

/-- The memory range of a WRITE_MEM or READ_MEM, resolved; none where the address is malformed, or for a write in the
accumulator range (R172, R178, R433). -/
def bulkRange (c : Core) (o : BulkOpen) (write : Bool) : Option Nat :=
  let a := resolveGa c o.addr
  if gaOk o.addr o.length && gaHere c o.addr && wcOk c o.addr && gaOk a o.length && !(write && inAcc (gaOff a)) then some a
  else none

/-- The states that refuse a memory transfer (R181, R433, R436, R464). -/
def memRefused (c : Core) (a n : Nat) (write : Bool) : Bool :=
  let z := gaOff a + (n - 1)
  c.boot.rom || (write && inHbm (gaOff a) && obj c Key.hbmWiping = 1) || (running c && !(inHbm (gaOff a) && inHbm z))

/-- The opening of a memory transfer: RANGE, ACCESS, STATE, BUSY (R433; the order: log entry 35). -/
def openMem (write : Bool) (h : Hdr) (o : BulkOpen) : Handler := fun fu mem c =>
  let rt := if write then Right.w else .r
  if !openFields o (if write then 0 else 1) then answer fu mem c .range
  else
    match bulkRange c o write with
    | none => answer fu mem c .range
    | some a =>
      match refusedAt c.acc (sessionMaster h.ctx) (gaOff a) o.length rt with
      | some t => counted fu mem (refuse c (sessionMaster h.ctx) t.1 t.2 rt, some .access)
      | none =>
        if memRefused c a o.length write then answer fu mem c .state
        else openTransfer fu mem c h o a [] o.length

/-- BULK_WRITE_MEM (R433). -/
def execBulkWriteMem (h : Hdr) (o : BulkOpen) (s : State) : Out := handle 0x50 h (openMem true h o) noMore s

/-- The transfer that an opening answered with OK has opened sends its first segments. -/
def firstSegments (h : Hdr) (mem : Memory) (d : Done) : Done :=
  if d.st = .ok then { d with c := pumpSegs mem d.c h.ctx (leNat d.payload) } else d

/-- BULK_READ_MEM (R433, R434): the first segments leave with the opening. -/
def execBulkReadMem (h : Hdr) (o : BulkOpen) (s : State) : Out :=
  handle 0x50 h (fun fu mem c => firstSegments h mem (openMem false h o fu mem c)) noMore s

/-- BULK_LOAD_BUFFER (R356, R433). -/
def execBulkLoadBuffer (h : Hdr) (o : BulkOpen) (s : State) : Out := handle 0x50 h (fun fu mem c =>
  if !openFields o 2 ∨ 2 ^ 28 < o.length then answer fu mem c .range
  else if c.boot.rom ∨ almState c = 1 then answer fu mem c .state
  else openTransfer fu mem c h o 0 [] o.length) noMore s

/-- BULK_FIRMWARE (R433, R462, R464, R465, R467). -/
def execBulkFirmware (h : Hdr) (o : BulkOpen) (s : State) : Out := handle 0x50 h (fun fu mem c =>
  if !openFields o 3 ∨ 2 ^ 26 < o.length then answer fu mem c .range
  else if !c.boot.rom ∨ obj c Key.wipeStatus ≠ 1 ∨ c.boot.verified.isSome then answer fu mem c .state
  else openTransfer fu mem c h o 0 [] o.length) noMore s

/-- The copy of an object that an OBJECT_READ sends (R428 to R433): the core, the status and the bytes. -/
def objectCopy (fu : Fuses) (c : Core) (ctx index sub : Nat) : Core × Status × Bytes :=
  let key := index * 256 + sub
  let g := dictGate c ctx key .r
  match objFind key with
  | none => (errStatus c .range, .range, [])
  | some o =>
    if g ≠ .ok then (dictDeny c ctx key .r g, g, [])
    else if o.ty = 9 then
      if key = Key.attestReport ∧ !(((sessionOf c ctx).bind fun x => x.report).any fun r => r.ready) then
        (errStatus c .state, .state, [])
      else
        let b := objBytes fu c ctx key
        (c, .ok, (List.range b.len).map b.byte)
    else
      let v := readValue fu c ctx key 0 o
      (errStatus v.1 v.2.1, v.2.1, v.2.2)

/-- BULK_OBJECT_READ (R433): the copy is taken now; LENGTH bounds what is sent (log entry 36). -/
def execBulkObjectRead (h : Hdr) (o : BulkOpen) (s : State) : Out := handle 0x50 h (fun fu mem c =>
  if !openFields o 4 ∨ 65536 ≤ o.index ∨ 256 ≤ o.sub then answer fu mem c .range
  else if (freeTransfer c h.ctx).isNone ∨ 4 ≤ objectReads c then answer fu mem c .busy
  else
    let r := objectCopy fu c h.ctx o.index o.sub
    if r.2.1 ≠ .ok then counted fu mem (r.1, some r.2.1)
    else
      let bs := r.2.2.take o.length
      firstSegments h mem (openTransfer fu mem r.1 h o 0 bs bs.length)) noMore s

/-! ### BULK_DATA and BULK_ACK (R434) -/

/-- A segment's bytes reach their place, once (R434): memory through the session's rights, or the load buffer. -/
def storeSeg (mem : Memory) (c : Core) (ctx tr seg : Nat) (t : Transfer) (bs : Bytes) : Core × Memory :=
  let w : Core × Memory × Status :=
    if t.kind = 0 then busWrite mem c (sessionMaster ctx) (gaOff t.addr + seg * t.seg) bs 0
    else ({ c with host := { c.host with loadBuf := mwriteN c.host.loadBuf (seg * t.seg) bs } }, mem, .ok)
  if w.2.2 ≠ .ok then (closeTransfer w.1 ctx tr, w.2.1)
  else
    let c := addObj w.1 Key.bulkRxBytes bs.length
    let c := setTransfer c ctx tr { t with got := t.got ++ [seg], unacked := t.unacked + 1 }
    (if 32 ≤ t.unacked + 1 then sendBulkAck c ctx tr else c, w.2.1)

/-- Whether a received segment is one to write: of a transfer that receives, not yet received, of its exact length. -/
def takesSeg (t : Transfer) (seg : Nat) (bs : Bytes) : Bool :=
  !sends t && decide (seg < segCount t) && !t.got.contains seg && bs.length = segLen t seg

/-- BULK_DATA (R434). -/
def execBulkData (h : Hdr) (tr seg : Nat) (data : Bytes) (s : State) : Out := inRange h.port 3 <| onBoth (fun mem c =>
  let c := onUdp 0x51 h.port h.udp (heardMsg 0x51 h (fun c _ => c)) c
  if h.udp ≠ udpPort 0x51 then (c, mem)
  else match transferOf c h.ctx tr with
  | none => (c, mem)
  | some t => if h.tagOk && takesSeg t seg data then storeSeg mem c h.ctx tr seg t data else (c, mem)) s

/-- Whether an acknowledgement covers a segment (R420, R434). -/
def ackCovers (seq map n : Nat) : Bool :=
  let low := (seq + 1) % 2 ^ 32
  decide (n < low) || (decide (n < low + 64) && bit map (n - low))

/-- BULK_ACK (R434): the segments it covers are acknowledged, and further ones leave. -/
def execBulkAck (h : Hdr) (tr : Nat) (map : Nat) (s : State) : Out := inRange h.port 3 <| onCoreMem (fun mem c =>
  let c := onUdp 0x52 h.port h.udp (heardMsg 0x52 h (fun c _ => c)) c
  if h.udp ≠ udpPort 0x52 then c
  else match transferOf c h.ctx tr with
  | none => c
  | some t =>
    if h.tagOk && sends t then
      let new := (List.range t.sent).filter fun n => ackCovers h.seq map n && !t.got.contains n
      pumpSegs mem (setTransfer c h.ctx tr { t with got := t.got ++ new }) h.ctx tr
    else c) s

/-- BULK_ACK_TIMER (R434): what has been received and not acknowledged is acknowledged. -/
def execBulkAckTimer (ctx tr : Nat) (s : State) : Out := inRange ctx 4096 <| inRange tr 16 <| onCore (fun c =>
  match transferOf c ctx tr with
  | none => c
  | some t => if !sends t && decide (0 < t.unacked) then sendBulkAck c ctx tr else c) s

/-- BULK_RESEND (R434): a segment sent and not acknowledged leaves again. -/
def execBulkResend (ctx tr seg : Nat) (s : State) : Out := inRange ctx 4096 <| inRange tr 16 <| onCoreMem (fun mem c =>
  match transferOf c ctx tr with
  | none => c
  | some t => if sends t && decide (seg < t.sent) && !t.got.contains seg then sendSeg mem c ctx tr seg else c) s

/-! ### Firmware (R465, R466) -/

/-- A number of the container in the load buffer. -/
def fwNum (c : Core) (o n : Nat) : Nat := mnum c.host.loadBuf o n

/-- Whether a byte range of the container is zero. -/
def fwZero (c : Core) (lo hi : Nat) : Bool := c.host.loadBuf.all fun p => decide (p.1 < lo ∨ hi ≤ p.1)

/-- The firmware digest (R465). -/
def fwDigest (c : Core) : Bytes := shake 64 (mreadN c.host.loadBuf 0 0x820)

/-- The first row of R466 that rejects a container of so many bytes; OK where none does. -/
def fwVerify (fu : Fuses) (c : Core) (length : Nat) (v : FwVerdict) : Status :=
  let flags := fwNum c 6 2
  let policy := ((enrolled fu).map fun s => s.policy).getD 0
  if length < 0x2400 ∨ fwNum c 0 4 ≠ 0x57465A4B ∨ fwNum c 4 2 ≠ 1 ∨ 4 ≤ flags ∨ fwNum c 8 4 = 0 ∨ fwNum c 0xE 2 ≠ 0
      ∨ fwNum c 0x10 8 ≠ length - 0x2400 ∨ !fwZero c 0x58 0x80 ∨ !fwZero c 0x21FA 0x2400
      ∨ (!bit flags 0 ∧ !fwZero c 0x150D 0x21FA) then .range
  else if !bit (fwNum c 0xC 1) (if fu.stepping = 0xB0 then 1 else 0) then .range
  else if fwNum c 8 4 < fu.minVersion then .range
  else if !v.bodyOk then .integrity
  else if !v.keyOk ∨ 4 ≤ fwNum c 0xD 1 ∨ fu.revokedKeys.contains (fwNum c 0xD 1) then .auth
  else if !v.eonelSigOk then .auth
  else if bit flags 1 then .auth
  else if (bit policy 0 ∧ !bit flags 0) ∨ (bit flags 0 ∧ !v.ownerSigOk) then .auth
  else .ok

/-- The end of a FIRMWARE transfer (R466): verified firmware waits for the handover; a rejected container is discarded. -/
def fwComplete (fu : Fuses) (mem : Memory) (c : Core) (h : Hdr) (tr length : Nat) (v : FwVerdict) : Done :=
  let st := fwVerify fu c length v
  let d := leNat (fwDigest c)
  let version := fwNum c 8 4
  let key := fwNum c 0xD 1
  let c := addObj (setObj (closeTransfer c h.ctx tr) Key.fwStatus st.code) Key.fwAttempts 1
  if st = .ok then
    answer fu mem { setObj c Key.fwDigest d with boot := { c.boot with verified := some (version, key) } } .ok
  else
    answer fu mem { raise c 0x0201 .report mgmt 0 [st.code, d % 2 ^ 64] with host := { c.host with loadBuf := [] } } st

/-! ### BULK_COMPLETE and BULK_ABORT (R435) -/

/-- A fence of a session over its writes, which were acknowledged as they were written, retires at once (R222, R376, R435). -/
def sessionFence (c : Core) (m : Nat) : Core :=
  { c with vigil := { c.vigil with issued := tset c.vigil.issued m (tgetD c.vigil.issued m 0 + 1),
                                   retired := tset c.vigil.retired m (tgetD c.vigil.retired m 0 + 1) } }

/-- The records of the event log that a copy of it holds whole count as read (R501). -/
def markRead (c : Core) (copy : Bytes) : Core :=
  let place := fun (i : Nat) => (copy.drop (64 * i)).take 64
  let seqs := ((List.range (copy.length / 64)).filter fun i => leNat ((place i).take 2) ≠ 0).map fun i =>
    leNat (((place i).drop 4).take 4)
  { c with ev := { c.ev with recs := c.ev.recs.map fun r => if seqs.contains r.seq then { r with read := true } else r } }

/-- The end of a WRITE_MEM transfer whose data is complete (R435): fence, then the signal. -/
def writeComplete (c : Core) (h : Hdr) (tr : Nat) (t : Transfer) : Core × Option Status :=
  let c := sessionFence (closeTransfer c h.ctx tr) (sessionMaster h.ctx)
  if t.sem = 0 then (c, some .ok) else hostOp c h 0x53 .add t.sem t.delta 0

/-- What BULK_COMPLETE finds (R435; a number that names no open transfer: log entry 37). -/
def completeRule (h : Hdr) (tr : Nat) (fw : FwVerdict) : Handler := fun fu mem c =>
  if 16 ≤ tr then answer fu mem c .range
  else
    match transferOf c h.ctx tr with
    | none => answer fu mem c .state
    | some t =>
      if !whole t then answer fu mem c .state
      else if t.kind = 0 then counted fu mem (writeComplete c h tr t)
      else if t.kind = 3 then fwComplete fu mem c h tr t.length fw
      else
        let c := if t.kind = 4 ∧ t.index * 256 + t.sub = Key.eventLog then markRead c t.data else c
        answer fu mem (closeTransfer c h.ctx tr) .ok

/-- BULK_COMPLETE (R435, R466). -/
def execBulkComplete (h : Hdr) (tr : Nat) (fw : FwVerdict) (s : State) : Out := handle 0x53 h (completeRule h tr fw) noMore s

/-- BULK_ABORT (R435): the transfer is closed; what has been written stays. -/
def execBulkAbort (h : Hdr) (tr : Nat) (s : State) : Out := handle 0x54 h (fun fu mem c =>
  if 16 ≤ tr then answer fu mem c .range
  else if (transferOf c h.ctx tr).isNone then answer fu mem c .state
  else answer fu mem (closeTransfer c h.ctx tr) .ok) noMore s

end Sys2Proof.Machine
end

