-- ==== Sys2Proof/Machine/Power.lean ====
section
/-! DEFINITION. Power stage, caps, power controller, temperatures (R450 to R459, R481, R489, R490). -/

namespace Sys2Proof.Machine

/-- The power record changed. -/
def modPower (c : Core) (f : Power → Power) : Core := { c with power := f c.power }

/-- A command of the power stage or the sideband, which act with the stage off and in reset too. -/
def onPower (f : Core → Core) (s : State) : Out := .next { s with core := f s.core }

/-- FAULT_N is pulled low, where the housekeeping supply drives it (R490). -/
def faultLow (c : Core) : Core := modPower c fun p => { p with faultN := p.housekeeping }

/-- The stage turns off (R450 to R452, R457, R481, R489, R490): PWRGOOD low; a retained cause pulls FAULT_N low. -/
def stageOff (c : Core) (cause : Option Nat) : Core :=
  if c.power.stage then
    let c := modPower c fun p => { p with stage := false, pwrgood := false, held := true }
    match cause with
    | none => c
    | some k => faultLow (modPower c fun p => { p with retained := some k })
  else c

/-- UNDERVOLTAGE (R450). -/
def execUndervoltage (mv : Nat) (s : State) : Out := onPower (fun c => if mv < 44000 then stageOff c (some 4) else c) s

/-- OVERVOLTAGE (R450). -/
def execOvervoltage (mv : Nat) (s : State) : Out := onPower (fun c => if 59000 < mv then stageOff c (some 5) else c) s

/-- OVERLOAD (R452). -/
def execOverload (mw ma : Nat) (s : State) : Out := onPower (fun c =>
  if 5000000 < mw ∨ 110000 < ma then stageOff c (some 6) else c) s

/-- The warning band of an input voltage (R450): 0 none, 1 low, 2 high. -/
def bandOf (mv : Nat) : Nat := if 44000 ≤ mv ∧ mv < 46000 then 1 else if 58000 < mv ∧ mv ≤ 59000 then 2 else 0

/-- INPUT_VOLTAGE (R450): raised on each entry into a warning band. -/
def execInputVoltage (mv : Nat) (s : State) : Out := onCore (fun c =>
  let b := bandOf mv
  let was := c.power.band
  let c := modPower c fun p => { p with band := b }
  if b ≠ 0 ∧ b ≠ was then raise c 0x0302 .report mgmt 0 [mv] else c) s

/-- STAGE_EN_MATE (R481). -/
def execStageEnMate (s : State) : Out := onPower (fun c => modPower c fun p => { p with stageEn := true }) s

/-- STAGE_EN_BREAK (R481): the stage turns off without a retained cause. -/
def execStageEnBreak (s : State) : Out := onPower (fun c =>
  stageOff (modPower c fun p => { p with stageEn := false }) none) s

/-- HOUSEKEEPING_SUPPLY_LOSS (R451, R490): the retention register is lost and FAULT_N is no longer driven. -/
def execHousekeepingSupplyLoss (s : State) : Out := onPower (fun c =>
  modPower c fun p => { p with housekeeping := false, retained := none, retainedLc := none, faultN := false }) s

/-- PWRGOOD (R489): the output of a running stage is in regulation. -/
def execPwrgood (s : State) : Out := onPower (fun c =>
  if c.power.stage then modPower c fun p => { p with pwrgood := true } else c) s

/-! ### Caps (R453 to R456) -/

/-- A cap in mW as a cap in W: rounded down to 25 W, from 1,500 to 4,500 W (R453). -/
def capOf (mw : Nat) : Nat := max 1500 (min 4500 (mw / 25000 * 25))

/-- cap_T in mW (R455); an inlet out of range counts as above 45 °C. -/
def inletCap (inlet : Option Int) : Nat :=
  match inlet with
  | none => 1500000
  | some t => if t ≤ 35000 then 4500000 else if t ≤ 45000 then 4500000 - 100 * (t - 35000).toNat else 1500000

/-- cap_F in mW (R455), with COOLANT_TYPE; a flow out of range counts as below 2.5 L/min. -/
def flowCap (coolant : Nat) (flow : Option Nat) : Nat :=
  match flow with
  | none => 1500000
  | some f =>
    let eff := if coolant = 1 then f * 9 else f * 10
    if f < 2500 then 1500000 else 4500000 - 60 * (40000 - eff)

/-- The coolant cap of the last measurement; 4,500 W before the first (R455, R479). -/
def coolantCapOf (p : Power) : Nat :=
  match p.measured with
  | none => 4500
  | some m => capOf (min (inletCap m.1) (flowCap p.coolant m.2))

/-- The voltage cap (R454). -/
def voltageCapOf (mv : Nat) : Nat := capOf (min 4500000 (mv * 975 / 10))

/-- A sensor that reads out of its range: its object holds an open value. -/
def reading (c : Core) (key : Nat) (v : Option Nat) : Core :=
  match v with
  | some x => setObj c key x
  | none => let d := draw c; setObj d.2 key (Config.freeNat d.1 % 2 ^ 32)

/-- COOLANT_MEASUREMENT (R455): the objects, the cap, and COOLANT_LIMIT on each entry into a condition. -/
def execCoolantMeasurement (inlet outlet : Option Int) (flow : Option Nat) (s : State) : Out := onCore (fun c =>
  let c := reading c Key.inletMc (inlet.map (unsigned 32))
  let c := reading c Key.outletMc (outlet.map (unsigned 32))
  let c := reading c Key.flowMlmin flow
  let hot : Bool := match inlet with
    | some t => decide (45000 < t)
    | none => true
  let slow : Bool := match flow with
    | some f => decide (f < 2500)
    | none => true
  let was := c.power
  let c := modPower c fun p => { p with measured := some (inlet, flow), hot := hot, slow := slow }
  let cap := coolantCapOf c.power
  let c := setObj c Key.coolantCap cap
  let args := [obj c Key.inletMc % 2 ^ 32, obj c Key.flowMlmin, cap]
  let c := if hot && !was.hot then raise c 0x0303 .report mgmt 0 args else c
  if slow && !was.slow then raise c 0x0303 .report mgmt 0 args else c) s

/-- A sensor's throttle, release and trip thresholds in m°C (R456): fields 0 to 7, stacks 8 to 39, power stage 40. -/
def thresholds (i : Nat) : Int × Int × Int :=
  if i < 8 then (100000, 95000, 110000) else if i < 40 then (95000, 90000, 105000) else (110000, 105000, 125000)

/-- THROTTLING (R456, R479): the sensors at or above their throttle threshold. -/
def throttleBits (temps : List Int) : Nat :=
  (temps.zipIdx.map fun p => if (thresholds p.2).1 ≤ p.1 then fieldAt p.2 1 else 0).sum

/-- The thermal cap after an evaluation (R456). -/
def thermalCapOf (cap : Nat) (temps : List Int) : Nat :=
  if temps.zipIdx.any fun p => decide ((thresholds p.2).1 ≤ p.1) then max 1500 (cap - 100)
  else if temps.zipIdx.all fun p => decide (p.1 < (thresholds p.2).2.1) then min 4500 (cap + 100)
  else cap

/-! ### The power controller (R458) -/

/-- The lowest of some caps, with the lowest code that sets it (R453). -/
def lowestCap (caps : List Nat) : Nat × Nat :=
  let m := caps.foldl min 4500
  (m, caps.idxOf m)

/-- The four caps and the cap in force at an evaluation (R453, R479). -/
def evalCaps (c : Core) (mv : Nat) (temps : List Int) : Core :=
  let c := modPower c fun p => { p with coolant := obj c Key.coolantType, temps := temps }
  let c := setObj c Key.throttling (throttleBits temps)
  let c := setObj c Key.thermalCap (thermalCapOf (obj c Key.thermalCap) temps)
  let c := setObj c Key.voltageCap (voltageCapOf mv)
  let c := setObj c Key.coolantCap (coolantCapOf c.power)
  let l := lowestCap [obj c Key.powerCap, obj c Key.voltageCap, obj c Key.coolantCap, obj c Key.thermalCap]
  setObj (setObj c Key.capInForce l.1) Key.capSource l.2

/-- The reference ticks of an evaluation interval (R458). -/
def intervalTicks (c : Core) : Nat := if running c then obj c Key.frameTicks else 2000

/-- The input of an interval is measured (R458, R479): voltage, current, the mean of up to 16 intervals, the energy. -/
def measureInput (c : Core) (mv ma : Nat) : Core :=
  let mw := mv * ma / 1000
  let hist := (mw :: c.power.hist).take 16
  let pj := c.power.energyRem + mw * intervalTicks c * 10
  let c := modPower c fun p => { p with hist := hist, energyRem := pj % 10 ^ 12, sinceChange := p.sinceChange + 1,
                                        tripped := p.tripped.filter fun i => decide ((thresholds i).2.2 ≤ p.temps.getD i 0) }
  let c := addObj (setObj (setObj c Key.inputMv mv) Key.inputMa ma) Key.energyJ (pj / 10 ^ 12)
  setObj c Key.inputPower (min 65535 (hist.sum / hist.length / 1000))

/-- The ceiling of the controller (R458). -/
def powerCeil (c : Core) : Nat :=
  if loaded c then min (obj c Key.targetMult) (multCeil c) else obj c Key.targetMult

/-- The controller acts by the first rule that holds (R458); P is `total / n` mW. -/
def controlPower (c : Core) (total n : Nat) : Core :=
  let cap := obj c Key.capInForce
  let m := obj c Key.opMult
  let high := decide (cap * 1000 * n < total)
  if high && decide (multFloor c < m) then
    raise (requestOp c (m - 1) 2) 0x0301 .report mgmt 0 [cap, m - 1]
  else if high then
    let k := c.power.excess
    let c := modPower c fun p => { p with excess := k + 1 }
    if k % 1000 = 0 then raise c 0x0301 .report mgmt 0 [cap, 0] else c
  else
    let c := modPower c fun p => { p with excess := 0 }
    if total * (m + 1) ≤ (cap - 50) * 1000 * n * m ∧ m < powerCeil c then requestOp c (m + 1) 2 else c

/-- POWER_EVALUATION (R453 to R458). -/
def execPowerEvaluation (mv ma : Nat) (temps : List Int) (s : State) : Out := onCore (fun c =>
  let c := measureInput (evalCaps c mv temps) mv ma
  if c.clk.queued.isSome ∨ c.clk.direct.isSome ∨ c.power.sinceChange < 16 then c
  else controlPower c c.power.hist.sum c.power.hist.length) s

/-! ### Trips (R457) -/

/-- THERMAL_TRIP (R457, R490). -/
def execThermalTrip (sensor : Nat) (temp : Int) (s : State) : Out := inRange sensor 41 <| onCore (fun c =>
  if (thresholds sensor).2.2 ≤ temp ∧ !c.power.tripped.contains sensor then
    let c := modPower c fun p => { p with tripped := p.tripped ++ [sensor] }
    faultLow (raise c 0x0304 .fault mgmt 0 [sensor, unsigned 32 temp])
  else c) s

/-- THERMAL_SHUTDOWN (R457): a second after the trip, still 5 °C above it. -/
def execThermalShutdown (sensor : Nat) (temp : Int) (s : State) : Out := inRange sensor 41 <| onCore (fun c =>
  if c.power.tripped.contains sensor ∧ (thresholds sensor).2.2 + 5000 ≤ temp then stageOff c (some 7) else c) s

end Sys2Proof.Machine
end

