-- ==== Sys2Proof/Machine/Boot.lean ====
section
/-! DEFINITION. Resets, the wipe, boot, attestation and the life cycle (R450, R451, R460 to R477, R488). -/

namespace Sys2Proof.Machine

/-! ### Resets (R460, R463, R488) -/

/-- The boot ROM raises LIFECYCLE_CHANGED where the retained state differs from the fused one (R476). -/
def lifecycleEvent (fu : Fuses) (retained : Option Nat) (c : Core) : Core :=
  match retained with
  | some old => if old ≠ fu.lc then raise c 0x0202 .info mgmt 0 [old, fu.lc] else c
  | none => c

/-- The core after a reset with a cause (R35, R384, R460, R461): everything at its reset value but the pins, the supply and
what has left the module; boot epoch and claim nonce are drawn again; the retention register is reported and cleared
(R451). `held`: the internal reset stays held. -/
def resetCore (fu : Fuses) (c : Core) (cause : Nat) (held : Bool) : Core :=
  let d := draw c
  let e := draw d.2
  let p := c.power
  let kept : Power := { Power.reset with stageEn := p.stageEn, stage := p.stage, pwrgood := p.pwrgood, held := held,
                                         faultN := held && p.faultN, housekeeping := p.housekeeping }
  let r := { Core.reset with power := kept, boot := { Boot.reset with epochDraw := d.1, nonceDraw := e.1 },
                             host := { HostSide.reset with out := c.host.out }, freeCtr := e.2.freeCtr }
  lifecycleEvent fu p.retainedLc (setObj r Key.resetCause cause)

/-- The owner slots with the enrolled one revoked (R474). -/
def revokeSlots (l : List OwnerSlot) : List OwnerSlot := l.map fun s => { s with revoked := true }

/-- A fuse burn that a reset or a loss of power cuts short (R463, R476): the old state, and perhaps the slot revoked, which is
open. -/
def cutBurn (fu : Fuses) (c : Core) : Fuses × Core :=
  match c.boot.burn with
  | none => (fu, c)
  | some b =>
    let d := draw c
    (if b.revoke ∧ Config.freeNat d.1 % 2 = 1 then { fu with slots := revokeSlots fu.slots } else fu, d.2)

/-- A reset of the module: fuses and core. -/
def resetModule (s : State) (cause : Nat) (held : Bool) : State :=
  let b := cutBurn s.fuse s.core
  { s with fuse := b.1, core := resetCore b.1 b.2 cause held }

/-- RESET (R460). -/
def execReset (cause : Nat) (s : State) : Out := inRange cause 9 <|
  .next (if s.core.power.stage then resetModule s cause s.core.power.held else s)

/-- WATCHDOG (R460): the runtime firmware has not serviced it. -/
def execWatchdog (s : State) : Out :=
  .next (if powered s.core && !s.core.boot.rom then resetModule s 8 false else s)

/-- STAGE_START (R450, R451, R481, R488): the stage starts; the module is held in a reset that reports the retained cause. -/
def execStageStart (mv : Nat) (s : State) : Out :=
  let p := s.core.power
  .next (if !p.stage && p.stageEn && decide (45500 ≤ mv ∧ mv ≤ 58000) then
      let s := { s with core := modPower s.core fun p => { p with stage := true, pwrgood := false, housekeeping := true } }
      resetModule s (p.retained.getD 0) true
    else s)

/-- RESET_N (R488): a recognised low level resets the module and holds it; between 1 µs and 10 µs recognition is open. -/
def execResetN (lowNs : Nat) (s : State) : Out :=
  let d := draw s.core
  let open_ : Bool := 1000 ≤ lowNs && lowNs < 10000
  let s := if open_ then { s with core := d.2 } else s
  .next (if powered s.core && (decide (10000 ≤ lowNs) || (open_ && Config.pulseRecognised d.1)) then resetModule s 1 true else s)

/-- RESET_RELEASE (R488, R490): RESET_N and PWRGOOD have been high for 1 ms. -/
def execResetRelease (s : State) : Out := onPower (fun c =>
  if c.power.stage && c.power.pwrgood && c.power.held then modPower c fun p => { p with held := false, faultN := false }
  else c) s

/-! ### The wipe (R461, R462, R181) -/

/-- Every word of a part of memory is written with its error-correcting code: no error is left in it (R461). -/
def soundAgain (c : Core) (part : Nat → Bool) : Core :=
  { c with ecc := { single := c.ecc.single.filter fun a => !part a, double := c.ecc.double.filter fun a => !part a } }

/-- SRAM_WIPE_DONE (R461): all memory but HBM is zero. -/
def execSramWipeDone (s : State) : Out := onBoth (fun mem c =>
  if c.boot.sramDone then (c, mem)
  else (soundAgain { c with boot := { c.boot with sramDone := true } } (fun a => !inHbm a), mem.filter fun p => inHbm p.1)) s

/-- HBM_TRAINING_DONE (R461): the stack is trained; the wipe of a reset starts with the first one. -/
def execHbmTrainingDone (stack : Nat) (s : State) : Out := inRange stack 32 <| onCore (fun c =>
  if c.boot.trained.contains stack then c
  else
    let start : Bool := c.boot.hbmWipe.isNone && c.boot.trained.isEmpty && obj c Key.wipeStatus = 0
    { c with boot := { c.boot with trained := c.boot.trained ++ [stack],
                                   hbmWipe := if start then some (obj c Key.resetCause) else c.boot.hbmWipe } }) s

/-- Whether the HBM wipe under way can be complete: after a reset, behind the SRAM wipe and the training of every stack. -/
def wipeReady (c : Core) (cause : Nat) : Bool :=
  cause = 0x10 || (c.boot.sramDone && (List.range 32).all fun k => c.boot.trained.contains k)

/-- HBM_WIPE_DONE (R181, R461): HBM is zero; WIPE_DONE with the cause, or 0x10, and the duration. -/
def execHbmWipeDone (us : Nat) (s : State) : Out := onBoth (fun mem c =>
  match c.boot.hbmWipe with
  | none => (c, mem)
  | some k =>
    if wipeReady c k then
      let c := { c with boot := { c.boot with hbmWipe := none } }
      let c := if k = 0x10 then setObj c Key.hbmWiping 0 else setObj c Key.wipeStatus 1
      (soundAgain (raise (setObj c Key.wipeTime us) 0x0203 .info mgmt 0 [k, us]) inHbm, mem.filter fun p => !inHbm p.1)
    else (c, mem)) s

/-- WIPE_TIMEOUT (R462, R490): a stack's wipe did not complete in 60 ms. -/
def execWipeTimeout (stack : Nat) (s : State) : Out := inRange stack 32 <| onCore (fun c =>
  if c.boot.hbmWipe.isNone then c
  else
    let c := { c with boot := { c.boot with hbmWipe := none } }
    faultLow (setObj (setObj c Key.hbmWiping 0) Key.wipeStatus 2)) s

/-! ### Handover and fused versions (R467, R468) -/

/-- HANDOVER (R464, R467): the verified firmware runs once the wipe is complete, and announces phase 1. -/
def execHandover (s : State) : Out := onFuse (fun fu _ c =>
  match c.boot.verified with
  | none => c
  | some v =>
    if c.boot.rom && obj c Key.wipeStatus = 1 then
      let c := { setObj c Key.fwVersion v.1 with boot := { c.boot with rom := false, fwKey := v.2, verified := none } }
      ((List.range 3).filter (linked c)).foldl (announceAll fu) c
    else c) s

/-- FW_RAISE_MIN (R468): a value above the minimum takes one of the 32 raises. -/
def execFwRaiseMin (h : Hdr) (v : Nat) (s : State) : Out := writeItemF Key.fwRaiseMin h (fun fu _ c =>
  if c.boot.rom then (fu, c, .state)
  else if v < fu.minVersion ∨ obj c Key.fwVersion < v then (fu, c, .range)
  else if v = fu.minVersion then (fu, c, .ok)
  else if 32 ≤ fu.raises then (fu, c, .state)
  else ({ fu with minVersion := v, raises := fu.raises + 1 }, c, .ok)) noMore s

/-- EONEL_REVOKE (R468). -/
def execEonelRevoke (h : Hdr) (v : Nat) (s : State) : Out := writeItemF Key.eonelRevoke h (fun fu _ c =>
  let others := (List.range 4).filter fun k => k ≠ v && !fu.revokedKeys.contains k
  if 4 ≤ v then (fu, c, .range)
  else if (!c.boot.rom && c.boot.fwKey = v) ∨ (others.isEmpty ∧ !fu.revokedKeys.contains v) then (fu, c, .state)
  else if fu.revokedKeys.contains v then (fu, c, .ok)
  else ({ fu with revokedKeys := fu.revokedKeys ++ [v] }, c, .ok)) noMore s

/-! ### Attestation (R471, R472) -/

/-- A digest of 64 bytes in a report: zero where there is none. -/
def digest64 (d : Bytes) : Bytes := if d.isEmpty then List.replicate 64 0 else d

/-- The first 0x1E0 bytes of a report (R472). -/
def attestBody (fu : Fuses) (c : Core) (nonce : Bytes) : Bytes :=
  leBytes 4 0x54415A4B ++ leBytes 2 1 ++ leBytes 1 fu.lc ++ leBytes 1 fu.stepping ++ fu.serial ++ leBytes 8 (bootEpoch c)
    ++ leBytes 4 fu.romVersion ++ leBytes 4 (obj c Key.fwVersion) ++ leBytes 1 (almState c) ++ leBytes 7 (obj c Key.claimed)
    ++ leBytes 8 (obj c Key.frameCount) ++ leBytes 4 (obj c Key.commits) ++ leBytes 4 (obj c Key.stepNumber) ++ nonce
    ++ leBytes 64 (obj c Key.fwDigest) ++ digest64 c.alm.digests.1 ++ digest64 c.alm.digests.2.1
    ++ digest64 c.alm.digests.2.2 ++ digest64 (((enrolled fu).map fun s => s.digest).getD [])
    ++ shake 64 fu.identityKey

/-- ATTEST_NONCE (R471, R473): the report's values are taken now. -/
def execAttestNonce (h : Hdr) (data : Bytes) (s : State) : Out := writeItem Key.attestNonce h (fun fu _ c =>
  if data.length ≠ 32 then (c, .range)
  else if fu.lc ≠ 1 ∧ fu.lc ≠ 2 then (c, .state)
  else
    match sessionOf c h.ctx with
    | none => (c, .state)
    | some x => (setSession c h.ctx { x with report := some { ready := false, report := attestBody fu c data } }, .ok)) s

/-- ATTEST_READY (R469, R471): the report is signed. -/
def execAttestReady (ctx : Nat) (s : State) : Out := inRange ctx 4096 <| onFuse (fun fu _ c =>
  match sessionOf c ctx with
  | none => c
  | some x =>
    match x.report with
    | none => c
    | some r =>
      if r.ready then c
      else setSession c ctx { x with report := some { ready := true, report := r.report ++ identitySig fu r.report } }) s

/-! ### Life cycle (R473 to R477) -/

/-- The rule of LC_COMMAND (R475, R476): RANGE for another boot's epoch, STATE, else the fuses begin to burn. -/
def lcRule (epoch : Nat) (states : List Nat) (cond : Fuses → Core → Bool) (b : Fuses → Core → Burn) (fu : Fuses) (c : Core) :
    Fuses × Core × Status :=
  if epoch ≠ bootEpoch c then (fu, c, .range)
  else if !states.contains fu.lc || !cond fu c || !emptyOrStopped c || c.boot.burn.isSome then (fu, c, .state)
  else
    let c := modPower c fun p => { p with retainedLc := some fu.lc }
    (fu, { c with boot := { c.boot with burn := some (b fu c) } }, .ok)

/-- A command of LC_COMMAND that burns fuses. -/
def lcCommand (h : Hdr) (epoch : Nat) (states : List Nat) (cond : Fuses → Core → Bool) (b : Fuses → Core → Burn) (s : State) : Out :=
  writeItemF Key.lcCommand h (fun fu _ c => lcRule epoch states cond b fu c) noMore s

/-- No condition. -/
def always (_ : Fuses) (_ : Core) : Bool := true

/-- ACCEPT (R475). -/
def execAccept (h : Hdr) (epoch : Nat) (s : State) : Out := lcCommand h epoch [1] always (fun _ _ =>
  { target := 2, revoke := false, fill := none, disable := false }) s

/-- TRANSFER (R475). -/
def execTransfer (h : Hdr) (epoch : Nat) (s : State) : Out := lcCommand h epoch [2]
  (fun fu c => obj c Key.nextOwner ≠ 0 && decide (fu.slots.length < 16))
  (fun _ c => { target := 1, revoke := true, disable := false,
                fill := some (leBytes 64 (obj c Key.nextOwner), bits (obj c Key.nextOwner) 512 8) }) s

/-- RELEASE (R475). -/
def execRelease (h : Hdr) (epoch : Nat) (s : State) : Out := lcCommand h epoch [1, 2] always (fun _ _ =>
  { target := 3, revoke := true, fill := none, disable := false }) s

/-- RETURN (R475). -/
def execReturnModule (h : Hdr) (epoch : Nat) (s : State) : Out := lcCommand h epoch [1, 2] always (fun _ _ =>
  { target := 4, revoke := true, fill := none, disable := false }) s

/-- SCRAP (R475). -/
def execScrap (h : Hdr) (epoch : Nat) (s : State) : Out := lcCommand h epoch [2] always (fun _ _ =>
  { target := 5, revoke := true, fill := none, disable := true }) s

/-- LC_RESET (R475): accepted in every ALMANAC_STATE; the response leaves, then the module resets with cause COMMAND. -/
def execLcReset (h : Hdr) (epoch : Nat) (s : State) : Out :=
  writeItemF Key.lcCommand h (fun fu _ c =>
    if epoch ≠ bootEpoch c then (fu, c, .range)
    else if (fu.lc ≠ 1 ∧ fu.lc ≠ 2) ∨ c.boot.burn.isSome then (fu, c, .state)
    else (fu, c, .ok))
    (fun fu st c => if st = .ok then resetCore fu c 2 false else c) s

/-- The fuses after a burn (R474, R475). -/
def burned (fu : Fuses) (b : Burn) : Fuses :=
  let slots := if b.revoke then revokeSlots fu.slots else fu.slots
  let slots := match b.fill with
    | some x => slots ++ [{ digest := x.1, policy := x.2, revoked := false }]
    | none => slots
  { fu with lc := b.target, slots := slots, disabled := fu.disabled || b.disable }

/-- FUSE_BURN_DONE (R476): the fuses hold the new state, and the module resets with cause LIFECYCLE. -/
def execFuseBurnDone (s : State) : Out :=
  .next (match s.core.boot.burn with
    | none => s
    | some b =>
      if powered s.core then
        let fu := burned s.fuse b
        { s with fuse := fu, core := resetCore fu s.core 3 false }
      else s)

end Sys2Proof.Machine
end

