-- ==== Sys2Proof/Machine/Frames.lean ====
section
/-! DEFINITION. Frames (R19 to R22, R162 to R165, R309 to R313, R354, R369, R370, R404, R406): boundaries, the vote, markers, the
decision point, holds. -/

namespace Sys2Proof.Machine

/-- The tick of boundary `b` (R19). -/
def boundaryTick (c : Core) (b : Nat) : Nat := c.alm.zeroTick + b * obj c Key.frameTicks

/-! ### The vote (R162 to R165) -/

/-- The stations whose programs of the step submit an entry with STEP_END (R126, R131). -/
def stepEndStations (im : Image) : List Nat :=
  ((placedWords im im.cycle).filterMap fun p =>
    if opOf p.2 = some .dfw && bit (imageDesc im p.1 (bits p.2 48 8)) 33 then some p.1 else none).dedup

/-- The stations whose deferred-W work is late at the vote point (R131, R234). -/
def lateStations (c : Core) (im : Image) : List Nat :=
  (List.range 192).filter fun g =>
    (stn c g).dfw.lost || ((stepEndStations im).contains g && !(stn c g).dfw.stepEnd)

/-- Whether a write or gather of an idle working copy is not over and fenced (R30, R163 bit 4): a station's last one has no retired fence
behind it, or a stream with such a destination is not IDLE. -/
def idleWriting (c : Core) : Bool :=
  c.st.any fun p => p.2.idleX.isSome || p.2.streams.any fun x => x.2.state ≠ 0 && gaClass (sDst x.2.active) = 3

/-- Whether a pass or a reduction of the step is not complete (R163 bit 6). -/
def stepOpen (c : Core) (im : Image) : Bool :=
  (placedWords im im.cycle).any (fun p =>
      (isUpd im 1 p.1 p.2 || isUpd im 2 p.1 p.2) && !c.alm.updsDone.contains (p.1 / 24, updOf im p.1 p.2))
    || (stepReds im).any fun r =>
      match redDecl im r with
      | none => false
      | some d => !d.vote && d.kind ≠ .permute && (chanDecl c d.channel).isSome && !c.alm.redsDone.contains r

/-- The reason bits of R163. -/
def voteReasons (c : Core) (im : Image) : Nat :=
  let k := c.alm.marks
  let put := fun (i : Nat) (b : Bool) => fieldAt i (b2n b)
  put 0 (!(lateStations c im).isEmpty) + put 1 k.integrity + put 2 k.window + put 3 k.lost + put 4 (idleWriting c)
    + put 5 k.nonfinite + put 6 (stepOpen c im)

/-- VOTE_POINT (R131, R163): the module fixes its contribution. -/
def execVotePoint (s : State) : Out := onCore (fun c =>
  match c.alm.image, (curTemplate c).bind fun t => t.vote with
  | some im, some off =>
    if almState c ≠ 4 ∨ c.alm.vote.own.isSome then c
    else
      let c := reachTick c (boundaryTick c (obj c Key.frameCount) + off)
      let why := voteReasons c im
      let own := b2n (decide (why ≠ 0))
      let c := (lateStations c im).foldl (fun c g => raise c 0x0806 .step g 0 [g, obj c Key.stepNumber]) c
      let c := setObj (setObj c Key.ownVote own) Key.voteReason why
      modAlm c fun a => { a with vote := { a.vote with own := some own } }
  | _, _ => c) s

/-- The outcome at commit boundary `b` (R164): 1 COMMIT, 2 ABORT, 3 UNDECIDED; none where it becomes a held boundary. With
nothing known at the boundary where the domain resumes, the module is undecided; nor is a row given for no result, no hold, no loss
and own contribution 0: held too (DESIGN CHOICE, log entry 51). -/
def voteOutcome (c : Core) (b : Nat) (resumed : Bool) : Option Nat :=
  match c.alm.vote.result with
  | some true => some 1
  | some false => some 2
  | none =>
    if c.alm.vote.own = some 1 then some 2
    else if resumed then some 3
    else if c.alm.hold.notices.contains b then none
    else if c.alm.vote.lost then some 3
    else none

/-- The module acts on an outcome (R164, R165); 0 is no vote. -/
def actOutcome (c : Core) (o : Nat) : Core :=
  let step := obj c Key.stepNumber
  if o = 0 then c
  else
    let c := setObj (setObj c Key.lastVoteStep step) Key.lastOutcome o
    if o = 1 then commitStep c
    else if o = 2 then addObj (abortStep c (obj c Key.voteReason)) Key.consecAborts 1
    else setObj (raise c 0x0809 .report mgmt 0 [step]) Key.commitState 3

/-- What an outcome does to the memory: ABORT leaves the idle buffers undefined (R168). -/
def outcomeMem (mem : Memory) (c : Core) (o : Nat) : Core × Memory := if o = 2 then idleLost mem c else (c, mem)

/-- The cause that stops the Almanac at boundary `b` after outcome `o` (R370, R372); 0 is none. -/
def stopCause (c : Core) (b o : Nat) : Nat :=
  let steps := obj c Key.stepsToRun
  let limit := obj c Key.abortLimit
  if o = 3 then 6
  else if c.alm.fault.isSome then 4
  else if c.alm.mismatch then 5
  else if o = 1 ∧ steps ≠ 0 ∧ steps ≤ obj c Key.commits then 2
  else if o = 2 ∧ limit ≠ 0 ∧ limit ≤ obj c Key.consecAborts then 3
  else match c.alm.stopAt with
    | some v => if v ≤ b then 1 else 0
    | none => 0

/-! ### Boundaries (R19 to R22, R310, R311) -/

/-- HOLD_STATE of a running module: whether a hold is decided (R315). -/
def holdDecided (c : Core) : Core :=
  setObj c Key.holdState (b2n (c.alm.hold.notices.any fun b => decide (obj c Key.frameCount < b)))

/-- FRAME_OVERRUN at a boundary (R310): the notice for boundary `b` floods, unless it has been seen. -/
def overrun (c : Core) (at' b : Nat) : Core :=
  let c := raise c 0x0608 .report mgmt 0 [at']
  if c.alm.hold.notices.contains b then c
  else holdDecided (floodOn (modHold c fun h => { h with notices := h.notices ++ [b] }) (jobPorts c) (.hold b))

/-- The loop length that the ended frame's template changes (R112, R350). -/
def loopChange (c : Core) : Core :=
  match (curTemplate c).bind fun t => t.loop with
  | some n => setObj c Key.loopLength n
  | none => c

/-- A step cycle starts with a frame: the numbering of deferred-W MMAs begins again (R67, R351). -/
def newCycle (c : Core) (b : Nat) : Core :=
  match c.alm.image with
  | none => c
  | some im =>
    let p := im.prologue.length
    let renumber := fun (s : Station) => { s with arr := { s.arr with dfwMma := 0 } }
    if decide (p ≤ b) && (b - p) % max 1 im.cycle.length = 0 then { c with st := tmap renumber c.st } else c

/-- A queued change of the operating point whose frame starts (R391, R392). -/
def takeQueued (c : Core) (b : Nat) : Core :=
  match c.clk.queued with
  | none => c
  | some q => if q.frame ≤ b then modClk (takeOp c q.mult q.origin) fun k => { k with queued := none } else c

/-- COMMIT_STATE at a held commit boundary and after it (R170). -/
def commitHeld (c : Core) (old new : Nat) : Core := if obj c Key.commitState = old then setObj c Key.commitState new else c

/-- Frame `b` begins (R20, R22). -/
def enterFrame (c : Core) (b : Nat) : Core :=
  let c := commitHeld (setAlm (setObj c Key.frameCount b) 4) 2 1
  let c := modAlm c fun a => { a with decided := false, voted := false, starts := [],
                                      hold := { a.hold with heldAt := none, resume := none, timedOut := false } }
  let c := newGrid { c with ev := { c.ev with interval := [] } }
  let c := takeQueued (newCycle (recentre (holdDecided c)) b) b
  floodOn c (upPorts c) (.marker b false)

/-- The module stops at boundary `b` for a hold (R310, R311). -/
def enterHold (c : Core) (b : Nat) : Core :=
  let c := addObj (setObj (setAlm c 5) Key.holdState 2) Key.holds 1
  let c := if ((curTemplate c).bind fun t => t.vote).isSome then commitHeld c 1 2 else c
  let c := modHold c fun h => { h with heldAt := some b, since := obj c Key.uptimeTicks, resume := none, timedOut := false }
  readyCheck (floodOn c (upPorts c) (.marker b true))

/-- HOLDOVER_DRIFT (R406): in HOLDOVER, the markers' mean phase beyond 4 ticks, or none for PARTNER_TIMEOUT ticks. -/
def driftCheck (c : Core) : Core :=
  if obj c Key.refActive ≠ 3 ∨ !running c then c
  else
    let ports := (upPorts c).filter fun p => inJob c (portOf c p).peerMod
    let errs := ports.filterMap fun p => tget c.clk.phase p
    let n : Int := errs.length
    let mean : Int := if errs.isEmpty then 0 else errs.sum / n
    let c := setObj c Key.holdoverPhase (unsigned 32 mean)
    let quiet := decide (c.clk.lastMarker + obj c Key.partnerTimeout < obj c Key.uptimeTicks)
    if decide (64 * n < errs.sum) || decide (errs.sum < -(64 * n)) || quiet then
      raise c 0x0404 .fault mgmt 0 [unsigned 32 mean]
    else c

/-- The segments that owe their END at boundary `b` (R369). -/
def owing (c : Core) (b : Nat) : Bool := c.alm.segs.any fun p => p.2 = b

/-- What follows the vote at boundary `b`: a stop, a hold, or the next frame, with late work reported (R310, R370). -/
def passBoundary (c : Core) (b o : Nat) : Core :=
  let k := stopCause c b o
  if k ≠ 0 then almanacStop c k
  else
    let held := c.alm.hold.notices.contains b
    let c := if owing c b && !held then overrun c b (b + 1) else c
    if held then enterHold c b else enterFrame c b

/-- The boundary that ends the frame in progress is reached (R164, R396). -/
def boundary (mem : Memory) (c : Core) : Core × Memory :=
  let b := obj c Key.frameCount + 1
  let c := loopChange (closeLeaps (reachTick c (boundaryTick c b)))
  if ((curTemplate c).bind fun t => t.vote).isSome then
    match voteOutcome c b false with
    | none => (enterHold (modAlm c fun a => { a with voted := true }) b, mem)
    | some o =>
      let w := outcomeMem mem c o
      (passBoundary (actOutcome w.1 o) b o, w.2)
  else (passBoundary c b 0, mem)

/-- FRAME_BOUNDARY (R22): a running module reaches its boundary; a held one that stands at it stops there if a stop has come
due (R370, R372), but not before a vote still to be decided. -/
def execFrameBoundary (s : State) : Out := onBoth (fun mem c =>
  if almState c = 4 then
    let w := boundary mem c
    (driftCheck w.1, w.2)
  else match c.alm.hold.heldAt with
    | none => (c, mem)
    | some b =>
      let k := stopCause c b 0
      if c.alm.voted ∨ k = 0 then (c, mem) else (almanacStop c k, mem)) s

/-! ### Markers (R20, R404, R406) -/

/-- The count that this module's own markers carry (R20, R311). -/
def ownCount (c : Core) : Nat := c.alm.hold.heldAt.getD (obj c Key.frameCount)

/-- A marker of another count: SLOT_MISSED, and the stop at the next boundary (R20). Flow and slot of the event are open. -/
def markerCount (c : Core) (port count : Nat) : Core :=
  if count = ownCount c then c
  else
    let d := draw c
    let e := draw d.2
    raise (modAlm e.2 fun a => { a with mismatch := true }) 0x0601 .report mgmt 0
      [Config.freeNat d.1, port, Config.freeNat e.1]

/-- A marker's phase error, in 1/16 tick: kept, and judged on REF_PORT in RECOVERED mode (R404). -/
def markerPhase (c : Core) (port : Nat) (phase : Int) : Core :=
  let c := if inJob c (portOf c port).peerMod then
      modClk c fun k => { k with phase := tset k.phase port phase, lastMarker := obj c Key.uptimeTicks } else c
  if recoveredMode c && port = obj c Key.refPort && decide (32 < phase.natAbs) then unready c (2 + port) else c

/-- FRAME_MARKER (R20): a marker arrives on an UP port of a module in a frame or a hold. -/
def execFrameMarker (port count : Nat) (_hold : Bool) (phase : Int) (s : State) : Out := inRange port 16 <| onCore (fun c =>
  if pstate c port ≠ 3 ∨ (almState c ≠ 4 ∧ almState c ≠ 5) then c
  else driftCheck (markerPhase (markerCount c port count) port phase)) s

/-! ### The decision point (R309, R310, R354) -/

/-- DECISION_POINT (R310, R354): the gate judgements take their turns; an unmet gate is FRAME_OVERRUN. -/
def execDecisionPoint (s : State) : Out := onCore (fun c =>
  match curTemplate c with
  | none => c
  | some t =>
    if almState c ≠ 4 ∨ c.alm.decided then c
    else
      let b := obj c Key.frameCount + 1
      let c := reachTick c (boundaryTick c b - obj c Key.holdLead)
      let c := t.gates.foldl (fun c g => submitGate c g.field g.sem g.n) (modAlm c fun a => { a with decided := true })
      if gatesMet c then c else overrun c b b) s

/-- GATE_JUDGEMENT (R354): a judgement that waits at the front of its sync unit takes its turn. -/
def execGateJudgement (field sem : Nat) (s : State) : Out := inRange field 8 <| inRange sem 4096 <| onCore (fun c =>
  match (syncU c field).held with
  | op :: rest =>
    if op.kind = .gate ∧ op.sem = sem then
      applyPoisons (judgeGate (setSync c field { syncU c field with held := rest }) field sem op.n) field rest.length
    else c
  | [] => c) s

/-! ### Holds (R310 to R313) -/

/-- HOLD (R310): a notice not yet seen is passed on to the job's modules. -/
def execHoldNotice (port b : Nat) (s : State) : Out := inRange port 16 <| onCore (fun c =>
  if pstate c port ≠ 3 ∨ !running c ∨ c.alm.hold.notices.contains b then c
  else
    let c := floodOn (modHold c fun h => { h with notices := h.notices ++ [b] }) (jobPorts c) (.hold b)
    if almState c = 5 then c else holdDecided c) s

/-- READY (R312): a notice not yet seen is counted and passed on. -/
def execReadyNotice (module b : Nat) (s : State) : Out := onCore (fun c =>
  if !running c ∨ c.alm.hold.ready.contains (module, b) then c
  else resumeCheck (floodOn (modHold c fun h => { h with ready := h.ready ++ [(module, b)] }) (jobPorts c) (.ready module b))) s

/-- RESUME (R312): the resume tick is fixed, and the notice passed on. -/
def execResumeNotice (b r : Nat) (s : State) : Out := onCore (fun c =>
  if c.alm.hold.heldAt ≠ some b ∨ c.alm.hold.resume.isSome then c
  else floodOn (setObj (modHold c fun h => { h with resume := some r }) Key.holdState 3) (jobPorts c) (.resume b r)) s

/-- The tick reached in a hold, reckoned on from the one at which the count stands (log entry 25). -/
def heldTick (c : Core) : Nat := obj c Key.domainTick + (obj c Key.uptimeTicks - c.alm.hold.since)

/-- The modules of the job that did not report READY by the timeout of a hold are lost from then on (R306, R313). -/
def loseSilent (c : Core) (b : Nat) : Core :=
  if c.alm.hold.timedOut then
    loseMods c (((c.alm.image.map fun im => im.jobModules).getD []).filter fun m =>
      m ≠ ownMod c && !c.alm.hold.ready.contains (m, b))
  else c

/-- RESUME_AT (R164, R312): the resume tick is reached; the count goes on from the boundary. -/
def execResumeAt (s : State) : Out := onBoth (fun mem c =>
  match c.alm.hold.heldAt, c.alm.hold.resume with
  | some b, some r =>
    let c := passTicks (r - heldTick c) c
    let o := if c.alm.voted then (voteOutcome c b true).getD 3 else 0
    let w := outcomeMem mem c o
    let c := actOutcome w.1 o
    let k := stopCause c b o
    (if k ≠ 0 then almanacStop c k else enterFrame (loseSilent c b) b, w.2)
  | _, _ => (c, mem)) s

/-- HELD_GRID_REPEAT (R311, R396): the slot grid of the ended frame is repeated. -/
def execHeldGridRepeat (s : State) : Out := onCore (fun c =>
  match c.alm.hold.heldAt with
  | none => c
  | some b =>
    let t := max 1 (obj c Key.frameTicks)
    let gone := obj c Key.uptimeTicks - c.alm.hold.since
    let n := t - gone % t
    let past := match c.alm.hold.resume with
      | some r => decide (r ≤ heldTick c + n)
      | none => false
    if past then c
    else
      let c := newGrid (closeLeaps (passTicks n c))
      readyCheck (floodOn c (upPorts c) (.marker b true))) s

/-- The owners of the semaphores that unmet closing conditions wait on (R313; log entry 26): unmet gates, and what stations
whose END is owed watch. -/
def awaited (c : Core) (b : Nat) : List Nat :=
  let gates := ((curTemplate c).map fun t => (t.gates.filter fun g => !gateMet c g.field g.sem).map fun g => (g.field, g.sem)).getD []
  let late := (c.alm.segs.filter fun p => decide (p.2 ≤ b)).map fun p => p.1
  let watched := (List.range 8).flatMap fun f =>
    ((syncU c f).watches.filter fun w => late.contains w.2.dest).map fun w => (f, w.2.sem)
  (gates ++ watched).map fun p => (semOf c p.1 p.2).owner

/-- The fabric flows on which unmet conditions wait: to a module that owns such a semaphore, or with a transfer of a late
station outstanding. -/
def awaitedFlows (c : Core) (b : Nat) : List Nat :=
  let late := (c.alm.segs.filter fun p => decide (p.2 ≤ b)).map fun p => p.1
  (c.fab.ctxs.filter fun p => p.2.kind = 0 && p.2.state = 1 &&
    ((awaited c b).contains (0x8000 + p.2.peerMod)
      || (outstanding c p.1).any fun o => (o.2.stream.map fun q => late.contains q.1).getD false)).map fun p => p.1

/-- The host sessions on which unmet conditions wait. -/
def awaitedSessions (c : Core) (b : Nat) : List Nat :=
  (c.host.sessions.filter fun p => (awaited c b).contains (0x1000 + p.1)).map fun p => p.1

/-- A host session aborts with PARTNER_LOST (R293, R313). The peer module of the event is open. -/
def abortSession (c : Core) (ctx : Nat) : Core :=
  let d := draw c
  let c := { d.2 with alm := { d.2.alm with marks := { d.2.alm.marks with lost := true } } }
  let c := { c with fab := { c.fab with lastLost := (ctx, Config.freeNat d.1 % 4096, 3, obj c Key.frameCount) } }
  dropSession (raise c 0x0607 .step mgmt 0 [ctx, Config.freeNat d.1 % 4096, 3]) ctx

/-- What a module that is not ready does when a hold times out (R313): it aborts what it waits on, and counts those
conditions as met; or it raises HOLD_TIMEOUT. -/
def holdTimeout (c : Core) (b : Nat) : Core :=
  let flows := awaitedFlows c b
  let sess := awaitedSessions c b
  if flows.isEmpty && sess.isEmpty then
    let c := { c with alm := { c.alm with marks := { c.alm.marks with lost := true } } }
    raise c 0x0609 .report mgmt 0 [b]
  else
    let c := flows.foldl (fun c i => abortFlow c i 3) c
    let c := sess.foldl abortSession c
    floodOn (modHold c fun h => { h with ready := h.ready ++ [(ownMod c, b)] }) (jobPorts c) (.ready (ownMod c) b)

/-- HOLD_TIMEOUT (R313): the hold has lasted PARTNER_TIMEOUT ticks; modules that have not reported READY count as lost. -/
def execHoldTimeout (s : State) : Out := onCore (fun c =>
  match c.alm.hold.heldAt with
  | none => c
  | some b =>
    if c.alm.hold.timedOut ∨ c.alm.hold.resume.isSome then c
    else
      let c := passTicks (c.alm.hold.since + obj c Key.partnerTimeout - obj c Key.uptimeTicks) c
      let c := if c.alm.hold.ready.contains (ownMod c, b) then c else holdTimeout c b
      resumeCheck (modHold c fun h => { h with timedOut := true })) s

end Sys2Proof.Machine
end

