-- ==== Sys2Proof/Machine/SyncUnits.lean ====
section
/-! DEFINITION. The sync units' commands (R217 to R219): the operation at the front of a unit's queue is applied. -/

namespace Sys2Proof.Machine

/-- SEM_SIG_ADD (R219). -/
def execSemSigAdd (f : Nat) (s : State) : Out := inRange f 8 <| onCore (fun c => applyHeld c f .add) s

/-- SEM_SIG_SUB (R219). -/
def execSemSigSub (f : Nat) (s : State) : Out := inRange f 8 <| onCore (fun c => applyHeld c f .sub) s

/-- SEM_TAK (R219). -/
def execSemTak (f : Nat) (s : State) : Out := inRange f 8 <| onCore (fun c => applyHeld c f .tak) s

/-- SEM_WAT (R219, R225, R226). -/
def execSemWat (f : Nat) (s : State) : Out := inRange f 8 <| onCore (fun c => applyHeld c f .wat) s

end Sys2Proof.Machine
end

