-- ==== Sys2Proof/Machine/Vector.lean ====
section
/-! DEFINITION. The vector unit: VOP and CVT (R259 to R262). -/

namespace Sys2Proof.Machine

/-- The lane width bit of a VOP (R248). -/
def vopW (w : Nat) : Bool := bit w 52
/-- The register numbers of a VOP (R248). -/
def vopD (w : Nat) : Nat := bits w 47 5
/-- VA of a VOP. -/
def vopA (w : Nat) : Nat := bits w 42 5
/-- VB of a VOP. -/
def vopB (w : Nat) : Nat := bits w 37 5
/-- VC of a VOP. -/
def vopC (w : Nat) : Nat := bits w 32 5

/-- The VOP at PC of station `g` writes its destination register lane by lane (R259). -/
def vopLanes (m : Memory) (c : Core) (g fn : Nat) (f : Station → Nat → List Nat) : Core :=
  issueNow m c g (.vop fn) fun w c => setLanes c g (vopW w) (vopD w) (f (stn c g) w)

/-- A lane function of VA. -/
def vopUn (m : Memory) (c : Core) (g fn : Nat) (f : Bool → Nat → Nat) : Core :=
  vopLanes m c g fn fun s w => (lanes s (vopW w) (vopA w)).map (f (vopW w))

/-- A lane function of VA and VB. -/
def vopBin (m : Memory) (c : Core) (g fn : Nat) (f : Bool → Nat → Nat → Nat) : Core :=
  vopLanes m c g fn fun s w =>
    List.zipWith (f (vopW w)) (lanes s (vopW w) (vopA w)) (lanes s (vopW w) (vopB w))

/-- A lane function of VA, VB and VC. -/
def vopTer (m : Memory) (c : Core) (g fn : Nat) (f : Bool → Nat → Nat → Nat → Nat) : Core :=
  vopLanes m c g fn fun s w =>
    let x := lanes s (vopW w) (vopA w)
    let y := lanes s (vopW w) (vopB w)
    let z := lanes s (vopW w) (vopC w)
    List.zipWith (fun p z => f (vopW w) p.1 p.2 z) (List.zip x y) z

/-- The cycles the transcendental unit is busy for one operation (R260), counted (R275). -/
def transcBusy (w : Nat) (c : Core) : Core := addObj c Key.transcBusyCycles (if vopW w then 8 else 4)

/-- A function of the transcendental unit (R260). -/
def vopTransc (m : Memory) (c : Core) (g fn : Nat) (f : FVal → FVal) : Core :=
  issueNow m c g (.vop fn) fun w c =>
    let fm := laneFmt (vopW w)
    transcBusy w (setLanes c g (vopW w) (vopD w) ((lanes (stn c g) (vopW w) (vopA w)).map fun p => fm.enc (f (fm.dec p))))

/-- The address a VLD or VST names (R248, R249). -/
def vopAddr (s : Station) (w : Nat) : Nat := namedAddr s (bits w 28 4) (bits w 6 22)

/-- VLD (R259). -/
def execVld (g : Nat) (s : State) : Out := inRange g 192 <| onCoreMem (fun m c =>
  match atPc m c g (.vop 0x00) with
  | none => c
  | some w =>
    let a := vopAddr (stn c g) w
    match readStop c g [a] 256 64 with
    | some c => c
    | none => issued (setVr (vigilRead c g (stBase g + a) 256 4) g (vopD w) (mreadN m (stBase g + a) 256)) g) s

/-- VST (R259). -/
def execVst (g : Nat) (s : State) : Out := inRange g 192 <| onBoth (fun m c =>
  match atPc m c g (.vop 0x01) with
  | none => (c, m)
  | some w =>
    let a := vopAddr (stn c g) w
    match addrFault [a] 256 64 with
    | some x => (instrAddrFault c g x, m)
    | none =>
      (issued (vigilWrite c g (stBase g + a) 256 4) g, mwriteN m (stBase g + a) (vrBytes (stn c g) (vopA w)))) s

/-- VMOV (R259): the bytes of a register. -/
def execVmov (g : Nat) (s : State) : Out := inRange g 192 <| onCoreMem (fun m c =>
  issueNow m c g (.vop 0x02) fun w c => setVr c g (vopD w) (vrBytes (stn c g) (vopA w))) s

/-- VIMM (R259). -/
def execVimm (g : Nat) (s : State) : Out := inRange g 192 <| onCoreMem (fun m c =>
  vopLanes m c g 0x03 fun _ w => List.replicate (laneCount (vopW w)) (bits w 0 (if vopW w then 16 else 32))) s

/-- VIDX (R259). -/
def execVidx (g : Nat) (s : State) : Out := inRange g 192 <| onCoreMem (fun m c =>
  vopLanes m c g 0x04 fun _ w =>
    (List.range (laneCount (vopW w))).map fun i => (laneFmt (vopW w)).ofInt ((i : Int) + signed 32 (bits w 0 32))) s

/-- VBCAST (R259). -/
def execVbcast (g : Nat) (s : State) : Out := inRange g 192 <| onCoreMem (fun m c =>
  vopLanes m c g 0x05 fun s w =>
    List.replicate (laneCount (vopW w)) ((lanes s (vopW w) (vopA w)).getD (bits w 0 7) 0)) s

/-- VADD (R260). -/
def execVadd (g : Nat) (s : State) : Out := inRange g 192 <| onCoreMem (fun m c =>
  vopBin m c g 0x08 fun w a b => (laneFmt w).add a b) s

/-- VSUB (R260). -/
def execVsub (g : Nat) (s : State) : Out := inRange g 192 <| onCoreMem (fun m c =>
  vopBin m c g 0x09 fun w a b => (laneFmt w).sub a b) s

/-- VMUL (R260). -/
def execVmul (g : Nat) (s : State) : Out := inRange g 192 <| onCoreMem (fun m c =>
  vopBin m c g 0x0A fun w a b => (laneFmt w).mul a b) s

/-- VFMA (R260). -/
def execVfma (g : Nat) (s : State) : Out := inRange g 192 <| onCoreMem (fun m c =>
  vopTer m c g 0x0B fun w a b x => (laneFmt w).fma a b x) s

/-- VMAX (R260). -/
def execVmax (g : Nat) (s : State) : Out := inRange g 192 <| onCoreMem (fun m c =>
  vopBin m c g 0x0C fun w a b => (laneFmt w).max a b) s

/-- VMIN (R260). -/
def execVmin (g : Nat) (s : State) : Out := inRange g 192 <| onCoreMem (fun m c =>
  vopBin m c g 0x0D fun w a b => (laneFmt w).min a b) s

/-- VABS (R260): the bit pattern with its sign bit cleared. -/
def execVabs (g : Nat) (s : State) : Out := inRange g 192 <| onCoreMem (fun m c =>
  vopUn m c g 0x0E fun w a => a % (laneFmt w).signBit) s

/-- VNEG (R260): the bit pattern with its sign bit inverted. -/
def execVneg (g : Nat) (s : State) : Out := inRange g 192 <| onCoreMem (fun m c =>
  vopUn m c g 0x0F fun w a => a ^^^ (laneFmt w).signBit) s

/-- VCMPGT's lane (R260). -/
def cmpGt (f : Fmt) (a b : Nat) : Nat :=
  let x := f.dec a
  let y := f.dec b
  if !x.isNan && !y.isNan && y.lt x then f.one else 0

/-- VCMPEQ's lane (R260): zeros of either sign are equal. -/
def cmpEq (f : Fmt) (a b : Nat) : Nat :=
  let x := f.dec a
  let y := f.dec b
  if !x.isNan && !y.isNan && !x.lt y && !y.lt x then f.one else 0

/-- VCMPGT (R260). -/
def execVcmpgt (g : Nat) (s : State) : Out := inRange g 192 <| onCoreMem (fun m c =>
  vopBin m c g 0x10 fun w a b => cmpGt (laneFmt w) a b) s

/-- VCMPEQ (R260). -/
def execVcmpeq (g : Nat) (s : State) : Out := inRange g 192 <| onCoreMem (fun m c =>
  vopBin m c g 0x11 fun w a b => cmpEq (laneFmt w) a b) s

/-- VSEL (R259, R260): VA where VC is neither zero, a NaN included. -/
def execVsel (g : Nat) (s : State) : Out := inRange g 192 <| onCoreMem (fun m c =>
  vopTer m c g 0x12 fun w a b x => if ((laneFmt w).dec x).isZero then b else a) s

/-- VEXP2 (R260). -/
def execVexp2 (g : Nat) (s : State) : Out := inRange g 192 <| onCoreMem (fun m c =>
  vopTransc m c g 0x18 FVal.exp2) s

/-- VLOG2 (R260). -/
def execVlog2 (g : Nat) (s : State) : Out := inRange g 192 <| onCoreMem (fun m c =>
  vopTransc m c g 0x19 FVal.log2) s

/-- VRCP (R260). -/
def execVrcp (g : Nat) (s : State) : Out := inRange g 192 <| onCoreMem (fun m c =>
  vopTransc m c g 0x1A fun a => (FVal.fin false 1 0).div a) s

/-- VRSQ (R260). -/
def execVrsq (g : Nat) (s : State) : Out := inRange g 192 <| onCoreMem (fun m c =>
  vopTransc m c g 0x1B FVal.rsqrt) s

/-- One level of the tree of R261: adjacent pairs combined. -/
def treeLevel (f : Nat → Nat → Nat) : List Nat → List Nat
  | a :: b :: r => f a b :: treeLevel f r
  | l => l

/-- The tree of R261 over 2^n values. -/
def tree (f : Nat → Nat → Nat) (n : Nat) (xs : List Nat) : Nat :=
  ((List.range n).foldl (fun l _ => treeLevel f l) xs).headD 0

/-- A reduction of all lanes in FP32, rounded once to the lane format and put in every lane (R261). -/
def reduceLanes (f : Nat → Nat → Nat) (s : Station) (w : Nat) : List Nat :=
  let l := laneCount (vopW w)
  let xs := (lanes s (vopW w) (vopA w)).map fun p => if vopW w then bf16.conv fp32 p else p
  let r := tree f (if vopW w then 7 else 6) xs
  List.replicate l (if vopW w then fp32.conv bf16 r else r)

/-- VRSUM (R261). -/
def execVrsum (g : Nat) (s : State) : Out := inRange g 192 <| onCoreMem (fun m c =>
  vopLanes m c g 0x20 (reduceLanes fp32.add)) s

/-- VRMAX (R261). -/
def execVrmax (g : Nat) (s : State) : Out := inRange g 192 <| onCoreMem (fun m c =>
  vopLanes m c g 0x21 (reduceLanes fp32.max)) s

/-! ### CVT (R262) -/

/-- The address a CVT names. -/
def cvtAddr (s : Station) (w : Nat) : Nat := namedAddr s (bits w 24 4) (bits w 2 22)

/-- The bytes a PACK writes, and what its conversions leave. -/
def packAll (c : Core) (g w : Nat) : Core × Bytes :=
  let l := bit w 57
  let fmt := bits w 48 4
  let e := bits w 28 13
  let xs := (lanes (stn c g) l (bits w 52 5)).take (bits w 41 7 + 1)
  if fmt = 1 ∨ fmt = 2 then
    let r := convScaledAll c (g / 24) g e fmt (scaleRead c e) (xs.map (laneFmt l).dec)
    (r.1, elemBytes 1 r.2)
  else (c, elemBytes (tagBytes fmt) (xs.map (packPlain l fmt)))

/-- CVT PACK (R262). -/
def execCvtPack (g : Nat) (s : State) : Out := inRange g 192 <| onBoth (fun m c =>
  match atPc m c g .pack with
  | none => (c, m)
  | some w =>
    let a := cvtAddr (stn c g) w
    let eb := tagBytes (bits w 48 4)
    let n := (bits w 41 7 + 1) * eb
    match addrFault [a] n eb with
    | some x => (instrAddrFault c g x, m)
    | none =>
      let r := packAll (vigilWrite c g (stBase g + a) n 4) g w
      (issued r.1 g, mwriteN m (stBase g + a) r.2)) s

/-- CVT UNPACK (R262): the other lanes become +0. -/
def execCvtUnpack (g : Nat) (s : State) : Out := inRange g 192 <| onCoreMem (fun m c =>
  match atPc m c g .unpack with
  | none => c
  | some w =>
    let l := bit w 57
    let fmt := bits w 48 4
    let a := cvtAddr (stn c g) w
    let eb := tagBytes fmt
    let n := bits w 41 7 + 1
    match readStop c g [a] (n * eb) eb with
    | some c => c
    | none =>
      let k := if fmt = 1 ∨ fmt = 2 then scaleRead c (bits w 28 13) else 0
      let xs := (elems eb n (mreadN m (stBase g + a) (n * eb))).map (unpackElem l fmt k)
      let c := vigilRead c g (stBase g + a) (n * eb) 4
      issued (setLanes c g l (bits w 52 5) (xs ++ List.replicate (laneCount l - n) 0)) g) s

end Sys2Proof.Machine
end

