-- ==== Sys2Proof/Machine/Dispatch.lean ====
section
/-! DEFINITION. Dispatch: the meaning of every command. -/

namespace Sys2Proof.Machine

/-- A command's effect on everything but the queue. -/
def exec (i : Instr) (s : State) : Host.Outcome State Fault Refusal :=
  match i with
  | .frameBoundary => Sys2Proof.Machine.execFrameBoundary s
  | .frameMarker port count hold phase => Sys2Proof.Machine.execFrameMarker port count hold phase s
  | .votePoint => Sys2Proof.Machine.execVotePoint s
  | .decisionPoint => Sys2Proof.Machine.execDecisionPoint s
  | .gateJudgement field sem => Sys2Proof.Machine.execGateJudgement field sem s
  | .holdNotice port b => Sys2Proof.Machine.execHoldNotice port b s
  | .readyNotice module b => Sys2Proof.Machine.execReadyNotice module b s
  | .resumeNotice b r => Sys2Proof.Machine.execResumeNotice b r s
  | .resumeAt => Sys2Proof.Machine.execResumeAt s
  | .heldGridRepeat => Sys2Proof.Machine.execHeldGridRepeat s
  | .holdTimeout => Sys2Proof.Machine.execHoldTimeout s
  | .loadImage h c => Sys2Proof.Machine.execLoadImage h c s
  | .loadCheckDone => Sys2Proof.Machine.execLoadCheckDone s
  | .start h => Sys2Proof.Machine.execStart h s
  | .stop h => Sys2Proof.Machine.execStop h s
  | .unload h => Sys2Proof.Machine.execUnload h s
  | .frameZero => Sys2Proof.Machine.execFrameZero s
  | .segmentStart g entry => Sys2Proof.Machine.execSegmentStart g entry s
  | .nop g => Sys2Proof.Machine.execNop g s
  | .mma g => Sys2Proof.Machine.execMma g s
  | .mmaRowRetire g t => Sys2Proof.Machine.execMmaRowRetire g t s
  | .ldw g => Sys2Proof.Machine.execLdw g s
  | .planeLoadStart g => Sys2Proof.Machine.execPlaneLoadStart g s
  | .planeLoadDone g => Sys2Proof.Machine.execPlaneLoadDone g s
  | .mva g => Sys2Proof.Machine.execMva g s
  | .mvaDone g => Sys2Proof.Machine.execMvaDone g s
  | .drn g => Sys2Proof.Machine.execDrn g s
  | .drainCopyOut g t => Sys2Proof.Machine.execDrainCopyOut g t s
  | .drainDone g t => Sys2Proof.Machine.execDrainDone g t s
  | .ringPartialRow g => Sys2Proof.Machine.execRingPartialRow g s
  | .vld g => Sys2Proof.Machine.execVld g s
  | .vst g => Sys2Proof.Machine.execVst g s
  | .vmov g => Sys2Proof.Machine.execVmov g s
  | .vimm g => Sys2Proof.Machine.execVimm g s
  | .vidx g => Sys2Proof.Machine.execVidx g s
  | .vbcast g => Sys2Proof.Machine.execVbcast g s
  | .vadd g => Sys2Proof.Machine.execVadd g s
  | .vsub g => Sys2Proof.Machine.execVsub g s
  | .vmul g => Sys2Proof.Machine.execVmul g s
  | .vfma g => Sys2Proof.Machine.execVfma g s
  | .vmax g => Sys2Proof.Machine.execVmax g s
  | .vmin g => Sys2Proof.Machine.execVmin g s
  | .vabs g => Sys2Proof.Machine.execVabs g s
  | .vneg g => Sys2Proof.Machine.execVneg g s
  | .vcmpgt g => Sys2Proof.Machine.execVcmpgt g s
  | .vcmpeq g => Sys2Proof.Machine.execVcmpeq g s
  | .vsel g => Sys2Proof.Machine.execVsel g s
  | .vexp2 g => Sys2Proof.Machine.execVexp2 g s
  | .vlog2 g => Sys2Proof.Machine.execVlog2 g s
  | .vrcp g => Sys2Proof.Machine.execVrcp g s
  | .vrsq g => Sys2Proof.Machine.execVrsq g s
  | .vrsum g => Sys2Proof.Machine.execVrsum g s
  | .vrmax g => Sys2Proof.Machine.execVrmax g s
  | .cvtPack g => Sys2Proof.Machine.execCvtPack g s
  | .cvtUnpack g => Sys2Proof.Machine.execCvtUnpack g s
  | .str g => Sys2Proof.Machine.execStr g s
  | .sigAdd g => Sys2Proof.Machine.execSigAdd g s
  | .sigSub g => Sys2Proof.Machine.execSigSub g s
  | .sigRelease g => Sys2Proof.Machine.execSigRelease g s
  | .tak g => Sys2Proof.Machine.execTak g s
  | .watPost g => Sys2Proof.Machine.execWatPost g s
  | .watBlock g => Sys2Proof.Machine.execWatBlock g s
  | .watWait g => Sys2Proof.Machine.execWatWait g s
  | .syncOperationReply g => Sys2Proof.Machine.execSyncOperationReply g s
  | .watchMessage unit => Sys2Proof.Machine.execWatchMessage unit s
  | .fnc g => Sys2Proof.Machine.execFnc g s
  | .fncWait g => Sys2Proof.Machine.execFncWait g s
  | .fenceRetire g => Sys2Proof.Machine.execFenceRetire g s
  | .red g => Sys2Proof.Machine.execRed g s
  | .upd g => Sys2Proof.Machine.execUpd g s
  | .lyr g => Sys2Proof.Machine.execLyr g s
  | .lyrRelease g => Sys2Proof.Machine.execLyrRelease g s
  | .dfw g => Sys2Proof.Machine.execDfw g s
  | .jmp g => Sys2Proof.Machine.execJmp g s
  | .endSeg g => Sys2Proof.Machine.execEndSeg g s
  | .seta g => Sys2Proof.Machine.execSeta g s
  | .lset g => Sys2Proof.Machine.execLset g s
  | .lend g => Sys2Proof.Machine.execLend g s
  | .illegalInstruction g => Sys2Proof.Machine.execIllegalInstruction g s
  | .instructionWrite master addr data => Sys2Proof.Machine.execInstructionWrite master addr data s
  | .semSigAdd f => Sys2Proof.Machine.execSemSigAdd f s
  | .semSigSub f => Sys2Proof.Machine.execSemSigSub f s
  | .semTak f => Sys2Proof.Machine.execSemTak f s
  | .semWat f => Sys2Proof.Machine.execSemWat f s
  | .carouselForward g deferred => Sys2Proof.Machine.execCarouselForward g deferred s
  | .weightTileForward g => Sys2Proof.Machine.execWeightTileForward g s
  | .dfwEntryStart g => Sys2Proof.Machine.execDfwEntryStart g s
  | .dfwRestore g => Sys2Proof.Machine.execDfwRestore g s
  | .dfwChunkIssue g => Sys2Proof.Machine.execDfwChunkIssue g s
  | .updInit f => Sys2Proof.Machine.execUpdInit f s
  | .updNorm f => Sys2Proof.Machine.execUpdNorm f s
  | .updPrepare f => Sys2Proof.Machine.execUpdPrepare f s
  | .updApply f => Sys2Proof.Machine.execUpdApply f s
  | .updComplete f => Sys2Proof.Machine.execUpdComplete f s
  | .resolveCommit h => Sys2Proof.Machine.execResolveCommit h s
  | .resolveAbort h => Sys2Proof.Machine.execResolveAbort h s
  | .streamArm master addr data => Sys2Proof.Machine.execStreamArm master addr data s
  | .streamUnitStart g st => Sys2Proof.Machine.execStreamUnitStart g st s
  | .streamTransfer g st => Sys2Proof.Machine.execStreamTransfer g st s
  | .streamUnitDone g st => Sys2Proof.Machine.execStreamUnitDone g st s
  | .streamComplete g st => Sys2Proof.Machine.execStreamComplete g st s
  | .mergeWindow line => Sys2Proof.Machine.execMergeWindow line s
  | .streamStall g st => Sys2Proof.Machine.execStreamStall g st s
  | .hbmGranule h v => Sys2Proof.Machine.execHbmGranule h v s
  | .accessEditWrite h data => Sys2Proof.Machine.execAccessEditWrite h data s
  | .accessEditClear h data => Sys2Proof.Machine.execAccessEditClear h data s
  | .linkTrainingPhase p roundTrip => Sys2Proof.Machine.execLinkTrainingPhase p roundTrip s
  | .trainingTimeout p => Sys2Proof.Machine.execTrainingTimeout p s
  | .lossOfSignal p => Sys2Proof.Machine.execLossOfSignal p s
  | .ident p msg => Sys2Proof.Machine.execIdent p msg s
  | .codewordGroup p seq errs acked => Sys2Proof.Machine.execCodewordGroup p seq errs acked s
  | .replay p seq => Sys2Proof.Machine.execReplay p seq s
  | .linkStateAdvert p a => Sys2Proof.Machine.execLinkStateAdvert p a s
  | .advertTimer => Sys2Proof.Machine.execAdvertTimer s
  | .flowPacketSend ctx port slot room => Sys2Proof.Machine.execFlowPacketSend ctx port slot room s
  | .fabricWrite rx => Sys2Proof.Machine.execFabricWrite rx s
  | .fabricRead rx => Sys2Proof.Machine.execFabricRead rx s
  | .readData rx => Sys2Proof.Machine.execReadData rx s
  | .fabricAtomic rx => Sys2Proof.Machine.execFabricAtomic rx s
  | .atomicRet rx => Sys2Proof.Machine.execAtomicRet rx s
  | .fabricSync rx => Sys2Proof.Machine.execFabricSync rx s
  | .syncReply rx => Sys2Proof.Machine.execSyncReply rx s
  | .fabricWatch rx => Sys2Proof.Machine.execFabricWatch rx s
  | .collPartial rx => Sys2Proof.Machine.execCollPartial rx s
  | .collResult rx => Sys2Proof.Machine.execCollResult rx s
  | .collAgree rx => Sys2Proof.Machine.execCollAgree rx s
  | .collMcast rx => Sys2Proof.Machine.execCollMcast rx s
  | .detachNote rx => Sys2Proof.Machine.execDetachNote rx s
  | .ack rx => Sys2Proof.Machine.execAck rx s
  | .nak rx => Sys2Proof.Machine.execNak rx s
  | .flowCtlKeepalive rx => Sys2Proof.Machine.execFlowCtlKeepalive rx s
  | .flowCtlReset rx => Sys2Proof.Machine.execFlowCtlReset rx s
  | .transitForward rx since => Sys2Proof.Machine.execTransitForward rx since s
  | .flowAckTimer ctx => Sys2Proof.Machine.execFlowAckTimer ctx s
  | .keepaliveTimer ctx => Sys2Proof.Machine.execKeepaliveTimer ctx s
  | .partnerLost ctx => Sys2Proof.Machine.execPartnerLost ctx s
  | .moduleId h sub v => Sys2Proof.Machine.execModuleId h sub v s
  | .portJoin h v => Sys2Proof.Machine.execPortJoin h v s
  | .portEnable h v => Sys2Proof.Machine.execPortEnable h v s
  | .installationId h v => Sys2Proof.Machine.execInstallationId h v s
  | .reductionStart f redno => Sys2Proof.Machine.execReductionStart f redno s
  | .reductionComplete f ch => Sys2Proof.Machine.execReductionComplete f ch s
  | .permutePlace f ch => Sys2Proof.Machine.execPermutePlace f ch s
  | .mcastDetach g st member => Sys2Proof.Machine.execMcastDetach g st member s
  | .refWindow src count => Sys2Proof.Machine.execRefWindow src count s
  | .refEdgeLoss src => Sys2Proof.Machine.execRefEdgeLoss src s
  | .refSelect h v => Sys2Proof.Machine.execRefSelect h v s
  | .refSwitch => Sys2Proof.Machine.execRefSwitch s
  | .fieldLock occupancy => Sys2Proof.Machine.execFieldLock occupancy s
  | .opChange h mult frame => Sys2Proof.Machine.execOpChange h mult frame s
  | .leap f margin path => Sys2Proof.Machine.execLeap f margin path s
  | .companionLeap f => Sys2Proof.Machine.execCompanionLeap f s
  | .clockUnlock gen => Sys2Proof.Machine.execClockUnlock gen s
  | .gateStations h data => Sys2Proof.Machine.execGateStations h data s
  | .gateEngines h v => Sys2Proof.Machine.execGateEngines h v s
  | .gateHbm h v => Sys2Proof.Machine.execGateHbm h v s
  | .gateHostports h v => Sys2Proof.Machine.execGateHostports h v s
  | .vigilEnable h v => Sys2Proof.Machine.execVigilEnable h v s
  | .vigilPause => Sys2Proof.Machine.execVigilPause s
  | .auditCheck g deferred n a w => Sys2Proof.Machine.execAuditCheck g deferred n a w s
  | .hostportDown p => Sys2Proof.Machine.execHostportDown p s
  | .hostportLinkUp p speed => Sys2Proof.Machine.execHostportLinkUp p speed s
  | .lldpduSend p => Sys2Proof.Machine.execLldpduSend p s
  | .lldpduReceive p chassis portId ttl => Sys2Proof.Machine.execLldpduReceive p chassis portId ttl s
  | .lldpPeerExpiry p => Sys2Proof.Machine.execLldpPeerExpiry p s
  | .fragmentTimeout p id => Sys2Proof.Machine.execFragmentTimeout p id s
  | .announce p => Sys2Proof.Machine.execAnnounce p s
  | .discover p source serial => Sys2Proof.Machine.execDiscover p source serial s
  | .openSession p m => Sys2Proof.Machine.execOpenSession p m s
  | .close h => Sys2Proof.Machine.execClose h s
  | .keepalive h => Sys2Proof.Machine.execKeepalive h s
  | .sessionTimeout ctx => Sys2Proof.Machine.execSessionTimeout ctx s
  | .readDict h items => Sys2Proof.Machine.execReadDict h items s
  | .writeDict h items => Sys2Proof.Machine.execWriteDict h items s
  | .syncSigAdd h name delta => Sys2Proof.Machine.execSyncSigAdd h name delta s
  | .syncSigSub h name delta => Sys2Proof.Machine.execSyncSigSub h name delta s
  | .syncTak h name n => Sys2Proof.Machine.execSyncTak h name n s
  | .syncWat h name n cookie => Sys2Proof.Machine.execSyncWat h name n cookie s
  | .watch ctx => Sys2Proof.Machine.execWatch ctx s
  | .noteAck h => Sys2Proof.Machine.execNoteAck h s
  | .notificationResend ctx => Sys2Proof.Machine.execNotificationResend ctx s
  | .subscribe h mask => Sys2Proof.Machine.execSubscribe h mask s
  | .bulkWriteMem h o => Sys2Proof.Machine.execBulkWriteMem h o s
  | .bulkReadMem h o => Sys2Proof.Machine.execBulkReadMem h o s
  | .bulkLoadBuffer h o => Sys2Proof.Machine.execBulkLoadBuffer h o s
  | .bulkFirmware h o => Sys2Proof.Machine.execBulkFirmware h o s
  | .bulkObjectRead h o => Sys2Proof.Machine.execBulkObjectRead h o s
  | .bulkData h tr seg data => Sys2Proof.Machine.execBulkData h tr seg data s
  | .bulkAck h tr map => Sys2Proof.Machine.execBulkAck h tr map s
  | .bulkAckTimer ctx tr => Sys2Proof.Machine.execBulkAckTimer ctx tr s
  | .bulkResend ctx tr seg => Sys2Proof.Machine.execBulkResend ctx tr seg s
  | .bulkComplete h tr fw => Sys2Proof.Machine.execBulkComplete h tr fw s
  | .bulkAbort h tr => Sys2Proof.Machine.execBulkAbort h tr s
  | .speedAllowed h p v => Sys2Proof.Machine.execSpeedAllowed h p v s
  | .vlanId h p v => Sys2Proof.Machine.execVlanId h p v s
  | .stageStart mv => Sys2Proof.Machine.execStageStart mv s
  | .undervoltage mv => Sys2Proof.Machine.execUndervoltage mv s
  | .overvoltage mv => Sys2Proof.Machine.execOvervoltage mv s
  | .inputVoltage mv => Sys2Proof.Machine.execInputVoltage mv s
  | .overload mw ma => Sys2Proof.Machine.execOverload mw ma s
  | .coolantMeasurement inlet outlet flow => Sys2Proof.Machine.execCoolantMeasurement inlet outlet flow s
  | .powerEvaluation mv ma temps => Sys2Proof.Machine.execPowerEvaluation mv ma temps s
  | .thermalTrip sensor temp => Sys2Proof.Machine.execThermalTrip sensor temp s
  | .thermalShutdown sensor temp => Sys2Proof.Machine.execThermalShutdown sensor temp s
  | .reset cause => Sys2Proof.Machine.execReset cause s
  | .watchdog => Sys2Proof.Machine.execWatchdog s
  | .sramWipeDone => Sys2Proof.Machine.execSramWipeDone s
  | .hbmWipeDone us => Sys2Proof.Machine.execHbmWipeDone us s
  | .wipeTimeout stack => Sys2Proof.Machine.execWipeTimeout stack s
  | .handover => Sys2Proof.Machine.execHandover s
  | .fwRaiseMin h v => Sys2Proof.Machine.execFwRaiseMin h v s
  | .eonelRevoke h v => Sys2Proof.Machine.execEonelRevoke h v s
  | .attestNonce h data => Sys2Proof.Machine.execAttestNonce h data s
  | .attestReady ctx => Sys2Proof.Machine.execAttestReady ctx s
  | .accept h epoch => Sys2Proof.Machine.execAccept h epoch s
  | .transfer h epoch => Sys2Proof.Machine.execTransfer h epoch s
  | .release h epoch => Sys2Proof.Machine.execRelease h epoch s
  | .returnModule h epoch => Sys2Proof.Machine.execReturnModule h epoch s
  | .scrap h epoch => Sys2Proof.Machine.execScrap h epoch s
  | .lcReset h epoch => Sys2Proof.Machine.execLcReset h epoch s
  | .fuseBurnDone => Sys2Proof.Machine.execFuseBurnDone s
  | .stageEnMate => Sys2Proof.Machine.execStageEnMate s
  | .stageEnBreak => Sys2Proof.Machine.execStageEnBreak s
  | .resetN lowNs => Sys2Proof.Machine.execResetN lowNs s
  | .resetRelease => Sys2Proof.Machine.execResetRelease s
  | .hbmTrainingDone stack => Sys2Proof.Machine.execHbmTrainingDone stack s
  | .standbyLock f => Sys2Proof.Machine.execStandbyLock f s
  | .opChangeTakesEffect => Sys2Proof.Machine.execOpChangeTakesEffect s
  | .leapCountInterval => Sys2Proof.Machine.execLeapCountInterval s
  | .housekeepingSupplyLoss => Sys2Proof.Machine.execHousekeepingSupplyLoss s
  | .pwrgood => Sys2Proof.Machine.execPwrgood s
  | .arp p ip => Sys2Proof.Machine.execArp p ip s
  | .neighbourDiscovery p pfx => Sys2Proof.Machine.execNeighbourDiscovery p pfx s
  | .icmpEcho p data => Sys2Proof.Machine.execIcmpEcho p data s
  | .dhcp p ip => Sys2Proof.Machine.execDhcp p ip s
  | .discardedFrame p => Sys2Proof.Machine.execDiscardedFrame p s
  | .ipFragment p id size complete => Sys2Proof.Machine.execIpFragment p id size complete s

end Sys2Proof.Machine
end

