-- ==== Sys2Proof/Safety.lean ====
section
/-! DEFINITION. What the statements are about: outcomes, what a command leaves alone, the invariant every step keeps. -/

namespace Sys2Proof

open Machine

/-- An outcome is a next state with a property. -/
def NextWith (o : Host.Outcome State Fault Refusal) (P : State → Prop) : Prop := ∃ t, o = .next t ∧ P t

/-- The byte memory is in its canonical form: addresses rise and no listed byte is zero. -/
abbrev MemoryInv (s : State) : Prop := memWf s.mem = true

/-- The module runs: its stage is on and its internal reset is not held (R450, R488). -/
abbrev Runs (s : State) : Prop := s.core.power.stage = true ∧ s.core.power.held = false

/-- The state with another core. -/
def withCore (s : State) (c : Core) : State := { s with core := c }

/-- Station `g` stands before the word `w`, which is the instruction `o` and passed its load checks, and its sequencer may
issue (R241, R243, R247, R253). -/
abbrev AtWord (s : State) (g w : Nat) (o : Op) : Prop :=
  Runs s ∧ g < 192 ∧ ((stn s.core g).seq.state = .running ∨ (stn s.core g).seq.state = .waiting)
    ∧ (stn s.core g).seq.hold = .free ∧ imemWord s.mem g (stn s.core g).seq.pc = w ∧ opOf w = some o
    ∧ issueOk s.core g w = true

/-- A sequencer after an issue: it runs, waits on nothing, has counted the instruction and the cycles that still held it,
and names the next one (R253, R246). -/
def issuedSeq (q : Seq) : Seq :=
  { q with state := .running, waitCause := 0, pc := (q.pc + 1) % 8192, issued := q.issued + 1,
           waitCycles := q.waitCycles + q.left, left := 0 }

/-- A sequencer that has entered FAULTED at the instruction it stands before, for a fault kind (R245, R246). -/
def faultedSeq (q : Seq) (kind : Nat) : Seq :=
  { q with state := .faulted, waitCause := 0, hold := .free, faultPc := q.pc, faultKind := kind }

/-- The core after an instruction of station `g` issued and left the station as `x`: INSTR_ISSUED counts it, and
SEQ_WAIT_CYCLES the cycles that still held the station. -/
def issueAs (c : Core) (g : Nat) (x : Station) : Core :=
  addObj (setStn (waited c x.seq.left) g { x with seq := issuedSeq x.seq }) Key.instrIssued 1

/-- Every object but those listed keeps its value. -/
def ObjectsKept (s t : State) (ks : List Nat) : Prop := ∀ k, k ∉ ks → obj t.core k = obj s.core k

/-- Every station but one keeps its record. -/
def StationsKept (s t : State) (g : Nat) : Prop := ∀ k, k ≠ g → stn t.core k = stn s.core k

/-- Every byte outside `n` bytes from `a` reads as before. -/
def BytesKept (s t : State) (a n : Nat) : Prop := ∀ b, b < a ∨ a + n ≤ b → mread t.mem b = mread s.mem b

/-- From `s` to `t` only the core's parts of which `f` takes those of the second core changed; queue and fuses stay. -/
def OnlyParts (s t : State) (f : Core → Core → Core) : Prop :=
  t.pending = s.pending ∧ t.fuse = s.fuse ∧ t.core = f s.core t.core

/-- The SIG ADD 1 with which a unit of station `g` signals a completion semaphore, for the instruction at `pc` (R497). -/
def signalOf (g pc sem : Nat) : SyncOp :=
  { issuer := g, kind := .add, sem := sem, n := 1, cookie := 0, slot := 0, back := .comp g pc }

/-- A completion, if one is named, is held at the sync unit of the station's field; nothing else of the fields changed. -/
def CompletionHeld (s t : State) (g : Nat) (fin : Option (Nat × Nat)) : Prop :=
  match fin with
  | none => t.core.fl = s.core.fl
  | some (pc, sem) => (syncU t.core (g / 24)).held = (syncU s.core (g / 24)).held ++ [signalOf g pc sem]

end Sys2Proof
end

