-- ==== Sys2Proof/WellFormed.lean ====
section
/-! DEFINITION. Well-formed commands: every unit that a command names is one the module has (R12, R34, R276, R292, R319,
R414, R433, R456), a request comes in on a port, its operands have the sizes of its payload, and it stands in the row of its
kind. -/

namespace Sys2Proof

/-- The numbers a command names, each with the bound below which it must lie. -/
def Instr.units (i : Instr) : List (Nat × Nat) :=
  match i with
  | .frameBoundary => []
  | .frameMarker port _ _ _ => [(port, 16)]
  | .votePoint => []
  | .decisionPoint => []
  | .gateJudgement field sem => [(field, 8), (sem, 4096)]
  | .holdNotice port _ => [(port, 16)]
  | .readyNotice _ _ => []
  | .resumeNotice _ _ => []
  | .resumeAt => []
  | .heldGridRepeat => []
  | .holdTimeout => []
  | .loadImage h _ => [(h.ctx, 65536)]
  | .loadCheckDone => []
  | .start h => [(h.ctx, 65536)]
  | .stop h => [(h.ctx, 65536)]
  | .unload h => [(h.ctx, 65536)]
  | .frameZero => []
  | .segmentStart g _ => [(g, 192)]
  | .nop g => [(g, 192)]
  | .mma g => [(g, 192)]
  | .mmaRowRetire g t => [(g, 192), (t, 2)]
  | .ldw g => [(g, 192)]
  | .planeLoadStart g => [(g, 192)]
  | .planeLoadDone g => [(g, 192)]
  | .mva g => [(g, 192)]
  | .mvaDone g => [(g, 192)]
  | .drn g => [(g, 192)]
  | .drainCopyOut g t => [(g, 192), (t, 2)]
  | .drainDone g t => [(g, 192), (t, 2)]
  | .ringPartialRow g => [(g, 192)]
  | .vld g => [(g, 192)]
  | .vst g => [(g, 192)]
  | .vmov g => [(g, 192)]
  | .vimm g => [(g, 192)]
  | .vidx g => [(g, 192)]
  | .vbcast g => [(g, 192)]
  | .vadd g => [(g, 192)]
  | .vsub g => [(g, 192)]
  | .vmul g => [(g, 192)]
  | .vfma g => [(g, 192)]
  | .vmax g => [(g, 192)]
  | .vmin g => [(g, 192)]
  | .vabs g => [(g, 192)]
  | .vneg g => [(g, 192)]
  | .vcmpgt g => [(g, 192)]
  | .vcmpeq g => [(g, 192)]
  | .vsel g => [(g, 192)]
  | .vexp2 g => [(g, 192)]
  | .vlog2 g => [(g, 192)]
  | .vrcp g => [(g, 192)]
  | .vrsq g => [(g, 192)]
  | .vrsum g => [(g, 192)]
  | .vrmax g => [(g, 192)]
  | .cvtPack g => [(g, 192)]
  | .cvtUnpack g => [(g, 192)]
  | .str g => [(g, 192)]
  | .sigAdd g => [(g, 192)]
  | .sigSub g => [(g, 192)]
  | .sigRelease g => [(g, 192)]
  | .tak g => [(g, 192)]
  | .watPost g => [(g, 192)]
  | .watBlock g => [(g, 192)]
  | .watWait g => [(g, 192)]
  | .syncOperationReply g => [(g, 192)]
  | .watchMessage _ => []
  | .fnc g => [(g, 192)]
  | .fncWait g => [(g, 192)]
  | .fenceRetire g => [(g, 192)]
  | .red g => [(g, 192)]
  | .upd g => [(g, 192)]
  | .lyr g => [(g, 192)]
  | .lyrRelease g => [(g, 192)]
  | .dfw g => [(g, 192)]
  | .jmp g => [(g, 192)]
  | .endSeg g => [(g, 192)]
  | .seta g => [(g, 192)]
  | .lset g => [(g, 192)]
  | .lend g => [(g, 192)]
  | .illegalInstruction g => [(g, 192)]
  | .instructionWrite _ _ _ => []
  | .semSigAdd f => [(f, 8)]
  | .semSigSub f => [(f, 8)]
  | .semTak f => [(f, 8)]
  | .semWat f => [(f, 8)]
  | .carouselForward g _ => [(g, 192)]
  | .weightTileForward g => [(g, 192)]
  | .dfwEntryStart g => [(g, 192)]
  | .dfwRestore g => [(g, 192)]
  | .dfwChunkIssue g => [(g, 192)]
  | .updInit f => [(f, 8)]
  | .updNorm f => [(f, 8)]
  | .updPrepare f => [(f, 8)]
  | .updApply f => [(f, 8)]
  | .updComplete f => [(f, 8)]
  | .resolveCommit h => [(h.ctx, 65536)]
  | .resolveAbort h => [(h.ctx, 65536)]
  | .streamArm _ _ _ => []
  | .streamUnitStart g st => [(g, 192), (st, 16)]
  | .streamTransfer g st => [(g, 192), (st, 16)]
  | .streamUnitDone g st => [(g, 192), (st, 16)]
  | .streamComplete g st => [(g, 192), (st, 16)]
  | .mergeWindow _ => []
  | .streamStall g st => [(g, 192), (st, 16)]
  | .hbmGranule h _ => [(h.ctx, 65536)]
  | .accessEditWrite h _ => [(h.ctx, 65536)]
  | .accessEditClear h _ => [(h.ctx, 65536)]
  | .linkTrainingPhase p _ => [(p, 16)]
  | .trainingTimeout p => [(p, 16)]
  | .lossOfSignal p => [(p, 16)]
  | .ident p _ => [(p, 16)]
  | .codewordGroup p _ _ _ => [(p, 16)]
  | .replay p _ => [(p, 16)]
  | .linkStateAdvert p _ => [(p, 16)]
  | .advertTimer => []
  | .flowPacketSend ctx port _ _ => [(ctx, 4096), (port, 16)]
  | .fabricWrite rx => [(rx.port, 16)]
  | .fabricRead rx => [(rx.port, 16)]
  | .readData rx => [(rx.port, 16)]
  | .fabricAtomic rx => [(rx.port, 16)]
  | .atomicRet rx => [(rx.port, 16)]
  | .fabricSync rx => [(rx.port, 16)]
  | .syncReply rx => [(rx.port, 16)]
  | .fabricWatch rx => [(rx.port, 16)]
  | .collPartial rx => [(rx.port, 16)]
  | .collResult rx => [(rx.port, 16)]
  | .collAgree rx => [(rx.port, 16)]
  | .collMcast rx => [(rx.port, 16)]
  | .detachNote rx => [(rx.port, 16)]
  | .ack rx => [(rx.port, 16)]
  | .nak rx => [(rx.port, 16)]
  | .flowCtlKeepalive rx => [(rx.port, 16)]
  | .flowCtlReset rx => [(rx.port, 16)]
  | .transitForward rx _ => [(rx.port, 16)]
  | .flowAckTimer ctx => [(ctx, 4096)]
  | .keepaliveTimer ctx => [(ctx, 4096)]
  | .partnerLost ctx => [(ctx, 4096)]
  | .moduleId h _ _ => [(h.ctx, 65536)]
  | .portJoin h _ => [(h.ctx, 65536)]
  | .portEnable h _ => [(h.ctx, 65536)]
  | .installationId h _ => [(h.ctx, 65536)]
  | .reductionStart f redno => [(f, 8), (redno, 4096)]
  | .reductionComplete f ch => [(f, 8), (ch, 64)]
  | .permutePlace f ch => [(f, 8), (ch, 64)]
  | .mcastDetach g st member => [(g, 192), (st, 16), (member, 64)]
  | .refWindow src _ => [(src, 18)]
  | .refEdgeLoss src => [(src, 18)]
  | .refSelect h _ => [(h.ctx, 65536)]
  | .refSwitch => []
  | .fieldLock _ => []
  | .opChange h _ _ => [(h.ctx, 65536)]
  | .leap f _ path => [(f, 8), (path, 32)]
  | .companionLeap f => [(f, 8)]
  | .clockUnlock gen => [(gen, 11)]
  | .gateStations h _ => [(h.ctx, 65536)]
  | .gateEngines h _ => [(h.ctx, 65536)]
  | .gateHbm h _ => [(h.ctx, 65536)]
  | .gateHostports h _ => [(h.ctx, 65536)]
  | .vigilEnable h _ => [(h.ctx, 65536)]
  | .vigilPause => []
  | .auditCheck g _ _ _ _ => [(g, 192)]
  | .hostportDown p => [(p, 3)]
  | .hostportLinkUp p _ => [(p, 3)]
  | .lldpduSend p => [(p, 3)]
  | .lldpduReceive p _ _ _ => [(p, 3)]
  | .lldpPeerExpiry p => [(p, 3)]
  | .fragmentTimeout p _ => [(p, 3)]
  | .announce p => [(p, 3)]
  | .discover p _ _ => [(p, 3)]
  | .openSession p _ => [(p, 3)]
  | .close h => [(h.ctx, 65536)]
  | .keepalive h => [(h.ctx, 65536)]
  | .sessionTimeout ctx => [(ctx, 4096)]
  | .readDict h _ => [(h.ctx, 65536)]
  | .writeDict h _ => [(h.ctx, 65536)]
  | .syncSigAdd h _ _ => [(h.ctx, 65536)]
  | .syncSigSub h _ _ => [(h.ctx, 65536)]
  | .syncTak h _ _ => [(h.ctx, 65536)]
  | .syncWat h _ _ _ => [(h.ctx, 65536)]
  | .watch ctx => [(ctx, 4096)]
  | .noteAck h => [(h.ctx, 65536)]
  | .notificationResend ctx => [(ctx, 4096)]
  | .subscribe h _ => [(h.ctx, 65536)]
  | .bulkWriteMem h _ => [(h.ctx, 65536)]
  | .bulkReadMem h _ => [(h.ctx, 65536)]
  | .bulkLoadBuffer h _ => [(h.ctx, 65536)]
  | .bulkFirmware h _ => [(h.ctx, 65536)]
  | .bulkObjectRead h _ => [(h.ctx, 65536)]
  | .bulkData h tr _ _ => [(h.ctx, 65536), (tr, 16)]
  | .bulkAck h tr _ => [(h.ctx, 65536), (tr, 16)]
  | .bulkAckTimer ctx tr => [(ctx, 4096), (tr, 16)]
  | .bulkResend ctx tr _ => [(ctx, 4096), (tr, 16)]
  | .bulkComplete h tr _ => [(h.ctx, 65536), (tr, 16)]
  | .bulkAbort h tr => [(h.ctx, 65536), (tr, 16)]
  | .speedAllowed h p _ => [(h.ctx, 65536), (p, 3)]
  | .vlanId h p _ => [(h.ctx, 65536), (p, 3)]
  | .stageStart _ => []
  | .undervoltage _ => []
  | .overvoltage _ => []
  | .inputVoltage _ => []
  | .overload _ _ => []
  | .coolantMeasurement _ _ _ => []
  | .powerEvaluation _ _ _ => []
  | .thermalTrip sensor _ => [(sensor, 41)]
  | .thermalShutdown sensor _ => [(sensor, 41)]
  | .reset cause => [(cause, 9)]
  | .watchdog => []
  | .sramWipeDone => []
  | .hbmWipeDone _ => []
  | .wipeTimeout stack => [(stack, 32)]
  | .handover => []
  | .fwRaiseMin h _ => [(h.ctx, 65536)]
  | .eonelRevoke h _ => [(h.ctx, 65536)]
  | .attestNonce h _ => [(h.ctx, 65536)]
  | .attestReady ctx => [(ctx, 4096)]
  | .accept h _ => [(h.ctx, 65536)]
  | .transfer h _ => [(h.ctx, 65536)]
  | .release h _ => [(h.ctx, 65536)]
  | .returnModule h _ => [(h.ctx, 65536)]
  | .scrap h _ => [(h.ctx, 65536)]
  | .lcReset h _ => [(h.ctx, 65536)]
  | .fuseBurnDone => []
  | .stageEnMate => []
  | .stageEnBreak => []
  | .resetN _ => []
  | .resetRelease => []
  | .hbmTrainingDone stack => [(stack, 32)]
  | .standbyLock f => [(f, 8)]
  | .opChangeTakesEffect => []
  | .leapCountInterval => []
  | .housekeepingSupplyLoss => []
  | .pwrgood => []
  | .arp p _ => [(p, 3)]
  | .neighbourDiscovery p _ => [(p, 3)]
  | .icmpEcho p _ => [(p, 3)]
  | .dhcp p _ => [(p, 3)]
  | .discardedFrame p => [(p, 3)]
  | .ipFragment p _ _ _ => [(p, 3)]

/-- The header of a sessioned message, where the command is one. -/
def Instr.header (i : Instr) : Option Hdr :=
  match i with
  | .loadImage h _ => some h
  | .start h => some h
  | .stop h => some h
  | .unload h => some h
  | .resolveCommit h => some h
  | .resolveAbort h => some h
  | .hbmGranule h _ => some h
  | .accessEditWrite h _ => some h
  | .accessEditClear h _ => some h
  | .moduleId h _ _ => some h
  | .portJoin h _ => some h
  | .portEnable h _ => some h
  | .installationId h _ => some h
  | .refSelect h _ => some h
  | .opChange h _ _ => some h
  | .gateStations h _ => some h
  | .gateEngines h _ => some h
  | .gateHbm h _ => some h
  | .gateHostports h _ => some h
  | .vigilEnable h _ => some h
  | .close h => some h
  | .keepalive h => some h
  | .readDict h _ => some h
  | .writeDict h _ => some h
  | .syncSigAdd h _ _ => some h
  | .syncSigSub h _ _ => some h
  | .syncTak h _ _ => some h
  | .syncWat h _ _ _ => some h
  | .noteAck h => some h
  | .subscribe h _ => some h
  | .bulkWriteMem h _ => some h
  | .bulkReadMem h _ => some h
  | .bulkLoadBuffer h _ => some h
  | .bulkFirmware h _ => some h
  | .bulkObjectRead h _ => some h
  | .bulkData h _ _ _ => some h
  | .bulkAck h _ _ => some h
  | .bulkComplete h _ _ => some h
  | .bulkAbort h _ => some h
  | .speedAllowed h _ _ => some h
  | .vlanId h _ _ => some h
  | .fwRaiseMin h _ => some h
  | .eonelRevoke h _ => some h
  | .attestNonce h _ => some h
  | .accept h _ => some h
  | .transfer h _ => some h
  | .release h _ => some h
  | .returnModule h _ => some h
  | .scrap h _ => some h
  | .lcReset h _ => some h
  | _ => none

/-- Whether a request comes in on one of the three Ethernet ports (R414) with a SEQ of 32 bits (R419). -/
def Instr.headerOk (i : Instr) : Bool :=
  match i.header with
  | some h => decide (h.port < 3) && decide (h.seq < 2 ^ 32)
  | none => true

/-- Whether the operands have the sizes of the payload, and the command stands in the row of its kind (R424, R428, R433): a
WRITE names no object that has a row of its own; a BULK_OPEN has its row's KIND. -/
def Instr.operandsOk (i : Instr) : Bool :=
  match i with
  | .readDict _ items => items.all fun x => decide (x.index < 65536) && decide (x.sub < 256) && decide (x.offset < 2 ^ 32)
  | .writeDict _ items => items.all fun x =>
      decide (x.index < 65536) && decide (x.sub < 256) && !Machine.ownRow.contains (x.index * 256 + x.sub)
  | .openSession _ m => m.ek.length = 1184 && m.pk.length = 1952 && m.sig.length = 3309 && m.pkDigest.length = 64
  | .bulkWriteMem _ o => o.kind = 0
  | .bulkReadMem _ o => o.kind = 1
  | .bulkLoadBuffer _ o => o.kind = 2
  | .bulkFirmware _ o => o.kind = 3
  | .bulkObjectRead _ o => o.kind = 4
  | .powerEvaluation _ _ temps => temps.length = 41
  | _ => true

/-- A command is well formed. -/
def Instr.wellFormed (i : Instr) : Bool := i.units.all (fun p => decide (p.1 < p.2)) && i.headerOk && i.operandsOk

end Sys2Proof
end

