-- ==== Sys2Proof/Certificates/Slice0/Obligations.lean ====
section
/-! DEFINITION. The statements for the provers. A name under `Goals` is an expression that statements share. -/

open Sys2Proof Sys2Proof.Machine

/-! ### The machine as a whole -/

/-- Events of a code raised since reset count one more (R446; the counter stops at its largest value). -/
abbrev Sys2Proof.Goals.raised (s t : State) (code : Nat) : Prop :=
  tgetD t.core.ev.counts code 0 = min (tgetD s.core.ev.counts code 0 + 1) (2 ^ 32 - 1)

/-- A sessioned request of session `x` on the UDP port of its type that is carried out for the first time (R420, R421, R422). -/
abbrev Sys2Proof.Goals.newOn (udp : Nat) (s : State) (h : Hdr) (x : Session) : Prop :=
  Runs s ∧ h.port < 3 ∧ h.udp = udp ∧ sessionOf s.core h.ctx = some x ∧ h.tagOk = true
    ∧ 1 ≤ (h.seq + 2 ^ 32 - x.h % 2 ^ 32) % 2 ^ 32 ∧ (h.seq + 2 ^ 32 - x.h % 2 ^ 32) % 2 ^ 32 < 2 ^ 31

/-- A new request of the session service, on its UDP port (R2, R420). -/
abbrev Sys2Proof.Goals.newRequest (s : State) (h : Hdr) (x : Session) : Prop := Goals.newOn 50471 s h x

/-- A new request of bulk transfer, on its UDP port (R2, R420). -/
abbrev Sys2Proof.Goals.newBulk (s : State) (h : Hdr) (x : Session) : Prop := Goals.newOn 50472 s h x

/-- A response leaves last, under the session's key, on the port of its request, to its source and with its SEQ (R421, R423). -/
abbrev Sys2Proof.Goals.responds (t : State) (h : Hdr) (x : Session) (r : Resp) : Prop :=
  t.core.host.out.getLast? = some (.bamcen h.port h.source h.ctx h.seq r (tagOf x.key h.ctx 1 h.seq r))

/-- A write of an object that its table and its access rights permit reaches the object's own rule (R431). -/
abbrev Sys2Proof.Goals.writes (s : State) (h : Hdr) (x : Session) (key : Nat) : Prop :=
  Goals.newRequest s h x ∧ dictGate s.core h.ctx key .w = .ok

/-- The response to a WRITE of one item with its status (R428). -/
abbrev Sys2Proof.Goals.wrote (t : State) (h : Hdr) (x : Session) (key : Nat) (st : Status) : Prop :=
  Goals.responds t h x { typ := 0x21, status := 0, payload := itemHead key st (objType key) 0 }

/-- A step takes the command at the front of the queue and is that command's effect with the rest waiting. -/
def Obligations.StepTakesFront : Prop :=
  ∀ (s : State) (c : Instr) (rest : List Instr), step { s with pending := c :: rest } = exec c { s with pending := rest }

/-- Every well-formed command answers a next state: none stops the module. -/
def Obligations.EveryCommandAnswers : Prop := ∀ (i : Instr) (s : State), i.wellFormed = true → ∃ t, exec i s = .next t

/-- No command changes the queue: a step leaves exactly the commands behind the one it took. -/
def Obligations.QueueIsFirstInFirstOut : Prop :=
  ∀ (s t : State), step s = .next t → t.pending = s.pending.tail

/-- The memory stays in its canonical form in every step. -/
def Obligations.MemoryInvKept : Prop := ∀ (s t : State), MemoryInv s → step s = .next t → MemoryInv t

/-- A module whose power stage is off, or that is held in reset, does nothing on any command but those of its power inputs, of the
sideband connector and of reset; on an empty queue nothing passes (R450, R481, R488; log entry 4).
Where it rests on a choice of the model: log entry 82. -/
def Obligations.UnpoweredModuleDoesNothing : Prop :=
  ∀ (s : State) (i : Instr), powered s.core = false → i.wellFormed = true →
    (∀ mv, i ≠ .stageStart mv) → (∀ mv, i ≠ .undervoltage mv) → (∀ mv, i ≠ .overvoltage mv) → (∀ a b, i ≠ .overload a b) →
    (∀ n, i ≠ .resetN n) → (∀ n, i ≠ .reset n) →
    i ∉ [.stageEnMate, .stageEnBreak, .resetRelease, .housekeepingSupplyLoss, .pwrgood] →
    exec i s = .next s

/-- Only raising the firmware minimum, revoking a key, burning a transition's fuses, and the cutting of a burn by a reset or a loss of power
change the fuses (R468, R474, R476).
Where it rests on a choice of the model: log entry 84. -/
def Obligations.FusesStay : Prop :=
  ∀ (s t : State) (i : Instr), s.core.boot.burn = none → (∀ h v, i ≠ .fwRaiseMin h v) → (∀ h v, i ≠ .eonelRevoke h v) → exec i s = .next t →
    t.fuse = s.fuse

/-- With no command waiting a tick passes: UPTIME_TICKS and, unless the domain is held, DOMAIN_TICK advance, and stations that wait
count the tick's cycles, of a NOP or a taken jump no more than still hold them (the model's choice, log entry 4; R307, R246, R272). -/
def Obligations.IdleTick : Prop :=
  ∀ (s : State), s.pending = [] → Runs s → NextWith (step s) fun t =>
    t.mem = s.mem ∧ t.fuse = s.fuse ∧ t.pending = []
    ∧ obj t.core Key.uptimeTicks = min (obj s.core Key.uptimeTicks + 1) (objMax Key.uptimeTicks)
    ∧ (s.core.alm.hold.heldAt = none → obj t.core Key.domainTick = (obj s.core Key.domainTick + 1) % 2 ^ 64)
    ∧ (s.core.alm.hold.heldAt ≠ none → obj t.core Key.domainTick = obj s.core Key.domainTick)
    ∧ (∀ g q, (stn s.core g).seq = q → (stn t.core g).seq =
        if q.state ≠ .waiting then q
        else if q.left = 0 then { q with waitCycles := q.waitCycles + obj s.core Key.opMult }
        else if obj s.core Key.opMult < q.left then
          { q with waitCycles := q.waitCycles + obj s.core Key.opMult, left := q.left - obj s.core Key.opMult }
        else { q with waitCycles := q.waitCycles + q.left, left := 0, state := .running, waitCause := 0 })

/-- What a reset leaves: the memory in its canonical form with nothing listed, no Almanac, every sequencer STOPPED with every plane
unloaded, tiles OPEN, streams IDLE, semaphores not valid, ports DOWN, contexts FREE, XTAL in force at ×16, the boot ROM running.
Where it rests on a choice of the model: log entry 6. -/
def Obligations.ResetState : Prop :=
  let c := State.reset.core
  MemoryInv State.reset ∧ State.reset.mem = [] ∧ State.reset.pending = []
    ∧ almState c = 0 ∧ c.alm.image = none ∧ obj c Key.refActive = 0 ∧ obj c Key.opMult = 16 ∧ c.boot.rom = true
    ∧ (∀ g t st, stn c g = Station.reset ∧ (stn c g).seq.state = .stopped ∧ (stn c g).arr.plane0.tag = none
        ∧ (stn c g).arr.plane1.tag = none ∧ (tileOf (stn c g) t).state = .open ∧ (strm (stn c g) st).state = 0
        ∧ (strm (stn c g) st).pending = none)
    ∧ (∀ f k, (semOf c f k).valid = false ∧ (syncU c f).held = [] ∧ (syncU c f).watches = [])
    ∧ (∀ p i, p < 16 → pstate c p = 0 ∧ (ctxOf c i).state = 0)

/-! ### The vector unit (chapter 08) -/

/-- The station `x` with lanes written to VR[D] of a VOP word (R248, R259). -/
def Sys2Proof.Goals.laneWrite (x : Station) (w : Nat) (r : List Nat) : Station :=
  { x with vr := tset x.vr (bits w 47 5) (elemBytes (laneBytes (bit w 52)) r) }

/-- The lanes of VR[A], VR[B], VR[C] of a VOP word (R248, R259). -/
def Sys2Proof.Goals.inLanes (x : Station) (w lo : Nat) : List Nat := lanes x (bit w 52) (bits w lo 5)

/-- R259, R260: a two-operand VOP puts, lane by lane, its function of VR[A] and VR[B] in VR[D], rounded once in the lane
format, and changes nothing else but its sequencer's registers and INSTR_ISSUED. -/
def Sys2Proof.Goals.VectorTwoOperandLanes : Prop :=
  ∀ (s : State) (g w fn : Nat) (i : Instr) (f : Fmt → Nat → Nat → Nat),
    (i, fn, f) ∈ [(.vadd g, 0x08, Fmt.add), (.vsub g, 0x09, Fmt.sub), (.vmul g, 0x0A, Fmt.mul), (.vmax g, 0x0C, Fmt.max),
      (.vmin g, 0x0D, Fmt.min), (.vcmpgt g, 0x10, cmpGt), (.vcmpeq g, 0x11, cmpEq)] →
    AtWord s g w (.vop fn) →
    exec i s = .next (withCore s (issueAs s.core g (Goals.laneWrite (stn s.core g) w
      (List.zipWith (f (laneFmt (bit w 52))) (Goals.inLanes (stn s.core g) w 42) (Goals.inLanes (stn s.core g) w 37)))))

/-- R259, R260: VABS clears and VNEG inverts the sign bit of each lane; VIMM puts an immediate pattern and VIDX the lane index plus a signed
immediate in each; VBCAST copies one lane to all; VFMA rounds a times b plus c once; VSEL chooses by whether the third operand is zero. -/
def Sys2Proof.Goals.VectorOtherLanes : Prop :=
  ∀ (s : State) (g w fn : Nat) (i : Instr) (r : List Nat),
    let x := stn s.core g
    let l := bit w 52
    let n := if l then 128 else 64
    let top := if l then 2 ^ 15 else 2 ^ 31
    let a := Goals.inLanes x w 42
    let b := Goals.inLanes x w 37
    let d := Goals.inLanes x w 32
    (i, fn, r) ∈ [(.vimm g, 0x03, List.replicate n (bits w 0 (if l then 16 else 32))),
      (.vidx g, 0x04, (List.range n).map fun k => (laneFmt l).ofInt (k + signed 32 (bits w 0 32))),
      (.vbcast g, 0x05, List.replicate n (a.getD (bits w 0 7) 0)),
      (.vfma g, 0x0B, (List.zip (List.zip a b) d).map fun p => (laneFmt l).enc (((laneFmt l).dec p.1.1).fma
        ((laneFmt l).dec p.1.2) ((laneFmt l).dec p.2))),
      (.vabs g, 0x0E, a.map fun p => p % top), (.vneg g, 0x0F, a.map fun p => p ^^^ top),
      (.vsel g, 0x12, (List.zip (List.zip a b) d).map fun p => if p.2 = 0 ∨ p.2 = top then p.1.2 else p.1.1)] →
    AtWord s g w (.vop fn) →
    exec i s = .next (withCore s (issueAs s.core g (Goals.laneWrite x w r)))


/-- R260: the transcendental unit's functions, each lane rounded once from the exact value, and its busy cycles (R275). -/
def Sys2Proof.Goals.VectorTranscendentalLanes : Prop :=
  ∀ (s : State) (g w fn : Nat) (i : Instr) (f : FVal → FVal),
    (i, fn, f) ∈ [(.vexp2 g, 0x18, FVal.exp2), (.vlog2 g, 0x19, FVal.log2),
      (.vrcp g, 0x1A, FVal.div (.fin false 1 0)), (.vrsq g, 0x1B, FVal.rsqrt)] →
    AtWord s g w (.vop fn) →
    exec i s = .next (withCore s (issueAs (addObj s.core Key.transcBusyCycles (if bit w 52 then 8 else 4)) g
      (Goals.laneWrite (stn s.core g) w ((Goals.inLanes (stn s.core g) w 42).map fun p =>
        (laneFmt (bit w 52)).enc (f ((laneFmt (bit w 52)).dec p))))))

/-- The fixed tree of R261: the value of node `i` of level `n` over the leaves `v`. -/
def Sys2Proof.Goals.treeAt (f : Nat → Nat → Nat) (v : Nat → Nat) : Nat → Nat → Nat
  | 0, i => v i
  | n + 1, i => f (Goals.treeAt f v n (2 * i)) (Goals.treeAt f v n (2 * i + 1))

/-- R261: VRSUM and VRMAX combine the 64 FP32 lanes, or the 128 BF16 lanes in FP32, in the fixed binary tree of neighbours, and put the result in
every lane of VR[D], narrowed once. -/
def Obligations.VectorReductionTree : Prop :=
  ∀ (s : State) (g w fn : Nat) (i : Instr) (f : Nat → Nat → Nat),
    (i, fn, f) ∈ [(.vrsum g, 0x20, fp32.add), (.vrmax g, 0x21, fp32.max)] →
    AtWord s g w (.vop fn) →
    let l := bit w 52
    let leaf := fun k => let p := (Goals.inLanes (stn s.core g) w 42).getD k 0
      if l then bf16.conv fp32 p else p
    let r := Goals.treeAt f leaf (if l then 7 else 6) 0
    exec i s = .next (withCore s (issueAs s.core g (Goals.laneWrite (stn s.core g) w
      (List.replicate (if l then 128 else 64) (if l then fp32.conv bf16 r else r)))))

/-- R259: the lanes written to a register are the lanes read from it, and no other register changes. -/
def Obligations.LanesReadBack : Prop :=
  ∀ (x : Station) (l : Bool) (v : Nat) (r : List Nat),
    r.length = laneCount l → (∀ p ∈ r, p < 2 ^ (8 * laneBytes l)) →
    lanes { x with vr := tset x.vr v (elemBytes (laneBytes l) r) } l v = r
      ∧ ∀ u, u ≠ v → vrBytes { x with vr := tset x.vr v (elemBytes (laneBytes l) r) } u = vrBytes x u

/-- R40, R41, R43, R44, R48: rounding the value of a pattern that is no NaN gives the pattern back, in every format. -/
def Obligations.FormatsRoundTrip : Prop :=
  (∀ f ∈ [fp32, bf16, e5m2], ∀ p, p < 2 ^ (1 + f.ew + f.fw) → (f.dec p).isNan = false → f.enc (f.dec p) = p)
    ∧ (∀ p, p < 256 → (decE4M3 p).isNan = false → narrow 1 (decE4M3 p) = (p, false))
    ∧ (∀ p, p < 2 ^ 32 → toW32 (decW32 p) = (p, false, false))

/-- R44: the value of every W32 pattern, each of which is a finite number; 0x0000_0000 and 0x8000_0000 are +0 and −0 and compare equal. -/
def Obligations.W32Value : Prop :=
  (∀ p, p < 2 ^ 32 → ∃ m k, decW32 p = .fin (p.testBit 31) m k
    ∧ ((m : ℚ) * 2 ^ k = if p / 2 ^ 25 % 64 = 0 then 2 ^ (-39 : ℤ) * ((p % 2 ^ 25 : ℕ) / 2 ^ 25 : ℚ)
        else 2 ^ ((p / 2 ^ 25 % 64 : ℕ) - 40 : ℤ) * (1 + (p % 2 ^ 25 : ℕ) / 2 ^ 25 : ℚ)))
  ∧ (∃ k, decW32 0 = .fin false 0 k) ∧ (∃ k, decW32 0x80000000 = .fin true 0 k)
  ∧ (decW32 0).lt (decW32 0x80000000) = false ∧ (decW32 0x80000000).lt (decW32 0) = false

/-- R40: the value of every E4M3 pattern with its sign; its NaN patterns are 0x7F and 0xFF, it has no infinity, and its largest finite magnitude
is 448, of the pattern S.1111.110. -/
def Obligations.E4M3Value : Prop :=
  (∀ p, p < 256 → if p = 0x7F ∨ p = 0xFF then decE4M3 p = .nan (p.testBit 7)
    else ∃ m k, decE4M3 p = .fin (p.testBit 7) m k ∧ (m : ℚ) * 2 ^ k ≤ 448
      ∧ ((m : ℚ) * 2 ^ k = if p / 8 % 16 = 0 then 2 ^ (-6 : ℤ) * ((p % 8 : ℕ) / 8 : ℚ)
          else 2 ^ ((p / 8 % 16 : ℕ) - 7 : ℤ) * (1 + (p % 8 : ℕ) / 8 : ℚ)))
  ∧ ∀ p ∈ [0x7E, 0xFE], ∃ m k, decE4M3 p = .fin (p.testBit 7) m k ∧ (m : ℚ) * 2 ^ k = 448

/-- No word of the rows of a station's memory that an instruction reads has an error its code cannot correct (R183). -/
abbrev Sys2Proof.Goals.sound (s : State) (g : Nat) (rows : List Nat) (n : Nat) : Prop := rowsBad s.core g rows n = none

/-- R259, R249: VMOV copies a vector register; VLD loads the 256 bytes at its station-memory address, and an address that is not aligned to 64
or runs past the memory faults the sequencer with nothing loaded. -/
def Sys2Proof.Goals.VectorLoadAndMove : Prop :=
  ∀ (s : State) (g w : Nat),
    let x := stn s.core g
    let a := namedAddr x (bits w 28 4) (bits w 6 22)
    (AtWord s g w (.vop 0x02) → exec (.vmov g) s =
      .next (withCore s (issueAs s.core g { x with vr := tset x.vr (bits w 47 5) (vrBytes x (bits w 42 5)) })))
    ∧ (AtWord s g w (.vop 0x00) → a % 64 = 0 → a + 256 ≤ stSize → Goals.sound s g [a] 256 → exec (.vld g) s =
      .next (withCore s (issueAs (vigilRead s.core g (stBase g + a) 256 4) g
        { x with vr := tset x.vr (bits w 47 5) (mreadN s.mem (stBase g + a) 256) })))
    ∧ (AtWord s g w (.vop 0x00) → ¬(a % 64 = 0 ∧ a + 256 ≤ stSize) → NextWith (exec (.vld g) s) fun t =>
        stn t.core g = { x with seq := faultedSeq x.seq 2 } ∧ t.mem = s.mem ∧ StationsKept s t g)

/-- R262, R50, R64: CVT UNPACK descales each element exactly and rounds it once into its lane; the other lanes become +0. -/
def Sys2Proof.Goals.CvtUnpackLanes : Prop :=
  ∀ (s : State) (g w : Nat), AtWord s g w .unpack →
    let x := stn s.core g
    let l := bit w 57
    let fmt := bits w 48 4
    let n := bits w 41 7 + 1
    let a := namedAddr x (bits w 24 4) (bits w 2 22)
    a % tagBytes fmt = 0 → a + n * tagBytes fmt ≤ stSize → Goals.sound s g [a] (n * tagBytes fmt) →
    let k := if fmt = 1 ∨ fmt = 2 then scaleRead s.core (bits w 28 13) else 0
    let r := (elems (tagBytes fmt) n (mreadN s.mem (stBase g + a) (n * tagBytes fmt))).map (unpackElem l fmt k)
      ++ List.replicate (laneCount l - n) 0
    exec (.cvtUnpack g) s = .next (withCore s (issueAs (vigilRead s.core g (stBase g + a) (n * tagBytes fmt) 4) g
      { x with vr := tset x.vr (bits w 52 5) (elemBytes (laneBytes l) r) }))

/-- R259, R262, R50: VST stores the register; CVT PACK stores the first N lanes of VR[V], converted one by one. Both change
memory at the address they name only, and their station only as an issue does. -/
def Sys2Proof.Goals.VectorStores : Prop :=
  ∀ (s : State) (g w : Nat),
    let x := stn s.core g
    let a := namedAddr x (bits w 28 4) (bits w 6 22)
    let b := namedAddr x (bits w 24 4) (bits w 2 22)
    let l := bit w 57
    let fmt := bits w 48 4
    let n := bits w 41 7 + 1
    let xs := (lanes x l (bits w 52 5)).take n
    let k := scaleRead s.core (bits w 28 13)
    (AtWord s g w (.vop 0x01) → a % 64 = 0 → a + 256 ≤ stSize → NextWith (exec (.vst g) s) fun t =>
        t.mem = mwriteN s.mem (stBase g + a) (vrBytes x (bits w 42 5)) ∧ BytesKept s t (stBase g + a) (vrBytes x (bits w 42 5)).length
        ∧ stn t.core g = { x with seq := issuedSeq x.seq } ∧ StationsKept s t g ∧ t.core.fl = s.core.fl)
    ∧ (AtWord s g w .pack → b % tagBytes fmt = 0 → b + n * tagBytes fmt ≤ stSize → NextWith (exec (.cvtPack g) s) fun t =>
        t.mem = mwriteN s.mem (stBase g + b) (elemBytes (tagBytes fmt)
          (if fmt = 1 ∨ fmt = 2 then xs.map fun p => (narrow fmt (((laneFmt l).dec p).scale k)).1
           else xs.map (packPlain l fmt)))
        ∧ BytesKept s t (stBase g + b) (n * tagBytes fmt)
        ∧ stn t.core g = { x with seq := issuedSeq x.seq } ∧ StationsKept s t g ∧ t.core.fl = s.core.fl)


/-! ### Sequencer control (chapter 08) -/

/-- R270, R271, R272: NOP holds the sequencer for CYCLES further cycles and changes nothing else but its count of instructions; SETA writes a base register and its increment, and LSET a
loop counter. -/
def Sys2Proof.Goals.SequencerRegisterWrites : Prop :=
  ∀ (s : State) (g w : Nat),
    let x := stn s.core g
    (AtWord s g w .nop → exec (.nop g) s = .next (withCore s (if bits w 0 16 = 0 then issueAs s.core g x
        else addObj (setStn (waited s.core x.seq.left) g { x with seq := { issuedSeq x.seq with
          state := .waiting, waitCause := 16, left := bits w 0 16 } }) Key.instrIssued 1)))
    ∧ (AtWord s g w .seta → exec (.seta g) s = .next (withCore s (issueAs s.core g
        { x with ba := tset x.ba (bits w 52 4) (bits w 28 24), bi := tset x.bi (bits w 52 4) (bits w 4 24) })))
    ∧ (AtWord s g w .lset → exec (.lset g) s = .next (withCore s (issueAs s.core g
        { x with lc := tset x.lc (bits w 54 2) (bits w 34 20) })))

/-- The table of R270: whether a condition holds of LAST_STATUS and SIG_LOST. -/
abbrev Sys2Proof.Goals.condHolds (cond last : Nat) (lost : Bool) : Prop :=
  cond = 0 ∨ (cond = 1 ∧ last = 0) ∨ (cond = 2 ∧ last ≠ 0) ∨ (cond = 3 ∧ last = 12) ∨ (cond = 4 ∧ last = 11)
    ∨ (cond = 5 ∧ last = 1) ∨ (cond = 6 ∧ lost = true)

/-- A sequencer behind a jump: a jump that is taken holds it one more cycle (R253 row 17). -/
def Sys2Proof.Goals.jumped (q : Seq) (pc : Nat) (lost taken : Bool) : Seq :=
  { q with pc := pc, sigLost := lost, state := if taken then .waiting else .running, waitCause := if taken then 17 else 0,
           left := if taken then 1 else 0 }

/-- R270: JMP takes TARGET where its condition holds, with one cycle more, else PC advances by one; the test of SIG_LOST clears it. -/
def Sys2Proof.Goals.JmpFollowsItsCondition : Prop :=
  ∀ (s : State) (g w : Nat), AtWord s g w .jmp → bits w 52 4 < 7 →
    let x := stn s.core g
    NextWith (exec (.jmp g) s) fun t =>
      (Goals.condHolds (bits w 52 4) x.seq.lastStatus x.seq.sigLost → (stn t.core g).seq.pc = bits w 39 13)
      ∧ (¬Goals.condHolds (bits w 52 4) x.seq.lastStatus x.seq.sigLost → (stn t.core g).seq.pc = (x.seq.pc + 1) % 8192)
      ∧ (stn t.core g).seq.sigLost = (x.seq.sigLost && decide (bits w 52 4 ≠ 6))
      ∧ (let taken := decide (Goals.condHolds (bits w 52 4) x.seq.lastStatus x.seq.sigLost)
         stn t.core g = { x with seq := Goals.jumped (issuedSeq x.seq) (stn t.core g).seq.pc (stn t.core g).seq.sigLost taken })
      ∧ StationsKept s t g ∧ ObjectsKept s t [Key.instrIssued, Key.seqWaitCycles]
      ∧ t = withCore s { s.core with st := t.core.st, dict := t.core.dict }

/-- R271: LEND advances every base register of INCMASK by its increment, modulo 2^24, counts LCn down to zero, and jumps
to TARGET if the count it leaves is not zero. -/
def Sys2Proof.Goals.LendLoops : Prop :=
  ∀ (s : State) (g w : Nat), AtWord s g w .lend →
    let x := stn s.core g
    let n := bits w 54 2
    NextWith (exec (.lend g) s) fun t =>
      let y := stn t.core g
      (∀ k, k < 16 → tgetD y.ba k 0 = if bit (bits w 25 16) k then (tgetD x.ba k 0 + tgetD x.bi k 0) % 2 ^ 24 else tgetD x.ba k 0)
      ∧ tgetD y.lc n 0 = tgetD x.lc n 0 - 1 ∧ (∀ k, k ≠ n → tgetD y.lc k 0 = tgetD x.lc k 0)
      ∧ y.seq.pc = (if 2 ≤ tgetD x.lc n 0 then bits w 41 13 else (x.seq.pc + 1) % 8192)
      ∧ y = { x with ba := y.ba, lc := y.lc, seq := Goals.jumped (issuedSeq x.seq) y.seq.pc x.seq.sigLost (decide (2 ≤ tgetD x.lc n 0)) }
      ∧ StationsKept s t g ∧ ObjectsKept s t [Key.instrIssued, Key.seqWaitCycles]
      ∧ t = withCore s { s.core with st := t.core.st, dict := t.core.dict }

/-- R243: JMP END leaves the sequencer IDLE, or carries out the pending start. -/
def Sys2Proof.Goals.EndOfSegment : Prop :=
  ∀ (s : State) (g w : Nat), AtWord s g w .endSeg →
    let x := stn s.core g
    NextWith (exec (.endSeg g) s) fun t =>
      (x.seq.pendingStart = none → stn t.core g = { x with seq := { issuedSeq x.seq with state := .idle } })
      ∧ (∀ e, x.seq.pendingStart = some e → stn t.core g = { x with seq := { issuedSeq x.seq with pc := e % 8192, pendingStart := none } })
      ∧ t.core.alm.segs = s.core.alm.segs.eraseP (fun p => p.1 = g)
      ∧ StationsKept s t g ∧ t.mem = s.mem ∧ t.core.fl = s.core.fl

/-- R21, R243, R353: the first start point ahead that the frame's template lists for a station and entry is reached at tick f × T +
offset, once: it starts an IDLE sequencer, is held pending with SEGMENT_LATE while a segment runs, is SEGMENT_OVERRUN while a start is
pending, and has no effect on a FAULTED or STOPPED sequencer. With none ahead nothing starts. -/
def Sys2Proof.Goals.SegmentStartPoints : Prop :=
  ∀ (s : State) (g e : Nat), Runs s → g < 192 → almState s.core = 4 →
    (startPoints s.core g e = [] → exec (.segmentStart g e) s = .next s)
    ∧ ∀ p, firstPoint (startPoints s.core g e) = some p →
    let r := withCore s (reachTick s.core (obj s.core Key.frameCount * obj s.core Key.frameTicks + p.offset))
    let q := (stn r.core g).seq
    NextWith (exec (.segmentStart g e) s) fun t =>
      t.core.alm.starts = s.core.alm.starts ++ [(g, p.offset)] ∧ StationsKept r t g ∧ t.mem = s.mem
      ∧ (q.state = .idle →
          (stn t.core g).seq = { q with state := .running, waitCause := 0, pc := e % 8192, pendingStart := none, hold := .free }
          ∧ t.core.dict = r.core.dict)
      ∧ ((q.state = .running ∨ q.state = .waiting) → q.pendingStart = none →
          (stn t.core g).seq = { q with pendingStart := some e, late := true }
          ∧ obj t.core Key.segmentLateCount = min (obj s.core Key.segmentLateCount + 1) (objMax Key.segmentLateCount))
      ∧ ((q.state = .running ∨ q.state = .waiting) → q.pendingStart.isSome → (stn t.core g).seq = faultedSeq q 6)
      ∧ ((q.state = .faulted ∨ q.state = .stopped) → stn t.core g = stn r.core g ∧ t.core.dict = r.core.dict)

/-- R247, R245: a word at PC that names no instruction, or fails its checks, has no effect but the fault: FAULTED with kind 1 at
its address, ILLEGAL_INSTRUCTION counted. -/
def Sys2Proof.Goals.IllegalInstructionFaults : Prop :=
  ∀ (s : State) (g : Nat), Runs s → g < 192 →
    let x := stn s.core g
    let w := imemWord s.mem g x.seq.pc
    (x.seq.state = .running ∨ x.seq.state = .waiting) → x.seq.hold = .free → (opOf w = none ∨ issueOk s.core g w = false) →
    NextWith (exec (.illegalInstruction g) s) fun t =>
      stn t.core g = { x with seq := faultedSeq x.seq 1 } ∧ StationsKept s t g ∧ t.mem = s.mem ∧ t.core.fl = s.core.fl
      ∧ t.core.alm.stationFault = (g, 1, x.seq.pc)
      ∧ obj t.core Key.illegalInstructionCount
          = min (obj s.core Key.illegalInstructionCount + 1) (objMax Key.illegalInstructionCount)

/-- R269, R208, R253: LYR issues and holds the sequencer; with both tiles OPEN and empty and no MVA running the hold ends, and
while an MVA runs it stands. -/
def Sys2Proof.Goals.LyrHoldsUntilQuiet : Prop :=
  ∀ (s : State) (g w : Nat),
    let x := stn s.core g
    (AtWord s g w .lyr → exec (.lyr g) s = .next (withCore s (addObj
      (setStn (waited s.core x.seq.left) g { x with seq := { issuedSeq x.seq with state := .waiting, waitCause := 15, hold := .lyr } }) Key.instrIssued 1)))
    ∧ (Runs s → g < 192 → x.seq.hold = .lyr →
        (x.arr.mva = none → (∀ t ∈ [x.arr.tile0, x.arr.tile1], t.state = .open ∧ t.inflight = []) →
          exec (.lyrRelease g) s = .next (withCore s (setStn s.core g { x with seq := { x.seq with
            state := if x.seq.state = .waiting then .running else x.seq.state, waitCause := 0, hold := .free } })))
        ∧ (x.arr.mva.isSome → exec (.lyrRelease g) s = .next s))

/-- R147, R253, R268: RED and UPD join their engine's queue of 16; a full queue holds them at row 13. -/
def Sys2Proof.Goals.SubmissionsJoinTheirQueue : Prop :=
  ∀ (s : State) (g w : Nat),
    let x := stn s.core g
    let y := fld s.core (g / 24)
    (AtWord s g w .red → redGated s.core (g / 24) = false →
      exec (.red g) s = .next (withCore s (if y.red.queue.length < 16 then
        issueAs (setFld s.core (g / 24) { y with red := { y.red with
          queue := y.red.queue ++ [(bits w 44 12, if bit w 43 then some (bits w 31 12) else none)] } }) g x
        else setStn s.core g { x with seq := { x.seq with state := .waiting, waitCause := 13, left := 0 } })))
    ∧ (AtWord s g w .upd → updGated s.core (g / 24) = false →
      exec (.upd g) s = .next (withCore s (if y.upd.queue.length < 16 then
        issueAs (setFld s.core (g / 24) { y with upd := { y.upd with
          queue := y.upd.queue ++ [{ g := g, entry := tgetD x.desc (bits w 48 8) 0, did := false }] } }) g x
        else setStn s.core g { x with seq := { x.seq with state := .waiting, waitCause := 13, left := 0 } })))


/-! ### The matrix array, tiles and drains (chapter 03) -/

/-- R83: the segment window holds every sum of up to 16 FP8 products in 20 bits and of up to 8 BF16 products in 24 bits. -/
def Obligations.SegmentWindowNeverOverflows : Prop :=
  ∀ (fa fw : Nat) (as ws : List Nat) (em : Int),
    (eMax (List.zipWith (product fa fw) as ws) = some em) →
    ((fa = 1 ∨ fa = 2) → (fw = 1 ∨ fw = 2) → (∀ a ∈ as ++ ws, a < 256) → as.length ≤ 16 →
      -2 ^ 19 ≤ window 13 (phi fa + phi fw) em (List.zipWith (product fa fw) as ws)
        ∧ window 13 (phi fa + phi fw) em (List.zipWith (product fa fw) as ws) < 2 ^ 19)
    ∧ (fa = 3 → fw = 3 → (∀ a ∈ as ++ ws, a < 65536) → as.length ≤ 8 →
      -2 ^ 23 ≤ window 18 (phi fa + phi fw) em (List.zipWith (product fa fw) as ws)
        ∧ window 18 (phi fa + phi fw) em (List.zipWith (product fa fw) as ws) < 2 ^ 23)

/-- R84, R86: a segment without a NaN case, an infinity or an included product promotes to +0; one with a NaN operand promotes to
the canonical NaN of the earliest such operand's sign. -/
def Sys2Proof.Goals.SegmentSpecialCases : Prop :=
  ∀ (fa fw : Nat) (ea ew : Int) (ps : List Product),
    ((∀ p ∈ ps, p = .none) → promote fa fw ea ew ps = 0)
    ∧ (∀ (pre post : List Product) (n : Bool), ps = pre ++ .nan n :: post → (∀ p ∈ pre, ∀ b, p ≠ .nan b) →
        promote fa fw ea ew ps = 0x7FC00000 + if n then 2 ^ 31 else 0)
    ∧ ((∀ p ∈ ps, ∀ b, p ≠ .nan b) → .inf false ∈ ps → .inf true ∈ ps → promote fa fw ea ew ps = 0x7FC00000)
    ∧ (∀ n, (∀ p ∈ ps, ∀ b, p ≠ .nan b) → .inf n ∈ ps → .inf (!n) ∉ ps →
        promote fa fw ea ew ps = 0x7F800000 + if n then 2 ^ 31 else 0)

/-- The rows of an MMA's SHAPE entry and operands (R252, R255). -/
def Sys2Proof.Goals.mmaRow (c : Core) (h : Shape) (plane : Memory) (as : List Nat) (m : Nat) (last : Bool) (fin : Option (Nat × Nat)) : RowUpd :=
  { row := m, mode := h.mode,
    vals := if h.k = 0 then (if h.mode = .overwrite then List.replicate h.n 0 else [])
      else (List.range h.n).map fun n => column h.fa h.fw (operandScale c h.fa h.sa) (operandScale c h.fw h.sw) as
        (weightCol plane h.fw h.k n),
    zero := decide (h.k = 0), last := last && decide (m + 1 = h.m), fin := if m + 1 = h.m then fin else none }

/-- R255, R85, R96, R101: an MMA whose plane is loaded and whose tile is OPEN puts its M rows in flight behind those already there,
each with the column results of its streamed row; from station memory, or from the whole tile at the head of the critical
buffer (R118). A K-split group is judged by the mapping (R93, R95; log entry 13). -/
def Sys2Proof.Goals.MmaPutsItsRowsInFlight : Prop :=
  ∀ (s : State) (g w : Nat), AtWord s g w .mma →
    let x := stn s.core g
    let h := shapeOf (tgetD x.desc (bits w 46 8) 0)
    let p := planeOf x (bits w 55 1)
    let t := bits w 56 1
    let base := namedAddr x (bits w 42 4) (bits w 20 22)
    let fin := if bit w 19 then some (x.seq.pc, bits w 7 12) else none
    (∀ l, x.arr.load = some l → l.plane ≠ bits w 55 1) → (tileOf x t).state = .open →
    pairOk h.fa h.fw = true → (p.tag = none ∨ p.tag = some h.fw) →
    let opens := (mmaGroup s.core g (bit w 54)).2
    (bit w 57 = false → (h.k = 0 ∧ base % 64 = 0 ∨ 0 < h.k ∧ (∀ m, m < h.m → (base + m * h.stride) % 64 = 0
        ∧ base + m * h.stride + h.k * tagBytes h.fa ≤ stSize)
          ∧ Goals.sound s g ((List.range h.m).map fun m => base + m * h.stride) (h.k * tagBytes h.fa)) →
      NextWith (exec (.mma g) s) fun u =>
        (tileOf (stn u.core g) t).inflight = (tileOf x t).inflight ++ (List.range h.m).map (fun m => Goals.mmaRow s.core h p.data
          (rowElems h.fa h.k (mreadN s.mem (stBase g + (base + m * h.stride)) (h.k * tagBytes h.fa))) m opens fin)
        ∧ tileOf (stn u.core g) (1 - t) = tileOf x (1 - t)
        ∧ stn u.core g = { x with seq := issuedSeq x.seq, arr := (stn u.core g).arr } ∧ StationsKept s u g ∧ u.mem = s.mem)
    ∧ (∀ rows, bit w 57 = true → headTile x.ring.crit = some rows → rows.length = h.m → (∀ r ∈ rows, r.fmt = h.fa) →
      NextWith (exec (.mma g) s) fun u =>
        (tileOf (stn u.core g) t).inflight = (tileOf x t).inflight ++ rows.mapIdx (fun m r => Goals.mmaRow s.core h p.data
          (rowElems h.fa h.k r.data) m opens fin)
        ∧ tileOf (stn u.core g) (1 - t) = tileOf x (1 - t)
        ∧ stn u.core g = { x with seq := issuedSeq x.seq, arr := (stn u.core g).arr, ring := (stn u.core g).ring }
        ∧ StationsKept s u g ∧ u.mem = s.mem)

/-- R253: what an instruction waits for is shown in WAIT_CAUSE, and it does nothing else: MMA rows 2, 3 and 4, MVA row 5, DRN row 3,
LDW row 8, SIG row 11, FNC row 12, DFW row 14. -/
def Sys2Proof.Goals.IssueConditionsWait : Prop :=
  ∀ (s : State) (g w : Nat) (i : Instr) (o : Op) (cond : Station → Prop) (row : Nat),
    (i, o, cond, row) ∈ [
      (Instr.mma g, Op.mma, fun (x : Station) => ∃ l, x.arr.load = some l ∧ l.plane = bits w 55 1, 2),
      (.mma g, .mma, fun x => (∀ l, x.arr.load = some l → l.plane ≠ bits w 55 1) ∧ (tileOf x (bits w 56 1)).state ≠ .open, 3),
      (.mma g, .mma, fun x => (∀ l, x.arr.load = some l → l.plane ≠ bits w 55 1) ∧ (tileOf x (bits w 56 1)).state = .open
        ∧ bit w 57 = true ∧ headTile x.ring.crit = none, 4),
      (.drn g, .drn, fun x => (tileOf x (bits w 58 1)).state ≠ .open, 3),
      (.mva g, .mva, fun x => x.arr.mva.isSome = true, 5), (.ldw g, .ldw, fun x => x.arr.load.isSome = true, 8),
      (.sigAdd g, .sigAdd, fun x => 16 ≤ sigCount x, 11), (.sigSub g, .sigSub, fun x => 16 ≤ sigCount x, 11),
      (.fnc g, .fnc, fun x => 16 ≤ fenceCount x, 12), (.fncWait g, .fncWait, fun x => 16 ≤ fenceCount x, 12),
      (.dfw g, .dfw, fun x => 64 ≤ x.dfw.entries.length, 14)] →
    AtWord s g w o → cond (stn s.core g) →
    exec i s = .next (withCore s (setStn s.core g
      { stn s.core g with seq := { (stn s.core g).seq with state := .waiting, waitCause := row, left := 0 } }))

/-- R77, R118, R249, R245: an MMA that meets a wrong tile shape on the ring, formats that may not meet or differ, or an address outside station
memory or its alignment, has no effect but its fault. -/
def Sys2Proof.Goals.MmaFaults : Prop :=
  ∀ (s : State) (g w : Nat), AtWord s g w .mma →
    let x := stn s.core g
    let h := shapeOf (tgetD x.desc (bits w 46 8) 0)
    let p := planeOf x (bits w 55 1)
    let base := namedAddr x (bits w 42 4) (bits w 20 22)
    let fault := fun (k : Nat) (u : State) => stn u.core g = { x with seq := faultedSeq x.seq k } ∧ StationsKept s u g ∧ u.mem = s.mem
    (∀ l, x.arr.load = some l → l.plane ≠ bits w 55 1) → (tileOf x (bits w 56 1)).state = .open →
    (pairOk h.fa h.fw = false → (bit w 57 = true → (headTile x.ring.crit).isSome) → NextWith (exec (.mma g) s) (fault 3))
    ∧ (∀ rows, pairOk h.fa h.fw = true → bit w 57 = true → headTile x.ring.crit = some rows → rows.length ≠ h.m →
        NextWith (exec (.mma g) s) (fault 4))
    ∧ (∀ rows, bit w 57 = true → headTile x.ring.crit = some rows → rows.length = h.m →
        ((∃ r ∈ rows, r.fmt ≠ h.fa) ∨ ∃ t, p.tag = some t ∧ t ≠ h.fw) → NextWith (exec (.mma g) s) (fault 3))
    ∧ (∀ t, bit w 57 = false → p.tag = some t → t ≠ h.fw → NextWith (exec (.mma g) s) (fault 3))
    ∧ (pairOk h.fa h.fw = true → bit w 57 = false → (p.tag = none ∨ p.tag = some h.fw) →
        (∀ m, 0 < h.k → m < h.m → ((base + m * h.stride) % 64 ≠ 0 ∨ stSize < base + m * h.stride + h.k * tagBytes h.fa) →
          NextWith (exec (.mma g) s) (fault 2))
        ∧ (h.k = 0 → base % 64 ≠ 0 → NextWith (exec (.mma g) s) (fault 2)))

/-- R88: how a result enters an entry: the two-sum of COMPENSATE is written out operation by operation. -/
def Sys2Proof.Goals.AddModes : Prop :=
  ∀ (s c y : Nat), enterEntry .overwrite s c y = (y, 0) ∧ enterEntry .accumulate s c y = (fp32.add s y, c)
    ∧ (let t := fp32.add s y
       let z := fp32.sub t s
       ((fp32.dec t).isFin = false → enterEntry .compensate s c y = (t, 0))
       ∧ ((fp32.dec t).isFin = true →
          enterEntry .compensate s c y = (t, fp32.add c (fp32.add (fp32.sub s (fp32.sub t z)) (fp32.sub y z)))))

/-- R96, R88, R95: the row first in flight retires into its tile: each entry is updated by its add mode, no other byte of memory
changes, and its completion, if it names one, is a SIG ADD 1 held at the field's sync unit. -/
def Sys2Proof.Goals.RowRetiresIntoItsTile : Prop :=
  ∀ (s : State) (g t : Nat) (r : RowUpd) (rest : List RowUpd), Runs s → g < 192 → t < 2 → MemoryInv s →
    (tileOf (stn s.core g) t).inflight = r :: rest →
    NextWith (exec (.mmaRowRetire g t) s) fun u =>
      (∀ i y, r.vals[i]? = some y →
        let e := enterEntry r.mode (mnum s.mem (accAddr g t r.row i) 4) (mnum s.mem (accAddr g t r.row i + 4) 4) y
        mnum u.mem (accAddr g t r.row i) 4 = e.1 % 2 ^ 32 ∧ mnum u.mem (accAddr g t r.row i + 4) 4 = e.2 % 2 ^ 32)
      ∧ BytesKept s u (accAddr g t r.row 0) (8 * r.vals.length)
      ∧ rest <+: (tileOf (stn u.core g) t).inflight
      ∧ ((stn s.core g).ring.pbuf = [] → (tileOf (stn u.core g) t).inflight = rest)
      ∧ CompletionHeld s u g r.fin
      ∧ StationsKept s u g

/-- The load an LDW puts in the weight-load port (R256). -/
def Sys2Proof.Goals.loadOf (x : Station) (w : Nat) : PlaneLoad :=
  { plane := bits w 56 1, fmt := bits w 52 4, pc := x.seq.pc, xfer := if bit w 57 then 0 else x.nextX, tile := none,
    src := if bit w 57 then none else some (namedAddr x (bits w 48 4) (bits w 26 22), bits w 10 16) }

/-- The station with that load; one from station memory is an outstanding transfer (R222, R256). -/
def Sys2Proof.Goals.withLoad (x : Station) (w : Nat) : Station :=
  { x with arr := { x.arr with load := some (Goals.loadOf x w) }, nextX := if bit w 57 then x.nextX else x.nextX + 1,
           openX := if bit w 57 then x.openX else x.openX ++ [x.nextX] }

/-- R256, R74, R73: LDW takes the weight-load port, from station memory with a transfer of its own; the load reads its tile, and at its end the plane
holds the tile under its format tag and the port is free. -/
def Sys2Proof.Goals.PlaneLoads : Prop :=
  ∀ (s : State) (g w : Nat),
    let x := stn s.core g
    let fmt := bits w 52 4
    let base := namedAddr x (bits w 48 4) (bits w 26 22)
    let n := if fmt = 3 then 512 else 256
    (AtWord s g w .ldw → x.arr.load = none → (∀ b, x.ring.wbuf = some b → bit w 57 = true → b.fmt = fmt) →
      (bit w 57 = false → ∀ k, k < (if fmt = 3 then 64 else 128) →
        (base + k * bits w 10 16) % 64 = 0 ∧ base + k * bits w 10 16 + n ≤ stSize) →
      exec (.ldw g) s = .next (withCore s (issueAs s.core g (Goals.withLoad x w))))
    ∧ (∀ l a st, Runs s → g < 192 → x.arr.load = some l → l.tile = none → l.src = some (a, st) →
      eccBad s.core (ldwRows (stBase g + a) st l.fmt) (if l.fmt = 3 then 512 else 256) = none →
      NextWith (exec (.planeLoadStart g) s) fun u =>
        stn u.core g = { x with arr := { x.arr with load := some { l with tile := some (placeTile l.fmt (widthOf s.core g)
          ((List.range (if l.fmt = 3 then 64 else 128)).flatMap fun k =>
            mreadN s.mem (stBase g + a + k * st) (if l.fmt = 3 then 512 else 256))) } } }
        ∧ StationsKept s u g ∧ u.mem = s.mem)
    ∧ (∀ l tile, Runs s → g < 192 → x.arr.load = some l → l.tile = some tile →
      NextWith (exec (.planeLoadDone g) s) fun u =>
        planeOf (stn u.core g) l.plane = { tag := some l.fmt, data := tile } ∧ (stn u.core g).arr.load = none
        ∧ (stn u.core g).openX = (if l.src.isSome then x.openX.filter (fun y => y ≠ l.xfer) else x.openX) ∧ (stn u.core g).seq = x.seq
        ∧ (stn u.core g).arr.tile0 = x.arr.tile0 ∧ (stn u.core g).arr.tile1 = x.arr.tile1 ∧ StationsKept s u g ∧ u.mem = s.mem)

/-- R257, R108, R109: an MVA reads x, B and z at issue and forms each column over its blocks in order; at its end z lies in
station memory as FP32 and its completion is signalled. -/
def Sys2Proof.Goals.MvaComputesThenWrites : Prop :=
  ∀ (s : State) (g w : Nat),
    let x := stn s.core g
    let d := tgetD x.desc (bits w 39 8) 0
    let fa := bits d 28 4
    let fw := bits d 32 4
    let k := bits d 80 16 + 1
    let n := bits d 8 8 + 1
    let xa := mvaAddr x (bits w 55 4) (bits w 31 8)
    let ba := mvaAddr x (bits w 51 4) (bits w 23 8)
    let za := mvaAddr x (bits w 47 4) (bits w 15 8)
    let inside := fun (a len : Nat) => a % 64 = 0 ∧ a + len ≤ stSize
    (AtWord s g w .mva → x.arr.mva = none → inside xa (k * tagBytes fa) → inside za (4 * n) →
      (∀ r, r < k → inside (ba + r * bits d 64 16) (n * tagBytes fw)) → pairOk fa fw = true → Goals.sound s g [xa] (k * tagBytes fa) →
      Goals.sound s g ((List.range k).map fun r => ba + r * bits d 64 16) (n * tagBytes fw) →
      (bits d 24 2 ≠ 0 → Goals.sound s g [za] (4 * n)) →
      NextWith (exec (.mva g) s) fun u =>
        (∃ v, (stn u.core g).arr = { x.arr with mva := some v } ∧ v.dest = za ∧ v.z.length = n ∧ v.xfer = x.nextX
          ∧ v.fin = (if bit w 14 then some (x.seq.pc, bits w 2 12) else none)
          ∧ ∀ i, i < n → v.z[i]? = some (mvaColumn fa fw (operandScale s.core fa (bits d 36 13)) (operandScale s.core fw (bits d 49 13))
              (elems (tagBytes fa) k (mreadN s.mem (stBase g + xa) (k * tagBytes fa)))
              ((List.range k).map fun r => (elems (tagBytes fw) n (mreadN s.mem (stBase g + (ba + r * bits d 64 16)) (n * tagBytes fw))).getD i 0)
              (if bits d 24 2 = 0 then none else some (mnum s.mem (stBase g + za + 4 * i) 4))))
        ∧ (stn u.core g).seq = issuedSeq x.seq ∧ StationsKept s u g ∧ u.mem = s.mem)
    ∧ (∀ v, Runs s → g < 192 → x.arr.mva = some v → NextWith (exec (.mvaDone g) s) fun u =>
        u.mem = mwriteN s.mem (stBase g + v.dest) (elemBytes 4 v.z) ∧ BytesKept s u (stBase g + v.dest) (4 * v.z.length)
        ∧ stn u.core g = { x with arr := { x.arr with mva := none }, openX := x.openX.filter fun y => y ≠ v.xfer }
        ∧ StationsKept s u g ∧ CompletionHeld s u g v.fin)

/-- The drain a DRN begins (R258, R97). -/
def Sys2Proof.Goals.drainOf (x : Station) (w : Nat) : Drain :=
  let d := tgetD x.desc (bits w 49 8) 0
  { rows := bits d 0 8 + 1, cols := bits d 8 8 + 1, pair := bit d 16, out := [], xfer := if bit w 57 then 0 else x.nextX,
    begun := false, dfw := false, group := (tileOf x (bits w 58 1)).group, order := x.seq.issued,
    dest := if bit w 57 then none else some (namedAddr x (bits w 45 4) (bits w 23 22), bits d 32 16),
    fin := if bit w 22 then some (x.seq.pc, bits w 10 12) else none }

/-- R258, R97, R89, R98, R99: a DRN puts its tile in DRAINING; with no row in flight copy-out writes each row to station memory in
its form; when all has gone the tile is OPEN again with its contents, and the completion is signalled. -/
def Sys2Proof.Goals.DrainsToStationMemory : Prop :=
  ∀ (s : State) (g w t : Nat),
    let x := stn s.core g
    let d := tgetD x.desc (bits w 49 8) 0
    let base := namedAddr x (bits w 45 4) (bits w 23 22)
    let rows := bits d 0 8 + 1
    let cols := bits d 8 8 + 1
    (AtWord s g w .drn → (tileOf x (bits w 58 1)).state = .open →
      (bit w 57 = false → ∀ r, r < rows → (base + r * bits d 32 16) % 64 = 0
        ∧ base + r * bits d 32 16 + cols * (if bit d 16 then 8 else 4) ≤ stSize) →
      NextWith (exec (.drn g) s) fun u =>
        (tileOf (stn u.core g) (bits w 58 1)).state = .draining (Goals.drainOf x w)
        ∧ (stn u.core g).seq = issuedSeq x.seq ∧ StationsKept s u g ∧ u.mem = s.mem)
    ∧ (∀ dr a st, Runs s → g < 192 → t < 2 → (tileOf x t).state = .draining dr → dr.begun = false →
        (tileOf x t).inflight = [] → dr.dest = some (a, st) →
        4 * dr.cols * (if dr.pair then 2 else 1) ≤ st → MemoryInv s →
        NextWith (exec (.drainCopyOut g t) s) fun u =>
          (∀ r k, r < dr.rows → k < dr.cols →
            let e := accAddr g t r k
            if dr.pair then mreadN u.mem (stBase g + a + r * st + 8 * k) 8 = mreadN s.mem e 8
            else mreadN u.mem (stBase g + a + r * st + 4 * k) 4 = leBytes 4 (fp32.add (mnum s.mem e 4) (mnum s.mem (e + 4) 4)))
          ∧ (∀ b, (∀ r, r < dr.rows → b < stBase g + a + r * st ∨ stBase g + a + r * st + 4 * dr.cols * (if dr.pair then 2 else 1) ≤ b) →
              mread u.mem b = mread s.mem b)
          ∧ (tileOf (stn u.core g) t).state = .draining { dr with begun := true } ∧ StationsKept s u g)
    ∧ (∀ dr, Runs s → g < 192 → t < 2 → (tileOf x t).state = .draining dr → dr.begun = true → dr.out = [] → dr.dfw = false →
        NextWith (exec (.drainDone g t) s) fun u =>
          (tileOf (stn u.core g) t).state = .open ∧ u.mem = s.mem ∧ StationsKept s u g ∧ (stn u.core g).seq = x.seq
          ∧ CompletionHeld s u g dr.fin)

/-- R93, R95, R98: the next row of a ring drain, from the station whose partial is next in order, comes into the link's 16-row buffer; where it
stands first there, the LAST MMA has retired and the tile is OPEN, it goes behind the tile's rows in flight in the group's add mode, else it
waits in the buffer. The row that ends a partial counts it. Over a stopped crossing no row comes (R401). -/
def Sys2Proof.Goals.RingPartialRowArrives : Prop :=
  ∀ (s : State) (g q u k total : Nat) (im : Image) (mode : AddMode) (dr : Drain) (vs : List Nat) (rest : List (List Nat)),
    let l := obj s.core Key.loopLength
    let x := stn s.core g
    let ends := decide (rest = [])
    let r : RowUpd := { row := dr.rows - dr.out.length, mode := mode, vals := vs, zero := false, last := ends, fin := none }
    Runs s → g < 192 → s.core.alm.image = some im → 0 < l → heldNow s.core = false → x.ring.pbuf = [] → q ≠ g → u < 2 →
    linkGroup s.core im l g = some k → nextPartial s.core im l g k = some (q, u, dr) → groupOf? s.core g k = some (mode, total) →
    dr.out = vs :: rest →
    (wayStopped s.core l g (distanceTo l g q) = true → exec (.ringPartialRow g) s = .next s) ∧
    (wayStopped s.core l g (distanceTo l g q) = false →
    NextWith (exec (.ringPartialRow g) s) fun v =>
      (tileOf (stn v.core q) u).state = .draining { dr with out := rest }
      ∧ (stn v.core g).ring.link = (if ends then linkCount x.ring.link k total else x.ring.link)
      ∧ (∀ t, partialTile x k = some t → (stn v.core g).ring.pbuf = []
          ∧ (tileOf (stn v.core g) t).inflight = (tileOf x t).inflight ++ [{ r with last := false }]
          ∧ (tileOf (stn v.core g) t).collect = collectStep (tileOf x t).collect total ends)
      ∧ (partialTile x k = none → (stn v.core g).ring.pbuf = [(k, r)] ∧ (stn v.core g).arr = x.arr)
      ∧ (∀ j, j ≠ g → j ≠ q → stn v.core j = stn s.core j) ∧ v.mem = s.mem ∧ ObjectsKept s v [Key.ccwRows]
      ∧ obj v.core Key.ccwRows = min (obj s.core Key.ccwRows + distanceTo l g q) (objMax Key.ccwRows))


/-! ### Streams, the Carousel and the deferred-W queue (chapters 04 and 06) -/

/-- R263, R196, R197, R253: STR reads the descriptor and arms the stream; its status is LAST_STATUS and LAST_ARM, and the sequencer is held
for it. -/
def Sys2Proof.Goals.StrArmsItsStream : Prop :=
  ∀ (s : State) (g w : Nat), AtWord s g w .str →
    let a := namedAddr (stn s.core g) (bits w 48 4) (bits w 26 22)
    let st := bits w 52 4
    let d := mnum s.mem (stBase g + a) 64
    let c := vigilRead s.core g (stBase g + a) 64
    let x := strm (stn c g) st
    a % 64 = 0 → a + 64 ≤ stSize → Goals.sound s g [a] 64 →
    NextWith (exec (.str g) s) fun t =>
      let y := strm (stn t.core g) st
      (∀ code : Nat, (code = 2 ∧ (running c = false ∨ x.state = 2))
          ∨ (code = 1 ∧ running c = true ∧ x.state ≠ 2 ∧ x.pending.isSome = true)
          ∨ (code = 3 ∧ running c = true ∧ x.state ≠ 2 ∧ x.pending = none ∧ descOk c g d = false) →
        y = { x with lastArm := code } ∧ (stn t.core g).seq.lastStatus = code)
      ∧ (running c = true → x.state ≠ 2 → x.pending = none → descOk c g d = true →
        (stn t.core g).seq.lastStatus = 0 ∧ (x.state = 0 → y = { activate c x d with lastArm := 0 })
        ∧ (x.state = 1 → y = { x with pending := some d, lastArm := 0 }))
      ∧ (stn t.core g).seq = { issuedSeq (stn s.core g).seq with
          lastStatus := (stn t.core g).seq.lastStatus, state := .waiting, waitCause := 9, left := 6 }
      ∧ StationsKept s t g ∧ t.mem = s.mem

/-- R196, R242: a permitted write of a whole unit into a PENDING slot arms the stream; of whole aligned words into instruction
memory, replaces them; a malformed one changes no memory and no slot. -/
def Sys2Proof.Goals.WritesIntoControlBlocks : Prop :=
  ∀ (s : State) (m g st a : Nat) (data : Bytes), Runs s → g < 192 → st < 16 →
    (let p := ctlBase g + 0x18000 + 0x100 * st + 0x40
     data.length = 64 → refusalOf s.core m p 64 .w = none → exec (.streamArm m p data) s
       = .next (withCore s (armStream s.core g st (leNat data)).1))
    ∧ (let p := ctlBase g + a
       0 < data.length → a + data.length ≤ 0x10000 → refusalOf s.core m p data.length .w = none → stGated s.core g = false →
       (a % 8 = 0 ∧ data.length % 8 = 0 → exec (.instructionWrite m p data) s = .next { s with mem := mwriteN s.mem p data })
       ∧ (¬(a % 8 = 0 ∧ data.length % 8 = 0) → exec (.instructionWrite m p data) s = .next (withCore s (errStatus s.core .range))))

/-- R199, R229: a unit begins at once with EMPTY_REF off; with it on, none of the station's operations before it at the sync unit and a credit
in the own field's semaphore it takes the credit and begins; with none it registers its wait. -/
def Sys2Proof.Goals.StreamUnitsTakeCredits : Prop :=
  ∀ (s : State) (g st : Nat),
    let x := strm (stn s.core g) st
    let r := sEmpty x.active
    let e := semOf s.core (refField r) (refSem r)
    Runs s → g < 192 → st < 16 → x.state = 1 → x.credit = false → x.row < sRows x.active →
    (refOn r = false → exec (.streamUnitStart g st) s = .next (withCore s (setStrm s.core g st { x with credit := true })))
    ∧ (refOn r = true → refField r = g / 24 → running s.core = true → e.valid = true → e.poison = false → 1 ≤ e.cap →
        sKind x.active ≠ 5 → x.got = [] → x.waits = false →
        (∀ o ∈ (syncU s.core (g / 24)).held, o.issuer ≠ g) → (∀ y ∈ (syncU s.core (g / 24)).waits, y.unit ≠ streamSlot g st) →
        (1 ≤ e.count → NextWith (exec (.streamUnitStart g st) s) fun t =>
          strm (stn t.core g) st = { x with credit := true, got := [] } ∧ t.mem = s.mem ∧ StationsKept s t g)
        ∧ (e.count = 0 → NextWith (exec (.streamUnitStart g st) s) fun t =>
            strm (stn t.core g) st = { x with waits := true } ∧ t.mem = s.mem ∧ StationsKept s t g
            ∧ (syncU t.core (g / 24)).waits = (syncU s.core (g / 24)).waits ++ [{ unit := streamSlot g st, sem := refSem r, n := 1, phase := 0 }]))

/-- A local plain copy: the next piece of a COPY stream between memories of this module, as its source and destination offsets and
length (R198). -/
abbrev Sys2Proof.Goals.copyPiece (s : State) (x : Stream) (so do' n : Nat) : Prop :=
  x.state = 1 ∧ x.credit = true ∧ x.row < sRows x.active ∧ x.openRows = [] ∧ sKind x.active = 0 ∧ sXpose x.active = false
    ∧ sIdxBytes x.active = 0 ∧ gaHere s.core x.srcA = true ∧ gaHere s.core x.dstA = true
    ∧ so = gaOff x.srcA + x.row * sSrcStride x.active + x.off ∧ do' = gaOff x.dstA + x.row * sDstStride x.active + x.off
    ∧ rowMapped (so - x.off) (sRowBytes x.active) = true ∧ rowMapped (do' - x.off) (sRowBytes x.active) = true
    ∧ n = pieceLen x (so - x.off) (do' - x.off) ∧ 0 < n ∧ eccBad s.core [so] n = none ∧ gatedIn s.core do' n = none
    ∧ (inHbm so = true ∨ inSlice so = true ∨ inStation so = true) ∧ (inHbm do' = true ∨ inSlice do' = true ∨ inStation do' = true)
    ∧ (inHbm (so + (n - 1)) = true ∨ inSlice (so + (n - 1)) = true ∨ inStation (so + (n - 1)) = true)

/-- R198: one piece of a COPY moves: its bytes lie at the destination, no other byte changes, and the stream stands behind it. -/
def Sys2Proof.Goals.StreamTransferMovesBytes : Prop :=
  ∀ (s : State) (g st so do' n : Nat),
    let x := strm (stn s.core g) st
    Runs s → g < 192 → st < 16 → Goals.copyPiece s x so do' n → sMrg x.active = false →
    refusalOf s.core g so n .r = none → refusalOf s.core g do' n .w = none → gatedIn s.core so n = none → (∀ i, i < n → gatedAt s.core (so + i) = false) →
    NextWith (exec (.streamTransfer g st) s) fun t =>
      t.mem = mwriteN s.mem do' (mreadN s.mem so n) ∧ BytesKept s t do' n
      ∧ strm (stn t.core g) st = { advance x n with rowsDone := (advance x n).row, stalled := false }
      ∧ StationsKept s t g ∧ t.core.fl = s.core.fl

/-- R205: a merge window is one read for all its members; a member whose next piece lies in the line moves it from that read. -/
def Sys2Proof.Goals.MergeWindowDelivers : Prop :=
  ∀ (s : State) (line g st so do' n xf : Nat) (v : MergeWin),
    let x := strm (stn s.core g) st
    let data := v.data.getD (mreadN s.mem (line * 256) 256)
    Runs s → s.core.merge.find? (fun w => w.line = line) = some v →
    (NextWith (exec (.mergeWindow line) s) fun t =>
      t.core.merge.map (fun w => (w.line, w.members)) = (s.core.merge.erase v).map fun w => (w.line, w.members))
    ∧ (v.members = [(g, st, xf)] → Goals.copyPiece s x so do' n → so / 256 = line → sMrg x.active = true → so % 256 + n ≤ 256 → data.length = 256 →
        refusalOf s.core g do' n .w = none →
        NextWith (exec (.mergeWindow line) s) fun t => t.mem = mwriteN s.mem do' ((data.drop (so % 256)).take n)
          ∧ (stn t.core g).openX.contains xf = false)

/-- R199, R197, R209: a unit whose rows are all acknowledged signals FULL_REF; a finished descriptor signals DONE_REF and gives
way to PENDING or leaves the stream IDLE; a stall is reported once. -/
def Sys2Proof.Goals.StreamUnitsCompleteAndStall : Prop :=
  ∀ (s : State) (g st : Nat),
    let x := strm (stn s.core g) st
    let d := x.active
    let sig := fun (r : Nat) => ({ signalOf g 0 (refSem r) with back := .unit } : SyncOp)
    Runs s → g < 192 → st < 16 → x.state = 1 →
    (x.units < unitCount d → min ((x.units + 1) * sUnitRows d) (sRows d) ≤ x.row → x.openRows = [] → sKind d ≠ 5 →
      NextWith (exec (.streamUnitDone g st) s) fun t =>
        strm (stn t.core g) st = { x with units := x.units + 1 } ∧ StationsKept s t g ∧ t.mem = s.mem
        ∧ (refOn (sFull d) = false → t.core.fl = s.core.fl)
        ∧ (refOn (sFull d) = true → (syncU t.core (refField (sFull d))).held = (syncU s.core (refField (sFull d))).held ++ [sig (sFull d)]))
    ∧ (sRows d ≤ x.row → x.openRows = [] → unitCount d ≤ x.units →
      NextWith (exec (.streamComplete g st) s) fun t =>
        (x.pending = none → strm (stn t.core g) st = { x with state := 0 })
        ∧ (∀ p, x.pending = some p → (strm (stn t.core g) st).active = p ∧ (strm (stn t.core g) st).state = 1
            ∧ (strm (stn t.core g) st).pending = none ∧ (strm (stn t.core g) st).row = 0)
        ∧ StationsKept s t g ∧ t.mem = s.mem
        ∧ (refOn (sDone d) = false → t.core.fl = s.core.fl)
        ∧ (refOn (sDone d) = true → (syncU t.core (refField (sDone d))).held = (syncU s.core (refField (sDone d))).held ++ [sig (sDone d)]))
    ∧ (sWatchdog d ≠ 0 → x.stalled = false → NextWith (exec (.streamStall g st) s) fun t =>
        strm (stn t.core g) st = { x with stalled := true } ∧ StationsKept s t g ∧ t.mem = s.mem
        ∧ obj t.core Key.streamStallCount = min (obj s.core Key.streamStallCount + 1) (objMax Key.streamStallCount))
    ∧ (x.stalled = true → exec (.streamStall g st) s = .next s)

/-- R346: a member that alone holds up a unit of its group is detached: MCAST_DETACH is counted, the group's mask names it, and
the stream's wait on it ends. -/
def Sys2Proof.Goals.McastDetachExcludesTheMember : Prop :=
  ∀ (s : State) (g st mem : Nat) (mg : ModGroup),
    let x := strm (stn s.core g) st
    let d := x.active
    Runs s → g < 192 → st < 16 → modGroup s.core (mcGroup d) = some mg → x.state = 1 → sKind d = 5 → bit d 53 = true →
    x.credit = false → x.row < sRows d → refOn (sEmpty d) = true → mem < (mcMembers s.core d).length →
    (∀ m tg n, (mcMembers s.core d)[mem]? = some (some m) → egressNow s.core g m 0 .w ≠ .refused tg n) →
    isDetached s.core d mem = false → (∀ i ∈ creditMembers s.core d, i ≠ mem → i ∈ x.got) → mem ∉ x.got →
    (semOf s.core (refField (sEmpty d)) (refSem (sEmpty d) + mem)).count = 0 →
    NextWith (exec (.mcastDetach g st mem) s) fun t =>
      tgetD t.core.alm.detached mg.num 0 = tgetD s.core.alm.detached mg.num 0 + 2 ^ mem
      ∧ strm (stn t.core g) st = { x with waits := false } ∧ StationsKept s t g ∧ t.mem = s.mem
      ∧ obj t.core Key.mcastDetachCount = min (obj s.core Key.mcastDetachCount + 1) (objMax Key.mcastDetachCount)

/-- R115, R117, R119, R120: outside a hold the next row of a class goes to the next station's buffer while it has room, a deferred row behind
the critical ones that can leave, and a whole weight tile behind both to the next station's empty weight buffer; the row and the tile keep
their bytes, and a row that its last station does not take is gone. Over a stopped crossing nothing moves (R401). -/
def Sys2Proof.Goals.CarouselForwards : Prop :=
  ∀ (s : State) (g : Nat),
    let l := obj s.core Key.loopLength
    let q := atDistance l g 1
    Runs s → g < 192 → 0 < l → q ≠ g → stGated s.core g = false → heldNow s.core = false →
    (hopStopped s.core l g = true → (∀ d, exec (.weightTileForward g) s = .next s ∧
      (exec (.carouselForward g d) s = .next s))) ∧ (hopStopped s.core l g = false →
    (∀ (deferred : Bool) (pre post : List OpRow) (r : OpRow),
      opBuf (stn s.core g) deferred = pre ++ r :: post → (∀ p ∈ pre, p.fwd = true ∨ p.h ≤ p.hop) → r.fwd = false → r.hop < r.h →
      (opBuf (stn s.core q) deferred).length < (if deferred then 256 else 512) → (deferred = true → canSend s.core g false = false) →
      NextWith (exec (.carouselForward g deferred) s) fun t =>
        opBuf (stn t.core q) deferred = opBuf (stn s.core q) deferred
          ++ (if r.hop + 1 = r.h ∧ (r.hop + 1) % max 1 r.sigma ≠ 0 then [] else [{ r with hop := r.hop + 1, fwd := false, used := false }])
        ∧ opBuf (stn t.core g) deferred = (pre ++ { r with fwd := true } :: post).filter (fun p => !rowDone p)
        ∧ (∀ k, k ≠ g → k ≠ q → stn t.core k = stn s.core k) ∧ t.mem = s.mem ∧ ObjectsKept s t [Key.cwRows])
    ∧ (∀ b, (stn s.core g).ring.wbuf = some b → b.got = 32768 → b.sent = false → 0 < b.left → (stn s.core q).ring.wbuf = none →
      canSend s.core g false = false → canSend s.core g true = false →
      NextWith (exec (.weightTileForward g) s) fun t =>
        (stn t.core q).ring.wbuf = some { b with left := b.left - 1, taken := false, sent := false }
        ∧ (stn t.core g).ring.wbuf = (if b.taken then none else some { b with sent := true })
        ∧ (∀ k, k ≠ g → k ≠ q → stn t.core k = stn s.core k) ∧ t.mem = s.mem ∧ ObjectsKept s t [Key.cwWeightTiles]))

/-- The entry a DFW enqueues (R126, R269). -/
def Sys2Proof.Goals.newEntry (x : Station) (w : Nat) : DfwEntry :=
  { pc := x.seq.pc, a := tgetD x.desc (bits w 48 8) 0, b := tgetD x.desc (bits w 48 8 + 1) 0, started := false,
    restored := false, tileK := 0, row := 0, drained := false }

/-- R269, R127: DFW joins the queue of 64; its first entry starts when its wait count is taken, or at once where it names none;
a PAIR image is restored into its tile byte for byte. -/
def Sys2Proof.Goals.DeferredEntries : Prop :=
  ∀ (s : State) (g w : Nat),
    let x := stn s.core g
    (AtWord s g w .dfw → x.dfw.entries.length < 64 → NextWith (exec (.dfw g) s) fun t =>
      (stn t.core g).dfw = { x.dfw with entries := x.dfw.entries ++ [Goals.newEntry x w] }
      ∧ (stn t.core g).seq = issuedSeq x.seq ∧ StationsKept s t g ∧ t.mem = s.mem
      ∧ obj t.core Key.dfwMaxDepth = max (obj s.core Key.dfwMaxDepth) (x.dfw.entries.length + 1))
    ∧ (∀ e rest, Runs s → g < 192 → x.dfw.entries = e :: rest → s.core.alm.hold.heldAt = none → e.started = false →
      bit e.b 78 = false → exec (.dfwEntryStart g) s = .next (withCore s (setStn s.core g
        { x with dfw := { x.dfw with entries := { e with started := true } :: rest } })))
    ∧ (∀ e rest, Runs s → g < 192 → x.dfw.entries = e :: rest → s.core.alm.hold.heldAt = none → e.started = true →
      e.restored = false → bit e.a 34 = true → MemoryInv s →
      (tileOf x (bits e.a 0 1)).state = .open → (tileOf x (bits e.a 0 1)).inflight = [] →
      (∀ r, r ≤ bits e.a 2 8 → (bits e.b 34 22 + r * 2048) % 64 = 0 ∧ bits e.b 34 22 + r * 2048 + 8 * (bits e.a 10 8 + 1) ≤ stSize) →
      Goals.sound s g ((List.range (bits e.a 2 8 + 1)).map fun r => bits e.b 34 22 + r * 2048) (8 * (bits e.a 10 8 + 1)) →
      NextWith (exec (.dfwRestore g) s) fun t =>
        (∀ r k, r ≤ bits e.a 2 8 → k ≤ bits e.a 10 8 → mreadN t.mem (accAddr g (bits e.a 0 1) r k) 8
          = mreadN s.mem (stBase g + bits e.b 34 22 + r * 2048 + 8 * k) 8)
        ∧ (∀ b, b < accAddr g (bits e.a 0 1) 0 0 ∨ accAddr g (bits e.a 0 1) 256 0 ≤ b → mread t.mem b = mread s.mem b)
        ∧ stn t.core g = { x with dfw := { x.dfw with entries := { e with restored := true } :: rest } } ∧ StationsKept s t g)

/-- R127, R129: with no MMA of the sequencer ready, a chunk of a deferred entry, its operands in station memory, puts 32 << CHUNK rows in flight in the entry's tile
behind those there, the first chunk of a K tile loading its stationary tile into the entry's plane; after the last row of a
K tile but the last the next K tile begins. -/
def Sys2Proof.Goals.DeferredChunkIssues : Prop :=
  ∀ (s : State) (g : Nat) (e : DfwEntry) (rest : List DfwEntry),
    let x := stn s.core g
    let t := bits e.a 0 1
    let n := min (32 <<< bits e.a 30 2) (bits e.a 2 8 + 1 - e.row)
    let src := fun i => bits e.a 36 22 + 128 * e.tileK + (e.row + i) * bits e.a 58 16
    Runs s → g < 192 → x.dfw.entries = e :: rest → s.core.alm.hold.heldAt = none → stGated s.core g = false →
    e.started = true → e.drained = false → (bit e.a 34 = true → e.restored = true) → bit e.a 32 = false →
    (tileOf x t).state = .open → x.arr.load = none → 0 < n → mmaReady s.mem s.core g = false →
    Goals.sound s g (chunkAddrs e n) 128 → Goals.sound s g (statAddrs e) (if bits e.b 30 4 = 3 then 512 else 256) →
    (∀ i, i < n → src i % 64 = 0 ∧ src i + 128 ≤ stSize) →
    (∀ k, k < (if bits e.b 30 4 = 3 then 64 else 128) →
      (bits e.a 74 22 + (e.tileK * (if bits e.b 30 4 = 3 then 64 else 128) + k) * bits e.a 96 16) % 64 = 0
      ∧ bits e.a 74 22 + (e.tileK * (if bits e.b 30 4 = 3 then 64 else 128) + k) * bits e.a 96 16
        + (if bits e.b 30 4 = 3 then 512 else 256) ≤ stSize) →
    (e.row + n < bits e.a 2 8 + 1 ∨ e.tileK < bits e.a 18 12) →
    NextWith (exec (.dfwChunkIssue g) s) fun u =>
      (∃ rows : List RowUpd, rows.length = n ∧ (tileOf (stn u.core g) t).inflight = (tileOf x t).inflight ++ rows
        ∧ ∀ i r, rows[i]? = some r → r.row = e.row + i ∧ r.fin = none
          ∧ r.mode = if e.tileK = 0 ∧ bit e.a 34 = false then .overwrite else .compensate)
      ∧ (∃ e', (stn u.core g).dfw = { x.dfw with entries := e' :: rest }
          ∧ e' = if e.row + n < bits e.a 2 8 + 1 then { e with row := e.row + n } else { e with row := 0, tileK := e.tileK + 1 })
      ∧ (e.row = 0 → (planeOf (stn u.core g) (bits e.a 1 1)).tag = some (bits e.b 30 4))
      ∧ (stn u.core g).seq = x.seq ∧ StationsKept s u g ∧ u.mem = s.mem


/-! ### The update engines (chapter 05) -/

/-- The engine of field `f` may start the submission `x` of a pass, and `rest` waits behind it (R147). -/
abbrev Sys2Proof.Goals.updNext (c : Core) (f pass : Nat) (x : UpdSub) (rest : List UpdSub) : Prop :=
  f < 8 ∧ (fld c f).upd.running = none ∧ (fld c f).upd.queue = x :: rest ∧ bits x.entry 0 2 = pass ∧ updGated c f = false

/-- The engine after it started the submission: what is left of its queue, and the pass that runs. -/
abbrev Sys2Proof.Goals.updStarted (s t : State) (f : Nat) (x : UpdSub) (did : Bool) (rest : List UpdSub) : Prop :=
  (fld t.core f).upd.queue = rest ∧ (fld t.core f).upd.running = some { x with did := did }
    ∧ (∀ k, k ≠ f → fld t.core k = fld s.core k) ∧ t.core.st = s.core.st

/-- W32 values as working-copy bytes of a tensor under a scale exponent (R145, R52). -/
def Sys2Proof.Goals.copyBytes (u : UpdArgs) (k : Int) (ws : List Nat) : Bytes :=
  if u.t.fmt = 3 then elemBytes 2 (ws.map fun w => bf16.enc (decW32 w))
  else elemBytes 1 (ws.map fun w => (narrow u.t.fmt ((decW32 w).scale k)).1)

/-- The tables permit an engine's accesses, and what it reads has no error that cannot be corrected (R187, R183). -/
abbrev Sys2Proof.Goals.allPermitted (c : Core) (m : Nat) (l : List (Nat × Nat × Right)) : Prop :=
  ∀ x ∈ l, refusalOf c m x.1 x.2.1 x.2.2 = none ∧ (x.2.2 = .r → eccBad c [x.1] x.2.1 = none)

/-- R146, R154, R145: an INIT pass of one block forms both buffers from the masters; one of NORM adds the squares of the block's
reduced gradients to the norm reduction's partial and writes it to its source address (R153, R340). -/
def Sys2Proof.Goals.UpdateInitAndNorm : Prop :=
  ∀ (s : State) (f : Nat) (x : UpdSub) (rest : List UpdSub) (u : UpdArgs), Runs s → updArgs s.core x.entry = some u → u.count = 1 →
    let ws := elems 4 1024 (mreadN s.mem (masterAt u 0) 4096)
    let m := updMaster f
    (Goals.updNext s.core f 0 x rest →
      Goals.allPermitted s.core m [(masterAt u 0, 4096, .r), (wcAt u false 0, 1024 * wcBytes u, .w), (wcAt u true 0, 1024 * wcBytes u, .w)] →
      NextWith (exec (.updInit f) s) fun t =>
        t.mem = mwriteN (mwriteN s.mem (wcAt u false 0) (Goals.copyBytes u (scaleE s.core u.t.scale).scaleA ws)) (wcAt u true 0)
          (Goals.copyBytes u (scaleE s.core u.t.scale).scaleB ws)
        ∧ Goals.updStarted s t f x true rest)
    ∧ (∀ r, Goals.updNext s.core f 1 x rest → redDecl u.im (bits x.entry 77 12) = some r →
      frozen s.mem u.im.maskBase (blockIndex u 0) = false →
      Goals.allPermitted s.core m [(gradAt u (obj s.core Key.stepNumber) 0, 4096, .r),
        (gaOff u.im.maskBase + blockIndex u 0 / 1024 / 8, 1, .r), (gaOff r.source, 16, .w)] →
      NextWith (exec (.updNorm f) s) fun t =>
        let q := (elems 4 1024 (mreadN s.mem (gradAt u (obj s.core Key.stepNumber) 0) 4096)).foldl
          (fun p g => normAdd (eRefOf s.core r) p (fp32.mul (fp32.mul g u.gr.gradMult) (fp32.mul g u.gr.gradMult)))
          (tgetD s.core.norm r.redno NormPart.blank)
        tgetD t.core.norm r.redno NormPart.blank = q
        ∧ t.mem = mwriteN s.mem (gaOff r.source) (leBytes 16 (if normOvf q then 0 else unsigned 128 q.sum))
        ∧ BytesKept s t (gaOff r.source) 16 ∧ Goals.updStarted s t f x true rest)

/-- R152, R154, R155, R158, R352: a PREPARE pass of one block, without clipping, writes the idle working copy of the updated masters
(of the masters, in a frozen block) and nothing else; an APPLY pass that runs writes masters and moments in place, leaves a
frozen block alone, and one that does not run writes nothing. -/
def Sys2Proof.Goals.UpdatePrepareAndApply : Prop :=
  ∀ (s : State) (f : Nat) (x : UpdSub) (rest : List UpdSub) (u : UpdArgs), Runs s → updArgs s.core x.entry = some u → u.count = 1 →
    bit x.entry 64 = false →
    let m := updMaster f
    let idle := decide (obj s.core Key.commits % 2 = 0)
    let ice := frozen s.mem u.im.maskBase (blockIndex u 0)
    let new := fun (step i : Nat) => adamElement (adamCtx u.im u.gr step fp32.one (obj s.core Key.jobSeed)) (blockIndex u 0 + i)
      (mnum s.mem (masterAt u 0 + 4 * i) 4) (mnum s.mem (moment1At u 0 + 2 * i) 2) (mnum s.mem (moment2At u 0 + 2 * i) 2)
      (mnum s.mem (gradAt u step 0 + 4 * i) 4)
    let k := obj s.core Key.stepNumber
    let v := obj s.core Key.lastVoteStep
    (Goals.updNext s.core f 2 x rest →
      Goals.allPermitted s.core m (readsOf u k 0 ++ [(wcAt u idle 0, 1024 * wcBytes u, .w)]) →
      NextWith (exec (.updPrepare f) s) fun t =>
        t.mem = mwriteN s.mem (wcAt u idle 0) (Goals.copyBytes u (scaleIdle s.core u.t.scale)
          ((List.range 1024).map fun i => if ice then mnum s.mem (masterAt u 0 + 4 * i) 4 else (new k i).w))
        ∧ BytesKept s t (wcAt u idle 0) (1024 * wcBytes u) ∧ Goals.updStarted s t f x true rest)
    ∧ (Goals.updNext s.core f 3 x rest → applyRuns s.core = false →
      NextWith (exec (.updApply f) s) fun t => t.mem = s.mem ∧ Goals.updStarted s t f x false rest)
    ∧ (Goals.updNext s.core f 3 x rest → applyRuns s.core = true →
      Goals.allPermitted s.core m (readsOf u v 0 ++ [(masterAt u 0, 4096, .w), (moment1At u 0, 2048, .w), (moment2At u 0, 2048, .w)]) →
      NextWith (exec (.updApply f) s) fun t =>
        t.mem = (if ice then s.mem else
          mwriteN (mwriteN (mwriteN s.mem (masterAt u 0) (elemBytes 4 ((List.range 1024).map fun i => (new v i).w)))
            (moment1At u 0) (elemBytes 2 ((List.range 1024).map fun i => (new v i).m)))
            (moment2At u 0) (elemBytes 2 ((List.range 1024).map fun i => (new v i).v)))
        ∧ Goals.updStarted s t f x true rest)

/-- R148, R224: a pass at its end leaves the engine free and signals the completion semaphore its entry names. -/
def Sys2Proof.Goals.UpdateCompletes : Prop :=
  ∀ (s : State) (f : Nat) (x : UpdSub), Runs s → f < 8 → (fld s.core f).upd.running = some x →
    NextWith (exec (.updComplete f) s) fun t =>
      (fld t.core f).upd = { (fld s.core f).upd with running := none } ∧ t.core.alm.updsDone = (f, x.entry) :: s.core.alm.updsDone
      ∧ (syncU t.core f).held = (syncU s.core f).held ++ (if bit x.entry 89 then
          [{ signalOf (updMaster f) 0 (bits x.entry 90 12) with back := .unit }] else [])
      ∧ (∀ k, k ≠ f → fld t.core k = fld s.core k) ∧ t.core.st = s.core.st ∧ t.mem = s.mem

/-! ### Semaphores, fences and watches (chapters 07 and 08) -/

/-- R264, R223: SIG ADD and SIG SUB enter the signal queue behind what stands there, with their delta, and the sequencer goes on. -/
def Sys2Proof.Goals.SigEntersItsQueue : Prop :=
  ∀ (s : State) (g w : Nat) (i : Instr) (o : Op) (k : SyncKind),
    (i, o, k) ∈ [(Instr.sigAdd g, Op.sigAdd, SyncKind.add), (.sigSub g, .sigSub, .sub)] → AtWord s g w o →
    let x := stn s.core g
    let op : SyncOp := { issuer := g, kind := k, sem := bits w 13 12, n := bits w 40 16, cookie := 0, slot := 0, back := .sig g x.seq.pc }
    let home := if bit w 12 = true ∨ bits w 28 12 = ownMod s.core then none else some (bits w 28 12)
    sigCount x < 16 →
    exec i s = .next (withCore s (issueAs s.core g { x with fq := x.fq ++ [.sig x.seq.pc home (bits w 25 3) op] }))

/-- R223, R219, R236: the first SIG with no fence before it leaves: to its field's sync unit, or as a SYNC packet on the flow to
its home. -/
def Sys2Proof.Goals.SigLeavesItsQueue : Prop :=
  ∀ (s : State) (g pc f : Nat) (op : SyncOp) (rest : List FenceOrSig), Runs s → g < 192 →
    let x := stn s.core g
    (x.fq = .sig pc none f op :: rest → NextWith (exec (.sigRelease g) s) fun t =>
      stn t.core g = { x with fq := rest } ∧ (syncU t.core f).held = (syncU s.core f).held ++ [op]
      ∧ StationsKept s t g ∧ t.mem = s.mem ∧ t.core.dict = s.core.dict)
    ∧ (∀ n i, x.fq = .sig pc (some n) f op :: rest → flowAny s.core op.issuer n = some i → (ctxOf s.core i).state = 1 →
      tablePermits s.core.acc (portTarget s.core (egressPort s.core i)) op.issuer n op.kind.right = true →
      NextWith (exec (.sigRelease g) s) fun t =>
        stn t.core g = { x with fq := rest } ∧ t.core.fl = s.core.fl ∧ StationsKept s t g
        ∧ ∃ p, (ctxOf t.core i).queue = (ctxOf s.core i).queue ++ [p] ∧ p.pkt.typ = 5 ∧ p.pkt.issuer = op.issuer
          ∧ p.pkt.addr = n * 65536 + f * 4096 + op.sem ∧ p.pkt.payload = padUnits (leBytes 4 op.n ++ leBytes 4 op.cookie ++ leBytes 4 op.slot))
    ∧ (∀ a b, x.fq = .fence a b :: rest → exec (.sigRelease g) s = .next s)

/-- The unit of field `f` has `op` at the front of its queue, `rest` behind it, and no poisoning next (R219). -/
abbrev Sys2Proof.Goals.opFirst (s : State) (f : Nat) (op : SyncOp) (rest : List SyncOp) : Prop :=
  Runs s ∧ f < 8 ∧ (syncU s.core f).held = op :: rest ∧ (∀ p, rest.head? = some p → p.kind ≠ .poison)

/-- The reply to an operation goes where it is awaited: to its station inside the module, or to its host session as the response it waits
for; a RANGE answer to a unit that awaits none is an always-detected fault (R219, R220, R437). -/
def Sys2Proof.Goals.replied (s t : State) (op : SyncOp) (st : Status) : Prop :=
  let faults := st = .range → running s.core = true → t.core.alm.fault ≠ none
  match op.back with
  | .sig _ _ | .comp _ _ | .tak _ _ | .wat _ _ _ _ => NetMsg.reply op.back st ∈ t.core.net
  | .host ctx seq typ port dest => ∀ x, sessionOf s.core ctx = some x → x.kept.contains (seq, none) = true →
      let r : Resp := { typ := typ, status := st.code, payload := [] }
      t.core.host.out.getLast? = some (.bamcen port dest ctx seq r (tagOf x.key ctx 1 seq r))
  | .engine _ => faults
  | .unit => isUnit op.issuer = true → faults

/-- The operation passes the checks that stand before its effect (R218, R219): permitted, an Almanac runs, the semaphore valid, the
operand in range, and not poisoned. -/
abbrev Sys2Proof.Goals.opEnabled (s : State) (f : Nat) (op : SyncOp) : Prop :=
  let e := semOf s.core f op.sem
  semPermits s.core f op = true ∧ running s.core = true ∧ e.valid = true ∧ e.poison = false ∧ 0 < op.n
    ∧ op.n ≤ (match op.kind with | .tak => e.cap | .wat => e.cap | _ => 65535)

/-- R217, R219, R354: SIG ADD, SIG SUB and TAK: the count, the reply, and that the queue moves on; a gate armed on the semaphore that the new
count meets takes its count at once; an overflow, an underflow or too small a count changes nothing. -/
def Sys2Proof.Goals.SemaphoreCounts : Prop :=
  ∀ (s : State) (f : Nat) (op : SyncOp) (rest : List SyncOp), Goals.opFirst s f op rest → Goals.opEnabled s f op →
    let gates := (syncU s.core f).gates
    (gates.filter fun p => p.1 = op.sem).length ≤ 1 →
    let e := semOf s.core f op.sem
    let answered := fun (n : Nat) (left : List (Nat × Nat)) (st : Status) (t : State) => semOf t.core f op.sem = { e with count := n }
      ∧ (syncU t.core f).gates = left ∧ (syncU t.core f).held = rest ∧ Goals.replied s t op st ∧ t.mem = s.mem ∧ t.core.st = s.core.st
      ∧ ∀ k, k ≠ op.sem → semOf t.core f k = semOf s.core f k
    let met := fun (v : Nat) (p : Nat × Nat) => decide (p.1 = op.sem ∧ p.2 ≤ v)
    let moves := fun (v : Nat) => answered (v - ((gates.filter (met v)).map fun p => p.2).sum) (gates.filter fun p => !met v p) .ok
    (op.kind = .add → NextWith (exec (.semSigAdd f) s)
      (if e.count + op.n ≤ e.cap then moves (e.count + op.n) else answered e.count gates .range))
    ∧ (op.kind = .sub → NextWith (exec (.semSigSub f) s)
      (if op.n ≤ e.count then moves (e.count - op.n) else answered e.count gates .range))
    ∧ (op.kind = .tak → NextWith (exec (.semTak f) s)
      (if op.n ≤ e.count then moves (e.count - op.n) else answered e.count gates .taken))

/-- R218, R219: what the checks before the effect answer, in their order: ACCESS, STATE, RANGE for an invalid semaphore or an
operand out of range, LOST for a poisoned one; the semaphores stay. -/
def Sys2Proof.Goals.SemaphoreRefusals : Prop :=
  ∀ (s : State) (f : Nat) (op : SyncOp) (rest : List SyncOp) (i : Instr), Goals.opFirst s f op rest →
    (i, op.kind) ∈ [(Instr.semSigAdd f, SyncKind.add), (.semSigSub f, .sub), (.semTak f, .tak), (.semWat f, .wat)] →
    let e := semOf s.core f op.sem
    let bound := if op.kind = .tak ∨ op.kind = .wat then e.cap else 65535
    let p := semPermits s.core f op
    let r := running s.core
    ∀ st, (st = Status.access ∧ p = false) ∨ (st = .state ∧ p = true ∧ r = false) ∨ (st = .range ∧ p = true ∧ r = true ∧ e.valid = false)
        ∨ (st = .range ∧ p = true ∧ r = true ∧ e.valid = true ∧ (op.n = 0 ∨ bound < op.n))
        ∨ (st = .lost ∧ p = true ∧ r = true ∧ e.valid = true ∧ 0 < op.n ∧ op.n ≤ bound ∧ e.poison = true) →
      NextWith (exec i s) fun t => (syncU t.core f).sems = (syncU s.core f).sems ∧ (syncU t.core f).held = rest
        ∧ (syncU t.core f).gates = (syncU s.core f).gates ∧ Goals.replied s t op st ∧ t.mem = s.mem ∧ t.core.st = s.core.st

/-- R219, R225, R226: a WAT of a station or a session whose condition does not hold yet keeps the lowest free watch of the field; one whose
condition holds sends its OK message at once and keeps none; with no watch free it is answered BUSY. -/
def Sys2Proof.Goals.WatRegistersAWatch : Prop :=
  ∀ (s : State) (f : Nat) (op : SyncOp) (rest : List SyncOp), Goals.opFirst s f op rest → Goals.opEnabled s f op →
    op.kind = .wat → op.issuer < 0x8000 →
    let e := semOf s.core f op.sem
    (∀ p ∈ (syncU s.core f).gates, p.1 = op.sem → e.count < p.2) →
    let x : Watch := { sem := op.sem, thresh := op.n, dest := op.issuer, slot := op.slot, cookie := op.cookie }
    (freeWatch (syncU s.core f) op.issuer = none → NextWith (exec (.semWat f) s) fun t =>
      (syncU t.core f).watches = (syncU s.core f).watches ∧ Goals.replied s t op .busy ∧ (syncU t.core f).held = rest ∧ semOf t.core f op.sem = e)
    ∧ (∀ w, freeWatch (syncU s.core f) op.issuer = some w → e.count < op.n →
      (∀ p ∈ (syncU s.core f).watches, p.2.sem = op.sem → e.count < p.2.thresh) → NextWith (exec (.semWat f) s) fun t =>
        (syncU t.core f).watches = tset (syncU s.core f).watches w x ∧ Goals.replied s t op .ok ∧ (syncU t.core f).held = rest
        ∧ semOf t.core f op.sem = e)
    ∧ (∀ w, freeWatch (syncU s.core f) op.issuer = some w → op.n ≤ e.count → NextWith (exec (.semWat f) s) fun t =>
        tget (syncU t.core f).watches w = none ∧ Goals.replied s t op .ok ∧ (syncU t.core f).held = rest ∧ semOf t.core f op.sem = e
        ∧ NetMsg.watch op.issuer op.slot (watchMsg s.core f w x .ok 0 e.count) ∈ t.core.net)

/-- R226: after an operation that a sync unit answered with OK, no watch on its semaphore is left whose condition holds. -/
def Obligations.NoWatchIsMissed : Prop :=
  ∀ (c : Core) (f : Nat) (op : SyncOp), (applyOp c f op).2 = .ok →
    op.kind ∈ [SyncKind.add, .sub, .tak, .wat] →
    ∀ p ∈ (syncU (applyOp c f op).1 f).watches, p.2.sem = op.sem → (semOf (applyOp c f op).1 f op.sem).count < p.2.thresh

/-- R215, R217, R219: whatever a sync unit is asked, no count passes its capacity, if none did before. -/
def Obligations.CountsStayWithinCapacity : Prop :=
  ∀ (c : Core) (f : Nat) (op : SyncOp), (∀ s, (semOf c f s).count ≤ (semOf c f s).cap) →
    ∀ s, (semOf (applyOp c f op).1 f s).count ≤ (semOf (applyOp c f op).1 f s).cap
      ∧ (semOf (applyOp c f op).1 f s).cap = (semOf c f s).cap ∧ (semOf (applyOp c f op).1 f s).valid = (semOf c f s).valid


/-- R265, R266, R253, R235, R236: TAK, WAT POST and WAT BLOCK on a semaphore of this module reach its sync unit, those on another module's leave as
a SYNC packet on the flow to it, a WAT with a proxy that names its waiter, and the sequencer is held; a WAT takes the lowest free index with its
cookie, or is answered BUSY with 16 outstanding and STATE for a cookie in use. -/
def Sys2Proof.Goals.TakAndWatHoldTheSequencer : Prop :=
  ∀ (s : State) (g w : Nat),
    let x := stn s.core g
    let here := bit w 8 = true ∨ bits w 24 12 = ownMod s.core
    let f := bits w 21 3
    let heldBy := fun (h : Hold) => { issuedSeq x.seq with state := .waiting, waitCause := 10, hold := h }
    let away := bits w 24 12
    let sends := fun (t : State) (i op cookie slot : Nat) => ∃ p, (ctxOf t.core i).queue = (ctxOf s.core i).queue ++ [p] ∧ p.pkt.typ = 5
      ∧ p.pkt.op = op ∧ p.pkt.issuer = g ∧ p.pkt.addr = away * 65536 + f * 4096 + bits w 9 12
      ∧ p.pkt.payload = padUnits (leBytes 4 (bits w 36 20) ++ leBytes 4 cookie ++ leBytes 4 slot)
    let flow := fun (i : Nat) (rt : Right) => flowAny s.core g away = some i ∧ (ctxOf s.core i).state = 1
      ∧ tablePermits s.core.acc (portTarget s.core (egressPort s.core i)) g away rt = true
    (AtWord s g w .tak → here → NextWith (exec (.tak g) s) fun t =>
      stn t.core g = { x with seq := heldBy .reply } ∧ StationsKept s t g ∧ t.mem = s.mem
      ∧ ∃ op, (syncU t.core f).held = (syncU s.core f).held ++ [op] ∧ op.kind = .tak ∧ op.issuer = g ∧ op.sem = bits w 9 12
        ∧ op.n = bits w 36 20 ∧ op.back = .tak g x.seq.pc)
    ∧ (∀ k, AtWord s g w .tak → ¬here → flow k .a → NextWith (exec (.tak g) s) fun t =>
      stn t.core g = { x with seq := heldBy .reply } ∧ StationsKept s t g ∧ t.mem = s.mem ∧ t.core.fl = s.core.fl ∧ sends t k 2 0 0)
    ∧ (∀ i o blk idx k y, (i, o, blk) ∈ [(Instr.watPost g, Op.watPost, false), (.watBlock g, .watBlock, true)] → AtWord s g w o → ¬here →
      freeIdx x = some idx → (∀ p ∈ x.watches, p.2.cookie ≠ bits w 0 8) → freeProxy s.core = some y → flow k .r → NextWith (exec i s) fun t =>
        (stn t.core g).seq = heldBy (if blk then .message idx else .reply) ∧ sends t k 3 (bits w 0 8) y
        ∧ (∃ q, tget t.core.fab.proxies y = some q ∧ q.home = away ∧ q.waiter = g ∧ q.slot = idx)
        ∧ StationsKept s t g ∧ t.mem = s.mem ∧ t.core.fl = s.core.fl)
    ∧ (∀ i o blk idx, (i, o, blk) ∈ [(Instr.watPost g, Op.watPost, false), (.watBlock g, .watBlock, true)] → AtWord s g w o → here →
      freeIdx x = some idx → (∀ p ∈ x.watches, p.2.cookie ≠ bits w 0 8) → NextWith (exec i s) fun t =>
        (stn t.core g).seq = heldBy (if blk then .message idx else .reply)
        ∧ (stn t.core g).watches = tset x.watches idx
            { cookie := bits w 0 8, block := blk, inbox := none, thresh := bits w 36 20,
              sem := wordSem s.core (bits w 24 12) f (bits w 9 12) (bit w 8) }
        ∧ StationsKept s t g ∧ t.mem = s.mem
        ∧ ∃ op, (syncU t.core f).held = (syncU s.core f).held ++ [op] ∧ op.kind = .wat ∧ op.issuer = g ∧ op.sem = bits w 9 12
          ∧ op.n = bits w 36 20 ∧ op.cookie = bits w 0 8 ∧ op.slot = idx ∧ op.back = .wat g idx x.seq.pc blk)
    ∧ (∀ i o st, (i, o) ∈ [(Instr.watPost g, Op.watPost), (.watBlock g, .watBlock)] → AtWord s g w o →
      ((freeIdx x = none ∧ st = 1) ∨ (freeIdx x ≠ none ∧ (∃ p ∈ x.watches, p.2.cookie = bits w 0 8) ∧ st = 2)) → NextWith (exec i s) fun t =>
        stn t.core g = { x with seq := { issuedSeq x.seq with lastStatus := st } } ∧ t.core.fl = s.core.fl ∧ StationsKept s t g)

/-- R266, R230: WAIT takes the inbox entry with its cookie, frees it and gives its status; with none there it holds the sequencer
until the message arrives; without a watch of that cookie it is answered STATE. -/
def Sys2Proof.Goals.WaitTakesItsInboxEntry : Prop :=
  ∀ (s : State) (g w idx : Nat) (v : WatchIdx), AtWord s g w .watWait →
    let x := stn s.core g
    ((x.watches.find? fun p => p.2.cookie = bits w 0 8) = some (idx, v) →
      (∀ m, v.inbox = some m → NextWith (exec (.watWait g) s) fun t =>
        stn t.core g = { x with seq := { issuedSeq x.seq with lastStatus := m.status.code }, watches := tdel x.watches idx }
        ∧ StationsKept s t g ∧ t.mem = s.mem)
      ∧ (v.inbox = none → NextWith (exec (.watWait g) s) fun t =>
        stn t.core g = { x with seq := { issuedSeq x.seq with state := .waiting, waitCause := 10, hold := .inbox (bits w 0 8) } }
        ∧ StationsKept s t g ∧ t.mem = s.mem))
    ∧ ((∀ p ∈ x.watches, p.2.cookie ≠ bits w 0 8) → NextWith (exec (.watWait g) s) fun t =>
        stn t.core g = { x with seq := { issuedSeq x.seq with lastStatus := 2 } } ∧ StationsKept s t g ∧ t.mem = s.mem)

/-- R253, R254, R264, R265, R497: the oldest reply to a station arrives: a TAK's status ends the hold and is LAST_STATUS; a SIG's or a
completion's LOST sets SIG_LOST and its OK changes nothing; any other is the fault of kind 5 at the instruction's address. -/
def Sys2Proof.Goals.RepliesReachTheirStation : Prop :=
  ∀ (s : State) (g pc : Nat) (b : Back) (st : Status), Runs s → g < 192 → s.core.net.find? (isReplyTo g) = some (.reply b st) →
    let x := stn s.core g
    let one := s.core.net.erase (.reply b st)
    let told := fun (y : Station) (t : State) => stn t.core g = y ∧ t.core.net = one ∧ StationsKept s t g ∧ t.mem = s.mem
    (b = .tak g pc → st ∈ [Status.ok, .taken, .lost] → x.seq.hold = .reply → x.seq.state = .waiting →
      NextWith (exec (.syncOperationReply g) s)
        (told { x with seq := { x.seq with state := .running, waitCause := 0, hold := .free, lastStatus := st.code } }))
    ∧ (b = .sig g pc ∨ b = .comp g pc →
      (st = .ok → NextWith (exec (.syncOperationReply g) s) (told x))
      ∧ (st = .lost → NextWith (exec (.syncOperationReply g) s) (told { x with seq := { x.seq with sigLost := true } })))
    ∧ (b = .sig g pc ∨ b = .comp g pc ∨ b = .tak g pc → st ∈ [Status.range, .access, .state] → x.seq.state ≠ .faulted →
      NextWith (exec (.syncOperationReply g) s) (told { x with seq := { faultedSeq x.seq 5 with faultPc := pc } }))

/-- R228, R230, R234, R266: a watch message reaches its inbox entry and releases a BLOCK or a WAIT that is held for it; in a wait
slot an OK lets the stream take its credit again, and a LOST faults the stream with cause 4. -/
def Sys2Proof.Goals.WatchMessagesReachTheirUnit : Prop :=
  ∀ (s : State) (unit idx : Nat) (m : WatchMsg), Runs s → s.core.net.find? (isWatchFor unit) = some (.watch unit idx m) →
    let x := stn s.core unit
    (∀ v, unit < 192 → tget x.watches idx = some v →
      ((x.seq.hold = .message idx ∨ x.seq.hold = .inbox v.cookie) → x.seq.state = .waiting → NextWith (exec (.watchMessage unit) s) fun t =>
        (stn t.core unit).seq = { x.seq with state := .running, waitCause := 0, hold := .free, lastStatus := m.status.code }
        ∧ tget (stn t.core unit).watches idx = none ∧ StationsKept s t unit ∧ t.mem = s.mem)
      ∧ (x.seq.hold = .free ∨ x.seq.hold = .reply → NextWith (exec (.watchMessage unit) s) fun t =>
        stn t.core unit = { x with watches := tset x.watches idx { v with inbox := some m } } ∧ StationsKept s t unit ∧ t.mem = s.mem))
    ∧ (∀ g st, g < 192 → st < 16 → unit = streamSlot g st → (strm (stn s.core g) st).state = 1 →
      (m.status = .ok → NextWith (exec (.watchMessage unit) s) fun t =>
        strm (stn t.core g) st = { strm (stn s.core g) st with waits := false } ∧ StationsKept s t g ∧ t.mem = s.mem)
      ∧ (m.status = .lost → NextWith (exec (.watchMessage unit) s) fun t =>
        (strm (stn t.core g) st).state = 2 ∧ (strm (stn t.core g) st).faultCause = 4 ∧ (strm (stn t.core g) st).faultAddr = m.sem
        ∧ StationsKept s t g ∧ t.mem = s.mem))

/-- R267, R222: FNC records a fence over the transfers issued since the one before it; FNC_WAIT holds the sequencer as well. -/
def Sys2Proof.Goals.FencesAreRecorded : Prop :=
  ∀ (s : State) (g w : Nat),
    let x := stn s.core g
    let y : Station := { x with fq := x.fq ++ [FenceOrSig.fence x.waitStart x.nextX], waitStart := x.nextX }
    fenceCount x < 16 →
    (AtWord s g w .fnc → NextWith (exec (.fnc g) s) fun t =>
      stn t.core g = { y with seq := issuedSeq x.seq } ∧ StationsKept s t g ∧ t.mem = s.mem ∧ t.core.fl = s.core.fl)
    ∧ (AtWord s g w .fncWait → NextWith (exec (.fncWait g) s) fun t =>
      stn t.core g = { y with seq := { issuedSeq x.seq with state := .waiting, waitCause := 12, hold := .fences } }
      ∧ StationsKept s t g ∧ t.mem = s.mem ∧ t.core.fl = s.core.fl)

/-- R222, R267: the first fence retires once none of the transfers it or an earlier one covers is outstanding. With no transfer of its
own lost it lets its SIGs stand; with one lost the SIGs it held, up to the next fence, are discarded and SIG_LOST is set. A
sequencer that waits on its last fence goes on, with OK or LOST. -/
def Sys2Proof.Goals.FencesRetire : Prop :=
  ∀ (s : State) (g a b : Nat) (pre sigs post : List FenceOrSig), Runs s → g < 192 →
    let x := stn s.core g
    let lost := x.lostX.any fun k => decide (a ≤ k ∧ k < b)
    let isSig := fun (e : FenceOrSig) => ∃ p n f op, e = .sig p n f op
    x.fq = pre ++ .fence a b :: (sigs ++ post) → (∀ e ∈ pre ++ sigs, isSig e) → (∀ e r, post = e :: r → ¬isSig e) →
    ((∃ k ∈ x.openX, k < b) → exec (.fenceRetire g) s = .next s)
    ∧ ((∀ k ∈ x.openX, b ≤ k) → NextWith (exec (.fenceRetire g) s) fun t =>
        let y := stn t.core g
        y.fq = pre ++ (if lost then post else sigs ++ post)
        ∧ y.seq.sigLost = (x.seq.sigLost || (lost && !sigs.isEmpty))
        ∧ (x.seq.hold = .fences → x.seq.state = .waiting → post = [] →
            y.seq.state = .running ∧ y.seq.hold = .free ∧ y.seq.lastStatus = if lost then 11 else 0)
        ∧ (x.seq.hold ≠ .fences → y.seq = { x.seq with sigLost := y.seq.sigLost })
        ∧ StationsKept s t g ∧ t.mem = s.mem)

/-- R354: a gate judgement in its turn on a semaphore that holds its count takes it; on one that does not, the gate stays armed. -/
def Sys2Proof.Goals.GateJudgements : Prop :=
  ∀ (s : State) (f : Nat) (op : SyncOp) (rest : List SyncOp), Goals.opFirst s f op rest → op.kind = .gate → op.sem < 4096 →
    let e := semOf s.core f op.sem
    (syncU s.core f).gates = [] → e.valid = true → e.poison = false →
    (op.n ≤ e.count → NextWith (exec (.gateJudgement f op.sem) s) fun t =>
      semOf t.core f op.sem = { e with count := e.count - op.n } ∧ (syncU t.core f).gates = [] ∧ (syncU t.core f).held = rest
      ∧ t.core.st = s.core.st ∧ t.mem = s.mem)
    ∧ (e.count < op.n → NextWith (exec (.gateJudgement f op.sem) s) fun t =>
      (syncU t.core f).sems = (syncU s.core f).sems ∧ (syncU t.core f).gates = [(op.sem, op.n)] ∧ (syncU t.core f).held = rest
      ∧ t.core.st = s.core.st ∧ t.mem = s.mem)


/-! ### Links, flows and packets (chapter 09) -/

/-- A port on which a link's commands act: the module runs, the port is enabled and not the odd member of a pair (R278). -/
abbrev Sys2Proof.Goals.linkActs (s : State) (p : Nat) : Prop := Runs s ∧ p < 16 ∧ portActs s.core p = true

/-- Every port but one keeps its record. -/
abbrev Sys2Proof.Goals.portsKept (s t : State) (p : Nat) : Prop := ∀ k, k ≠ p → portOf t.core k = portOf s.core k

/-- R285, R286: training goes phase by phase from DETECT, and after the round-trip measurement the port exchanges identities; a
phase that takes too long returns it to DETECT; loss of signal takes it DOWN; an exchange is answered with the module's signature, and
one that verifies makes the port UP with its partner's identity, one that does not makes it REFUSED. -/
def Sys2Proof.Goals.LinkTrainingAndIdentity : Prop :=
  ∀ (s : State) (p : Nat), Goals.linkActs s p →
    let x := portOf s.core p
    (∀ rt, s.core.boot.rom = false →
      (x.pstate = 0 → exec (.linkTrainingPhase p rt) s = .next (withCore s (setPort s.core p
        { x with pstate := 1, phase := 1, trainings := min (x.trainings + 1) (2 ^ 32 - 1) })))
      ∧ (x.pstate = 1 → x.phase < 4 → exec (.linkTrainingPhase p rt) s = .next (withCore s (setPort s.core p { x with phase := x.phase + 1 })))
      ∧ (x.pstate = 1 → 4 ≤ x.phase → NextWith (exec (.linkTrainingPhase p rt) s) fun t =>
          portOf t.core p = { x with latency := min 255 ((rt - 11) / 2), pstate := 2, phase := 5, again := false, rxGroup := 0,
                                     tries := 0, nonceDraw := s.core.freeCtr }
          ∧ (∃ m : IdentOut, t.core.host.out = s.core.host.out ++ [OutMsg.ident p m] ∧ m.key = s.fuse.identityKey ∧ m.cert = s.fuse.cert
            ∧ m.port = p ∧ m.modId = ownMod s.core ∧ m.instId = obj s.core Key.installationId ∧ m.lc = s.fuse.lc)
          ∧ Goals.portsKept s t p))
    ∧ (x.pstate = 2 ∨ (x.pstate = 1 ∧ 0 < x.phase) → exec (.trainingTimeout p) s
        = .next (withCore s (setPort s.core p { x with pstate := 1, phase := 0, again := false })))
    ∧ (x.pstate ≠ 0 → NextWith (exec (.lossOfSignal p) s) fun t =>
        (portOf t.core p).pstate = 0 ∧ (portOf t.core p).downCause = 1 ∧ Goals.portsKept s t p ∧ t.mem = s.mem
        ∧ obj t.core Key.linkDownCount = min (obj s.core Key.linkDownCount + 1) (objMax Key.linkDownCount))
    ∧ (∀ m, x.pstate = 2 → x.again = false →
      (m.sigOk = true ∧ m.certOk = true ∧ m.instId = obj s.core Key.installationId → NextWith (exec (.ident p m) s) fun t =>
        (portOf t.core p).pstate = 3 ∧ (portOf t.core p).peerMod = m.modId ∧ (portOf t.core p).peerValid = m.modValid
        ∧ (portOf t.core p).peerPort = m.peerPort ∧ (portOf t.core p).peerDigest = m.digest ∧ (portOf t.core p).peerEpoch = m.bootEpoch
        ∧ OutMsg.identSig p (identProof s.fuse (identOut s.fuse s.core p) m.nonce) ∈ t.core.host.out
        ∧ ∀ k, k ≠ p → { portOf t.core k with used := [] } = { portOf s.core k with used := [] })
      ∧ (¬(m.sigOk = true ∧ m.certOk = true ∧ m.instId = obj s.core Key.installationId) → NextWith (exec (.ident p m) s) fun t =>
        (portOf t.core p).pstate = 4 ∧ Goals.portsKept s t p ∧ t.core.fab.topo = s.core.fab.topo))

/-- The lanes of a port whose codeword of a group has more symbols in error than can be corrected (R279). -/
def Sys2Proof.Goals.lostLanes (c : Core) (p : Nat) (errs : List Nat) : List Nat :=
  (List.range (if joined c p then 8 else 4)).filter fun l => decide (16 < errs.getD l 0)

/-- The symbols corrected in a group: those of the codewords with at most 16 in error (R279). -/
def Sys2Proof.Goals.corrected (c : Core) (p : Nat) (errs : List Nat) : Nat :=
  (((List.range (if joined c p then 8 else 4)).filter fun l => decide (errs.getD l 0 ≤ 16)).map fun l => errs.getD l 0).sum

/-- R279, R280, R285: a group whose codewords have at most 16 symbols in error is corrected, and in its turn delivered and acknowledged; one
with an uncorrectable codeword is discarded and its replay asked for, and the 64th in succession of a lane takes the port DOWN; a replay sends
the group again, and the ninth in succession of one group takes the port DOWN. -/
def Sys2Proof.Goals.CodewordGroupsAreReplayed : Prop :=
  ∀ (s : State) (p seq : Nat) (errs : List Nat) (acked : Option Nat), Goals.linkActs s p →
    let x := portOf s.core p
    let bad := Goals.lostLanes s.core p errs
    let n := Goals.corrected s.core p errs
    (1 < x.pstate → seq = x.rxGroup → bad = [] → NextWith (exec (.codewordGroup p seq errs acked) s) fun t =>
      portOf t.core p = { x with fec := min (x.fec + n) (2 ^ 64 - 1), badRun := [], rxGroup := (seq + 1) % 65536,
                                 tries := if ∃ a, acked = some a ∧ (a + 65536 - x.replaySeq) % 65536 < 512 then 0 else x.tries }
      ∧ t.core.host.out = s.core.host.out ++ [.groupAck p seq] ∧ Goals.portsKept s t p ∧ ObjectsKept s t [Key.fecCorrected])
    ∧ (1 < x.pstate → seq ≠ x.rxGroup → bad = [] → NextWith (exec (.codewordGroup p seq errs acked) s) fun t =>
      portOf t.core p = { x with fec := min (x.fec + n) (2 ^ 64 - 1), badRun := [] } ∧ t.core.host.out = s.core.host.out
      ∧ Goals.portsKept s t p ∧ ObjectsKept s t [Key.fecCorrected])
    ∧ (1 < x.pstate → bad ≠ [] → (∀ l ∈ bad, tgetD x.badRun l 0 < 63) → NextWith (exec (.codewordGroup p seq errs acked) s) fun t =>
      (portOf t.core p).rxGroup = x.rxGroup ∧ (portOf t.core p).groupsLost = min (x.groupsLost + 1) (2 ^ 64 - 1)
      ∧ (portOf t.core p).pstate = x.pstate ∧ t.core.host.out = s.core.host.out ++ [.groupNak p x.rxGroup] ∧ Goals.portsKept s t p)
    ∧ (x.pstate ≠ 0 → (∃ l ∈ bad, 63 ≤ tgetD x.badRun l 0) → NextWith (exec (.codewordGroup p seq errs acked) s) fun t =>
      (portOf t.core p).pstate = 0 ∧ (portOf t.core p).downCause = 2 ∧ Goals.portsKept s t p)
    ∧ (x.pstate ≠ 0 → (x.replaySeq ≠ seq ∨ x.tries < 8) → NextWith (exec (.replay p seq) s) fun t =>
      (portOf t.core p).replaySeq = seq ∧ (portOf t.core p).tries = (if x.replaySeq = seq then x.tries + 1 else 1)
      ∧ (portOf t.core p).pstate = x.pstate ∧ t.core.host.out = s.core.host.out ++ [.groupReplay p seq] ∧ Goals.portsKept s t p)
    ∧ (x.pstate ≠ 0 → x.replaySeq = seq → 8 ≤ x.tries → NextWith (exec (.replay p seq) s) fun t =>
      (portOf t.core p).pstate = 0 ∧ (portOf t.core p).downCause = 3 ∧ Goals.portsKept s t p)

/-- R289: the advert timer sends the module's advert on every UP port; an advert of another module from at most six links away is
entered in the topology and, below six links, passed on to every other UP port with one more link. -/
def Sys2Proof.Goals.AdvertsSpread : Prop :=
  ∀ (s : State), Runs s →
    (s.core.boot.rom = false → exec .advertTimer s
      = .next (withCore s ((upPorts s.core).foldl (fun c p => send c (.notice p (.advert (ownAdvert s.fuse s.core)))) s.core)))
    ∧ (∀ (p : Nat) (a : Advert), Goals.linkActs s p → (portOf s.core p).pstate = 3 → a.hops ≤ 6 → a.valid = true → a.modId ≠ ownMod s.core →
      a.digest ≠ ownDigest s.fuse →
      (∀ x, topoOf s.core a.modId = some x → x.epoch = a.bootEpoch ∧ x.linked = false ∧ x.port ∈ upPorts s.core) → NextWith (exec (.linkStateAdvert p a) s) fun t =>
        (∃ y, topoOf t.core a.modId = some y ∧ y.digest = a.digest ∧ y.epoch = a.bootEpoch ∧ y.links = a.links)
        ∧ (a.hops < 6 → ∀ q ∈ upPorts s.core, q ≠ p → OutMsg.notice q (.advert { a with hops := a.hops + 1 }) ∈ t.core.host.out)
        ∧ t.core.fab.ports = s.core.fab.ports ∧ t.mem = s.mem ∧ t.core.st = s.core.st)

/-- A packet of an open flow that its context takes: addressed to this module, in a slot its flow owns while an Almanac runs, its CRC
right, and next in sequence (R283, R294, R296, R298). -/
abbrev Sys2Proof.Goals.inTurn (s : State) (rx : Rx) : Prop :=
  let x := ctxOf s.core rx.pkt.dstCtx
  Runs s ∧ rx.pkt.dstMod = ownMod s.core ∧ crcHolds rx = true ∧ x.kind = 0 ∧ x.state = 1 ∧ rx.pkt.seq = x.rxSeq
    ∧ (running s.core = true → slotOwner s.core rx.port rx.slot false = some x.flow ∧ x.peerMod = rx.pkt.srcMod)

/-- The core once the context has taken the packet (R294, R295). -/
def Sys2Proof.Goals.taken (s : State) (rx : Rx) : Core :=
  let x := ctxOf s.core rx.pkt.dstCtx
  setCtx s.core rx.pkt.dstCtx { x with rxSeq := (x.rxSeq + 1) % 2 ^ 32, bytesRx := x.bytesRx + 64 * pktUnits rx.pkt,
                                       unacked := x.unacked + 1, lastHeard := obj s.core Key.uptimeTicks }

/-- R294, R298, R305: what becomes of a packet before its kind matters: applied in its turn; refused as SLOT_COLLISION in a slot of no
owner; NAK of a damaged one; one out of sequence only heard, a repeat acknowledged again (log entry 96); a reset in answer where no context is
open. -/
def Sys2Proof.Goals.PacketsAreJudged : Prop :=
  ∀ (s : State) (rx : Rx),
    let i := rx.pkt.dstCtx
    let x := ctxOf s.core i
    (Goals.inTurn s rx → accept s.core rx = (Goals.taken s rx, some i))
    ∧ (running s.core = true → rx.pkt.dstMod = ownMod s.core → slotOwner s.core rx.port rx.slot false = none →
        accept s.core rx = (collide s.core rx, none))
    ∧ (running s.core = false → rx.pkt.dstMod = ownMod s.core → crcHolds rx = true → x.kind = 0 → x.state = 1 → rx.pkt.seq ≠ x.rxSeq →
        let again := decide ((x.rxSeq + 2 ^ 32 - rx.pkt.seq) % 2 ^ 32 < 2 ^ 31)
        accept s.core rx = (setCtx s.core i
          { x with lastHeard := obj s.core Key.uptimeTicks, unacked := if again then x.unacked + 1 else x.unacked }, none))
    ∧ (running s.core = false → rx.pkt.dstMod = ownMod s.core → crcHolds rx = true → ¬(x.kind = 0 ∧ x.state = 1) →
        (accept s.core rx).2 = none ∧ ∃ p, (accept s.core rx).1.host.out = s.core.host.out ++ [.control rx.port p] ∧ p.typ = 11 ∧ p.op = 1
          ∧ p.dstMod = rx.pkt.srcMod)
    ∧ (running s.core = false → rx.pkt.dstMod = ownMod s.core → crcHolds rx = false → x.kind = 0 → x.state = 1 →
        (accept s.core rx).2 = none ∧ ∃ p, (accept s.core rx).1.host.out = s.core.host.out ++ [.control rx.port p] ∧ p.typ = 10
          ∧ p.seq = rx.pkt.seq)

/-- A response of a type queued on a context behind what waits there, with the request's tag, its payload in whole units (R296, R302). -/
abbrev Sys2Proof.Goals.answered (c : Core) (t : State) (i typ : Nat) (p : Packet) (status : Nat) (bs : Bytes) : Prop :=
  ∃ q, (ctxOf t.core i).queue = (ctxOf c i).queue ++ [q] ∧ q.pkt.typ = typ ∧ q.pkt.opTag = p.opTag ∧ q.pkt.issuer = p.issuer
    ∧ q.pkt.status = status ∧ q.pkt.payload = padUnits bs ∧ q.pkt.dstMod = (ctxOf c i).peerMod

/-- R302, R206, R236: remote writes, reads and atomics of this module's HBM, slice and station memory, and remote sync operations, are
carried out under the flow's master ID, and answered on the flow; a refused one changes no memory and says so, and a read of a word that
cannot be corrected is answered INTEGRITY (R183). -/
def Sys2Proof.Goals.RemoteRequestsAreServed : Prop :=
  ∀ (s : State) (rx : Rx), Goals.inTurn s rx →
    let c := Goals.taken s rx
    let p := rx.pkt
    let i := p.dstCtx
    let o := gaOff p.addr
    let m := 0x8000 + p.srcMod
    let mem := fun (a : Nat) => inHbm a = true ∨ inSlice a = true ∨ inStation a = true
    (p.typ = 0 → p.payload ≠ [] → addrHere c p p.payload.length = true → mem o → gatedIn c o p.payload.length = none →
      (refusalOf c m o p.payload.length .w = none → NextWith (exec (.fabricWrite rx) s) fun t =>
        t.mem = mwriteN s.mem o p.payload ∧ BytesKept s t o p.payload.length ∧ t.core.st = s.core.st)
      ∧ (refusalOf c m o p.payload.length .w ≠ none → NextWith (exec (.fabricWrite rx) s) fun t =>
        t.mem = s.mem ∧ ∃ port q, OutMsg.control port q ∈ t.core.host.out ∧ q.typ = 9 ∧ q.seq = p.seq ∧ q.status = 4))
    ∧ (let n := leNat (p.payload.take 4)
       p.typ = 1 → 0 < n → n ≤ 512 → addrHere c p n = true → mem o → mem (o + (n - 1)) → gatedIn c o n = none →
      (∀ i, i < n → gatedAt c (o + i) = false) →
      (refusalOf c m o n .r = none → eccBad c [o] n ≠ none → NextWith (exec (.fabricRead rx) s) fun t =>
        Goals.answered c t i 2 p Status.integrity.code [] ∧ t.mem = s.mem ∧ Goals.raised s t 0x0703)
      ∧ (refusalOf c m o n .r = none → eccBad c [o] n = none → NextWith (exec (.fabricRead rx) s) fun t =>
        Goals.answered c t i 2 p 0 (mreadN s.mem o n) ∧ t.mem = s.mem ∧ t.core.st = s.core.st)
      ∧ (refusalOf c m o n .r ≠ none → NextWith (exec (.fabricRead rx) s) fun t => Goals.answered c t i 2 p 4 [] ∧ t.mem = s.mem))
    ∧ (let n := atomicTarget p.op
       p.typ = 3 → p.op ≤ 4 → atomicOperand p.op ≤ p.payload.length → addrHere c p n = true → o % n = 0 → mem o → gatedAt c o = false →
      eccBad c [o] n = none →
      (refusalOf c m o n .a = none → NextWith (exec (.fabricAtomic rx) s) fun t =>
        t.mem = mwriteN s.mem o (leBytes n (atomicNew p.op (mnum s.mem o n) (p.payload.take (atomicOperand p.op)))) ∧ BytesKept s t o n
        ∧ Goals.answered c t i 4 p 0 (leBytes n (mnum s.mem o n)))
      ∧ (refusalOf c m o n .a ≠ none → NextWith (exec (.fabricAtomic rx) s) fun t => Goals.answered c t i 4 p 4 [] ∧ t.mem = s.mem))
    ∧ (∀ k, p.typ = 5 → (p.op, k) ∈ [(0, SyncKind.add), (1, .sub), (2, .tak), (3, .wat)] → bits p.addr 16 12 = ownMod s.core →
      let op : SyncOp := { issuer := m, kind := k, sem := bits p.addr 0 12, n := leNat (p.payload.take 4),
                           cookie := leNat ((p.payload.drop 4).take 4), slot := leNat ((p.payload.drop 8).take 4), back := .unit }
      exec (.fabricSync rx) s = .next (withCore s
        (reply (applyOp c (bits p.addr 12 3) op).1 i 6 p (applyOp c (bits p.addr 12 3) op).2.code [])))

/-- R302, R206, R235, R236: what answers to this module's own requests bring: the bytes of a read to the row that asked for them, the old
value of an atomic to its place in the return area, the status of a sync operation to its issuer, a watch message to its waiter. -/
def Sys2Proof.Goals.RemoteAnswersArrive : Prop :=
  ∀ (s : State) (rx : Rx), Goals.inTurn s rx →
    let c := Goals.taken s rx
    let p := rx.pkt
    let free : Core := { c with fab := { c.fab with reqs := tdel c.fab.reqs p.opTag } }
    (∀ i a g st x row off n, p.typ = 2 → p.status = 0 → tget c.fab.reqs p.opTag = some (i, a, .read g st x row off n) →
      exec (.readData rx) s = .next { s with core := ackXfer (putPiece s.mem free g st row off (p.payload.take n)).1 g st x row,
                                             mem := (putPiece s.mem free g st row off (p.payload.take n)).2 })
    ∧ (∀ i a g st x row, p.typ = 4 → p.status = 0 → tget c.fab.reqs p.opTag = some (i, a, .atomic g st x row) →
      let d := (strm (stn s.core g) st).active
      NextWith (exec (.atomicRet rx) s) fun t =>
        t.mem = mwriteN s.mem (stBase g + bits (sArg d) 0 44 + row * atomicTarget (bits (sArg d) 60 4))
          (p.payload.take (atomicTarget (bits (sArg d) 60 4)))
        ∧ tget t.core.fab.reqs p.opTag = none)
    ∧ (∀ i a g pc st, p.typ = 6 → p.status = Status.code st → tget c.fab.reqs p.opTag = some (i, a, .sync (.tak g pc) none) →
      exec (.syncReply rx) s = .next (withCore s { free with net := free.net ++ [.reply (.tak g pc) st] }))
    ∧ (∀ x, p.typ = 7 → tget c.fab.proxies p.opTag = some x → x.waiter ≠ goneWaiter →
      exec (.fabricWatch rx) s = .next (withCore s
        { c with fab := { c.fab with proxies := tdel c.fab.proxies p.opTag },
                 net := c.net ++ [.watch x.waiter x.slot (parseWatch p.payload)] }))

/-- The flow context `i` may send in a slot of port `p`: an Almanac runs, the port is UP and on the flow's route, and the flow holds the
slot (R283). -/
abbrev Sys2Proof.Goals.mayUse (s : State) (i p slot : Nat) : Prop :=
  Runs s ∧ i < 4096 ∧ p < 16 ∧ (ctxOf s.core i).kind = 0 ∧ (ctxOf s.core i).state = 1 ∧ running s.core = true ∧ pstate s.core p = 3
    ∧ egressPort s.core i = p ∧ slotOwner s.core p slot true = some (ctxOf s.core i).flow

/-- R282, R283, R284, R294: a flow's next packet leaves in a slot it owns with its sequence number and is kept for replay, where what is left
of the slot takes it whole and the replay store has room; where less is left of the slot than of the bytes declared for it, a packet or a
unit that comes late is SLOT_MISSED, once in a frame; in a slot that is full, or one the flow does not own, nothing leaves. -/
def Sys2Proof.Goals.FlowPacketsLeaveInTheirSlot : Prop :=
  ∀ (s : State) (i p slot room : Nat),
    let x := ctxOf s.core i
    let used := slotUsed s.core p slot
    let free := min room ((if joined s.core p then 117760 else 58880) - used)
    let late := fun (t : State) => ctxOf t.core i = { x with missed := true }
      ∧ obj t.core Key.slotMissedCount = min (obj s.core Key.slotMissedCount + 1) (objMax Key.slotMissedCount)
    (∀ (q : FlowPkt) (rest : List FlowPkt), Goals.mayUse s i p slot → x.queue = q :: rest → storeTakes s.core i q = true →
      let out := { q.pkt with seq := x.txSeq }
      (pktBytes q.pkt ≤ free → NextWith (exec (.flowPacketSend i p slot room) s) fun t =>
        ctxOf t.core i = { x with queue := rest, store := x.store ++ [{ q with pkt := out, sent := true }],
                                  txSeq := (x.txSeq + 1) % 2 ^ 32, bytesTx := x.bytesTx + 64 * pktUnits q.pkt,
                                  lastSent := obj s.core Key.uptimeTicks }
        ∧ t.core.host.out = s.core.host.out ++ [.packet p slot out] ∧ slotUsed t.core p slot = used + pktBytes q.pkt
        ∧ t.mem = s.mem ∧ t.core.st = s.core.st)
      ∧ (∀ d, free < pktBytes q.pkt → slotDecl s.core p slot true = some d →
        (used + free < d.bytes → x.missed = false → NextWith (exec (.flowPacketSend i p slot room) s) late)
        ∧ (d.bytes ≤ used + free → exec (.flowPacketSend i p slot room) s = .next s)))
    ∧ (∀ d, Goals.mayUse s i p slot → x.queue = [] → slotDecl s.core p slot true = some d →
        (used + free < d.bytes → x.missed = false → NextWith (exec (.flowPacketSend i p slot room) s) late)
        ∧ (d.bytes ≤ used + free → exec (.flowPacketSend i p slot room) s = .next s))
    ∧ (∀ (q : FlowPkt) (rest : List FlowPkt), Goals.mayUse s i p slot → x.queue = q :: rest → storeTakes s.core i q = false →
        exec (.flowPacketSend i p slot room) s = .next s)
    ∧ (Runs s → i < 4096 → p < 16 → slotOwner s.core p slot true ≠ some x.flow → exec (.flowPacketSend i p slot room) s = .next s)

/-- R294, R305, R293: an ACK frees the packets it covers from the replay store, and those that wait to be resent; a NAK has them sent again
from its sequence number on, a keepalive is heard, a reset or a partner silent for PARTNER_TIMEOUT aborts the flow: it is ABORTED with its
cause, with nothing left to send. What was received is acknowledged, and a flow on which nothing was sent for 2,000 ticks sends a keepalive. A CLOSING
flow is FREE once every packet it sent is acknowledged. -/
def Sys2Proof.Goals.FlowControl : Prop :=
  ∀ (s : State) (rx : Rx) (i : Nat),
    let x := ctxOf s.core i
    let p := rx.pkt
    let now := obj s.core Key.uptimeTicks
    let heard := { x with lastHeard := now }
    let gone := fun (cause : Nat) (t : State) => (ctxOf t.core i).state = 3 ∧ (ctxOf t.core i).abortCause = cause
      ∧ (ctxOf t.core i).store = [] ∧ t.mem = s.mem
    Runs s → i < 4096 → x.kind = 0 →
    (x.state = 2 → p.dstCtx = i → p.dstMod = ownMod s.core → crcHolds rx = true → x.peerMod = p.srcMod → p.typ = 9 →
      (∀ q ∈ x.store ++ x.queue, q.cause = .none) → NextWith (exec (.ack rx) s) fun t =>
        (ctxOf t.core i).state = (if (x.store ++ x.queue).all (covered p.seq) then 0 else 2) ∧ t.mem = s.mem ∧ t.core.st = s.core.st)
    ∧ (x.state = 1 →
    (p.dstCtx = i → p.dstMod = ownMod s.core → crcHolds rx = true → x.peerMod = p.srcMod →
      (p.typ = 9 → NextWith (exec (.ack rx) s) fun t =>
        (ctxOf t.core i).store = x.store.filter (fun q => !covered p.seq q) ∧ (ctxOf t.core i).state = 1
        ∧ ((∀ q ∈ x.store ++ x.queue, q.cause = .none) → (ctxOf t.core i).queue = x.queue.filter (fun q => !covered p.seq q)) ∧ t.mem = s.mem)
      ∧ (p.typ = 10 → exec (.nak rx) s = .next (withCore s (setCtx s.core i (resendFrom heard p.seq))))
      ∧ (p.typ = 11 → p.op = 0 → exec (.flowCtlKeepalive rx) s = .next (withCore s (setCtx s.core i heard)))
      ∧ (p.typ = 11 → p.op = 1 → NextWith (exec (.flowCtlReset rx) s) (gone 2)))
    ∧ (x.lastHeard + obj s.core Key.partnerTimeout ≤ now → NextWith (exec (.partnerLost i) s) (gone 1))
    ∧ (now < x.lastHeard + obj s.core Key.partnerTimeout → exec (.partnerLost i) s = .next s)
    ∧ (0 < x.unacked → NextWith (exec (.flowAckTimer i) s) fun t =>
        ctxOf t.core i = { x with unacked := 0, lastSent := now }
        ∧ ∃ q, t.core.host.out = s.core.host.out ++ [.control (egressPort s.core i) q] ∧ q.typ = 9 ∧ q.seq = (x.rxSeq + 2 ^ 32 - 1) % 2 ^ 32)
    ∧ (x.lastSent + 2000 ≤ now → NextWith (exec (.keepaliveTimer i) s) fun t =>
        ∃ q, t.core = send (setCtx s.core i { x with lastSent := now }) (.control (egressPort s.core i) q) ∧ q.typ = 11 ∧ q.op = 0
          ∧ q.dstMod = x.peerMod)
    ∧ (now < x.lastSent + 2000 → exec (.keepaliveTimer i) s = .next s))

/-- R297, R298: a packet in transit goes on in the earliest slot of its flow on the outgoing link that takes it whole, from 4 ticks after it was
received on (R304), or waits for one behind those before it; one that no entry names is SLOT_COLLISION and dropped; link control goes back along the entries. -/
def Sys2Proof.Goals.TransitForwards : Prop :=
  ∀ (s : State) (rx : Rx) (since : Nat), Runs s → running s.core = true → rx.pkt.dstMod ≠ ownMod s.core →
    let p := rx.pkt
    let slot := fun (e : TransitEntry) => transitSlot s.core e.outPort (4 - since) p
    let entry := (transits s.core).find? fun e => e.inPort = rx.port && e.slot = rx.slot
    (∀ e, p.typ < 9 → entry = some e → e.srcMod = p.srcMod → e.dstMod = p.dstMod →
      let waits := pstate s.core e.outPort ≠ 3 ∨ (∃ q ∈ s.core.fab.transit, sameWay q.2 p = true) ∨ slot e = none
      (waits → exec (.transitForward rx since) s = .next (withCore s
        { s.core with fab := { s.core.fab with transit := s.core.fab.transit ++ [(e.outPort, p)] } }))
      ∧ (∀ j, ¬waits → slot e = some j → exec (.transitForward rx since) s
        = .next (withCore s (send (useSlot s.core e.outPort j (pktBytes p)) (.packet e.outPort j p)))))
    ∧ (p.typ < 9 → (∀ e, entry = some e → ¬(e.srcMod = p.srcMod ∧ e.dstMod = p.dstMod)) → NextWith (exec (.transitForward rx since) s) fun t =>
      obj t.core Key.slotCollisionCount = min (obj s.core Key.slotCollisionCount + 1) (objMax Key.slotCollisionCount) ∧ t.mem = s.mem)
    ∧ (∀ e, 9 ≤ p.typ → (transits s.core).find? (fun e => e.outPort = rx.port && e.srcMod = p.dstMod && e.dstMod = p.srcMod) = some e →
      exec (.transitForward rx since) s = .next (withCore s (send s.core (.control e.inPort p))))


/-! ### Clocks (chapter 12) -/

/-- R385: a window of a candidate is judged; enough passing ones in succession make it ready, a failing one makes it not ready. The
other candidates keep their state. Without the crystal, the time base of the windows, no other source is judged. -/
def Sys2Proof.Goals.ReferenceWindows : Prop :=
  ∀ (s : State) (src count : Nat), Runs s → src < 18 →
    (src ≠ 0 → isReady s.core 0 = false → exec (.refWindow src count) s = .next s) ∧ (src = 0 ∨ isReady s.core 0 = true →
    let r := tgetD s.core.clk.refs src { run := 0, last := none, counts := [] }
    let passes : Prop :=
      if src = 0 then 31785 ≤ count ∧ count ≤ 33751 ∧ ∀ l, r.last = some l → count ≤ l + 33 ∧ l ≤ count + 33
      else if src = 1 then 99980 ≤ count ∧ count ≤ 100020
      else 999800 ≤ count ∧ count ≤ 1000200 ∧ pstate s.core (src - 2) = 3 ∧ partnerDepth s.core (src - 2) ≤ 14
    let others := fun (t : State) => (∀ k, k < 18 → k ≠ src → isReady t.core k = isReady s.core k) ∧ t.mem = s.mem ∧ t.core.st = s.core.st
    (passes → NextWith (exec (.refWindow src count) s) fun t =>
      tget t.core.clk.refs src = some { run := r.run + 1, last := some count, counts := (count :: r.counts).take 8 }
      ∧ isReady t.core src = (isReady s.core src || decide ((if src = 0 then 8 else 3) ≤ r.run + 1)) ∧ others t)
    ∧ (¬passes → NextWith (exec (.refWindow src count) s) fun t =>
      tget t.core.clk.refs src = some { r with run := 0, last := some count } ∧ isReady t.core src = false ∧ others t))

/-- R385, R405, R407: a source that stops being ready is REF_LOST when it is the crystal or in force. A lost EXT10 or FABRIC in force
leads into HOLDOVER while the crystal is ready; without the crystal, or when the crystal itself is lost in force, every generator
runs free, the data path stops and a running Almanac is stopped for the fault. -/
def Sys2Proof.Goals.LossOfReference : Prop :=
  ∀ (s : State) (src : Nat), Runs s → src < 18 → isReady s.core src = true →
    let act := obj s.core Key.refActive
    let free := fun (t : State) => t.core.clk.freeRun = List.range 11 ∧ t.core.clk.stopped = true ∧ (∀ f, f < 8 → (fld t.core f).gen.locked = 3)
      ∧ (running s.core = true → s.core.alm.fault = none → ∃ m fr, t.core.alm.fault = some (0x0403, m, fr))
      ∧ obj t.core Key.refActive = act
    let runs := fun (t : State) => t.core.clk.freeRun = s.core.clk.freeRun ∧ t.core.clk.stopped = s.core.clk.stopped ∧ t.core.fl = s.core.fl
    let gone := fun (t : State) => isReady t.core src = false ∧ t.mem = s.mem ∧ t.core.st = s.core.st
    (src = 0 → act = 0 ∨ act = 3 → NextWith (exec (.refEdgeLoss 0) s) fun t => gone t ∧ free t ∧ Goals.raised s t 0x0403)
    ∧ (src = 0 → act = 1 ∨ act = 2 → NextWith (exec (.refEdgeLoss 0) s) fun t =>
        gone t ∧ runs t ∧ Goals.raised s t 0x0403 ∧ obj t.core Key.refActive = act)
    ∧ (src ≠ 0 → refInForce s.core = some src → isReady s.core 0 = true → NextWith (exec (.refEdgeLoss src) s) fun t =>
        gone t ∧ runs t ∧ Goals.raised s t 0x0403 ∧ obj t.core Key.refActive = 3 ∧ obj t.core Key.refDepth = 255)
    ∧ (src ≠ 0 → refInForce s.core = some src → isReady s.core 0 = false → NextWith (exec (.refEdgeLoss src) s) fun t =>
        gone t ∧ free t ∧ Goals.raised s t 0x0403)
    ∧ (src ≠ 0 → refInForce s.core ≠ some src → NextWith (exec (.refEdgeLoss src) s) fun t =>
        gone t ∧ runs t ∧ t.core.ev = s.core.ev ∧ obj t.core Key.refActive = act)

/-- R387: REF_SELECT asks for a switch to a ready source. A source that is not ready is STATE, a switch that waits BUSY, an unknown code or a port above 15 RANGE. -/
def Sys2Proof.Goals.ReferenceSwitches : Prop :=
  ∀ (s : State) (h : Hdr) (x : Session) (v : Nat), Goals.writes s h x Key.refSelect →
    let code := bits v 0 8
    let src := if code = 2 then 2 + bits v 8 4 else code
    let same := fun (t : State) => t.core.clk = s.core.clk ∧ obj t.core Key.refActive = obj s.core Key.refActive ∧ t.mem = s.mem ∧ t.core.st = s.core.st
    (v < 2 ^ 12 → code < 3 → s.core.clk.switch = none → refInForce s.core ≠ some src → isReady s.core src = true →
      NextWith (exec (.refSelect h v) s) fun t =>
        Goals.wrote t h x Key.refSelect .ok ∧ t.core.clk = { s.core.clk with switch := some v } ∧ obj t.core Key.refSelect = v
        ∧ t.core.fl = s.core.fl ∧ t.mem = s.mem)
    ∧ (v < 2 ^ 12 → code < 3 → s.core.clk.switch = none → refInForce s.core = some src →
      NextWith (exec (.refSelect h v) s) fun t => Goals.wrote t h x Key.refSelect .ok ∧ same t)
    ∧ (v < 2 ^ 12 → code < 3 → s.core.clk.switch = none → refInForce s.core ≠ some src → isReady s.core src = false →
      NextWith (exec (.refSelect h v) s) fun t => Goals.wrote t h x Key.refSelect .state ∧ same t)
    ∧ (v < 2 ^ 12 → code < 3 → s.core.clk.switch ≠ none →
      NextWith (exec (.refSelect h v) s) fun t => Goals.wrote t h x Key.refSelect .busy ∧ same t)
    ∧ (2 ^ 12 ≤ v ∨ 3 ≤ code → NextWith (exec (.refSelect h v) s) fun t => Goals.wrote t h x Key.refSelect .range ∧ same t)

/-- R386, R388: a switch that waits is made: its source is in force with its port and depth, and nothing else of the clocks changes; with none
waiting nothing happens. -/
def Sys2Proof.Goals.SwitchesAreMade : Prop :=
  ∀ (s : State), Runs s →
    (∀ v, s.core.clk.switch = some v → NextWith (exec .refSwitch s) fun u =>
      let code := bits v 0 8
      u.core.clk = { s.core.clk with switch := none } ∧ obj u.core Key.refActive = code
      ∧ obj u.core Key.refPort = (if code = 2 then bits v 8 4 else 0)
      ∧ obj u.core Key.refDepth = (if code = 2 then min 255 (partnerDepth s.core (bits v 8 4) + 1) else 0)
      ∧ ObjectsKept s u [Key.refActive, Key.refPort, Key.refDepth] ∧ u.core.fl = s.core.fl ∧ u.core.st = s.core.st ∧ u.mem = s.mem)
    ∧ (s.core.clk.switch = none → exec .refSwitch s = .next s)

/-- R389: with the crystal ready and no Almanac running the eight generators lock at OP_MULT and every crossing is centred; with every
crossing at 4 entries the data path runs, and a crossing that is not raises SLIP_FAULT. -/
def Sys2Proof.Goals.FieldGeneratorsLock : Prop :=
  ∀ (s : State) (occ : List Nat), Runs s → isReady s.core 0 = true → running s.core = false → occ.length = crossings.length →
    NextWith (exec (.fieldLock occ) s) fun t =>
      (∀ f, f < 8 → (fld t.core f).gen.locked = 2 ∧ (fld t.core f).gen.mult = obj s.core Key.opMult ∧ ∀ b, skewOf t.core f b = 0)
      ∧ t.core.clk.freeRun = [] ∧ t.mem = s.mem ∧ t.core.st = s.core.st
      ∧ ((∀ n ∈ occ, n = 4) → t.core.clk.stopped = false ∧ t.core.clk.slips = [] ∧ t.core.ev = s.core.ev)
      ∧ (∀ (i a b n : Nat), crossings[i]? = some (a, b) → occ[i]? = some n → n ≠ 4 →
          t.core.clk.stopped = s.core.clk.stopped ∧ a * 8 + b ∈ t.core.clk.slips)

/-- R391, R392: OP_CHANGE queues a change for a frame of a running Almanac, or, with none running and F = 0, one that takes effect after
2,000 ticks in all eight fields at once through the standby synthesisers; the refusals are RANGE, STATE and BUSY. -/
def Sys2Proof.Goals.OperatingPointChanges : Prop :=
  ∀ (s : State) (h : Hdr) (x : Session) (m fr : Nat), Goals.writes s h x Key.opChange → fr < 2 ^ 64 →
    let run := running s.core = true
    let fits := loaded s.core = true → multFloor s.core ≤ m ∧ m ≤ multCeil s.core
    let clear := s.core.clk.queued = none ∧ s.core.clk.direct = none
    let early := if running s.core then fr < obj s.core Key.frameCount + 4 else fr ≠ 0
    let told := fun (t : State) (st : Status) => Goals.wrote t h x Key.opChange st ∧ t.core.fl = s.core.fl ∧ t.core.clk = s.core.clk ∧ t.mem = s.mem
    let asks := fun (t : State) => ∀ f, f < 8 → (fld t.core f).gen = { (fld s.core f).gen with standbyMult := m, standbyLocked := false }
    (8 ≤ m → m ≤ 18 → fits → ¬early → clear → run → NextWith (exec (.opChange h m fr) s) fun t =>
      Goals.wrote t h x Key.opChange .ok ∧ t.core.clk = { s.core.clk with queued := some { mult := m, frame := fr, origin := 0 } } ∧ asks t)
    ∧ (8 ≤ m → m ≤ 18 → fits → ¬early → clear → ¬run → NextWith (exec (.opChange h m fr) s) fun t =>
      Goals.wrote t h x Key.opChange .ok ∧ t.core.clk = { s.core.clk with direct := some (m, 0) } ∧ asks t)
    ∧ (m < 8 ∨ 18 < m → NextWith (exec (.opChange h m fr) s) fun t => told t .range)
    ∧ (8 ≤ m → m ≤ 18 → ¬fits ∨ early → NextWith (exec (.opChange h m fr) s) fun t => told t .state)
    ∧ (8 ≤ m → m ≤ 18 → fits → ¬early → ¬clear → NextWith (exec (.opChange h m fr) s) fun t => told t .busy)

/-- R391: a change takes effect in all eight fields at once; each moves to its other synthesiser, and every crossing is centred. -/
def Sys2Proof.Goals.OperatingPointTakesEffect : Prop :=
  ∀ (s : State) (m o : Nat), Runs s →
    (s.core.clk.direct = some (m, o) → NextWith (exec .opChangeTakesEffect s) fun t =>
      obj t.core Key.opMult = m ∧ t.core.clk = { s.core.clk with direct := none }
      ∧ obj t.core Key.opChanges = min (obj s.core Key.opChanges + 1) (objMax Key.opChanges)
      ∧ (∀ f, f < 8 → let g := (fld s.core f).gen
          (fld t.core f).gen = { g with mult := m, standbyMult := 0, standbyLocked := false, activeSyn := 1 - g.activeSyn, skew := [], occ := [] })
      ∧ t.mem = s.mem ∧ t.core.st = s.core.st)
    ∧ (s.core.clk.direct = none → exec .opChangeTakesEffect s = .next s)
    ∧ (∀ f, f < 8 → (fld s.core f).gen.standbyMult ≠ 0 → exec (.standbyLock f) s
        = .next (withCore s (setGen s.core f { (fld s.core f).gen with standbyLocked := true })))

/-- R395: a leap that a locked field's monitor asks for is never refused or deferred: in every state of a running module the field's counts rise
with the command itself (an unlocked one has no generator to leap), and it stands one further behind each neighbour whose crossing runs, above the leap budget too. -/
def Obligations.LeapsAreNeverRefused : Prop :=
  ∀ (s : State) (f margin path : Nat), Runs s → f < 8 → path < 32 →
    ((fld s.core f).gen.locked = 0 → exec (.leap f margin path) s = .next s) ∧ ((fld s.core f).gen.locked ≠ 0 →
    let g := (fld s.core f).gen
    let stands := fun (b : Nat) => f * 8 + b ∉ s.core.clk.slips ∧ b * 8 + f ∉ s.core.clk.slips
    let n := min 65535 (g.own + 1) + g.companion
    NextWith (exec (.leap f margin path) s) fun t =>
      (fld t.core f).gen.own = min 65535 (g.own + 1) ∧ (fld t.core f).gen.companion = g.companion
      ∧ (fld t.core f).gen.total = (g.total + 1) % 2 ^ 64 ∧ (fld t.core f).gen.curMargin = min (min margin 255) g.curMargin
      ∧ (∀ b ∈ neighbours f, stands b → skewOf t.core f b = skewOf s.core f b + 1 ∧ skewOf t.core b f = -(skewOf s.core f b + 1)
          ∧ (4 ≤ (skewOf s.core f b + 1).natAbs → f * 8 + b ∈ t.core.clk.slips))
      ∧ (∀ b ∈ neighbours f, ¬stands b → skewOf t.core f b = skewOf s.core f b)
      ∧ (running s.core = true → s.core.alm.hold.heldAt = none → leapBudget s.core < n → g.overBudget = false →
          Goals.raised s t 0x0401 ∧ (fld t.core f).gen.overBudget = true)
      ∧ (g.overBudget = true ∨ n ≤ leapBudget s.core ∨ running s.core = false ∨ s.core.alm.hold.heldAt ≠ none →
          tgetD t.core.ev.counts 0x0401 0 = tgetD s.core.ev.counts 0x0401 0)
      ∧ t.mem = s.mem ∧ t.core.st = s.core.st)

/-- R399, R396, R408, R375: a field two leaps behind a neighbour takes a companion leap, and no other does; while no Almanac runs the leap
counts restart each 2,000 ticks; a generator that loses lock raises CLOCK_UNLOCK and runs free; the Vigil's pause changes nothing. -/
def Sys2Proof.Goals.GeneratorEvents : Prop :=
  ∀ (s : State) (f gen : Nat), Runs s → f < 8 → gen < 11 →
    let g := (fld s.core f).gen
    ((∃ b ∈ neighbours f, skewOf s.core f b ≤ -2) → NextWith (exec (.companionLeap f) s) fun t =>
      (fld t.core f).gen.companion = min 65535 (g.companion + 1) ∧ (fld t.core f).gen.own = g.own
      ∧ (fld t.core f).gen.total = (g.total + 1) % 2 ^ 64 ∧ t.mem = s.mem)
    ∧ ((∀ b ∈ neighbours f, -2 < skewOf s.core f b) → exec (.companionLeap f) s = .next s)
    ∧ (running s.core = false → NextWith (exec .leapCountInterval s) fun t =>
      (fld t.core f).gen.own = 0 ∧ (fld t.core f).gen.companion = 0 ∧ (fld t.core f).gen.lastFrame = min 65535 (g.own + g.companion)
      ∧ (fld t.core f).gen.marginMin = g.curMargin ∧ (fld t.core f).gen.marginPath = g.curPath ∧ (fld t.core f).gen.total = g.total
      ∧ t.core.ev.interval = [] ∧ t.mem = s.mem ∧ t.core.st = s.core.st)
    ∧ (running s.core = true → exec .leapCountInterval s = .next s)
    ∧ (gen ∉ s.core.clk.freeRun → NextWith (exec (.clockUnlock gen) s) fun t =>
      t.core.clk.freeRun = s.core.clk.freeRun ++ [gen] ∧ Goals.raised s t 0x0405 ∧ (gen < 8 → (fld t.core gen).gen.locked = 3)
      ∧ (running s.core = true → s.core.alm.fault = none → ∃ fr, t.core.alm.fault = some (0x0405, 0x0200, fr)) ∧ t.mem = s.mem)
    ∧ (gen ∈ s.core.clk.freeRun → exec (.clockUnlock gen) s = .next s)
    ∧ exec .vigilPause s = .next s

/-- R374, R409, R411: the clock-gating objects and VIGIL_ENABLE take a value that fits while the Almanac's state permits it, are STATE
outside it and RANGE for a value that does not fit; nothing else of the data path changes. -/
def Sys2Proof.Goals.GatingWrites : Prop :=
  ∀ (s : State) (h : Hdr) (x : Session) (data : Bytes) (v : Nat),
    let still := almState s.core = 0 ∨ almState s.core = 2 ∨ almState s.core = 6
    ∀ row ∈ [(Instr.gateStations h data, Key.gateStations, leNat data, data.length = 24, still),
             (.gateEngines h v, Key.gateEngines, v, v < 2 ^ 16, still), (.gateHbm h v, Key.gateHbm, v, v < 2 ^ 32, still),
             (.gateHostports h v, Key.gateHostports, v, v < 4, still),
             (.vigilEnable h v, Key.vigilEnable, v, v < 2, almState s.core = 0 ∨ almState s.core = 6)],
      let k := row.2.1
      Goals.writes s h x k →
      let keeps := fun (t : State) => t.mem = s.mem ∧ t.core.st = s.core.st ∧ t.core.fl = s.core.fl ∧ t.core.alm = s.core.alm
      (row.2.2.2.1 → row.2.2.2.2 → NextWith (exec row.1 s) fun t => Goals.wrote t h x k .ok ∧ obj t.core k = row.2.2.1 ∧ keeps t)
      ∧ (row.2.2.2.1 → ¬row.2.2.2.2 → NextWith (exec row.1 s) fun t => Goals.wrote t h x k .state ∧ obj t.core k = obj s.core k ∧ keeps t)
      ∧ (¬row.2.2.2.1 → NextWith (exec row.1 s) fun t => Goals.wrote t h x k .range ∧ obj t.core k = obj s.core k ∧ keeps t)


/-! ### Collectives (chapter 10) -/

/-- R321: against E_ref a finite element x below 2^(E_ref + 20) in magnitude becomes floor(x × 2^(107 − E_ref)), which is an FX128
value; a finite one from there on 0 with CONTRIB_OVF; an infinity or a NaN 0 with NONFINITE. -/
def Obligations.SumConversion : Prop :=
  ∀ (er : Int) (fmt p : Nat), fmt = 3 ∨ fmt = 4 →
    (∀ neg m e, decTag fmt p = .fin neg m e →
      let x : ℚ := (if neg then -1 else 1) * (m : ℚ) * (2 : ℚ) ^ e
      (|x| < (2 : ℚ) ^ (er + 20) → ((convElem er fmt p).1 = ⌊x * (2 : ℚ) ^ (107 - er)⌋ ∧ (convElem er fmt p).2.1 = 0
        ∧ -(2 ^ 127 : Int) ≤ (convElem er fmt p).1 ∧ (convElem er fmt p).1 < 2 ^ 127))
      ∧ ((2 : ℚ) ^ (er + 20) ≤ |x| → (convElem er fmt p).1 = 0 ∧ (convElem er fmt p).2.1 = 1))
    ∧ ((∀ neg m e, decTag fmt p ≠ .fin neg m e) → convElem er fmt p = (0, 2, none))

/-- R326: checksums are linear, so the checksums of two contributions add up to that of their sum; a power of the multiplier is that
power modulo p. -/
def Obligations.ChecksumsAddUp : Prop :=
  (∀ (k : Nat) (a b : List Int), a.length = b.length →
    csum k (List.zipWith (· + ·) a b) = (csum k a + csum k b) % csumP)
  ∧ (∀ k n, n < 2 ^ 64 → powP k n = k ^ n % csumP)
  ∧ (∀ (k : Nat) (a b : List Int), csum k (a ++ b) = (csum k a + csumFrom k (k ^ (a.length + 1) % csumP) b) % csumP)

/-- R327, R328: agreement records combine in any order and grouping to the same record; the decided record gives LOST with SOURCE_FAIL,
else INTEGRITY with a failed test, else RANGE with an overflow, else OK. -/
def Sys2Proof.Goals.AgreementIsOrderFree : Prop :=
  (∀ a b c : Record, a.rseq = b.rseq → b.rseq = c.rseq → a.channel = b.channel → b.channel = c.channel →
    a.join b = b.join a ∧ (a.join b).join c = a.join (b.join c))
  ∧ (∀ (r : Record) (kind : RedKind) (p : Nat),
    let bad := r.count ≠ p ∨ r.eMin ≠ r.eMax ∨ bit r.flags 3 = true ∨ bit r.flags 4 = true
      ∨ (if kind = .max then r.csumRx ≠ p * r.csumOut % csumP else r.csumIn ≠ r.csumOut)
    let over' := bit r.flags 0 = true ∨ bit r.flags 1 = true ∨ bit r.flags 2 = true
    (bit r.flags 5 = true → r.status kind p = .lost) ∧ (bit r.flags 5 = false → bad → r.status kind p = .integrity)
    ∧ (bit r.flags 5 = false → ¬bad → over' → r.status kind p = .range) ∧ (bit r.flags 5 = false → ¬bad → ¬over' → r.status kind p = .ok))

/-- R327, R331: the elements of a PARTIAL and the fields of an agreement record come out of their bytes as they went in. -/
def Sys2Proof.Goals.CollectivePayloads : Prop :=
  (∀ vs : List Int, vs.length ≤ 28 → (∀ v ∈ vs, -(2 ^ 143 : Int) ≤ v ∧ v < 2 ^ 143) → (partialBytes vs).length = 512 ∧ partialVals (partialBytes vs) vs.length = vs)
  ∧ (∀ r : Record, r.csumIn < csumP → r.csumOut < csumP → r.csumRx < csumP → (∀ e, r.eObs = some e → -32768 < e ∧ e < 32768) →
      -32768 ≤ r.eMin → r.eMin < 32768 → -32768 ≤ r.eMax → r.eMax < 32768 → r.flags < 2 ^ 16 → r.count < 2 ^ 16 → r.rseq < 2 ^ 16 →
      r.channel < 64 → (recordBytes r).length = 64 ∧ parseRecord (recordBytes r) = r)

/-- The submissions of a channel that wait at a field's reduction engine. -/
def Sys2Proof.Goals.waitingOn (s : State) (im : Image) (f ch : Nat) : List (Nat × Option Nat) :=
  (fld s.core f).red.queue.filter fun x => ((redDecl im x.1).map fun y => y.channel) = some ch

/-- R317, R321, R333, R502: the first submission of a channel with no execution under way and nothing left to send starts once its ready
count is taken: it leaves the queue and is the channel's next execution, with zeros and SOURCE_FAIL where the ready wait failed. While
the count does not suffice it waits; behind an execution it stays queued. -/
def Sys2Proof.Goals.ReductionStarts : Prop :=
  ∀ (s : State) (f redno : Nat) (im : Image) (d : RedDecl) (ch : ChannelDecl) (sem : Option Nat) (rest : List (Nat × Option Nat)),
    Runs s → f < 8 → s.core.alm.image = some im → redDecl im redno = some d → chanDecl s.core d.channel = some ch → ch.field = f →
    Goals.waitingOn s im f d.channel = (redno, sem) :: rest → redGated s.core f = false →
    ((fld s.core f).red.channels.filter fun p => p.2.run.isSome).length < 8 → (d.vote = true → s.core.alm.vote.own ≠ none) →
    unsent s.core f ch.num = false →
    let x := chanOf s.core f ch.num
    let took := fun (st : Status) => match d.ready with
      | none => st = .ok
      | some r => (engineTake s.core f r.1 r.2.1 r.2.2).2 = st
    (∀ st, x.run = none → took st → st ≠ .taken → st ≠ .busy → NextWith (exec (.reductionStart f redno) s) fun t =>
      ∃ r, (chanOf t.core f ch.num).run = some r ∧ r.redno = redno ∧ r.rseq = x.next ∧ r.sem = sem ∧ r.step = obj s.core Key.stepNumber
        ∧ r.eRef = (if d.kind = .sum then eRefOf s.core d else 0) ∧ (chanOf t.core f ch.num).next = (x.next + 1) % 65536
        ∧ (fld t.core f).red.queue = (fld s.core f).red.queue.erase (redno, sem)
        ∧ (st ≠ .ok → r.own = List.replicate d.n 0 ∧ bit r.flags 5 = true))
    ∧ (∀ r, x.run = none → d.ready = some r → (engineTake s.core f r.1 r.2.1 r.2.2).2 ∈ [Status.taken, .busy] →
        exec (.reductionStart f redno) s = .next (withCore s (engineTake s.core f r.1 r.2.1 r.2.2).1))
    ∧ (x.run ≠ none → exec (.reductionStart f redno) s = .next s)

/-- A COLL packet of a part for a channel of this module, taken in turn by its context (R331). -/
abbrev Sys2Proof.Goals.collFor (s : State) (rx : Rx) (part : Nat) (ch : ChannelDecl) : Prop :=
  Goals.inTurn s rx ∧ rx.pkt.typ = 8 ∧ bits rx.pkt.addr 40 2 = part ∧ chanDecl s.core (bits rx.pkt.addr 58 6) = some ch

/-- R332, R333, R334, R34: a PARTIAL of the next execution is staged in its half of the channel's staging region in HBM until the execution
starts, as zeros where the access tables refuse the engine the write; one of another sequence number is REDUCTION_ORDER and changes neither
staging nor memory. -/
def Sys2Proof.Goals.PartialsAreStaged : Prop :=
  ∀ (s : State) (rx : Rx) (ch : ChannelDecl) (im : Image), Goals.collFor s rx 0 ch → s.core.alm.image = some im →
    let c := Goals.taken s rx
    let x := chanOf s.core ch.field ch.num
    let q := bits rx.pkt.addr 42 16
    let half := stagingHalf ch q
    let first := bits rx.pkt.addr 0 32
    let vals := partialVals rx.pkt.payload (min 28 (((redDecl im rx.pkt.opTag).map fun d => d.n).getD 0 - first))
    (x.run = none → q = x.next → (rednoAt c im ch q = none ∨ rednoAt c im ch q = some rx.pkt.opTag) → inHbm half.1 = true →
      NextWith (exec (.collPartial rx) s) fun t =>
        (∃ e, (chanOf t.core ch.field ch.num).staged = x.staged ++ [e] ∧ e.rseq = q ∧ e.redno = rx.pkt.opTag ∧ e.src = rx.pkt.srcMod
          ∧ e.first = first
          ∧ (refusalOf c (redMaster ch.field) half.1 half.2 .w = none → e.vals = vals ∧ e.bad = false)
          ∧ (refusalOf c (redMaster ch.field) half.1 half.2 .w ≠ none → e.vals = List.replicate vals.length 0 ∧ e.bad = true ∧ t.mem = s.mem))
        ∧ (chanOf t.core ch.field ch.num).run = none
        ∧ BytesKept s t half.1 half.2 ∧ t.core.st = s.core.st)
    ∧ (x.run = none → q ≠ x.next → q ≠ (x.next + 1) % 65536 → NextWith (exec (.collPartial rx) s) fun t =>
        Goals.raised s t 0x0612 ∧ (chanOf t.core ch.field ch.num).staged = x.staged ∧ x.next ∈ (chanOf t.core ch.field ch.num).order
        ∧ t.mem = s.mem ∧ t.core.st = s.core.st)

/-- R329, R330, R338, R139: the results of the execution under way arrive in order; once the last is there they are written at the module's
result address: for a bucket of a shard it holds, in the reduced-gradient buffer of the step's parity. -/
def Sys2Proof.Goals.ResultsAreWritten : Prop :=
  ∀ (s : State) (rx : Rx) (ch : ChannelDecl) (im : Image) (d : RedDecl) (r : RedRun), Goals.collFor s rx 1 ch → s.core.alm.image = some im →
    let c := Goals.taken s rx
    let f := ch.field
    let first := bits rx.pkt.addr 0 32
    let vs := elems 4 (min 128 (d.n - first)) rx.pkt.payload
    (chanOf s.core f ch.num).run = some r → redDecl im r.redno = some d → bits rx.pkt.addr 42 16 = r.rseq → first = r.results.length →
    takesResults d ch (ownPos s.core ch) = true → (d.chain = true ∨ resultTargets d ch (ownPos s.core ch) = []) →
    (first + vs.length < d.n → NextWith (exec (.collResult rx) s) fun t =>
      (chanOf t.core f ch.num).run = some { r with results := r.results ++ vs } ∧ t.mem = s.mem)
    ∧ (∀ e, d.result = some e → (∀ b ∈ im.buckets, b.redno ≠ d.redno) → resultAt s.core d r.step = some e)
    ∧ (∀ e b sh, d.result = some e → bucketOf im d.redno = some b →
        (im.shards.find? fun h => h.mine && h.stage = b.stage && decide (h.start ≤ b.start ∧ b.start < h.start + 1024 * h.blocks)) = some sh →
        resultAt s.core d r.step = some ((if r.step % 2 = 0 then sh.grad0 else sh.grad1) + 4 * (b.start - sh.start)))
    ∧ (∀ a, d.n ≤ first + vs.length → d.kind = .sum → resultAt s.core d r.step = some a → (inHbm (gaOff a) = true ∨ inSlice (gaOff a) = true ∨ inStation (gaOff a) = true) →
      gatedIn c (gaOff a) (4 * (r.results ++ vs).length) = none →
      refusalOf c (redMaster f) (gaOff a) (4 * (r.results ++ vs).length) .w = none →
      NextWith (exec (.collResult rx) s) fun t =>
        t.mem = mwriteN s.mem (gaOff a) (elemBytes 4 (r.results ++ vs)) ∧ BytesKept s t (gaOff a) (4 * (r.results ++ vs).length)
        ∧ ∃ u, (chanOf t.core f ch.num).run = some u ∧ u.results = r.results ++ vs ∧ u.written = true ∧ u.redno = r.redno)

/-- R327, R330: the record of a child joins the execution it belongs to, or waits for it; the parent's record is the decided one. -/
def Sys2Proof.Goals.AgreementRecordsArrive : Prop :=
  ∀ (s : State) (rx : Rx) (ch : ChannelDecl), Goals.collFor s rx 2 ch →
    let x := chanOf s.core ch.field ch.num
    let q := bits rx.pkt.addr 42 16
    let k := ch.participants.idxOf rx.pkt.srcMod
    let j := ownPos s.core ch
    let child := k ∈ childPos ch.fanin j ch.participants.length
    let v := parseRecord rx.pkt.payload
    (∀ r, x.run = some r → q = r.rseq → child → NextWith (exec (.collAgree rx) s) fun t =>
      ∃ u, (chanOf t.core ch.field ch.num).run = some u ∧ u.recs = r.recs ++ [(k, v)] ∧ u.redno = r.redno)
    ∧ (∀ r, x.run = some r → q = (r.rseq + 1) % 65536 → q ≠ r.rseq → child → NextWith (exec (.collAgree rx) s) fun t =>
      chanOf t.core ch.field ch.num = { x with early := x.early ++ [(q, k, v)] } ∧ t.mem = s.mem)
    ∧ (∀ r, x.run = some r → q = r.rseq → ¬child → j ≠ 0 → k = parentPos ch.fanin j → r.decided = none → NextWith (exec (.collAgree rx) s) fun t =>
      t.mem = s.mem ∧ ∃ u, (chanOf t.core ch.field ch.num).run = some u ∧ u.decided = some v ∧ u.recSent = true ∧ u.redno = r.redno)

/-- R335, R336, R348, R502: an execution with its decided record and its results written, or with a known loss, is complete: its status
stands in RED_STATUS, the channel is free for the next one, RED_DONE counts it and its completion semaphore is signalled; memory keeps its
bytes, but for results written under a status that is not OK (R502). -/
def Sys2Proof.Goals.ReductionCompletes : Prop :=
  ∀ (s : State) (f num : Nat) (im : Image) (d : RedDecl) (ch : ChannelDecl) (r : RedRun), Runs s → f < 8 → s.core.alm.image = some im →
    chanDecl s.core num = some ch → ch.field = f → (chanOf s.core f num).run = some r → redDecl im r.redno = some d →
    pumpChan s.mem s.core ch = (s.core, s.mem) →
    let done := fun (t : State) (st : Status) =>
      (∃ row, tget (fld t.core f).red.status r.redno = some row ∧ row.status = st ∧ row.rseq = r.rseq ∧ row.eRef = r.eRef
        ∧ ∀ x, r.decided = some x → row.eObs = x.eObs ∧ row.flags = x.flags % 32)
      ∧ (chanOf t.core f num).run = none ∧ obj t.core Key.redDone = min (obj s.core Key.redDone + 1) (objMax Key.redDone)
      ∧ (∀ k, r.sem = some k → (syncU t.core f).held = (syncU s.core f).held ++
          [{ issuer := redMaster f, kind := .add, sem := k, n := 1, cookie := 0, slot := 0, back := .unit }])
      ∧ (r.sem = none → (syncU t.core f).held = (syncU s.core f).held) ∧ t.core.st = s.core.st
      ∧ (st = .ok ∨ d.result = none ∨ d.kind = .permute ∨ r.written = false → t.mem = s.mem)
      ∧ ∀ a, resultAt s.core d r.step = some a → BytesKept s t (gaOff a) (4 * d.n)
    (∀ x, r.decided = some x → r.written = true → NextWith (exec (.reductionComplete f num) s) fun t =>
      done t (r.srcFail.getD (x.status d.kind ch.participants.length)) ∧ (chanOf t.core f num).decidedSeq = r.rseq)
    ∧ (r.decided = none → r.lost = true → NextWith (exec (.reductionComplete f num) s) fun t => done t .lost)
    ∧ (r.decided = none → r.lost = false → exec (.reductionComplete f num) s = .next s)

/-- R342, R343: a permutation whose arrivals are there joins the agreement with the checksum of its staging area; decided OK, each
incoming move's staged bytes are copied to its destination; otherwise nothing is placed. -/
def Sys2Proof.Goals.PermutationsPlace : Prop :=
  ∀ (s : State) (f num : Nat) (im : Image) (d : RedDecl) (ch : ChannelDecl) (r : RedRun), Runs s → f < 8 → s.core.alm.image = some im →
    chanDecl s.core num = some ch → ch.field = f → (chanOf s.core f num).run = some r → redDecl im r.redno = some d → d.kind = .permute →
    r.signalled = true →
    (∀ v m o, r.decided = some v → v.status .permute ch.participants.length = .ok → r.written = false → incoming s.core d = [(m, o)] →
      (inHbm m.dst = true ∨ inSlice m.dst = true ∨ inStation m.dst = true) → gatedIn s.core m.dst m.length = none →
      engStop s.core (redMaster f) (stagedReads s.core d ch) = none → refusalOf s.core (redMaster f) m.dst m.length .w = none → NextWith (exec (.permutePlace f num) s) fun t =>
        t.mem = mwriteN s.mem m.dst (mreadN s.mem (gaOff ch.stagingBase + m.staging) m.length) ∧ BytesKept s t m.dst m.length
        ∧ ∃ u, (chanOf t.core f num).run = some u ∧ u.written = true ∧ u.redno = r.redno)
    ∧ (∀ v, r.decided = some v → v.status .permute ch.participants.length ≠ .ok → exec (.permutePlace f num) s = .next s)
    ∧ (r.decided = none → r.summed = false → d.arrival = none → engStop s.core (redMaster f) (stagedReads s.core d ch) ≠ none →
      NextWith (exec (.permutePlace f num) s) fun t =>
        t.mem = s.mem ∧ ∃ u, (chanOf t.core f num).run = some u ∧ u.summed = true ∧ bit u.flags 5 = true ∧ u.redno = r.redno)
    ∧ (r.decided = none → r.summed = false → d.arrival = none → engStop s.core (redMaster f) (stagedReads s.core d ch) = none →
      NextWith (exec (.permutePlace f num) s) fun t =>
        t.mem = s.mem ∧ ∃ u, (chanOf t.core f num).run = some u ∧ u.summed = true
          ∧ u.csumOut = stagedSum s.mem s.core d ch (csumK d.seed r.step) ∧ u.redno = r.redno)

/-- R344, R346: multicast rows stand in the station memory of every receiver of the set afterwards, and the end of the unit signals
FULL_SEM in each field with a receiver; a detach notice poisons the set's semaphore in the receivers' field. -/
def Sys2Proof.Goals.MulticastIsDelivered : Prop :=
  ∀ (s : State) (rx : Rx), Goals.inTurn s rx → rx.pkt.typ = 8 → bits rx.pkt.addr 40 2 = 3 →
    let c := Goals.taken s rx
    let a := rx.pkt.addr
    let gs := tgetD s.core.recv (bits a 58 6) []
    let o := bits a 0 22
    let n := rx.pkt.payload.length
    let m := 0x8000 + rx.pkt.srcMod
    (bit a 39 = false → MemoryInv s → gs.Nodup → 0 < n → o + n ≤ stSize →
      (∀ g ∈ gs, g < 192 ∧ gatedIn c (stBase g + o) n = none ∧ refusalOf c m (stBase g + o) n .w = none) →
      NextWith (exec (.collMcast rx) s) fun t =>
        (∀ g ∈ gs, mreadN t.mem (stBase g + o) n = rx.pkt.payload)
        ∧ (∀ b, (∀ g ∈ gs, b < stBase g + o ∨ stBase g + o + n ≤ b) → mread t.mem b = mread s.mem b)
        ∧ (∀ f, f < 8 → (syncU t.core f).held = (syncU s.core f).held ++
            (if bit a 38 && gs.any (fun g => g / 24 = f) then
              [{ issuer := m, kind := .add, sem := bits a 46 12, n := 1, cookie := 0, slot := 0, back := .unit }] else []))
        ∧ t.core.st = s.core.st)
    ∧ (∀ f, bit a 39 = true → f < 8 → (∃ g ∈ gs, g / 24 = f) → (syncU s.core f).held = [] → NextWith (exec (.detachNote rx) s) fun t =>
        (semOf t.core f (bits a 46 12)).poison = true ∧ (semOf t.core f (bits a 46 12)).count = (semOf s.core f (bits a 46 12)).count
        ∧ (syncU t.core f).held = [] ∧ t.mem = s.mem)


/-! ### Objects of the links and of memory with a command of their own -/

/-- A write that its object's rule refuses changes nothing beside the session and the counters. -/
abbrev Sys2Proof.Goals.refusedWrite (s t : State) (h : Hdr) (x : Session) (key : Nat) (st : Status) : Prop :=
  Goals.wrote t h x key st ∧ obj t.core key = obj s.core key ∧ t.mem = s.mem ∧ t.fuse = s.fuse ∧ t.core.st = s.core.st
    ∧ t.core.fl = s.core.fl ∧ t.core.alm = s.core.alm ∧ t.core.acc = s.core.acc ∧ t.core.fab.ports = s.core.fab.ports
    ∧ t.core.boot = s.core.boot

/-- R288, R315: a new MODULE_ID, MODULE_ID_VALID or INSTALLATION_ID is taken while no image is loaded (and no flow open), and IDENT
runs again on every port that is UP (with INSTALLATION_ID also REFUSED). -/
def Sys2Proof.Goals.IdentityWritesRerunIdent : Prop :=
  ∀ (s : State) (h : Hdr) (x : Session) (v : Nat),
    let free := loaded s.core = false ∧ flowOpen s.core = false
    ∀ row ∈ [(Instr.moduleId h 1 v, Key.moduleId, v < 4096, free, [3]), (.moduleId h 2 v, Key.moduleIdValid, v < 2, free, [3]),
             (.installationId h v, Key.installationId, v < 2 ^ 64, loaded s.core = false, [3, 4])],
      let k := row.2.1
      Goals.writes s h x k →
      (row.2.2.1 → row.2.2.2.1 → NextWith (exec row.1 s) fun t =>
        Goals.wrote t h x k .ok ∧ obj t.core k = v ∧ t.mem = s.mem ∧ t.core.st = s.core.st
        ∧ ∀ p, p < 16 → let y := portOf s.core p
            (portActs s.core p = true ∧ y.pstate ∈ row.2.2.2.2 →
              (∃ n, portOf t.core p = { y with pstate := 2, phase := 5, again := decide (y.pstate = 3), nonceDraw := n })
              ∧ ∃ m : IdentOut, OutMsg.ident p m ∈ t.core.host.out ∧ m.key = s.fuse.identityKey ∧ m.port = p)
            ∧ (¬(portActs s.core p = true ∧ y.pstate ∈ row.2.2.2.2) → portOf t.core p = y))
      ∧ (row.2.2.1 → ¬row.2.2.2.1 → NextWith (exec row.1 s) fun t => Goals.refusedWrite s t h x k .state)
      ∧ (¬row.2.2.1 → NextWith (exec row.1 s) fun t => Goals.refusedWrite s t h x k .range)

/-- R278, R315: a write of PORT_ENABLE or PORT_JOIN takes down every port whose bit it changes, with cause 5, and leaves the others. -/
def Sys2Proof.Goals.PortWritesTakePortsDown : Prop :=
  ∀ (s : State) (h : Hdr) (x : Session) (v : Nat),
    ∀ row ∈ [(Instr.portEnable h v, Key.portEnable, 65536, fun (p : Nat) => p), (.portJoin h v, Key.portJoin, 256, fun (p : Nat) => p / 2)],
      let k := row.2.1
      let changed := fun (p : Nat) => bit (obj s.core k) (row.2.2.2 p) ≠ bit v (row.2.2.2 p)
      Goals.writes s h x k →
      (v < row.2.2.1 → loaded s.core = false → NextWith (exec row.1 s) fun t =>
        Goals.wrote t h x k .ok ∧ obj t.core k = v ∧ t.mem = s.mem
        ∧ ∀ p, p < 16 →
            (changed p → (portOf s.core p).pstate ≠ 0 → (portOf t.core p).pstate = 0 ∧ (portOf t.core p).downCause = 5)
            ∧ (¬changed p ∨ (portOf s.core p).pstate = 0 → portOf t.core p = portOf s.core p))
      ∧ (v < row.2.2.1 → loaded s.core = true → NextWith (exec row.1 s) fun t => Goals.refusedWrite s t h x k .state)
      ∧ (row.2.2.1 ≤ v → NextWith (exec row.1 s) fun t => Goals.refusedWrite s t h x k .range)

/-- The bits of an ACCESS_EDIT of an operation on entry `e` of target `t`, with nothing in its reserved bits (R191). -/
abbrev Sys2Proof.Goals.edit (data : Bytes) (op t e : Nat) : Prop :=
  let v := leNat data
  data.length = 24 ∧ bits v 0 16 = t ∧ bits v 16 8 = e ∧ bits v 24 8 = op ∧ bits v 32 32 = 0 ∧ accReservedZero (bits v 64 128) = true
    ∧ t < 155 ∧ e < 64

/-- R190, R191, R187: ACCESS_EDIT installs or removes one entry; entries 0 and 1 and those of a running image are STATE. An entry that is
there decides every request it covers. -/
def Sys2Proof.Goals.AccessEditsOneEntry : Prop :=
  ∀ (s : State) (h : Hdr) (x : Session) (data : Bytes) (t e : Nat), Goals.writes s h x Key.accessEdit →
    let k := t * 64 + e
    let shut := e < 2 ∨ ∃ y, tget s.core.acc.entries k = some y ∧ y.writer = .start
    let others := fun (u : State) => (∀ j, j ≠ k → tget u.core.acc.entries j = tget s.core.acc.entries j) ∧ u.mem = s.mem ∧ u.core.st = s.core.st
    (Goals.edit data 0 t e → ¬shut → NextWith (exec (.accessEditWrite h data) s) fun u =>
      Goals.wrote u h x Key.accessEdit .ok ∧ tget u.core.acc.entries k = some { value := bits (leNat data) 64 128, writer := .edit } ∧ others u
      ∧ (∀ m a rt, entryPermits (bits (leNat data) 64 128) m a rt = true → tablePermits u.core.acc t m a rt = true))
    ∧ (Goals.edit data 1 t e → ¬shut → NextWith (exec (.accessEditClear h data) s) fun u =>
      Goals.wrote u h x Key.accessEdit .ok ∧ tget u.core.acc.entries k = none ∧ others u)
    ∧ (∀ i op, (i, op) ∈ [(Instr.accessEditWrite h data, 0), (.accessEditClear h data, 1)] → Goals.edit data op t e → shut →
      NextWith (exec i s) fun u => Goals.refusedWrite s u h x Key.accessEdit .state)
    ∧ (∀ i op, (i, op) ∈ [(Instr.accessEditWrite h data, 0), (.accessEditClear h data, 1)] → (∀ t e, ¬Goals.edit data op t e) →
      NextWith (exec i s) fun u => Goals.refusedWrite s u h x Key.accessEdit .range)

/-- R181, R461: a new interleave exponent starts a wipe of all HBM, which is done once HBM_WIPE_DONE finds every byte of HBM zero. -/
def Sys2Proof.Goals.GranuleWipesHbm : Prop :=
  ∀ (s : State) (h : Hdr) (x : Session) (v us : Nat), Goals.writes s h x Key.hbmGranule →
    (8 ≤ v → v ≤ 16 → loaded s.core = false → NextWith (exec (.hbmGranule h v) s) fun t =>
      Goals.wrote t h x Key.hbmGranule .ok ∧ obj t.core Key.hbmGranule = v ∧ obj t.core Key.hbmWiping = 1 ∧ t.mem = s.mem
      ∧ NextWith (exec (.hbmWipeDone us) t) fun u =>
          obj u.core Key.hbmWiping = 0 ∧ obj u.core Key.wipeTime = us
          ∧ ∀ a, mread u.mem a = if inHbm a then 0 else mread s.mem a)
    ∧ (8 ≤ v → v ≤ 16 → loaded s.core = true → NextWith (exec (.hbmGranule h v) s) fun t => Goals.refusedWrite s t h x Key.hbmGranule .state)
    ∧ (v < 8 ∨ 16 < v → NextWith (exec (.hbmGranule h v) s) fun t => Goals.refusedWrite s t h x Key.hbmGranule .range)

/-! ### The dictionary (chapter 13) -/

/-- The bytes an object of a number type shows: its computed or stored value in its own width (R428, R432). -/
def Sys2Proof.Goals.shows (s : State) (ctx key : Nat) (o : Obj) : Bytes := leBytes o.size (objNat s.fuse s.core ctx key % 2 ^ (8 * o.size))

/-- R428, R430, R431, R432: READ answers an item of a number with its value, clearing a counter that is cleared by reading; an object that
does not exist is RANGE, one that may not be read ACCESS; items are carried out each on its own, in order. -/
def Sys2Proof.Goals.ReadsAnswerTheirItems : Prop :=
  ∀ (s : State) (h : Hdr) (x : Session) (i : ReadItem), Goals.newRequest s h x → i.index < 65536 → 0 < i.sub → i.sub < 256 →
    let k := i.index * 256 + i.sub
    let told := fun (t : State) (bs : Bytes) => Goals.responds t h x { typ := 0x20, status := 0, payload := bs } ∧ t.mem = s.mem ∧ t.core.st = s.core.st
    (∀ o, objFind k = some o → o.ty ≠ 8 → o.ty ≠ 9 → dictGate s.core h.ctx k .r = .ok → inUnits k = false →
      (o.acc ≠ .rc → NextWith (exec (.readDict h [i]) s) fun t =>
        told t (readAnswer k .ok o.ty (Goals.shows t h.ctx k o)) ∧ ObjectsKept s t [Key.port h.port 10])
      ∧ (o.acc = .rc → NextWith (exec (.readDict h [i]) s) fun t =>
        told t (readAnswer k .ok o.ty (Goals.shows (withCore s (countRx s.core h.port)) h.ctx k o)) ∧ obj t.core k = 0 ∧ ObjectsKept s t [k, Key.port h.port 10]))
    ∧ (objFind k = none → NextWith (exec (.readDict h [i]) s) fun t => told t (readAnswer k .range 0 []))
    ∧ (∀ o st, objFind k = some o → dictGate s.core h.ctx k .r = st → st ≠ .ok →
        NextWith (exec (.readDict h [i]) s) fun t => told t (readAnswer k st o.ty []))
    ∧ (∀ n, objMaxSub i.index = some n → s.core.boot.rom = false → tablePermits s.core.acc 138 (sessionMaster h.ctx) (i.index * 256) .r = true →
        NextWith (exec (.readDict h [{ i with sub := 0 }]) s) fun t => told t (readAnswer (i.index * 256) .ok 2 (leBytes 1 n)))

/-- R428, R429, R430, R431: WRITE stores a value of the object's type and range where the state permits it; a wrong type or a value out of
range is RANGE, a state that does not permit it STATE, a read-only object ACCESS; a refused item does not stop the next. -/
def Sys2Proof.Goals.WritesStoreTheirItems : Prop :=
  ∀ (s : State) (h : Hdr) (x : Session) (i j : WriteItem), Goals.newRequest s h x → i.index < 65536 → i.sub < 256 → j.index < 65536 → j.sub < 256 →
    let k := i.index * 256 + i.sub
    let fits := fun (o : Obj) => i.typ = o.ty ∧ i.value.length = o.size ∧ inObjRange s.fuse k (leNat i.value) = true
    let told := fun (t : State) (bs : Bytes) => Goals.responds t h x { typ := 0x21, status := 0, payload := bs } ∧ t.mem = s.mem ∧ t.core.st = s.core.st
    ∀ o, objFind k = some o → 0 < i.sub → ownRow.contains k = false →
      (dictGate s.core h.ctx k .w = .ok → fits o → writableNow s.core k = true → NextWith (exec (.writeDict h [i]) s) fun t =>
        told t (itemHead k .ok o.ty 0) ∧ obj t.core k = leNat i.value ∧ ObjectsKept s t [k, Key.port h.port 10])
      ∧ (dictGate s.core h.ctx k .w = .ok → fits o → writableNow s.core k = false → NextWith (exec (.writeDict h [i]) s) fun t =>
        told t (itemHead k .state o.ty 0) ∧ obj t.core k = obj s.core k)
      ∧ (dictGate s.core h.ctx k .w = .ok → ¬fits o → NextWith (exec (.writeDict h [i]) s) fun t =>
        told t (itemHead k .range o.ty 0) ∧ obj t.core k = obj s.core k)
      ∧ (o.acc = .ro ∨ o.acc = .rc → s.core.boot.rom = false → NextWith (exec (.writeDict h [i]) s) fun t => told t (itemHead k .access o.ty 0))
      ∧ (dictGate s.core h.ctx k .w = .ok → fits o → writableNow s.core k = true → j.sub ≠ 0 → objFind (j.index * 256 + j.sub) = none →
        NextWith (exec (.writeDict h [j, i]) s) fun t =>
          told t (itemHead (j.index * 256 + j.sub) .range 0 0 ++ itemHead k .ok o.ty 0) ∧ obj t.core k = leNat i.value)

/-- Whether a command is a request of bulk transfer (R433). -/
def Sys2Proof.Goals.isBulk (i : Instr) : Bool :=
  match i with
  | .bulkWriteMem _ _ => true
  | .bulkReadMem _ _ => true
  | .bulkLoadBuffer _ _ => true
  | .bulkFirmware _ _ => true
  | .bulkObjectRead _ _ => true
  | .bulkComplete _ _ _ => true
  | .bulkAbort _ _ => true
  | _ => false

/-- R420, R421, R422: a sessioned request whose SEQ was answered before is answered again with the same response and not carried out again; one
that does not authenticate is AUTH_FAILED and changes nothing else; one on a UDP port where its type is not valid is discarded without a reply,
and counted as discarded where that port is none of the module's.
Where it rests on a choice of the model: log entry 27. -/
def Obligations.RequestsAreCarriedOutOnce : Prop :=
  ∀ (s : State) (i : Instr) (h : Hdr), Runs s → i.wellFormed = true → i.header = some h →
    (∀ tr seg d, i ≠ .bulkData h tr seg d) → (∀ tr m, i ≠ .bulkAck h tr m) → i ≠ .noteAck h →
    let kept := fun (t : State) => t.mem = s.mem ∧ t.fuse = s.fuse ∧ t.core.st = s.core.st ∧ t.core.fl = s.core.fl ∧ t.core.alm = s.core.alm
      ∧ t.core.acc = s.core.acc ∧ t.core.clk = s.core.clk ∧ t.core.boot = s.core.boot
    let udp := if Goals.isBulk i then 50472 else 50471
    let rx := Key.port h.port 10
    let lost := Key.port h.port 11
    (h.udp ≠ udp → NextWith (exec i s) fun t => kept t ∧ t.core.host.out = s.core.host.out ∧ t.core.host.sessions = s.core.host.sessions
        ∧ t.core.ev = s.core.ev ∧ ObjectsKept s t [rx, lost] ∧ obj t.core rx = min (obj s.core rx + 1) (objMax rx)
        ∧ obj t.core lost = if h.udp = 50471 ∨ h.udp = 50472 then obj s.core lost else min (obj s.core lost + 1) (objMax lost))
    ∧ (h.udp = udp →
    (∀ x r, sessionOf s.core h.ctx = some x → h.tagOk = true →
      (let d := (h.seq + 2 ^ 32 - x.h % 2 ^ 32) % 2 ^ 32; ¬(1 ≤ d ∧ d < 2 ^ 31)) → (x.kept.find? fun p => p.1 = h.seq) = some (h.seq, some r) →
      NextWith (exec i s) fun t => kept t ∧ Goals.responds t h x r ∧ t.core.host.out.length = s.core.host.out.length + 1
        ∧ t.core.ev = s.core.ev ∧ ObjectsKept s t [Key.port h.port 10])
    ∧ (∀ x, sessionOf s.core h.ctx = some x → h.tagOk = false → NextWith (exec i s) fun t => kept t ∧ Goals.raised s t 0x0503)
    ∧ (sessionOf s.core h.ctx = none → NextWith (exec i s) fun t => kept t ∧ Goals.raised s t 0x0503))


/-! ### Host sessions and what they carry (chapter 13) -/

/-- R424, R425, R426: an OPEN by the enrolled owner opens a session on the lowest free context: its number 0 is the last taken, its context
is ACTIVE of kind host, the module is claimed and the claim nonce is drawn again. Each refusal has its status and leaves the nonce. An OPEN on
another UDP port is not answered (R420). -/
def Sys2Proof.Goals.OpensBySomeRule : Prop :=
  ∀ (s : State) (p : Nat) (m : OpenMsg), Runs s → p < 3 →
    (m.udp ≠ 50471 → NextWith (exec (.openSession p m) s) fun t =>
      t.core.host.sessions = s.core.host.sessions ∧ t.core.host.out = s.core.host.out ∧ t.core.boot = s.core.boot ∧ t.mem = s.mem
      ∧ t.core.ev = s.core.ev) ∧
    let owner := enrolled s.fuse
    let lc := s.fuse.lc = 1 ∨ s.fuse.lc = 2
    let fresh := m.nonce = claimNonce s.core
    let refused := fun (t : State) (st : Status) =>
      (∀ k, (sessionOf t.core k).isSome = (sessionOf s.core k).isSome) ∧ t.core.boot = s.core.boot ∧ t.mem = s.mem ∧ t.core.acc = s.core.acc
      ∧ ∃ bs, t.core.host.out.getLast? = some (.bamcen p m.source 0xFFFF 0 { typ := 0x10, status := st.code, payload := bs } 0)
    (m.udp = 50471 →
    (∀ o ctx, owner = some o → lc → fresh → m.pkDigest = o.digest → m.sigOk = true → lowestFree s.core = some ctx →
      NextWith (exec (.openSession p m) s) fun t =>
        (∃ x, sessionOf t.core ctx = some x ∧ x.h = 0 ∧ x.kept = [] ∧ x.port = p ∧ x.source = m.source ∧ x.mask = 0 ∧ x.notes = [])
        ∧ (ctxOf t.core ctx).state = 1 ∧ (ctxOf t.core ctx).kind = 1 ∧ (ctxOf t.core ctx).master = 0x1000 + ctx
        ∧ obj t.core Key.claimed = 1 ∧ t.core.boot.nonceDraw = s.core.freeCtr ∧ t.mem = s.mem ∧ t.core.st = s.core.st
        ∧ (obj s.core Key.claimed ≠ 1 → ∀ n, n < 155 → ∃ e, tget t.core.acc.entries (n * 64 + 1) = some e ∧ e.writer = .claim)
        ∧ ∃ bs, t.core.host.out.getLast? = some (.bamcen p m.source 0xFFFF 0 { typ := 0x10, status := 0, payload := bs } 0))
    ∧ (owner = none ∨ ¬lc → NextWith (exec (.openSession p m) s) fun t => refused t .state)
    ∧ (∀ o, owner = some o → lc → ¬fresh → NextWith (exec (.openSession p m) s) fun t => refused t .state)
    ∧ (∀ o, owner = some o → lc → fresh → m.pkDigest ≠ o.digest ∨ m.sigOk = false → NextWith (exec (.openSession p m) s) fun t =>
        refused t .auth ∧ Goals.raised s t 0x0503)
    ∧ (∀ o, owner = some o → lc → fresh → m.pkDigest = o.digest → m.sigOk = true → lowestFree s.core = none →
        NextWith (exec (.openSession p m) s) fun t => refused t .noctx))

/-- R419, R427, R439: KEEPALIVE is answered and heard, SUBSCRIBE sets the class mask, CLOSE is answered and ends the session, as does
SESSION_TIMEOUT without a message, with SESSION_CLOSED. -/
def Sys2Proof.Goals.SessionsLiveAndEnd : Prop :=
  ∀ (s : State) (h : Hdr) (x : Session),
    let ok := fun (typ : Nat) (st : Status) => ({ typ := typ, status := st.code, payload := [] } : Resp)
    (Goals.newRequest s h x →
      (NextWith (exec (.keepalive h) s) fun t => Goals.responds t h x (ok 0x15 .ok) ∧ t.mem = s.mem
        ∧ sessionOf t.core h.ctx = some { x with heard := obj s.core Key.uptimeTicks, port := h.port, source := h.source, h := h.seq,
                                                 kept := ((h.seq, some (ok 0x15 .ok)) :: x.kept).take 64 })
      ∧ (∀ mask, mask < 16 → NextWith (exec (.subscribe h mask) s) fun t => Goals.responds t h x (ok 0x41 .ok) ∧ t.mem = s.mem
        ∧ sessionOf t.core h.ctx = some { x with heard := obj s.core Key.uptimeTicks, port := h.port, source := h.source, h := h.seq, mask := mask,
                                                 kept := ((h.seq, some (ok 0x41 .ok)) :: x.kept).take 64 })
      ∧ (NextWith (exec (.close h) s) fun t => sessionOf t.core h.ctx = none ∧ (ctxOf t.core h.ctx).state = 0 ∧ t.mem = s.mem
        ∧ Goals.raised s t 0x0502 ∧ OutMsg.bamcen h.port h.source h.ctx h.seq (ok 0x14 .ok) (tagOf x.key h.ctx 1 h.seq (ok 0x14 .ok)) ∈ t.core.host.out))
    ∧ (∀ ctx y, Runs s → ctx < 4096 → sessionOf s.core ctx = some y →
      (y.heard + 100000 * obj s.core Key.sessionTimeout ≤ obj s.core Key.uptimeTicks → NextWith (exec (.sessionTimeout ctx) s) fun t =>
        sessionOf t.core ctx = none ∧ (ctxOf t.core ctx).state = 0 ∧ Goals.raised s t 0x0502 ∧ t.mem = s.mem)
      ∧ (obj s.core Key.uptimeTicks < y.heard + 100000 * obj s.core Key.sessionTimeout → exec (.sessionTimeout ctx) s = .next s))

/-- A semaphore of this module that a session may operate on, whose record and unit nothing waits on (R218, R219). -/
abbrev Sys2Proof.Goals.quietSem (s : State) (h : Hdr) (name : Nat) (kind : SyncKind) (e : Sem) : Prop :=
  nameOk name = true ∧ bits name 16 12 = ownMod s.core ∧ running s.core = true ∧ s.core.alm.hold.heldAt = none
    ∧ tget (syncU s.core (bits name 12 3)).sems (bits name 0 12) = some e ∧ e.valid = true ∧ e.poison = false
    ∧ tablePermits s.core.acc (129 + bits name 12 3) (0x1000 + h.ctx) (bits (semAddr (bits name 12 3) (bits name 0 12)) 8 36) kind.right = true
    ∧ (∀ w ∈ (syncU s.core (bits name 12 3)).watches, w.2.sem ≠ bits name 0 12)
    ∧ (∀ w ∈ (syncU s.core (bits name 12 3)).waits, w.sem ≠ bits name 0 12)
    ∧ (∀ g ∈ (syncU s.core (bits name 12 3)).gates, g.1 ≠ bits name 0 12)

/-- R217, R219, R437: a SYNC request on a semaphore of this module adds, subtracts or takes its count, or registers a watch, and is
answered with the operation's status; one on another module's semaphore leaves on the lowest flow to it, and is answered once that module
has (R436; log entry 33). -/
def Sys2Proof.Goals.SessionsOperateSemaphores : Prop :=
  ∀ (s : State) (h : Hdr) (x : Session) (name n cookie : Nat) (e : Sem), Goals.newRequest s h x →
    let f := bits name 12 3
    let k := bits name 0 12
    let told := fun (t : State) (st : Status) => Goals.responds t h x { typ := 0x30, status := st.code, payload := [] } ∧ t.mem = s.mem ∧ t.core.st = s.core.st
    let counts := fun (t : State) (v : Nat) => semOf t.core f k = { e with count := v }
    (Goals.quietSem s h name .add e → 0 < n → e.count + n ≤ e.cap → n ≤ 65535 → NextWith (exec (.syncSigAdd h name n) s) fun t =>
      told t .ok ∧ counts t (e.count + n))
    ∧ (Goals.quietSem s h name .sub e → 0 < n → n ≤ e.count → n ≤ 65535 → NextWith (exec (.syncSigSub h name n) s) fun t =>
      told t .ok ∧ counts t (e.count - n))
    ∧ (Goals.quietSem s h name .tak e → 0 < n → n ≤ e.cap →
      (n ≤ e.count → NextWith (exec (.syncTak h name n) s) fun t => told t .ok ∧ counts t (e.count - n))
      ∧ (e.count < n → NextWith (exec (.syncTak h name n) s) fun t => told t .taken ∧ counts t e.count))
    ∧ (∀ w, Goals.quietSem s h name .wat e → 0 < n → n ≤ e.cap → e.count < n → watchLoad s.core h.ctx < 1024 →
      freeWatch (syncU s.core f) (0x1000 + h.ctx) = some w → NextWith (exec (.syncWat h name n cookie) s) fun t =>
        told t .ok ∧ counts t e.count
        ∧ tget (syncU t.core f).watches w = some { sem := k, thresh := n, dest := 0x1000 + h.ctx, slot := 0, cookie := cookie })
    ∧ (∀ i ∈ [Instr.syncSigAdd h name n, .syncSigSub h name n, .syncTak h name n, .syncWat h name n cookie], nameOk name = false →
      NextWith (exec i s) fun t => told t .range ∧ t.core.fl = s.core.fl)
    ∧ (∀ i k, (i, k) ∈ [(Instr.syncSigAdd h name n, SyncKind.add), (.syncSigSub h name n, .sub), (.syncTak h name n, .tak)] →
      let away := bits name 16 12
      ∀ j, nameOk name = true → away ≠ ownMod s.core → running s.core = true → hostFlow s.core away = some j → j ≠ h.ctx →
        (ctxOf s.core j).state ≠ 3 →
        tablePermits s.core.acc (portTarget s.core (egressPort s.core j)) (0x1000 + h.ctx) away k.right = true → NextWith (exec i s) fun t =>
          t.core.host.out = s.core.host.out ∧ t.core.fl = s.core.fl ∧ t.mem = s.mem
          ∧ (∃ y, sessionOf t.core h.ctx = some y ∧ y.kept = ((h.seq, none) :: x.kept).take 64)
          ∧ ∃ p, (ctxOf t.core j).queue = (ctxOf s.core j).queue ++ [p] ∧ p.pkt.typ = 5 ∧ p.pkt.op = k.code ∧ p.pkt.addr = name
            ∧ p.pkt.issuer = 0x1000 + h.ctx ∧ p.pkt.payload = padUnits (leBytes 4 n ++ leBytes 4 0 ++ leBytes 4 0))

/-- R422, R438: a watch message for a session becomes its next notification, is kept until acknowledged and sent again every 10 ms; an
acknowledgement frees every notification up to its number. -/
def Sys2Proof.Goals.NotificationsAreKept : Prop :=
  ∀ (s : State) (ctx : Nat) (x : Session), Runs s → ctx < 4096 → sessionOf s.core ctx = some x →
    let leaves := fun (q : Nat × Resp) => OutMsg.bamcen x.port x.source ctx q.1 q.2 (tagOf x.key ctx 0 q.1 q.2)
    (∀ u i m, s.core.net.find? (isWatchFor (0x1000 + ctx)) = some (.watch u i m) → NextWith (exec (.watch ctx) s) fun t =>
      let r : Resp := { typ := 0x31, status := 0, payload := watchBytes m }
      sessionOf t.core ctx = some { x with noteNext := x.noteNext + 1, notes := x.notes ++ [(x.noteNext, r)] }
      ∧ t.core.host.out = s.core.host.out ++ [leaves (x.noteNext, r)] ∧ t.core.net = s.core.net.erase (.watch u i m) ∧ t.mem = s.mem)
    ∧ (NextWith (exec (.notificationResend ctx) s) fun t =>
      t.core.host.out = s.core.host.out ++ x.notes.map leaves ∧ sessionOf t.core ctx = some x ∧ t.mem = s.mem)
    ∧ (∀ h : Hdr, h.ctx = ctx → h.port < 3 → h.udp = 50471 → h.tagOk = true → NextWith (exec (.noteAck h) s) fun t =>
      ∃ y, sessionOf t.core ctx = some y ∧ (∀ q, q ∈ y.notes ↔ q ∈ x.notes ∧ acked h.seq q.1 = false) ∧ y.h = x.h ∧ y.heard = obj s.core Key.uptimeTicks
        ∧ t.core.host.out = s.core.host.out ∧ t.mem = s.mem)

/-! ### Bulk transfers -/

/-- A bulk opening answered with the number of its transfer, which is open with the fields asked for (R433). -/
abbrev Sys2Proof.Goals.opened (t : State) (h : Hdr) (x : Session) (o : BulkOpen) (tr addr length sent : Nat) (data : Bytes) : Prop :=
  Goals.responds t h x { typ := 0x50, status := 0, payload := leBytes 1 tr }
    ∧ transferOf t.core h.ctx tr = some { kind := o.kind, seg := o.segBytes, index := o.index, sub := o.sub, addr := addr, length := length,
                                          sem := o.sem, delta := o.delta, got := [], sent := sent, unacked := 0, data := data }

/-- R433, R434: the five kinds of BULK_OPEN open a transfer on the session's lowest free number; a READ_MEM and an OBJECT_READ send their
first segments at once. A field out of range is RANGE. -/
def Sys2Proof.Goals.BulkTransfersOpen : Prop :=
  ∀ (s : State) (h : Hdr) (x : Session) (o : BulkOpen) (tr : Nat), Goals.newBulk s h x → freeTransfer s.core h.ctx = some tr →
    let kept := fun (t : State) => t.mem = s.mem ∧ t.core.st = s.core.st ∧ t.core.fl = s.core.fl
    (∀ a, openFields o 0 = true → bulkRange s.core o true = some a → refusedAt s.core.acc (0x1000 + h.ctx) (gaOff a) o.length .w = none →
      memRefused s.core a o.length true = false → NextWith (exec (.bulkWriteMem h o) s) fun t => Goals.opened t h x o tr a o.length 0 [] ∧ kept t)
    ∧ (∀ a, openFields o 1 = true → bulkRange s.core o false = some a → refusedAt s.core.acc (0x1000 + h.ctx) (gaOff a) o.length .r = none →
      memRefused s.core a o.length false = false → o.length ≤ o.segBytes → inHbm (gaOff a + (o.length - 1)) = true →
      gatedIn s.core (gaOff a) o.length = none → (∀ i, i < o.length → gatedAt s.core (gaOff a + i) = false) →
      eccBad s.core [gaOff a] o.length = none →
      NextWith (exec (.bulkReadMem h o) s) fun t => Goals.opened t h x o tr a o.length 1 [] ∧ kept t
        ∧ (let r : Resp := { typ := 0x51, status := 0, payload := leBytes 8 tr ++ mreadN s.mem (gaOff a) o.length }
           OutMsg.bamcen h.port h.source h.ctx 0 r (tagOf x.key h.ctx 0 0 r) ∈ t.core.host.out))
    ∧ (openFields o 2 = true → o.length ≤ 2 ^ 28 → s.core.boot.rom = false → almState s.core ≠ 1 → NextWith (exec (.bulkLoadBuffer h o) s) fun t =>
        Goals.opened t h x o tr 0 o.length 0 [] ∧ kept t)
    ∧ (openFields o 3 = true → o.length ≤ 2 ^ 26 → s.core.boot.rom = true → obj s.core Key.wipeStatus = 1 → s.core.boot.verified = none →
      NextWith (exec (.bulkFirmware h o) s) fun t => Goals.opened t h x o tr 0 o.length 0 [] ∧ kept t)
    ∧ (∀ y, openFields o 4 = true → o.index < 65536 → o.sub < 256 → objectReads s.core + (x.bulk.filter fun q => q.2.kind = 4).length < 4 →
      objFind (o.index * 256 + o.sub) = some y → y.ty = 9 → dictGate s.core h.ctx (o.index * 256 + o.sub) .r = .ok →
      o.index * 256 + o.sub ≠ Key.attestReport → NextWith (exec (.bulkObjectRead h o) s) fun t =>
        ∃ bs, bs.length ≤ o.length ∧ (o.index * 256 + o.sub = Key.scaleTable → bs = (List.range (min o.length 655360)).map (shownScale s.core).byte)
          ∧ Goals.opened t h x o tr 0 bs.length (min ((bs.length + o.segBytes - 1) / o.segBytes) 256) bs ∧ kept t)
    ∧ (∀ row ∈ [(Instr.bulkWriteMem h o, 0), (.bulkReadMem h o, 1), (.bulkLoadBuffer h o, 2), (.bulkFirmware h o, 3), (.bulkObjectRead h o, 4)],
      openFields o row.2 = false → NextWith (exec row.1 s) fun t =>
        Goals.responds t h x { typ := 0x50, status := Status.range.code, payload := [] } ∧ transferOf t.core h.ctx tr = none ∧ kept t)

/-- R434: a segment of its exact length is written once, to memory or to the load buffer; a second arrival of it writes nothing; an
acknowledgement of the module's own segments frees them; unacknowledged ones are acknowledged or sent again by their timers. -/
def Sys2Proof.Goals.BulkSegmentsMove : Prop :=
  ∀ (s : State) (h : Hdr) (x : Session) (tr seg : Nat) (data : Bytes) (y : Transfer), Runs s → h.port < 3 → h.udp = 50472 → tr < 16 → h.ctx < 4096 →
    sessionOf s.core h.ctx = some x → h.tagOk = true → tget x.bulk tr = some y →
    let a := gaOff y.addr + seg * y.seg
    (y.kind = 2 → takesSeg y seg data = true → y.unacked < 31 → NextWith (exec (.bulkData h tr seg data) s) fun t =>
      transferOf t.core h.ctx tr = some { y with got := y.got ++ [seg], unacked := y.unacked + 1 }
      ∧ t.core.host.loadBuf = mwriteN s.core.host.loadBuf (seg * y.seg) data ∧ t.mem = s.mem)
    ∧ (y.kind = 0 → takesSeg y seg data = true → y.unacked < 31 → inHbm a = true → gatedIn s.core a data.length = none →
      refusalOf s.core (0x1000 + h.ctx) a data.length .w = none → NextWith (exec (.bulkData h tr seg data) s) fun t =>
        transferOf t.core h.ctx tr = some { y with got := y.got ++ [seg], unacked := y.unacked + 1 }
        ∧ t.mem = mwriteN s.mem a data ∧ BytesKept s t a data.length ∧ t.core.host.loadBuf = s.core.host.loadBuf)
    ∧ (seg ∈ y.got → NextWith (exec (.bulkData h tr seg data) s) fun t =>
        transferOf t.core h.ctx tr = some y ∧ t.mem = s.mem ∧ t.core.host.loadBuf = s.core.host.loadBuf ∧ t.core.host.out = s.core.host.out)
    ∧ (∀ map, y.kind = 4 → y.sent = segCount y → NextWith (exec (.bulkAck h tr map) s) fun t =>
        ∃ z, transferOf t.core h.ctx tr = some z ∧ z.sent = y.sent ∧ t.core.host.out = s.core.host.out ∧ t.mem = s.mem
          ∧ ∀ n, n ∈ z.got ↔ n ∈ y.got ∨ (n < y.sent ∧ ackCovers h.seq map n = true))
    ∧ (sends y = false → 0 < y.unacked → NextWith (exec (.bulkAckTimer h.ctx tr) s) fun t =>
        transferOf t.core h.ctx tr = some { y with unacked := 0 } ∧ t.mem = s.mem
        ∧ ∃ q r, t.core.host.out = s.core.host.out ++ [.bamcen x.port x.source h.ctx q r (tagOf x.key h.ctx 0 q r)] ∧ r.typ = 0x52
            ∧ q = (lowestMissing y + 2 ^ 32 - 1) % 2 ^ 32)
    ∧ (y.kind = 4 → seg < y.sent → seg ∉ y.got → NextWith (exec (.bulkResend h.ctx tr seg) s) fun t =>
        transferOf t.core h.ctx tr = some y ∧ t.mem = s.mem
        ∧ (let r : Resp := { typ := 0x51, status := 0, payload := leBytes 8 tr ++ (y.data.drop (seg * y.seg)).take (segLen y seg) }
           t.core.host.out = s.core.host.out ++ [.bamcen x.port x.source h.ctx seg r (tagOf x.key h.ctx 0 seg r)]))

/-- R435, R466: BULK_COMPLETE of a transfer with all its segments closes it; a WRITE_MEM is signalled by its semaphore; a FIRMWARE is
verified, and waits for the handover or is discarded. With a segment missing it is STATE and stays open. BULK_ABORT closes it. -/
def Sys2Proof.Goals.BulkTransfersEnd : Prop :=
  ∀ (s : State) (h : Hdr) (x : Session) (tr : Nat) (y : Transfer) (fw : FwVerdict), Goals.newBulk s h x → tr < 16 → tget x.bulk tr = some y →
    let told := fun (t : State) (typ : Nat) (st : Status) =>
      Goals.responds t h x { typ := typ, status := st.code, payload := [] } ∧ t.mem = s.mem ∧ t.core.st = s.core.st
    (NextWith (exec (.bulkAbort h tr) s) fun t => told t 0x54 .ok ∧ transferOf t.core h.ctx tr = none)
    ∧ (whole y = false → NextWith (exec (.bulkComplete h tr fw) s) fun t => told t 0x53 .state ∧ transferOf t.core h.ctx tr = some y)
    ∧ (whole y = true → (y.kind = 1 ∨ y.kind = 2 ∨ y.kind = 4 ∨ (y.kind = 0 ∧ y.sem = 0)) → NextWith (exec (.bulkComplete h tr fw) s) fun t =>
        told t 0x53 .ok ∧ transferOf t.core h.ctx tr = none ∧ t.core.fl = s.core.fl)
    ∧ (∀ e, whole y = true → y.kind = 0 → Goals.quietSem s h y.sem .add e → y.sem ≠ 0 → 0 < y.delta → y.delta ≤ 65535 → e.count + y.delta ≤ e.cap →
      NextWith (exec (.bulkComplete h tr fw) s) fun t =>
        told t 0x53 .ok ∧ transferOf t.core h.ctx tr = none
        ∧ semOf t.core (bits y.sem 12 3) (bits y.sem 0 12) = { e with count := e.count + y.delta })
    ∧ (whole y = true → y.kind = 3 → fwVerify s.fuse s.core y.length fw = .ok → NextWith (exec (.bulkComplete h tr fw) s) fun t =>
        told t 0x53 .ok ∧ transferOf t.core h.ctx tr = none ∧ obj t.core Key.fwStatus = 0
        ∧ t.core.boot = { s.core.boot with verified := some (fwNum s.core 8 4, fwNum s.core 0xD 1) }
        ∧ obj t.core Key.fwDigest = leNat (fwDigest s.core) ∧ t.core.host.loadBuf = s.core.host.loadBuf)
    ∧ (∀ st, whole y = true → y.kind = 3 → fwVerify s.fuse s.core y.length fw = st → st ≠ .ok → NextWith (exec (.bulkComplete h tr fw) s) fun t =>
        told t 0x53 st ∧ obj t.core Key.fwStatus = st.code ∧ Goals.raised s t 0x0201 ∧ t.core.boot = s.core.boot ∧ t.core.host.loadBuf = [])


/-! ### Ethernet ports and discovery (chapter 13) -/

/-- A frame received on a port is counted. -/
abbrev Sys2Proof.Goals.heard (s t : State) (p : Nat) : Prop :=
  obj t.core (Key.port p 10) = min (obj s.core (Key.port p 10) + 1) (objMax (Key.port p 10)) ∧ t.mem = s.mem ∧ t.core.st = s.core.st

/-- R415, R416, R409: a port's link comes up at a speed that its standard, SPEED_ALLOWED and its gating permit; a port that had a link and
loses it raises HOSTPORT_DOWN; one that had none does not. -/
def Sys2Proof.Goals.EthernetLinks : Prop :=
  ∀ (s : State) (p v : Nat), Runs s → p < 3 →
    let up := obj s.core (Key.port p 2)
    let allowed := if p = 2 then v = 1 else bit (obj s.core Key.gateHostports) p = true
      ∧ ∃ i, i < 3 ∧ v = 100 * 2 ^ i ∧ bit (obj s.core (Key.port p 1)) i = true
    (up = 1 → NextWith (exec (.hostportDown p) s) fun t => obj t.core (Key.port p 2) = 0 ∧ obj t.core (Key.port p 3) = 0
      ∧ Goals.raised s t 0x0501 ∧ (∀ k, (sessionOf t.core k).isSome = (sessionOf s.core k).isSome) ∧ t.mem = s.mem)
    ∧ (up ≠ 1 → exec (.hostportDown p) s = .next s)
    ∧ (allowed → NextWith (exec (.hostportLinkUp p v) s) fun t => obj t.core (Key.port p 2) = 1 ∧ obj t.core (Key.port p 3) = v
      ∧ (up ≠ 1 → t.core.ev = s.core.ev) ∧ (up = 1 → obj s.core (Key.port p 3) ≠ v → Goals.raised s t 0x0501) ∧ t.mem = s.mem)
    ∧ (¬allowed → exec (.hostportLinkUp p v) s = .next s)

/-- R431, R445: SPEED_ALLOWED and VLAN_ID are stored; a VLAN_ID that changes takes the link down, as does a SPEED_ALLOWED that no longer
permits the link's speed or newly permits a higher one. -/
def Sys2Proof.Goals.PortSettingsTakeLinksDown : Prop :=
  ∀ (s : State) (h : Hdr) (x : Session) (p v : Nat), p < 3 →
    let keeps := fun (t : State) => t.mem = s.mem ∧ t.core.st = s.core.st
    (Goals.writes s h x (Key.port p 1) →
      (0 < v → v < 16 → NextWith (exec (.speedAllowed h p v) s) fun t =>
        Goals.wrote t h x (Key.port p 1) .ok ∧ obj t.core (Key.port p 1) = v ∧ keeps t
        ∧ (speedOk (setObj s.core (Key.port p 1) v) p (obj s.core (Key.port p 3)) = false → obj s.core (Key.port p 2) = 1 →
            obj t.core (Key.port p 2) = 0 ∧ Goals.raised s t 0x0501)
        ∧ (v = obj s.core (Key.port p 1) → speedOk s.core p (obj s.core (Key.port p 3)) = true → obj t.core (Key.port p 2) = obj s.core (Key.port p 2)))
      ∧ (v = 0 ∨ 16 ≤ v → NextWith (exec (.speedAllowed h p v) s) fun t =>
        Goals.wrote t h x (Key.port p 1) .range ∧ obj t.core (Key.port p 1) = obj s.core (Key.port p 1) ∧ keeps t))
    ∧ (Goals.writes s h x (Key.port p 8) →
      (v < 4095 → NextWith (exec (.vlanId h p v) s) fun t =>
        Goals.wrote t h x (Key.port p 8) .ok ∧ obj t.core (Key.port p 8) = v ∧ keeps t
        ∧ (v ≠ obj s.core (Key.port p 8) → obj s.core (Key.port p 2) = 1 → obj t.core (Key.port p 2) = 0 ∧ Goals.raised s t 0x0501)
        ∧ (v = obj s.core (Key.port p 8) → obj t.core (Key.port p 2) = obj s.core (Key.port p 2)))
      ∧ (4095 ≤ v → NextWith (exec (.vlanId h p v) s) fun t =>
        Goals.wrote t h x (Key.port p 8) .range ∧ obj t.core (Key.port p 8) = obj s.core (Key.port p 8) ∧ keeps t))

/-- R418, R440: a port with a link sends its LLDPDU and its ANNOUNCE; what a neighbour says of itself is kept until its TTL ends; a
DISCOVER for this serial number, or for any, is answered to its source. -/
def Sys2Proof.Goals.DiscoveryAnswers : Prop :=
  ∀ (s : State) (p : Nat), Runs s → p < 3 →
    let out := fun (t : State) (l : List OutMsg) => t.core.host.out = s.core.host.out ++ l
    let rest := fun (t : State) => t.mem = s.mem ∧ t.core.st = s.core.st ∧ t.core.host.sessions = s.core.host.sessions
    (obj s.core (Key.port p 2) = 1 → NextWith (exec (.lldpduSend p) s) fun t => out t [.lldp p (lldpdu s.fuse s.core p)] ∧ t.core.dict = s.core.dict)
    ∧ (obj s.core (Key.port p 2) ≠ 1 → exec (.lldpduSend p) s = .next s ∧ exec (.announce p) s = .next s)
    ∧ (∀ cid pid ttl, NextWith (exec (.lldpduReceive p cid pid ttl) s) fun t =>
        (ethOf t.core p).peer = some (cid, pid, ttl) ∧ Goals.heard s t p ∧ out t [] ∧ rest t)
    ∧ (NextWith (exec (.lldpPeerExpiry p) s) fun t => ethOf t.core p = { ethOf s.core p with peer := none } ∧ out t [] ∧ rest t)
    ∧ (obj s.core (Key.port p 2) = 1 → NextWith (exec (.announce p) s) fun t => rest t
        ∧ out t (.announce p none false (announceBody s.fuse s.core)
            :: if (ip4Of s.core p).isSome then [.announce p none true (announceBody s.fuse s.core)] else []))
    ∧ (∀ src ser, ser = none ∨ ser = some s.fuse.serial → NextWith (exec (.discover p ⟨src, 50471⟩ ser) s) fun t =>
        Goals.heard s t p ∧ rest t ∧ out t [.announce p (some src) false (announceBody s.fuse s.core)])
    ∧ (∀ src udp ser, ser ≠ s.fuse.serial ∨ udp ≠ 50471 → NextWith (exec (.discover p ⟨src, udp⟩ (some ser)) s) fun t =>
        Goals.heard s t p ∧ rest t ∧ out t [])

/-- R417, R445: ARP for the port's IPv4 address, neighbour solicitations and echo requests are answered; DHCP assigns the address in its
mode; a prefix forms the global address; a discarded frame is counted. -/
def Sys2Proof.Goals.NeighbourProtocols : Prop :=
  ∀ (s : State) (p ip : Nat) (data : Bytes), Runs s → p < 3 →
    let out := fun (t : State) (l : List OutMsg) => t.core.host.out = s.core.host.out ++ l ∧ Goals.heard s t p
    (ip4Of s.core p = some ip → NextWith (exec (.arp p ip) s) fun t => out t [.arp p ip])
    ∧ (ip4Of s.core p ≠ some ip → NextWith (exec (.arp p ip) s) fun t => out t [])
    ∧ (NextWith (exec (.neighbourDiscovery p none) s) fun t => out t [.nd p (ethOf s.core p).pfx] ∧ ethOf t.core p = ethOf s.core p)
    ∧ (NextWith (exec (.neighbourDiscovery p (some ip)) s) fun t => out t [] ∧ (ethOf t.core p).pfx = some ip)
    ∧ (NextWith (exec (.icmpEcho p data) s) fun t => out t [.echo p data])
    ∧ (obj s.core (Key.port p 6) = 1 → ip ≠ 0 → NextWith (exec (.dhcp p ip) s) fun t => out t [.dhcp p ip] ∧ ip4Of t.core p = some ip)
    ∧ (obj s.core (Key.port p 6) ≠ 1 → NextWith (exec (.dhcp p ip) s) fun t => out t [] ∧ ethOf t.core p = ethOf s.core p)
    ∧ (NextWith (exec (.discardedFrame p) s) fun t => out t []
        ∧ obj t.core (Key.port p 11) = min (obj s.core (Key.port p 11) + 1) (objMax (Key.port p 11)))

/-- R417, R445: fragments are held until their datagram is complete; a datagram beyond 16,384 bytes, or one not complete within 1 s, is
discarded and counted. -/
def Sys2Proof.Goals.FragmentsAreReassembled : Prop :=
  ∀ (s : State) (p id size : Nat), Runs s → p < 3 →
    let fr := (ethOf s.core p).frags
    let total := tgetD fr id 0 + size
    let discarded := fun (t : State) => obj t.core (Key.port p 11) = min (obj s.core (Key.port p 11) + 1) (objMax (Key.port p 11))
    (total ≤ 16384 → NextWith (exec (.ipFragment p id size false) s) fun t => (ethOf t.core p).frags = tset fr id total ∧ Goals.heard s t p)
    ∧ (total ≤ 16384 → NextWith (exec (.ipFragment p id size true) s) fun t => (ethOf t.core p).frags = tdel fr id ∧ t.core.dict = s.core.dict)
    ∧ (∀ done, 16384 < total → NextWith (exec (.ipFragment p id size done) s) fun t =>
        (ethOf t.core p).frags = tdel fr id ∧ discarded t ∧ t.core.host.out = s.core.host.out)
    ∧ ((tget fr id).isSome → NextWith (exec (.fragmentTimeout p id) s) fun t => (ethOf t.core p).frags = tdel fr id ∧ discarded t ∧ t.mem = s.mem)
    ∧ (tget fr id = none → exec (.fragmentTimeout p id) s = .next s)

/-! ### Power, cooling, resets and the life cycle (chapters 14 and 15) -/

/-- Only the power record changed. -/
def Sys2Proof.Goals.powerOnly (s : State) (p : Power) : State := withCore s { s.core with power := p }

/-- R450, R451, R452, R457, R481, R489, R490: each cause turns a running stage off, holds the module in reset, takes PWRGOOD low and keeps
its code in the retention register; STAGE_EN breaking keeps no cause. PWRGOOD rises only with the stage, and reset is released only
with both. -/
def Sys2Proof.Goals.PowerStageTurnsOff : Prop :=
  ∀ (s : State), s.core.power.stage = true →
    let p := s.core.power
    let off := { p with stage := false, pwrgood := false, held := true }
    let kept := fun (cause : Nat) => Goals.powerOnly s { off with retained := some cause, faultN := p.housekeeping }
    (∀ mv mw ma i temp, i < 41 → 44000 ≤ mv → mv ≤ 59000 → mw ≤ 5000000 → ma ≤ 110000 →
      i ∉ p.tripped ∨ temp < (thresholds i).2.2 + 5000 → ∀ c ∈ [Instr.undervoltage mv, .overvoltage mv, .overload mw ma, .thermalShutdown i temp],
      exec c s = .next s)
    ∧ (∀ mv, mv < 44000 → exec (.undervoltage mv) s = .next (kept 4))
    ∧ (∀ mv, 59000 < mv → exec (.overvoltage mv) s = .next (kept 5))
    ∧ (∀ mw ma, 5000000 < mw ∨ 110000 < ma → exec (.overload mw ma) s = .next (kept 6))
    ∧ (∀ i temp, p.held = false → i < 41 → i ∈ p.tripped → (thresholds i).2.2 + 5000 ≤ temp → exec (.thermalShutdown i temp) s = .next (kept 7))
    ∧ (exec .stageEnBreak s = .next (Goals.powerOnly s { off with stageEn := false }))
    ∧ (exec .stageEnMate s = .next (Goals.powerOnly s { p with stageEn := true }))
    ∧ (exec .pwrgood s = .next (Goals.powerOnly s { p with pwrgood := true }))
    ∧ (exec .housekeepingSupplyLoss s = .next (Goals.powerOnly s
        { p with housekeeping := false, retained := none, retainedLc := none, faultN := false }))
    ∧ (p.pwrgood = true → p.held = true → exec .resetRelease s = .next (Goals.powerOnly s { p with held := false, faultN := false }))
    ∧ (p.pwrgood = false ∨ p.held = false → exec .resetRelease s = .next s)

/-- R454, R453: the voltage cap of an evaluation is the lower of 4,500 W and the input voltage times 97.5 A, rounded down to 25 W and not
below 1,500 W: 4,475 W at 46.0 V and 4,500 W from 52 V on. -/
def Obligations.VoltageCap : Prop :=
  ∀ (s : State) (mv ma : Nat) (temps : List Int), Runs s → temps.length = 41 →
    NextWith (exec (.powerEvaluation mv ma temps) s) fun t =>
      let w := obj t.core Key.voltageCap
      (15385 ≤ mv → 25 ∣ w ∧ w ≤ 4500 ∧ 10000 * w ≤ 975 * mv ∧ (w = 4500 ∨ 975 * mv < 10000 * (w + 25)))
      ∧ (mv = 46000 → w = 4475) ∧ (52000 ≤ mv → w = 4500) ∧ (mv < 15385 → w = 1500)

/-- R453, R456, R458: an evaluation sets the thermal cap by the sensors, the cap in force to the lowest cap with the lowest code that sets
it, and the readings of the input; above the cap with room below it asks for one multiplier less and raises POWER_LIMIT. -/
def Sys2Proof.Goals.PowerEvaluations : Prop :=
  ∀ (s : State) (mv ma : Nat) (temps : List Int), Runs s → temps.length = 41 →
    let hot := ∃ i, ∃ h : i < temps.length, (thresholds i).1 ≤ temps[i]
    let cool := ∀ i, ∀ h : i < temps.length, temps[i] < (thresholds i).2.1
    let hist := (mv * ma / 1000 :: s.core.power.hist).take 16
    NextWith (exec (.powerEvaluation mv ma temps) s) fun t =>
      let o := fun (k : Nat) => obj t.core k
      let caps := [o Key.powerCap, o Key.voltageCap, o Key.coolantCap, o Key.thermalCap]
      let m := obj s.core Key.opMult
      (hot → o Key.thermalCap = max 1500 (obj s.core Key.thermalCap - 100))
      ∧ (¬hot → cool → o Key.thermalCap = min 4500 (obj s.core Key.thermalCap + 100))
      ∧ (¬hot → ¬cool → o Key.thermalCap = obj s.core Key.thermalCap)
      ∧ (∀ k, k < 4 → o Key.capInForce ≤ min 4500 (caps.getD k 0)) ∧ o Key.powerCap = obj s.core Key.powerCap
      ∧ (∀ k, k < 4 → caps.getD k 0 ≤ 4500 → caps.getD k 0 = o Key.capInForce → o Key.capSource ≤ k)
      ∧ o Key.inputMv = mv ∧ o Key.inputMa = ma ∧ o Key.inputPower = min 65535 (hist.sum / hist.length / 1000)
      ∧ t.core.power.hist = hist ∧ t.mem = s.mem ∧ t.core.st = s.core.st
      ∧ (s.core.clk.queued = none → s.core.clk.direct = none → 15 ≤ s.core.power.sinceChange → running s.core = true →
          (o Key.capInForce * 1000 * hist.length < hist.sum → multFloor s.core < m →
            t.core.clk.queued = some { mult := m - 1, frame := obj s.core Key.frameCount + 4, origin := 2 } ∧ Goals.raised s t 0x0301)
          ∧ (hist.sum ≤ o Key.capInForce * 1000 * hist.length →
              hist.sum * (m + 1) ≤ (o Key.capInForce - 50) * 1000 * hist.length * m → m < powerCeil s.core →
            t.core.clk.queued = some { mult := m + 1, frame := obj s.core Key.frameCount + 4, origin := 2 } ∧ t.core.ev = s.core.ev))
      ∧ (s.core.clk.queued ≠ none ∨ s.core.clk.direct ≠ none ∨ s.core.power.sinceChange + 1 < 16 → t.core.clk = s.core.clk ∧ t.core.ev = s.core.ev)

/-- R450, R455, R456, R457: a coolant measurement gives the coolant cap and raises COOLANT_LIMIT on entry into its conditions; a trip is
THERMAL_TRIP with FAULT_N low, once; INPUT_VOLTAGE is raised on entry into a warning band. -/
def Sys2Proof.Goals.MeasurementsRaiseTheirEvents : Prop :=
  ∀ (s : State), Runs s →
    (∀ (inlet out : Option Int) (flow : Option Nat), NextWith (exec (.coolantMeasurement inlet out flow) s) fun t =>
      let hot := ∀ i, inlet = some i → 45000 < i
      let slow := ∀ f, flow = some f → f < 2500
      let hotter := hot ∧ s.core.power.hot = false
      let slower := slow ∧ s.core.power.slow = false
      (hot ∨ slow → obj t.core Key.coolantCap = 1500)
      ∧ (∀ i f, inlet = some i → flow = some f → ¬hot → ¬slow →
          let eff := if s.core.power.coolant = 1 then 9 * f else 10 * f
          (i ≤ 35000 → 40000 ≤ eff → obj t.core Key.coolantCap = 4500)
          ∧ (35000 < i → 40000 ≤ eff → obj t.core Key.coolantCap = (4500000 - 100 * (i - 35000).toNat) / 25000 * 25)
          ∧ (i ≤ 35000 → eff < 40000 → obj t.core Key.coolantCap = (4500000 - 60 * (40000 - eff)) / 25000 * 25)
          ∧ obj t.core Key.flowMlmin = f)
      ∧ ((hotter ∧ ¬slower) ∨ (slower ∧ ¬hotter) → Goals.raised s t 0x0303) ∧ (¬hotter → ¬slower → t.core.ev = s.core.ev)
      ∧ t.mem = s.mem ∧ t.core.st = s.core.st)
    ∧ (∀ (i : Nat) (temp : Int), i < 41 → (thresholds i).2.2 ≤ temp → i ∉ s.core.power.tripped → NextWith (exec (.thermalTrip i temp) s) fun t =>
      i ∈ t.core.power.tripped ∧ Goals.raised s t 0x0304 ∧ t.core.power.faultN = s.core.power.housekeeping
      ∧ (running s.core = true → s.core.alm.fault = none → ∃ fr, t.core.alm.fault = some (0x0304, 0x0200, fr)) ∧ t.mem = s.mem)
    ∧ (∀ (i : Nat) (temp : Int), i < 41 → temp < (thresholds i).2.2 ∨ i ∈ s.core.power.tripped → exec (.thermalTrip i temp) s = .next s)
    ∧ (∀ mv, (44000 ≤ mv ∧ mv < 46000 ∧ s.core.power.band ≠ 1) ∨ (58000 < mv ∧ mv ≤ 59000 ∧ s.core.power.band ≠ 2) →
        NextWith (exec (.inputVoltage mv) s) fun t => Goals.raised s t 0x0302 ∧ t.core.power.stage = true ∧ t.mem = s.mem)
    ∧ (∀ mv, (44000 ≤ mv ∧ mv < 46000 ∧ s.core.power.band = 1) ∨ (58000 < mv ∧ mv ≤ 59000 ∧ s.core.power.band = 2) →
        exec (.inputVoltage mv) s = .next s)
    ∧ (∀ mv, 46000 ≤ mv → mv ≤ 58000 → exec (.inputVoltage mv) s = .next (Goals.powerOnly s { s.core.power with band := 0 }))

/-! ### Resets, the wipe, boot and the life cycle (chapter 15) -/

/-- What a reset with a cause leaves (R35, R384, R460): RESET_CAUSE, everything else but the pins, the supply and what has left the module
at its reset value, the boot ROM running and the retention register cleared. Memory waits for its wipe. -/
abbrev Sys2Proof.Goals.wasReset (s t : State) (cause : Nat) (held : Bool) : Prop :=
  obj t.core Key.resetCause = cause ∧ almState t.core = 0 ∧ obj t.core Key.wipeStatus = 0 ∧ t.core.alm = Core.reset.alm
    ∧ t.core.st = Core.reset.st ∧ t.core.fl = Core.reset.fl ∧ t.core.fab = Core.reset.fab ∧ t.core.acc = Core.reset.acc
    ∧ t.core.clk = Core.reset.clk ∧ t.core.scale = Core.reset.scale ∧ t.core.host.sessions = [] ∧ t.core.boot.rom = true
    ∧ t.core.boot.sramDone = false ∧ t.core.boot.trained = [] ∧ t.core.boot.burn = none ∧ t.core.power.held = held
    ∧ t.core.power.retained = none ∧ t.core.power.retainedLc = none ∧ t.mem = s.mem ∧ t.pending = s.pending
    ∧ (s.core.boot.burn = none → t.fuse = s.fuse)
    ∧ (∀ old, s.core.power.retainedLc = some old → tgetD t.core.ev.counts 0x0202 0 = if old = t.fuse.lc then 0 else 1)

/-- R460, R451, R488, R481: a reset leaves the reset state with its cause: RESET and the watchdog go on running; RESET_N low for 10 µs holds
the module, a pulse below 1 µs does nothing, and one between is recognised or not; the start of the stage reports the retained cause. -/
def Sys2Proof.Goals.ResetsLeaveTheResetState : Prop :=
  ∀ (s : State),
    (∀ cause, cause < 9 → s.core.power.stage = true → NextWith (exec (.reset cause) s) fun t =>
      Goals.wasReset s t cause s.core.power.held ∧ t.core.host.out = s.core.host.out)
    ∧ (Runs s → s.core.boot.rom = false → NextWith (exec .watchdog s) fun t => Goals.wasReset s t 8 false ∧ t.core.host.out = s.core.host.out)
    ∧ (Runs s → s.core.boot.rom = true → exec .watchdog s = .next s)
    ∧ (∀ n, Runs s →
      (10000 ≤ n → NextWith (exec (.resetN n) s) fun t => Goals.wasReset s t 1 true)
      ∧ (n < 1000 → exec (.resetN n) s = .next s)
      ∧ (1000 ≤ n → n < 10000 → NextWith (exec (.resetN n) s) fun t =>
          Goals.wasReset s t 1 true ∨ t = withCore s { s.core with freeCtr := t.core.freeCtr }))
    ∧ (∀ mv, s.core.power.stage = false → s.core.power.stageEn = true → 45500 ≤ mv → mv ≤ 58000 →
      NextWith (exec (.stageStart mv) s) fun t => Goals.wasReset s t (s.core.power.retained.getD 0) true
        ∧ t.core.power.stage = true ∧ t.core.power.pwrgood = false ∧ t.core.power.housekeeping = true)
    ∧ (∀ mv, s.core.power.stage = true ∨ s.core.power.stageEn = false ∨ mv < 45500 ∨ 58000 < mv → exec (.stageStart mv) s = .next s)

/-- R461, R462, R181, R490: the SRAM wipe zeroes every byte outside HBM; the HBM wipe of a reset starts with the first trained stack and, once
SRAM is wiped and every stack trained, zeroes all of HBM and leaves no error in it: WIPE_DONE, WIPE_STATUS 1; a stack that takes too long makes it 2. -/
def Sys2Proof.Goals.WipesClearMemory : Prop :=
  ∀ (s : State), Runs s →
    let c := s.core
    (c.boot.sramDone = false → NextWith (exec .sramWipeDone s) fun t =>
      t.core.boot.sramDone = true ∧ t.core.dict = c.dict ∧ ∀ a, mread t.mem a = if inHbm a then mread s.mem a else 0)
    ∧ (∀ k, k < 32 → k ∉ c.boot.trained → NextWith (exec (.hbmTrainingDone k) s) fun t =>
      t.core.boot.trained = c.boot.trained ++ [k] ∧ t.mem = s.mem ∧ t.core.dict = c.dict
      ∧ (c.boot.trained = [] → c.boot.hbmWipe = none → obj c Key.wipeStatus = 0 → t.core.boot.hbmWipe = some (obj c Key.resetCause))
      ∧ (c.boot.trained ≠ [] → t.core.boot.hbmWipe = c.boot.hbmWipe))
    ∧ (∀ k us, c.boot.hbmWipe = some k →
      (k ≠ 0x10 → c.boot.sramDone = true → (∀ i, i < 32 → i ∈ c.boot.trained) → NextWith (exec (.hbmWipeDone us) s) fun t =>
        obj t.core Key.wipeStatus = 1 ∧ obj t.core Key.wipeTime = us ∧ t.core.boot.hbmWipe = none ∧ Goals.raised s t 0x0203
        ∧ (∀ a, mread t.mem a = if inHbm a then 0 else mread s.mem a) ∧ ∀ a, inHbm a = true → a ∉ t.core.ecc.double)
      ∧ (k ≠ 0x10 → c.boot.sramDone = false ∨ (∃ i, i < 32 ∧ i ∉ c.boot.trained) → exec (.hbmWipeDone us) s = .next s)
      ∧ (∀ i, i < 32 → NextWith (exec (.wipeTimeout i) s) fun t =>
        obj t.core Key.wipeStatus = 2 ∧ t.core.boot.hbmWipe = none ∧ t.core.power.faultN = c.power.housekeeping ∧ t.mem = s.mem))
    ∧ (c.boot.hbmWipe = none → (∀ us, exec (.hbmWipeDone us) s = .next s) ∧ ∀ i, i < 32 → exec (.wipeTimeout i) s = .next s)

/-- R464, R467: the verified firmware runs once the wipe is complete, and not before, and is announced on every port with a link. -/
def Sys2Proof.Goals.HandoverRunsTheFirmware : Prop :=
  ∀ (s : State), Runs s →
    let c := s.core
    (∀ v key, c.boot.verified = some (v, key) → c.boot.rom = true → obj c Key.wipeStatus = 1 → NextWith (exec .handover s) fun t =>
      t.core.boot = { c.boot with rom := false, fwKey := key, verified := none } ∧ obj t.core Key.fwVersion = v
      ∧ ObjectsKept s t [Key.fwVersion] ∧ t.mem = s.mem ∧ t.fuse = s.fuse ∧ t.core.st = c.st
      ∧ ∀ p, p < 3 → obj c (Key.port p 2) = 1 → ∃ bs, OutMsg.announce p none false bs ∈ t.core.host.out)
    ∧ (c.boot.verified = none ∨ c.boot.rom = false ∨ obj c Key.wipeStatus ≠ 1 → exec .handover s = .next s)

/-- R468: the firmware minimum rises to a value up to the running version, 32 times at most; a key that verifies the running firmware, or the
last one left, cannot be revoked. -/
def Sys2Proof.Goals.FusedFirmwareVersions : Prop :=
  ∀ (s : State) (h : Hdr) (x : Session) (v : Nat),
    let others := ∃ k, k < 4 ∧ k ≠ v ∧ k ∉ s.fuse.revokedKeys
    (Goals.writes s h x Key.fwRaiseMin →
      let runs := exec (.fwRaiseMin h v) s
      let ans := fun (st : Status) (fu : Fuses) => NextWith runs fun t => Goals.wrote t h x Key.fwRaiseMin st ∧ t.fuse = fu ∧ t.mem = s.mem
      (s.core.boot.rom = true → ans .state s.fuse)
      ∧ (s.core.boot.rom = false → s.fuse.minVersion < v → v ≤ obj s.core Key.fwVersion → s.fuse.raises < 32 →
        ans .ok { s.fuse with minVersion := v, raises := s.fuse.raises + 1 })
      ∧ (s.core.boot.rom = false → s.fuse.minVersion < v → v ≤ obj s.core Key.fwVersion → 32 ≤ s.fuse.raises → ans .state s.fuse)
      ∧ (s.core.boot.rom = false → v = s.fuse.minVersion → v ≤ obj s.core Key.fwVersion → ans .ok s.fuse)
      ∧ (s.core.boot.rom = false → v < s.fuse.minVersion ∨ obj s.core Key.fwVersion < v → ans .range s.fuse))
    ∧ (Goals.writes s h x Key.eonelRevoke →
      let runs := exec (.eonelRevoke h v) s
      let ans := fun (st : Status) (fu : Fuses) => NextWith runs fun t => Goals.wrote t h x Key.eonelRevoke st ∧ t.fuse = fu ∧ t.mem = s.mem
      (4 ≤ v → ans .range s.fuse)
      ∧ (v < 4 → s.core.boot.rom = false → s.core.boot.fwKey = v → ans .state s.fuse)
      ∧ (v < 4 → s.core.boot.rom = true ∨ s.core.boot.fwKey ≠ v → v ∉ s.fuse.revokedKeys →
        (others → ans .ok { s.fuse with revokedKeys := s.fuse.revokedKeys ++ [v] }) ∧ (¬others → ans .state s.fuse))
      ∧ (v < 4 → s.core.boot.rom = true ∨ s.core.boot.fwKey ≠ v → v ∈ s.fuse.revokedKeys → ans .ok s.fuse))

/-- R471, R473: ATTEST_NONCE takes the report's values at that moment, in the states that attest; ATTEST_READY appends the signature of the
device identity over them. -/
def Sys2Proof.Goals.AttestationReports : Prop :=
  ∀ (s : State) (h : Hdr) (x : Session) (data : Bytes),
    let report := fun (t : State) (ctx : Nat) => (sessionOf t.core ctx).bind fun y => y.report
    (Goals.writes s h x Key.attestNonce →
      (data.length = 32 → s.fuse.lc = 1 ∨ s.fuse.lc = 2 → NextWith (exec (.attestNonce h data) s) fun t =>
        Goals.wrote t h x Key.attestNonce .ok ∧ report t h.ctx = some { ready := false, report := attestBody s.fuse s.core data } ∧ t.mem = s.mem)
      ∧ (data.length = 32 → s.fuse.lc ≠ 1 → s.fuse.lc ≠ 2 → NextWith (exec (.attestNonce h data) s) fun t =>
        Goals.wrote t h x Key.attestNonce .state ∧ report t h.ctx = x.report ∧ t.mem = s.mem)
      ∧ (data.length ≠ 32 → NextWith (exec (.attestNonce h data) s) fun t =>
        Goals.wrote t h x Key.attestNonce .range ∧ report t h.ctx = x.report ∧ t.mem = s.mem))
    ∧ (∀ ctx, ctx < 4096 → Runs s →
      (∀ bs, report s ctx = some { ready := false, report := bs } → NextWith (exec (.attestReady ctx) s) fun t =>
        report t ctx = some { ready := true, report := bs ++ identitySig s.fuse bs } ∧ t.mem = s.mem ∧ t.core.dict = s.core.dict)
      ∧ ((∀ bs, report s ctx ≠ some { ready := false, report := bs }) → exec (.attestReady ctx) s = .next s))

/-- What a command of LC_COMMAND burns, and the life-cycle states it is accepted in (R475). -/
def Sys2Proof.Goals.burns (s : State) (h : Hdr) (e : Nat) : List (Instr × List Nat × Prop × Burn) :=
  let goes := fun (n : Nat) (rev dis : Bool) => ({ target := n, revoke := rev, fill := none, disable := dis } : Burn)
  let next := obj s.core Key.nextOwner
  [(.accept h e, [1], True, goes 2 false false), (.release h e, [1, 2], True, goes 3 true false), (.returnModule h e, [1, 2], True, goes 4 true false),
   (.scrap h e, [2], True, goes 5 true true),
   (.transfer h e, [2], next ≠ 0 ∧ s.fuse.slots.length < 16,
    { target := 1, revoke := true, fill := some (leBytes 64 next, bits next 512 8), disable := false })]

/-- R474, R475, R476: a command of LC_COMMAND with this boot's epoch, in a life-cycle state of its row, with no Almanac loaded, begins to burn
its fuses and keeps the old state; otherwise STATE, or RANGE for another epoch. When the burn ends the fuses hold the new state and
the slots say so, and the module resets with cause LIFECYCLE. -/
def Sys2Proof.Goals.LifeCycleCommands : Prop :=
  ∀ (s : State),
    (∀ (h : Hdr) (x : Session) (e : Nat), Goals.writes s h x Key.lcCommand → ∀ row ∈ Goals.burns s h e,
      let ready := row.2.1.contains s.fuse.lc = true ∧ row.2.2.1 ∧ emptyOrStopped s.core = true ∧ s.core.boot.burn = none
      (e = bootEpoch s.core → ready → NextWith (exec row.1 s) fun t =>
        Goals.wrote t h x Key.lcCommand .ok ∧ t.core.boot = { s.core.boot with burn := some row.2.2.2 }
        ∧ t.core.power.retainedLc = some s.fuse.lc ∧ t.fuse = s.fuse ∧ t.mem = s.mem)
      ∧ (e = bootEpoch s.core → ¬ready → NextWith (exec row.1 s) fun t => Goals.refusedWrite s t h x Key.lcCommand .state)
      ∧ (e ≠ bootEpoch s.core → NextWith (exec row.1 s) fun t => Goals.refusedWrite s t h x Key.lcCommand .range))
    ∧ (∀ b, Runs s → s.core.boot.burn = some b → NextWith (exec .fuseBurnDone s) fun t =>
      t.fuse.lc = b.target ∧ t.fuse.disabled = (s.fuse.disabled || b.disable) ∧ t.fuse.minVersion = s.fuse.minVersion
      ∧ (b.fill = none → t.fuse.slots.length = s.fuse.slots.length ∧ (b.revoke = true → ∀ y ∈ t.fuse.slots, y.revoked = true))
      ∧ (∀ d p, b.fill = some (d, p) → b.revoke = true → enrolled t.fuse = some { digest := d, policy := p, revoked := false })
      ∧ (b.revoke = false → b.fill = none → t.fuse.slots = s.fuse.slots)
      ∧ Goals.wasReset s t 3 false ∧ t.core.host.out = s.core.host.out)
    ∧ (Runs s → s.core.boot.burn = none → exec .fuseBurnDone s = .next s)
    ∧ (∀ (h : Hdr) (x : Session) (e : Nat), Goals.writes s h x Key.lcCommand → s.core.boot.burn = none →
      (e ≠ bootEpoch s.core → NextWith (exec (.lcReset h e) s) fun t => Goals.refusedWrite s t h x Key.lcCommand .range)
      ∧ (e = bootEpoch s.core → s.fuse.lc = 1 ∨ s.fuse.lc = 2 → NextWith (exec (.lcReset h e) s) fun t => Goals.wrote t h x Key.lcCommand .ok ∧ Goals.wasReset s t 2 false)
      ∧ (e = bootEpoch s.core → s.fuse.lc ≠ 1 → s.fuse.lc ≠ 2 → NextWith (exec (.lcReset h e) s) fun t => Goals.refusedWrite s t h x Key.lcCommand .state))

/-! ### The Almanac's commands (chapter 11) -/

/-- The core as a new request leaves it to the rule of the object it writes: the frame counted, the session heard (R421, R445). -/
def Sys2Proof.Goals.received (s : State) (h : Hdr) (x : Session) : Core :=
  let c := hearCtx (countRx s.core h.port) h
  setSession c h.ctx { x with heard := obj s.core Key.uptimeTicks, port := h.port, source := h.source, h := h.seq }

/-- R353, R360: LOAD is taken in production with nothing loaded and no wipe under way, and the check begins; else STATE. At its end the first
failure goes to LOAD_STATUS and CHECK_REPORT and leaves what was there; with none the image is LOADED, its numbers show in their
objects, and instruction memory holds its code and zero elsewhere. -/
def Sys2Proof.Goals.LoadChecksThenInstalls : Prop :=
  ∀ (s : State) (k : Container),
    (∀ (h : Hdr) (x : Session), Goals.writes s h x Key.almanacCmd →
      let ready := s.fuse.lc = 2 ∧ emptyOrStopped s.core = true ∧ obj s.core Key.hbmWiping ≠ 1
      (ready → NextWith (exec (.loadImage h k) s) fun t =>
        Goals.wrote t h x Key.almanacCmd .ok ∧ almState t.core = 1 ∧ t.core.alm = { s.core.alm with checking := some k, before := almState s.core }
        ∧ t.mem = s.mem)
      ∧ (¬ready → NextWith (exec (.loadImage h k) s) fun t =>
        Goals.wrote t h x Key.almanacCmd .state ∧ almState t.core = almState s.core ∧ obj t.core Key.loadStatus = Status.state.code
        ∧ t.core.alm = { s.core.alm with checkReport := [1] } ∧ t.mem = s.mem))
    ∧ (Runs s → s.core.alm.checking = some k → almState s.core = 1 →
      (∀ st rep, loadFault s.fuse s.core k = some (st, rep) → NextWith (exec .loadCheckDone s) fun t =>
        almState t.core = s.core.alm.before ∧ obj t.core Key.loadStatus = st.code ∧ t.mem = s.mem
        ∧ t.core.alm = { s.core.alm with checking := none, checkReport := rep })
      ∧ (loadFault s.fuse s.core k = none → NextWith (exec .loadCheckDone s) fun t =>
        almState t.core = 2 ∧ obj t.core Key.loadStatus = 0 ∧ t.core.alm.checking = none
        ∧ t.core.alm.image = some { k.image with widths := imageWidths k }
        ∧ obj t.core Key.frameTicks = k.image.frameTicks ∧ obj t.core Key.imageProfile = k.profile ∧ obj t.core Key.auditK = k.image.auditK
        ∧ obj t.core Key.multRange = k.image.mMin + 256 * k.image.mMax ∧ t.core.st = s.core.st ∧ t.core.fl = s.core.fl
        ∧ (k.image.code = [] → ∀ a, mread t.mem a = if inImem a then 0 else mread s.mem a)
        ∧ (∀ r, k.image.code = [r] → MemoryInv s → r.station < 192 → r.start + r.words.length ≤ 8192 → (∀ w ∈ r.words, w < 2 ^ 64) →
            (∀ i w, r.words[i]? = some w → imemWord t.mem r.station (r.start + i) = w)
            ∧ ∀ a, a < ctlBase r.station + 8 * r.start ∨ ctlBase r.station + 8 * (r.start + r.words.length) ≤ a →
                mread t.mem a = if inImem a then 0 else mread s.mem a)))
    ∧ (s.core.alm.checking = none ∨ almState s.core ≠ 1 → exec .loadCheckDone s = .next s)

/-- R367, R244, R251, R215, R65, R401: an accepted START arms the Almanac: frame, step and commit counts restart, every crossing is aligned,
every sequencer is IDLE with its registers cleared and its declared descriptors, every declared semaphore and scale entry at its
declared value, and no plane loaded. One that a rule refuses gets that rule's status and arms nothing. -/
def Sys2Proof.Goals.StartArmsTheAlmanac : Prop :=
  ∀ (s : State) (h : Hdr) (x : Session), Goals.writes s h x Key.almanacCmd →
    (∀ im, s.core.alm.image = some im →
      let r := startRefusal (Goals.received s h x) im
      (r.2 = .ok → NextWith (exec (.start h) s) fun t =>
        Goals.wrote t h x Key.almanacCmd .ok ∧ almState t.core = 3 ∧ t.core.alm.zeroTick = obj s.core Key.startTick
        ∧ obj t.core Key.frameCount = 0 ∧ obj t.core Key.commits = 0 ∧ obj t.core Key.stepNumber = obj s.core Key.startStep
        ∧ obj t.core Key.stopCause = 0 ∧ obj t.core Key.consecAborts = 0 ∧ t.core.alm.hold = HoldState.reset
        ∧ obj t.core Key.scaleEntriesUsed = im.scales.length ∧ t.core.alm.lost = [] ∧ t.core.alm.starts = [] ∧ t.core.fab.transit = [] ∧ t.core.clk.slips = [] ∧ (∀ a b, skewOf t.core a b = 0)
        ∧ obj t.core Key.commitState = (if obj s.core Key.commitState = 4 then 4 else 1) ∧ t.core.power.faultN = false ∧ t.mem = s.mem
        ∧ (∀ g, g < 192 → (stn t.core g).seq = { Seq.reset with state := .idle } ∧ (stn t.core g).arr.plane0.tag = none
            ∧ (stn t.core g).arr.plane1.tag = none ∧ (stn t.core g).arr.tile0 = (stn s.core g).arr.tile0 ∧ (stn t.core g).watches = []
            ∧ ∀ d ∈ im.desc, d.station = g → (∀ e ∈ im.desc, e.station = g → e.entry = d.entry → e = d) →
                tget (stn t.core g).desc d.entry = some d.value)
        ∧ (∀ d ∈ im.sems, d.field < 8 → (∀ e ∈ im.sems, e.field = d.field → e.num = d.num → e = d) →
            semOf t.core d.field d.num = startSem s.core d)
        ∧ (∀ f k, f < 8 → (∀ d ∈ im.sems, ¬(d.field = f ∧ d.num = k)) → (semOf t.core f k).valid = false)
        ∧ (∀ d ∈ im.scales, (∀ e ∈ im.scales, e.entry = d.entry → e = d) → tget t.core.scale d.entry = some (startScale d)))
      ∧ (r.2 ≠ .ok → NextWith (exec (.start h) s) fun t =>
        Goals.wrote t h x Key.almanacCmd r.2 ∧ almState t.core = almState s.core ∧ t.core.alm = s.core.alm ∧ t.core.st = s.core.st
        ∧ t.core.fl = s.core.fl ∧ t.mem = s.mem))
    ∧ (s.core.alm.image = none ∨ (almState s.core ≠ 2 ∧ almState s.core ≠ 6) → NextWith (exec (.start h) s) fun t =>
        Goals.refusedWrite s t h x Key.almanacCmd .state)
    ∧ (∀ im, s.core.alm.image = some im → almState s.core = 2 ∨ almState s.core = 6 →
        obj s.core Key.startTick < obj s.core Key.domainTick + 2 * im.frameTicks ∨ obj s.core Key.domainTick + 100000000 < obj s.core Key.startTick →
        NextWith (exec (.start h) s) fun t => Goals.refusedWrite s t h x Key.almanacCmd .range)

/-- R370, R371: STOP names the boundary after the frame of STOP_AT: the present frame for 0, the end of the step cycle for all ones; a past frame is
RANGE, and STATE where none runs. UNLOAD leaves no image. -/
def Sys2Proof.Goals.StopAndUnload : Prop :=
  ∀ (s : State) (h : Hdr) (x : Session), Goals.writes s h x Key.almanacCmd →
    (∀ im, s.core.alm.image = some im →
      let v := obj s.core Key.stopAt
      let f := obj s.core Key.frameCount
      let p := im.prologue.length
      let n := im.cycle.length
      let set := fun (b : Nat) => NextWith (exec (.stop h) s) fun t =>
        Goals.wrote t h x Key.almanacCmd .ok ∧ t.core.alm = { s.core.alm with stopAt := some b } ∧ almState t.core = almState s.core ∧ t.mem = s.mem
      (running s.core = true →
        (v = 0 → set (f + 1)) ∧ (v ≠ 0 → v ≠ 2 ^ 64 - 1 → f ≤ v → set (v + 1))
        ∧ (v ≠ 0 → v ≠ 2 ^ 64 - 1 → v < f → NextWith (exec (.stop h) s) fun t => Goals.refusedWrite s t h x Key.almanacCmd .range)
        ∧ (v = 2 ^ 64 - 1 → 0 < n → ∃ b, set b ∧ f < b ∧ p < b ∧ n ∣ b - p ∧ b ≤ max (f + 1) (p + 1) + (n - 1)))
      ∧ (running s.core = false → NextWith (exec (.stop h) s) fun t => Goals.refusedWrite s t h x Key.almanacCmd .state))
    ∧ (almState s.core = 2 ∨ almState s.core = 6 → NextWith (exec (.unload h) s) fun t =>
        Goals.wrote t h x Key.almanacCmd .ok ∧ almState t.core = 0 ∧ t.core.alm.image = none ∧ obj t.core Key.frameTicks = 0
        ∧ obj t.core Key.imageProfile = 0 ∧ t.core.scale = [] ∧ obj t.core Key.scaleEntriesUsed = 0 ∧ t.mem = s.mem ∧ t.core.st = s.core.st)
    ∧ (almState s.core ≠ 2 → almState s.core ≠ 6 → NextWith (exec (.unload h) s) fun t => Goals.refusedWrite s t h x Key.almanacCmd .state)

/-- R20, R367, R495: at START_TICK an armed module begins frame 0: RUNNING, with its marker on every UP port. -/
def Sys2Proof.Goals.FrameZeroBegins : Prop :=
  ∀ (s : State), Runs s →
    (almState s.core = 3 → s.core.clk.stopped = false → s.core.alm.hold.heldAt = none → NextWith (exec .frameZero s) fun t =>
      almState t.core = 4 ∧ obj t.core Key.frameCount = obj s.core Key.frameCount ∧ t.mem = s.mem ∧ t.core.alm = s.core.alm
      ∧ (∃ l, t.core.host.out = s.core.host.out ++ l ++ (upPorts s.core).map (fun p => OutMsg.notice p (.marker 0 false))
          ∧ (s.core.fab.transit = [] → l = []))
      ∧ (obj s.core Key.domainTick ≤ s.core.alm.zeroTick → s.core.alm.zeroTick < 2 ^ 64 → obj t.core Key.domainTick = s.core.alm.zeroTick))
    ∧ (almState s.core ≠ 3 ∨ s.core.clk.stopped = true → exec .frameZero s = .next s)

/-- Every byte outside the idle working copies reads as before (R143, R168). -/
abbrev Sys2Proof.Goals.outsideIdle (s t : State) : Prop :=
  ∀ a, (∀ p ∈ idleBuffers s.core, a < p.1 ∨ p.1 + p.2 ≤ a) → mread t.mem a = mread s.mem a

/-- R166, R167, R165: RESOLVE settles an undecided step as its write says: COMMIT flips the double buffers and counts the step, leaving a pending
APPLY; ABORT forgets the step, raises STEP_ABORT and leaves the idle working copies undefined (R168); with nothing to settle, STATE. -/
def Sys2Proof.Goals.ResolveSettlesTheStep : Prop :=
  ∀ (s : State) (h : Hdr) (x : Session), Goals.writes s h x Key.resolve →
    let step := obj s.core Key.stepNumber
    (obj s.core Key.commitState = 3 →
      (NextWith (exec (.resolveCommit h) s) fun t =>
        Goals.wrote t h x Key.resolve .ok ∧ obj t.core Key.commitState = 4 ∧ obj t.core Key.stepNumber = (step + 1) % 2 ^ 32
        ∧ obj t.core Key.commits = min (obj s.core Key.commits + 1) (objMax Key.commits) ∧ t.mem = s.mem ∧ t.core.st = s.core.st
        ∧ ∀ k, tget t.core.scale k = (tget s.core.scale k).map fun e => if e.dbuf then { e with active := !e.active } else e)
      ∧ (NextWith (exec (.resolveAbort h) s) fun t =>
        Goals.wrote t h x Key.resolve .ok ∧ obj t.core Key.commitState = 0 ∧ obj t.core Key.stepNumber = step
        ∧ obj t.core Key.commits = obj s.core Key.commits ∧ Goals.raised s t 0x0808 ∧ Goals.outsideIdle s t
        ∧ ∀ k, tget t.core.scale k = (tget s.core.scale k).map fun e => { e with pend := [], nan := [], satRaised := false, amax := none }))
    ∧ (obj s.core Key.commitState ≠ 3 → ∀ i ∈ [Instr.resolveCommit h, .resolveAbort h],
        NextWith (exec i s) fun t => Goals.refusedWrite s t h x Key.resolve .state)

/-! ### Frames, the vote and holds (chapters 03, 09 and 11) -/

/-- A running module in a frame that ends at boundary `b`, outside HOLDOVER. -/
abbrev Sys2Proof.Goals.inFrame (s : State) (b : Nat) : Prop :=
  Runs s ∧ almState s.core = 4 ∧ b = obj s.core Key.frameCount + 1 ∧ obj s.core Key.refActive ≠ 3 ∧ s.core.alm.hold.heldAt = none

/-- No cause to stop stands against boundary `b`, a vote's apart (R370, R372, R20). -/
abbrev Sys2Proof.Goals.noStop (s : State) (b : Nat) : Prop :=
  s.core.alm.fault = none ∧ s.core.alm.mismatch = false ∧ ∀ v, s.core.alm.stopAt = some v → b < v

/-- Whether the frame in progress ends in a vote (R162). -/
abbrev Sys2Proof.Goals.votes (s : State) : Prop := ((curTemplate s.core).bind fun x => x.vote).isSome = true

/-- The domain tick count stands at boundary `b` (R19), if it had not passed it. -/
abbrev Sys2Proof.Goals.atBoundary (s t : State) (b : Nat) : Prop :=
  let at' := s.core.alm.zeroTick + b * obj s.core Key.frameTicks
  obj s.core Key.domainTick ≤ at' → at' < 2 ^ 64 → obj t.core Key.domainTick = at'

/-- The Almanac has stopped with a cause (R371): STOPPED, every sequencer STOPPED and every stream IDLE, no semaphore valid. -/
abbrev Sys2Proof.Goals.stopped (s t : State) (cause : Nat) : Prop :=
  almState t.core = 6 ∧ obj t.core Key.stopCause = cause ∧ Goals.raised s t 0x0B02 ∧ t.core.alm.hold = HoldState.reset
    ∧ (cause ≠ 3 → t.mem = s.mem) ∧ Goals.outsideIdle s t
    ∧ (∀ g i, (stn t.core g).seq.state = .stopped ∧ (strm (stn t.core g) i).state = 0) ∧ ∀ f k, f < 8 → (semOf t.core f k).valid = false

/-- The notice of a boundary on some ports. -/
abbrev Sys2Proof.Goals.sent (t : State) (ps : List Nat) (n : Notice) : Prop := ∀ p ∈ ps, OutMsg.notice p n ∈ t.core.host.out

/-- R19, R20, R22, R310: at a boundary without vote, hold or stop the next frame begins with its marker on every UP port; a segment that still
owes its END at it is FRAME_OVERRUN, and its HOLD notice names the boundary after; at a boundary of a HOLD notice the module is HELD
instead, and reports READY as soon as its closing conditions hold. -/
def Sys2Proof.Goals.FramesFollowEachOther : Prop :=
  ∀ (s : State) (b : Nat), Goals.inFrame s b → ¬Goals.votes s → Goals.noStop s b →
    let seen := s.core.alm.hold.notices
    (b ∉ seen → (∀ q ∈ s.core.alm.segs, q.2 ≠ b) → NextWith (exec .frameBoundary s) fun t =>
      almState t.core = 4 ∧ obj t.core Key.frameCount = b ∧ t.core.alm.decided = false ∧ Goals.atBoundary s t b ∧ t.mem = s.mem
      ∧ t.core.ev.counts = s.core.ev.counts ∧ t.core.alm.hold.notices = seen ∧ t.core.alm.starts = []
      ∧ (∀ p, s.core.fab.transit = [] → (portOf t.core p).used = [])
      ∧ ∃ l, t.core.host.out = s.core.host.out ++ l ++ (upPorts s.core).map (fun p => OutMsg.notice p (.marker b false))
          ∧ (s.core.fab.transit = [] → l = []))
    ∧ (b ∉ seen → (∃ q ∈ s.core.alm.segs, q.2 = b) → NextWith (exec .frameBoundary s) fun t =>
      almState t.core = 4 ∧ obj t.core Key.frameCount = b ∧ Goals.raised s t 0x0608 ∧ b + 1 ∈ t.core.alm.hold.notices
      ∧ obj t.core Key.holdState = 1 ∧ (b + 1 ∉ seen → Goals.sent t (jobPorts s.core) (.hold (b + 1))) ∧ t.mem = s.mem)
    ∧ (b ∈ seen → NextWith (exec .frameBoundary s) fun t =>
      almState t.core = 5 ∧ t.core.alm.hold.heldAt = some b ∧ obj t.core Key.frameCount = obj s.core Key.frameCount
      ∧ obj t.core Key.holds = min (obj s.core Key.holds + 1) (objMax Key.holds) ∧ Goals.atBoundary s t b ∧ t.mem = s.mem
      ∧ Goals.sent t (upPorts s.core) (.marker b true)
      ∧ (closingMet s.core b = false → obj t.core Key.holdState = 2 ∧ t.core.alm.hold.ready = s.core.alm.hold.ready)
      ∧ (closingMet s.core b = true → (ownMod s.core, b) ∈ t.core.alm.hold.ready))

/-- R164, R165, R166, R63, R370: the vote's result decides at the commit boundary: COMMIT counts the step and updates every scale; ABORT, by the
result or by the module's own contribution, keeps the scales, raises STEP_ABORT and leaves the idle working copies undefined (R168); a lost vote leaves the step undecided and stops
the Almanac; a vote still open holds the domain. -/
def Sys2Proof.Goals.VotesDecideTheStep : Prop :=
  ∀ (s : State) (b : Nat), Goals.inFrame s b → Goals.votes s →
    let v := s.core.alm.vote
    let step := obj s.core Key.stepNumber
    let same := fun (t : State) => obj t.core Key.commits = obj s.core Key.commits ∧ obj t.core Key.stepNumber = step
    (v.result = some true → NextWith (exec .frameBoundary s) fun t =>
      obj t.core Key.commits = min (obj s.core Key.commits + 1) (objMax Key.commits) ∧ obj t.core Key.stepNumber = (step + 1) % 2 ^ 32
      ∧ obj t.core Key.lastVoteStep = step ∧ obj t.core Key.lastOutcome = 1 ∧ obj t.core Key.consecAborts = 0
      ∧ t.core.scale = s.core.scale.map (fun e => (e.1, updateScale e.2)) ∧ t.mem = s.mem
      ∧ ∀ g, (stn t.core g).dfw.entries = if almState t.core = 6 then [] else (stn s.core g).dfw.entries)
    ∧ (v.result = some false ∨ (v.result = none ∧ v.own = some 1) → NextWith (exec .frameBoundary s) fun t =>
      same t ∧ Goals.outsideIdle s t ∧ obj t.core Key.lastVoteStep = step ∧ obj t.core Key.lastOutcome = 2 ∧ Goals.raised s t 0x0808
      ∧ obj t.core Key.consecAborts = min (obj s.core Key.consecAborts + 1) (objMax Key.consecAborts)
      ∧ t.core.scale = s.core.scale.map (fun e => (e.1, clearPending e.2)) ∧ ∀ g, (stn t.core g).dfw.entries = [])
    ∧ (v.result = none → v.own ≠ some 1 →
      (b ∉ s.core.alm.hold.notices → v.lost = true → NextWith (exec .frameBoundary s) fun t =>
        same t ∧ t.mem = s.mem ∧ obj t.core Key.lastOutcome = 3 ∧ obj t.core Key.commitState = 3 ∧ Goals.raised s t 0x0809 ∧ Goals.stopped s t 6)
      ∧ (b ∈ s.core.alm.hold.notices ∨ v.lost = false → NextWith (exec .frameBoundary s) fun t =>
        same t ∧ t.mem = s.mem ∧ almState t.core = 5 ∧ t.core.alm.hold.heldAt = some b ∧ t.core.alm.voted = true
        ∧ (obj s.core Key.commitState = 1 → obj t.core Key.commitState = 2)))

/-- R20, R370, R371, R372: at a boundary without a vote a fault stops the Almanac first, a marker mismatch second, a host's STOP last; after a
vote STEPS_TO_RUN commits and ABORT_LIMIT aborts in succession do. A held module stops where it stands. -/
def Sys2Proof.Goals.StopsComeAtBoundaries : Prop :=
  ∀ (s : State) (b : Nat),
    let a := s.core.alm
    (Goals.inFrame s b → ¬Goals.votes s →
      (∀ q, a.fault = some q → NextWith (exec .frameBoundary s) fun t =>
        Goals.stopped s t 4 ∧ Goals.raised s t 0x0B01 ∧ t.core.alm.lastFault = q ∧ t.core.power.faultN = s.core.power.housekeeping)
      ∧ (a.fault = none → a.mismatch = true → NextWith (exec .frameBoundary s) fun t => Goals.stopped s t 5)
      ∧ (∀ v, a.fault = none → a.mismatch = false → a.stopAt = some v → v ≤ b → NextWith (exec .frameBoundary s) fun t => Goals.stopped s t 1))
    ∧ (Goals.inFrame s b → Goals.votes s → a.fault = none → a.mismatch = false → (∀ im, a.image = some im → ∀ d ∈ im.sems, d.commit = false) →
      (a.vote.result = some true → obj s.core Key.stepsToRun ≠ 0 → obj s.core Key.stepsToRun ≤ obj s.core Key.commits + 1 →
        obj s.core Key.commits < objMax Key.commits → NextWith (exec .frameBoundary s) fun t => Goals.stopped s t 2)
      ∧ (a.vote.result = some false → obj s.core Key.abortLimit ≠ 0 → obj s.core Key.abortLimit ≤ obj s.core Key.consecAborts + 1 →
        obj s.core Key.consecAborts < objMax Key.consecAborts → NextWith (exec .frameBoundary s) fun t => Goals.stopped s t 3))
    ∧ (Runs s → almState s.core = 5 → a.hold.heldAt = some b → a.voted = false →
      (∀ q, a.fault = some q → NextWith (exec .frameBoundary s) fun t => Goals.stopped s t 4) ∧ (Goals.noStop s b → exec .frameBoundary s = .next s))
    ∧ (almState s.core ≠ 4 → a.hold.heldAt = none → exec .frameBoundary s = .next s)

/-- R131, R163: at the vote point the module fixes its contribution, 1 where any reason bit is set, with DFW_LATE for each station whose
deferred-W work is late; once only. -/
def Sys2Proof.Goals.VotePointFixesTheContribution : Prop :=
  ∀ (s : State), Runs s →
    (∀ im off, s.core.alm.image = some im → ((curTemplate s.core).bind fun x => x.vote) = some off → almState s.core = 4 → s.core.alm.vote.own = none →
      NextWith (exec .votePoint s) fun t =>
        let why := obj t.core Key.voteReason
        let own := if why = 0 then 0 else 1
        t.core.alm.vote = { s.core.alm.vote with own := some own } ∧ obj t.core Key.ownVote = own ∧ why < 128 ∧ t.mem = s.mem
        ∧ bit why 0 = !(lateStations s.core im).isEmpty ∧ bit why 1 = s.core.alm.marks.integrity ∧ bit why 2 = s.core.alm.marks.window
        ∧ bit why 3 = s.core.alm.marks.lost ∧ bit why 4 = idleWriting s.core ∧ bit why 5 = s.core.alm.marks.nonfinite
        ∧ bit why 6 = stepOpen s.core im
        ∧ (lateStations s.core im = [] → t.core.ev = s.core.ev)
        ∧ (∀ g, lateStations s.core im = [g] → Goals.raised s t 0x0806))
    ∧ (s.core.alm.vote.own ≠ none ∨ almState s.core ≠ 4 ∨ ¬Goals.votes s → exec .votePoint s = .next s)

/-- R309, R310, R354: at the decision point the frame's gates are judged in turn; one that is met takes its count, one that is not is FRAME_OVERRUN
for the boundary, whose notice goes to the modules of the job. -/
def Sys2Proof.Goals.DecisionPointJudgesTheGates : Prop :=
  ∀ (s : State) (tp : Template), Runs s → curTemplate s.core = some tp →
    let b := obj s.core Key.frameCount + 1
    (almState s.core = 4 → s.core.alm.decided = false → s.core.alm.hold.heldAt = none →
      (tp.gates = [] → NextWith (exec .decisionPoint s) fun t =>
        t.core.alm = { s.core.alm with decided := true } ∧ t.core.ev = s.core.ev ∧ t.core.fl = s.core.fl ∧ t.mem = s.mem)
      ∧ (∀ g, tp.gates = [g] → g.field < 8 → (syncU s.core g.field).held = [] → (syncU s.core g.field).gates = [] →
        let e := semOf s.core g.field g.sem
        e.valid = true → e.poison = false →
        (g.n ≤ e.count → NextWith (exec .decisionPoint s) fun t =>
          t.core.alm.decided = true ∧ semOf t.core g.field g.sem = { e with count := e.count - g.n } ∧ t.mem = s.mem
          ∧ t.core.alm.hold = s.core.alm.hold ∧ tgetD t.core.ev.counts 0x0608 0 = tgetD s.core.ev.counts 0x0608 0)
        ∧ (e.count < g.n → NextWith (exec .decisionPoint s) fun t =>
          t.core.alm.decided = true ∧ (syncU t.core g.field).gates = [(g.sem, g.n)] ∧ semOf t.core g.field g.sem = e ∧ t.mem = s.mem
          ∧ Goals.raised s t 0x0608 ∧ b ∈ t.core.alm.hold.notices ∧ (b ∉ s.core.alm.hold.notices → Goals.sent t (jobPorts s.core) (.hold b)))))
    ∧ (almState s.core ≠ 4 ∨ s.core.alm.decided = true → exec .decisionPoint s = .next s)

/-- R20, R404: a marker that carries this module's count changes no more than the record of its phase; one of another count is SLOT_MISSED and
stops the module at its next boundary. -/
def Sys2Proof.Goals.MarkersCarryTheCount : Prop :=
  ∀ (s : State) (p count : Nat) (hold : Bool) (phase : Int), Runs s → p < 16 →
    let own := s.core.alm.hold.heldAt.getD (obj s.core Key.frameCount)
    (pstate s.core p = 3 → almState s.core = 4 ∨ almState s.core = 5 → obj s.core Key.refActive ≠ 3 →
      (recoveredMode s.core = false ∨ phase.natAbs ≤ 32 ∨ obj s.core Key.refPort ≠ p) →
      (count = own → NextWith (exec (.frameMarker p count hold phase) s) fun t =>
        t.core.ev = s.core.ev ∧ t.core.alm = s.core.alm ∧ t.core.dict = s.core.dict ∧ t.mem = s.mem
        ∧ (inJob s.core (portOf s.core p).peerMod = true → tget t.core.clk.phase p = some phase))
      ∧ (count ≠ own → NextWith (exec (.frameMarker p count hold phase) s) fun t =>
        t.core.alm = { s.core.alm with mismatch := true } ∧ Goals.raised s t 0x0601 ∧ t.mem = s.mem))
    ∧ (pstate s.core p ≠ 3 ∨ (almState s.core ≠ 4 ∧ almState s.core ≠ 5) → exec (.frameMarker p count hold phase) s = .next s)

/-- R310, R311, R312: a notice of the hold protocol that is new is recorded and passed on to the modules of the job, one seen before changes
nothing; RESUME fixes the tick, and at it the count goes on from the boundary held at; until then the slot grid of the ended frame is
repeated, with the hold's markers. -/
def Sys2Proof.Goals.HoldsAndResumes : Prop :=
  ∀ (s : State), Runs s →
    let hs := s.core.alm.hold
    let ps := jobPorts s.core
    (∀ p b, p < 16 → pstate s.core p = 3 → running s.core = true → b ∉ hs.notices → NextWith (exec (.holdNotice p b) s) fun t =>
      t.core.alm.hold = { hs with notices := hs.notices ++ [b] } ∧ t.core.host.out = s.core.host.out ++ ps.map (fun q => .notice q (.hold b))
      ∧ (almState s.core ≠ 5 → obj s.core Key.frameCount < b → obj t.core Key.holdState = 1) ∧ t.mem = s.mem)
    ∧ (∀ p b, p < 16 → b ∈ hs.notices ∨ running s.core = false → exec (.holdNotice p b) s = .next s)
    ∧ (∀ m b, running s.core = true → (m, b) ∉ hs.ready → NextWith (exec (.readyNotice m b) s) fun t =>
      t.core.alm.hold.ready = hs.ready ++ [(m, b)] ∧ Goals.sent t ps (.ready m b) ∧ t.mem = s.mem
      ∧ (hs.heldAt = none → t.core.alm.hold = { hs with ready := hs.ready ++ [(m, b)] }))
    ∧ (∀ m b, (m, b) ∈ hs.ready → exec (.readyNotice m b) s = .next s)
    ∧ (∀ b r, hs.heldAt = some b → hs.resume = none → NextWith (exec (.resumeNotice b r) s) fun t =>
      t.core.alm.hold = { hs with resume := some r } ∧ obj t.core Key.holdState = 3 ∧ Goals.sent t ps (.resume b r) ∧ t.mem = s.mem)
    ∧ (∀ b r, hs.heldAt ≠ some b ∨ hs.resume ≠ none → exec (.resumeNotice b r) s = .next s)
    ∧ (∀ b r, hs.heldAt = some b → hs.resume = some r → s.core.alm.voted = false → Goals.noStop s b → NextWith (exec .resumeAt s) fun t =>
      almState t.core = 4 ∧ obj t.core Key.frameCount = b ∧ t.core.alm.hold.heldAt = none ∧ t.core.alm.hold.resume = none ∧ t.mem = s.mem
      ∧ obj t.core Key.domainTick = obj s.core Key.domainTick ∧ Goals.sent t (upPorts s.core) (.marker b false))
    ∧ (hs.heldAt = none ∨ hs.resume = none → exec .resumeAt s = .next s)
    ∧ (∀ b, hs.heldAt = some b → hs.resume = none → NextWith (exec .heldGridRepeat s) fun t =>
      Goals.sent t (upPorts s.core) (.marker b true) ∧ obj t.core Key.domainTick = obj s.core Key.domainTick ∧ t.core.alm.hold.heldAt = some b
      ∧ (∀ i, (ctxOf t.core i).missed = false ∨ ctxOf t.core i = Ctx.reset) ∧ t.mem = s.mem)
    ∧ (hs.heldAt = none → exec .heldGridRepeat s = .next s)

/-- R313: a hold that lasts PARTNER_TIMEOUT ticks times out, once: a module that has reported READY waits no more for those that have not; one
that waits on no other raises HOLD_TIMEOUT. -/
def Sys2Proof.Goals.HoldsTimeOut : Prop :=
  ∀ (s : State) (b : Nat), Runs s →
    let hs := s.core.alm.hold
    (hs.heldAt = some b → hs.timedOut = false → hs.resume = none →
      ((ownMod s.core, b) ∈ hs.ready → NextWith (exec .holdTimeout s) fun t =>
        t.core.alm.hold.timedOut = true ∧ t.core.alm.hold.heldAt = some b ∧ t.core.ev = s.core.ev ∧ t.mem = s.mem)
      ∧ ((ownMod s.core, b) ∉ hs.ready → awaitedFlows s.core b = [] → awaitedSessions s.core b = [] → NextWith (exec .holdTimeout s) fun t =>
        t.core.alm.hold.timedOut = true ∧ Goals.raised s t 0x0609 ∧ t.core.alm.marks = { s.core.alm.marks with lost := true } ∧ t.mem = s.mem)
      ∧ ((ownMod s.core, b) ∉ hs.ready → awaitedFlows s.core b ≠ [] → awaitedSessions s.core b = [] → NextWith (exec .holdTimeout s) fun t =>
        t.core.alm.hold.timedOut = true ∧ (ownMod s.core, b) ∈ t.core.alm.hold.ready ∧ t.mem = s.mem
        ∧ ∀ i ∈ awaitedFlows s.core b, (ctxOf s.core i).kind = 0 → (ctxOf s.core i).state = 1 → (ctxOf t.core i).state = 3))
    ∧ (hs.heldAt = none ∨ (hs.heldAt = some b ∧ (hs.timedOut = true ∨ hs.resume ≠ none)) → exec .holdTimeout s = .next s)

/-! ### The audit and the event log (chapters 03 and 13) -/

/-- R67, R69, R70: one MMA in 2^k is sampled, and the results that the array puts for it are kept; its audit counts and keeps the worst ratio
against the placed recomputation; an element that diverges raises AUDIT_DIVERGE, once; without AUDIT_ENABLE nothing is compared; an MMA whose
results are not kept is not audited. -/
def Sys2Proof.Goals.AuditsSampleTheArray : Prop :=
  ∀ (s : State) (g m : Nat) (deferred : Bool) (a w : List (List Nat)), Runs s → g < 192 → m < 2 ^ 63 →
    let k := obj s.core Key.auditK
    let n := auditNumber deferred m
    let index := m + 40503 * g + (if deferred then 20269 else 0)
    let kept := (stn s.core g).arr.audits
    let gone := modArr s.core g fun x => { x with audits := tdel x.audits n }
    (sampled s.core g n = true ↔ 0 < k ∧ index % 2 ^ k = 0)
    ∧ (∀ y, running s.core = true → obj s.core Key.auditEnable = 1 → tget kept n = some y → NextWith (exec (.auditCheck g deferred m a w) s) fun t =>
      let es := auditElems (obj s.core Key.auditTol) a w y
      obj t.core Key.auditsRun = min (obj s.core Key.auditsRun + 1) (objMax Key.auditsRun)
      ∧ obj s.core Key.auditWorst ≤ obj t.core Key.auditWorst ∧ (∀ e ∈ es, e.2.2.1 ≤ obj t.core Key.auditWorst)
      ∧ ((∀ e ∈ es, e.2.2.2 = false) → t.core.ev = s.core.ev) ∧ ((∃ e ∈ es, e.2.2.2 = true) → Goals.raised s t 0x0902)
      ∧ t.mem = s.mem ∧ t.core.st = gone.st ∧ t.core.alm = s.core.alm)
    ∧ (∀ y, running s.core = true → obj s.core Key.auditEnable ≠ 1 → tget kept n = some y →
        exec (.auditCheck g deferred m a w) s = .next (withCore s gone))
    ∧ (running s.core = false ∨ tget kept n = none → exec (.auditCheck g deferred m a w) s = .next s)

/-- R446, R447, R501: raising an event counts it, enters its record before the others, of which the 4,096 newest stay, and counts a record lost
unread in EVENTS_OVERWRITTEN; the 65th record of a code in an interval is counted as suppressed instead. -/
def Sys2Proof.Goals.EventLogKeepsTheNewest : Prop :=
  ∀ (c : Core) (code src tag : Nat) (cls : EvClass) (args : List Nat),
    let d := raise c code cls src tag args
    let logged := tgetD c.ev.interval code 0
    tgetD d.ev.counts code 0 = min (tgetD c.ev.counts code 0 + 1) (2 ^ 32 - 1)
    ∧ (logged < 64 → ∃ r, d.ev.recs = (r :: c.ev.recs).take 4096 ∧ r.code = code ∧ r.cls = cls ∧ r.src = src ∧ r.tag = tag ∧ r.args = args
        ∧ r.tick = obj c Key.uptimeTicks ∧ r.seq = obj c Key.eventNextSeq ∧ r.read = false
        ∧ tgetD d.ev.interval code 0 = logged + 1
        ∧ obj d Key.eventsOverwritten = (match c.ev.recs.getLast? with
          | some old => if 4096 ≤ c.ev.recs.length ∧ old.read = false then min (obj c Key.eventsOverwritten + 1) (objMax Key.eventsOverwritten)
                        else obj c Key.eventsOverwritten
          | none => obj c Key.eventsOverwritten))
    ∧ (64 ≤ logged → d.ev.recs = c.ev.recs ∧ d.host = c.host
        ∧ obj d Key.eventsSuppressed = min (obj c Key.eventsSuppressed + 1) (objMax Key.eventsSuppressed))
    ∧ (cls = .fault → running c = true → c.alm.fault = none → ∃ fr, d.alm.fault = some (code, src, fr))
    ∧ (cls ≠ .fault ∨ running c = false → d.alm = c.alm)


/-! ### The statements that have several parts -/

/-- The vector unit's lane functions: two-operand, one-operand and transcendental.
Where it rests on a choice of the model: log entry 8. -/
def Obligations.VectorLanes : Prop := Goals.VectorTwoOperandLanes ∧ Goals.VectorOtherLanes ∧ Goals.VectorTranscendentalLanes

/-- VLD, VMOV, VST and the CVT forms between registers, memory and formats. -/
def Obligations.VectorMemory : Prop := Goals.VectorLoadAndMove ∧ Goals.CvtUnpackLanes ∧ Goals.VectorStores

/-- Register writes, jumps and loops of the sequencers. -/
def Obligations.SequencerControl : Prop := Goals.SequencerRegisterWrites ∧ Goals.JmpFollowsItsCondition ∧ Goals.LendLoops

/-- Segments begin and end, faults of a sequencer, and the submissions to engines.
Where it rests on a choice of the model: log entry 110. -/
def Obligations.Segments : Prop :=
  Goals.EndOfSegment ∧ Goals.SegmentStartPoints ∧ Goals.IllegalInstructionFaults ∧ Goals.LyrHoldsUntilQuiet ∧ Goals.SubmissionsJoinTheirQueue

/-- Special cases of a segment, and the accumulator's add modes. -/
def Obligations.ArrayArithmetic : Prop := Goals.SegmentSpecialCases ∧ Goals.AddModes

/-- MMA puts its rows in flight, waits for its conditions, or faults.
Where it rests on a choice of the model: log entries 22, 90 and 107. -/
def Obligations.MmaIssues : Prop := Goals.MmaPutsItsRowsInFlight ∧ Goals.MmaFaults ∧ Goals.IssueConditionsWait

/-- Rows retire into tiles, tiles drain to memory and to the ring.
Where it rests on a choice of the model: log entries 13, 116 and 119. -/
def Obligations.RowsReachTilesAndMemory : Prop := Goals.RowRetiresIntoItsTile ∧ Goals.DrainsToStationMemory ∧ Goals.RingPartialRowArrives

/-- Weight planes load, and the matrix-vector path computes. -/
def Obligations.PlanesAndMva : Prop := Goals.PlaneLoads ∧ Goals.MvaComputesThenWrites

/-- STR arms its stream, and writes reach control blocks. -/
def Obligations.StreamArming : Prop := Goals.StrArmsItsStream ∧ Goals.WritesIntoControlBlocks

/-- A stream's units take credits, move their bytes, complete, stall, and go on without a detached member.
Where it rests on a choice of the model: log entries 4, 21 and 118. -/
def Obligations.StreamProgress : Prop :=
  Goals.StreamUnitsTakeCredits ∧ Goals.StreamTransferMovesBytes ∧ Goals.MergeWindowDelivers
  ∧ Goals.StreamUnitsCompleteAndStall ∧ Goals.McastDetachExcludesTheMember

/-- The Carousel forwards tiles and partials, and deferred-W entries run in their windows.
Where it rests on a choice of the model: log entries 21, 23, 116 and 119. -/
def Obligations.CarouselAndDeferredW : Prop := Goals.CarouselForwards ∧ Goals.DeferredEntries ∧ Goals.DeferredChunkIssues

/-- The update engine's passes: INIT, NORM, PREPARE, APPLY, completion.
Where it rests on a choice of the model: log entries 75, 98, 99, 100 and 102. -/
def Obligations.UpdatePasses : Prop := Goals.UpdateInitAndNorm ∧ Goals.UpdatePrepareAndApply ∧ Goals.UpdateCompletes

/-- SIGs enter the station's fence queue and leave it in order.
Where it rests on a choice of the model: log entry 14. -/
def Obligations.SigQueue : Prop := Goals.SigEntersItsQueue ∧ Goals.SigLeavesItsQueue

/-- What a sync unit does with ADD, SUB, TAK and WAT, and what it refuses. -/
def Obligations.SemaphoreOperations : Prop := Goals.SemaphoreCounts ∧ Goals.SemaphoreRefusals ∧ Goals.WatRegistersAWatch

/-- TAK and WAT hold the sequencer, and WAIT takes its inbox entry.
Where it rests on a choice of the model: log entry 72. -/
def Obligations.TakWatWait : Prop := Goals.TakAndWatHoldTheSequencer ∧ Goals.WaitTakesItsInboxEntry

/-- Replies and watch messages reach the units they are for.
Where it rests on a choice of the model: log entries 12 and 21. -/
def Obligations.MessagesInsideTheModule : Prop := Goals.RepliesReachTheirStation ∧ Goals.WatchMessagesReachTheirUnit

/-- Fences are recorded, and retire behind the transfers they cover. -/
def Obligations.Fences : Prop := Goals.FencesAreRecorded ∧ Goals.FencesRetire

/-- Links train and exchange identities, codeword groups are replayed, and adverts spread.
Where it rests on a choice of the model: log entries 64, 93 and 94. -/
def Obligations.LinksAndTopology : Prop := Goals.LinkTrainingAndIdentity ∧ Goals.CodewordGroupsAreReplayed ∧ Goals.AdvertsSpread

/-- Packets are judged by flow, sequence number and slot, and those in transit go on.
Where it rests on a choice of the model: log entries 64, 96 and 111. -/
def Obligations.PacketsAndTransit : Prop := Goals.PacketsAreJudged ∧ Goals.TransitForwards

/-- Remote requests are served under access control, and their answers arrive.
Where it rests on a choice of the model: log entries 14, 63, 92 and 109. -/
def Obligations.RemoteRequests : Prop := Goals.RemoteRequestsAreServed ∧ Goals.RemoteAnswersArrive

/-- Flow packets leave in their slots and are acknowledged, resent or lost with their flow.
Where it rests on a choice of the model: log entries 64, 68, 95 and 97. -/
def Obligations.Flows : Prop := Goals.FlowPacketsLeaveInTheirSlot ∧ Goals.FlowControl

/-- Reference sources qualify, are lost, and are switched.
Where it rests on a choice of the model: log entry 64. -/
def Obligations.References : Prop :=
  Goals.ReferenceWindows ∧ Goals.LossOfReference ∧ Goals.ReferenceSwitches ∧ Goals.SwitchesAreMade

/-- Field generators lock, and the operating point changes.
Where it rests on a choice of the model: log entries 53 and 87. -/
def Obligations.ClocksAndOperatingPoint : Prop :=
  Goals.FieldGeneratorsLock ∧ Goals.OperatingPointChanges ∧ Goals.OperatingPointTakesEffect ∧ Goals.GeneratorEvents

/-- Gating, access tables and the interleave granule. -/
def Obligations.GatingAccessAndGranule : Prop := Goals.GatingWrites ∧ Goals.AccessEditsOneEntry ∧ Goals.GranuleWipesHbm

/-- Writes of the fabric's identity and port objects. -/
def Obligations.IdentityAndPortObjects : Prop := Goals.IdentityWritesRerunIdent ∧ Goals.PortWritesTakePortsDown

/-- Agreement records combine in any order, and payloads come out as they went in. -/
def Obligations.AgreementRecords : Prop := Goals.AgreementIsOrderFree ∧ Goals.CollectivePayloads

/-- A reduction starts, takes its partials and results, agrees and completes.
Where it rests on a choice of the model: log entries 21, 24, 65, 66, 67, 88, 101 and 102. -/
def Obligations.ReductionProgress : Prop :=
  Goals.ReductionStarts ∧ Goals.PartialsAreStaged ∧ Goals.ResultsAreWritten ∧ Goals.AgreementRecordsArrive ∧ Goals.ReductionCompletes

/-- PERMUTE places its pieces, and multicast packets are delivered. -/
def Obligations.PermuteAndMulticast : Prop := Goals.PermutationsPlace ∧ Goals.MulticastIsDelivered

/-- READ and WRITE answer item by item.
Where it rests on a choice of the model: log entries 28, 58 and 61. -/
def Obligations.DictionaryItems : Prop := Goals.ReadsAnswerTheirItems ∧ Goals.WritesStoreTheirItems

/-- Host sessions open, live, operate semaphores, are notified and end.
Where it rests on a choice of the model: log entries 27, 32, 34 and 79. -/
def Obligations.Sessions : Prop := Goals.OpensBySomeRule ∧ Goals.SessionsLiveAndEnd ∧ Goals.SessionsOperateSemaphores ∧ Goals.NotificationsAreKept

/-- Bulk transfers open, move their segments and end.
Where it rests on a choice of the model: log entries 27, 35, 36, 37, 78 and 86. -/
def Obligations.BulkTransfers : Prop := Goals.BulkTransfersOpen ∧ Goals.BulkSegmentsMove ∧ Goals.BulkTransfersEnd

/-- Ethernet links, discovery, neighbour protocols and reassembly.
Where it rests on a choice of the model: log entries 27, 30, 31 and 60. -/
def Obligations.EthernetPorts : Prop :=
  Goals.EthernetLinks ∧ Goals.PortSettingsTakeLinksDown ∧ Goals.DiscoveryAnswers ∧ Goals.NeighbourProtocols ∧ Goals.FragmentsAreReassembled

/-- The power stage, the caps and the controller, measurements and trips.
Where it rests on a choice of the model: log entries 81 and 82. -/
def Obligations.PowerAndCooling : Prop := Goals.PowerStageTurnsOff ∧ Goals.PowerEvaluations ∧ Goals.MeasurementsRaiseTheirEvents

/-- Resets, the wipe, the handover and the fused firmware versions.
Where it rests on a choice of the model: log entries 2, 82, 83, 84 and 85. -/
def Obligations.ResetsAndBoot : Prop :=
  Goals.ResetsLeaveTheResetState ∧ Goals.WipesClearMemory ∧ Goals.HandoverRunsTheFirmware ∧ Goals.FusedFirmwareVersions

/-- Attestation and the life cycle.
Where it rests on a choice of the model: log entries 11 and 84. -/
def Obligations.LifeCycle : Prop := Goals.AttestationReports ∧ Goals.LifeCycleCommands

/-- LOAD, START, STOP, UNLOAD, frame zero and RESOLVE.
Where it rests on a choice of the model: log entries 7, 9, 16, 38, 39, 40, 41, 42, 43, 45, 88 and 113. -/
def Obligations.AlmanacCommands : Prop :=
  Goals.LoadChecksThenInstalls ∧ Goals.StartArmsTheAlmanac ∧ Goals.StopAndUnload ∧ Goals.FrameZeroBegins ∧ Goals.ResolveSettlesTheStep

/-- Frames follow each other, votes decide the step, and stops come at boundaries.
Where it rests on a choice of the model: log entries 4, 48, 49, 50, 51, 54, 88 and 114. -/
def Obligations.FramesAndVotes : Prop :=
  Goals.FramesFollowEachOther ∧ Goals.VotesDecideTheStep ∧ Goals.StopsComeAtBoundaries ∧ Goals.VotePointFixesTheContribution

/-- Gates are judged, markers carry the count, and the job holds and resumes together.
Where it rests on a choice of the model: log entries 25, 26, 50, 51 and 52. -/
def Obligations.GatesMarkersAndHolds : Prop :=
  Goals.GateJudgements ∧ Goals.DecisionPointJudgesTheGates ∧ Goals.MarkersCarryTheCount ∧ Goals.HoldsAndResumes ∧ Goals.HoldsTimeOut

/-- The audit, and the event log.
Where it rests on a choice of the model: log entries 57, 104 and 115. -/
def Obligations.AuditAndEventLog : Prop := Goals.AuditsSampleTheArray ∧ Goals.EventLogKeepsTheNewest
end

