-- ==== Sys2Proof/Laws/Answers.lean ====
section
/-! SUPPORT. The shapes of a meaning: what a command of each shape answers, and what it leaves alone. -/

namespace Sys2Proof.Machine

variable {s t : State} {n b : Nat} {o : Out}

@[simp] theorem inRange_lt (h : n < b) : inRange n b o = o := by simp [inRange, h]
@[simp] theorem inRange_ge (h : ¬n < b) : inRange n b o = .fault .noSuchUnit := by simp [inRange, h]

theorem inRange_next (h : inRange n b o = .next t) : n < b ∧ o = .next t := by
  unfold inRange at h
  split at h
  · exact ⟨‹_›, h⟩
  · cases h

theorem onCore_powered (f : Core → Core) (h : powered s.core = true) : onCore f s = .next { s with core := f s.core } := by
  simp [onCore, h]
theorem onCoreMem_powered (f : Memory → Core → Core) (h : powered s.core = true) :
    onCoreMem f s = .next { s with core := f s.mem s.core } := by simp [onCoreMem, h]
theorem onFuse_powered (f : Fuses → Memory → Core → Core) (h : powered s.core = true) :
    onFuse f s = .next { s with core := f s.fuse s.mem s.core } := by simp [onFuse, h]
theorem onBoth_powered (f : Memory → Core → Core × Memory) (h : powered s.core = true) :
    onBoth f s = .next { s with core := (f s.mem s.core).1, mem := (f s.mem s.core).2 } := by simp [onBoth, h]

/-- A module without power, or held in reset, does nothing. -/
theorem onCore_unpowered (f : Core → Core) (h : powered s.core = false) : onCore f s = .next s := by simp [onCore, h]
theorem onCoreMem_unpowered (f : Memory → Core → Core) (h : powered s.core = false) : onCoreMem f s = .next s := by
  simp [onCoreMem, h]
theorem onFuse_unpowered (f : Fuses → Memory → Core → Core) (h : powered s.core = false) : onFuse f s = .next s := by
  simp [onFuse, h]
theorem onBoth_unpowered (f : Memory → Core → Core × Memory) (h : powered s.core = false) : onBoth f s = .next s := by
  simp [onBoth, h]

/-- Queue, fuses and memory stay as they were. -/
def coreOnly (s t : State) : Prop := t.pending = s.pending ∧ t.fuse = s.fuse ∧ t.mem = s.mem

theorem onCore_coreOnly {f : Core → Core} (h : onCore f s = .next t) : coreOnly s t := by
  simp only [onCore, Host.Outcome.next.injEq] at h
  subst h; split <;> exact ⟨rfl, rfl, rfl⟩
theorem onCoreMem_coreOnly {f : Memory → Core → Core} (h : onCoreMem f s = .next t) : coreOnly s t := by
  simp only [onCoreMem, Host.Outcome.next.injEq] at h
  subst h; split <;> exact ⟨rfl, rfl, rfl⟩
theorem onFuse_coreOnly {f : Fuses → Memory → Core → Core} (h : onFuse f s = .next t) : coreOnly s t := by
  simp only [onFuse, Host.Outcome.next.injEq] at h
  subst h; split <;> exact ⟨rfl, rfl, rfl⟩
theorem onPower_coreOnly {f : Core → Core} (h : onPower f s = .next t) : coreOnly s t := by
  simp only [onPower, Host.Outcome.next.injEq] at h
  subst h; exact ⟨rfl, rfl, rfl⟩

/-- A command that may write memory keeps its canonical form where what it does to memory does. -/
theorem onBoth_memWf {f : Memory → Core → Core × Memory} (hf : ∀ m c, memWf m = true → memWf (f m c).2 = true)
    (hs : memWf s.mem = true) (h : onBoth f s = .next t) : memWf t.mem = true := by
  simp only [onBoth, Host.Outcome.next.injEq] at h
  subst h
  split
  · exact hf _ _ hs
  · exact hs

/-- A command that may write memory leaves the fuses and the queue alone. -/
theorem onBoth_frame {f : Memory → Core → Core × Memory} (h : onBoth f s = .next t) :
    t.pending = s.pending ∧ t.fuse = s.fuse := by
  simp only [onBoth, Host.Outcome.next.injEq] at h
  subst h; split <;> exact ⟨rfl, rfl⟩

end Sys2Proof.Machine
end

