-- ==== Sys2Proof/Laws/Tables.lean ====
section
/-! SUPPORT. Tables and the byte memory: a read after a write, and the canonical form under every memory operation. -/

namespace Sys2Proof.Machine

variable {α : Type}

/-! ### Tables -/

@[simp] theorem tget_tset_self (t : Tab α) (k : Nat) (v : α) : tget (tset t k v) k = some v := by
  induction t with
  | nil => simp [tset, tget]
  | cons p r ih =>
    obtain ⟨j, w⟩ := p
    simp only [tset]
    split
    · simp [tget]
    · split
      · simp [tget]
      · have : j ≠ k := fun h => by omega
        simp [tget, this, ih]

theorem tget_tset_ne (t : Tab α) {k j : Nat} (v : α) (h : j ≠ k) : tget (tset t k v) j = tget t j := by
  induction t with
  | nil => simp [tset, tget, Ne.symm h]
  | cons p r ih =>
    obtain ⟨i, w⟩ := p
    simp only [tset]
    split
    · simp [tget, Ne.symm h]
    · split
      · next _ h2 => subst h2; simp [tget, Ne.symm h]
      · simp [tget, ih]

@[simp] theorem tgetD_tset_self (t : Tab α) (k : Nat) (v d : α) : tgetD (tset t k v) k d = v := by simp [tgetD]

theorem tgetD_tset_ne (t : Tab α) {k j : Nat} (v d : α) (h : j ≠ k) : tgetD (tset t k v) j d = tgetD t j d := by
  simp [tgetD, tget_tset_ne t v h]

@[simp] theorem tget_tdel_self (t : Tab α) (k : Nat) : tget (tdel t k) k = none := by
  induction t with
  | nil => rfl
  | cons p r ih =>
    obtain ⟨j, w⟩ := p
    by_cases h : j = k
    · subst h
      have : tdel ((j, w) :: r) j = tdel r j := by simp [tdel]
      rw [this, ih]
    · have : tdel ((j, w) :: r) k = (j, w) :: tdel r k := by simp [tdel, h]
      rw [this]; simp [tget, h, ih]

theorem tget_tdel_ne (t : Tab α) {k j : Nat} (h : j ≠ k) : tget (tdel t k) j = tget t j := by
  induction t with
  | nil => rfl
  | cons p r ih =>
    obtain ⟨i, w⟩ := p
    by_cases hi : i = k
    · subst hi
      have : tdel ((i, w) :: r) i = tdel r i := by simp [tdel]
      rw [this, ih]; simp [tget, Ne.symm h]
    · have : tdel ((i, w) :: r) k = (i, w) :: tdel r k := by simp [tdel, hi]
      rw [this]; simp [tget, ih]

/-! ### The records of the state -/

@[simp] theorem stn_setStn (c : Core) (g : Nat) (x : Station) : stn (setStn c g x) g = x := by simp [stn, setStn]
theorem stn_setStn_ne (c : Core) {g k : Nat} (x : Station) (h : k ≠ g) : stn (setStn c g x) k = stn c k := by
  simp [stn, setStn, tgetD_tset_ne _ _ _ h]
@[simp] theorem fld_setFld (c : Core) (f : Nat) (x : Field) : fld (setFld c f x) f = x := by simp [fld, setFld]
theorem fld_setFld_ne (c : Core) {f k : Nat} (x : Field) (h : k ≠ f) : fld (setFld c f x) k = fld c k := by
  simp [fld, setFld, tgetD_tset_ne _ _ _ h]
@[simp] theorem obj_setObj (c : Core) (k v : Nat) : obj (setObj c k v) k = v := by simp [obj, setObj]
theorem obj_setObj_ne (c : Core) {k j : Nat} (v : Nat) (h : j ≠ k) : obj (setObj c k v) j = obj c j := by
  simp [obj, setObj, tget_tset_ne _ _ h]
theorem obj_addObj_ne (c : Core) {k j : Nat} (n : Nat) (h : j ≠ k) : obj (addObj c k n) j = obj c j := by
  simp [addObj, obj_setObj_ne _ _ h]
@[simp] theorem obj_addObj (c : Core) (k n : Nat) : obj (addObj c k n) k = min (obj c k + n) (objMax k) := by
  simp [addObj]
@[simp] theorem sessionOf_setSession (c : Core) (k : Nat) (x : Session) : sessionOf (setSession c k x) k = some x := by
  simp [sessionOf, setSession]
@[simp] theorem ctxOf_setCtx (c : Core) (i : Nat) (x : Ctx) : ctxOf (setCtx c i x) i = x := by simp [ctxOf, setCtx]
@[simp] theorem portOf_setPort (c : Core) (p : Nat) (x : Port) : portOf (setPort c p x) p = x := by simp [portOf, setPort]
@[simp] theorem syncU_setSync (c : Core) (f : Nat) (u : SyncUnit) : syncU (setSync c f u) f = u := by
  simp [syncU, setSync]
@[simp] theorem semOf_setSem (c : Core) (f s : Nat) (x : Sem) : semOf (setSem c f s x) f s = x := by
  simp [semOf, setSem]

/-! ### The byte memory -/

/-- Every listed address lies above a bound. -/
def above (a : Nat) (m : Memory) : Prop := ∀ p ∈ m, a < p.1

theorem memWf_cons {p : Host.Cell} {m : Memory} : memWf (p :: m) = true ↔ p.2 ≠ 0 ∧ above p.1 m ∧ memWf m = true := by
  obtain ⟨a, v⟩ := p
  constructor
  · intro h
    induction m generalizing a v with
    | nil =>
      simp only [memWf, Bool.and_eq_true, bne_iff_ne] at h
      exact ⟨h.1.1, (by intro q hq; cases hq), rfl⟩
    | cons q r ih =>
      obtain ⟨b, w⟩ := q
      simp only [memWf, Bool.and_eq_true, bne_iff_ne, decide_eq_true_eq] at h
      have hr := ih b w (by simp only [memWf, Bool.and_eq_true, bne_iff_ne]; exact h.2)
      refine ⟨h.1.1, ?_, by simp only [memWf, Bool.and_eq_true, bne_iff_ne]; exact h.2⟩
      intro p hp
      rcases List.mem_cons.1 hp with rfl | hp
      · exact h.1.2
      · exact Nat.lt_trans h.1.2 (hr.2.1 p hp)
  · rintro ⟨h1, h2, h3⟩
    cases m with
    | nil => simpa [memWf] using h1
    | cons q r =>
      obtain ⟨b, w⟩ := q
      have : a < b := h2 (b, w) (List.mem_cons_self)
      simp only [memWf, Bool.and_eq_true, bne_iff_ne, decide_eq_true_eq] at h3 ⊢
      exact ⟨⟨h1, this⟩, h3⟩

theorem above_mwrite {b : Nat} {m : Memory} (a : Nat) (v : Byte) (h : above b m) (ha : b < a) : above b (mwrite m a v) := by
  induction m with
  | nil =>
    intro p hp
    simp only [mwrite] at hp
    split at hp
    · cases hp
    · simp only [List.mem_singleton] at hp; subst hp; exact ha
  | cons q r ih =>
    obtain ⟨j, w⟩ := q
    have hj : b < j := h (j, w) List.mem_cons_self
    have hr : above b r := fun p hp => h p (List.mem_cons_of_mem _ hp)
    intro p hp
    simp only [mwrite] at hp
    split at hp
    · split at hp
      · exact h p hp
      · rcases List.mem_cons.1 hp with rfl | hp
        · exact ha
        · exact h p hp
    · split at hp
      · split at hp
        · exact hr p hp
        · rcases List.mem_cons.1 hp with rfl | hp
          · exact ha
          · exact hr p hp
      · rcases List.mem_cons.1 hp with rfl | hp
        · exact hj
        · exact ih hr p hp

/-- Writing a byte keeps the canonical form. -/
theorem mwrite_memWf {m : Memory} (a : Nat) (v : Byte) (h : memWf m = true) : memWf (mwrite m a v) = true := by
  induction m with
  | nil => simp only [mwrite]; split <;> simp_all [memWf]
  | cons q r ih =>
    obtain ⟨j, w⟩ := q
    obtain ⟨h1, h2, h3⟩ := memWf_cons.1 h
    simp only [mwrite]
    split
    · next hlt =>
      split
      · exact h
      · next hv =>
        refine memWf_cons.2 ⟨hv, ?_, h⟩
        intro p hp
        rcases List.mem_cons.1 hp with rfl | hp
        · exact hlt
        · exact Nat.lt_trans hlt (h2 p hp)
    · split
      · next _ heq =>
        subst heq
        split
        · exact h3
        · next hv => exact memWf_cons.2 ⟨hv, h2, h3⟩
      · exact memWf_cons.2 ⟨h1, above_mwrite a v h2 (by simp only; omega), ih h3⟩

/-- Writing bytes keeps the canonical form. -/
theorem mwriteN_memWf {m : Memory} (a : Nat) (bs : Bytes) (h : memWf m = true) : memWf (mwriteN m a bs) = true := by
  induction bs generalizing m a with
  | nil => exact h
  | cons b r ih => exact ih (a + 1) (mwrite_memWf a b h)

/-- Keeping some of the listed bytes keeps the canonical form. -/
theorem filter_memWf {m : Memory} (p : Host.Cell → Bool) (h : memWf m = true) : memWf (m.filter p) = true := by
  induction m with
  | nil => rfl
  | cons q r ih =>
    obtain ⟨h1, h2, h3⟩ := memWf_cons.1 h
    by_cases hp : p q = true
    · rw [List.filter_cons_of_pos hp]
      exact memWf_cons.2 ⟨h1, fun x hx => h2 x (List.mem_filter.1 hx).1, ih h3⟩
    · rw [List.filter_cons_of_neg hp]; exact ih h3

@[simp] theorem mread_mwrite_self (m : Memory) (a : Nat) (v : Byte) (h : memWf m = true) : mread (mwrite m a v) a = v := by
  induction m with
  | nil => simp only [mwrite]; split <;> simp_all [mread]
  | cons q r ih =>
    obtain ⟨j, w⟩ := q
    obtain ⟨h1, h2, h3⟩ := memWf_cons.1 h
    have hno : ∀ (n : Memory), above a n → mread n a = 0 := by
      intro n hn
      induction n with
      | nil => rfl
      | cons x y ihy =>
        have hx : x.1 ≠ a := Nat.ne_of_gt (hn x List.mem_cons_self)
        obtain ⟨xa, xv⟩ := x
        simp only at hx
        simp [mread, hx, ihy (fun p hp => hn p (List.mem_cons_of_mem _ hp))]
    simp only [mwrite]
    split
    · next hlt =>
      split
      · next hv =>
        subst hv
        apply hno
        intro p hp
        rcases List.mem_cons.1 hp with rfl | hp
        · exact hlt
        · exact Nat.lt_trans hlt (h2 p hp)
      · simp [mread]
    · split
      · next _ heq =>
        subst heq
        split
        · next hv => subst hv; exact hno r h2
        · simp [mread]
      · next hne =>
        have : j ≠ a := fun e => hne e.symm
        simp [mread, this, ih h3]

theorem mread_mwrite_ne (m : Memory) {a b : Nat} (v : Byte) (h : b ≠ a) : mread (mwrite m a v) b = mread m b := by
  induction m with
  | nil => simp only [mwrite]; split <;> simp [mread, Ne.symm h]
  | cons q r ih =>
    obtain ⟨j, w⟩ := q
    simp only [mwrite]
    split
    · split
      · rfl
      · simp [mread, Ne.symm h]
    · split
      · next _ heq =>
        subst heq
        split <;> simp [mread, Ne.symm h]
      · simp [mread, ih]

/-- Bytes outside those written read as before. -/
theorem mread_mwriteN_ne (m : Memory) {a b : Nat} (bs : Bytes) (h : b < a ∨ a + bs.length ≤ b) :
    mread (mwriteN m a bs) b = mread m b := by
  induction bs generalizing m a with
  | nil => rfl
  | cons x r ih =>
    simp only [mwriteN]
    rw [ih (mwrite m a x) (by simp only [List.length_cons] at h; omega)]
    exact mread_mwrite_ne m x (by simp only [List.length_cons] at h; omega)

end Sys2Proof.Machine
end

