-- ==== Sys2Proof/Laws/Issue.lean ====
section
/-! SUPPORT. Issue: what a command does when the station stands before its instruction. -/

namespace Sys2Proof.Machine

variable {s : State} {g w : Nat} {o : Op}

theorem runs_powered (h : Runs s) : powered s.core = true := by
  obtain ⟨h1, h2⟩ := h
  simp [powered, h1, h2]

theorem ready_of_atWord (h : AtWord s g w o) : ready s.mem s.core g = some w := by
  obtain ⟨-, -, h1, h2, h3, -, -⟩ := h
  unfold ready
  rcases h1 with h1 | h1 <;> simp [h1, h2, h3]

theorem atPc_of_atWord (h : AtWord s g w o) : atPc s.mem s.core g o = some w := by
  simp [atPc, ready_of_atWord h, h.2.2.2.2.2.1, h.2.2.2.2.2.2]

@[simp] theorem tset_tset_self {α : Type} (t : Tab α) (k : Nat) (v w : α) : tset (tset t k v) k w = tset t k w := by
  induction t with
  | nil => simp [tset]
  | cons p r ih =>
    obtain ⟨j, x⟩ := p
    simp only [tset]
    split_ifs with h1 h2
    · simp [tset]
    · simp [tset]
    · simp [tset, h1, h2, ih]

@[simp] theorem setStn_setStn (c : Core) (g : Nat) (x y : Station) : setStn (setStn c g x) g y = setStn c g y := by
  simp [setStn]

@[simp] theorem stn_addObj (c : Core) (k n g : Nat) : stn (addObj c k n) g = stn c g := rfl

@[simp] theorem stn_waited (c : Core) (n g : Nat) : stn (waited c n) g = stn c g := by unfold waited; split <;> rfl

@[simp] theorem waited_setStn (c : Core) (g n : Nat) (x : Station) : waited (setStn c g x) n = setStn (waited c n) g x := by
  unfold waited; split <;> rfl

theorem issued_setStn (c : Core) (g : Nat) (x : Station) : issued (setStn c g x) g = issueAs c g x := by
  simp [issued, issueAs, modSeq, issuedSeq]

theorem issued_eq (c : Core) (g : Nat) : issued c g = issueAs c g (stn c g) := by
  simp [issued, issueAs, modSeq, issuedSeq]

/-- What a command over an instruction's word answers. -/
theorem onCoreMem_atWord (f : Memory → Core → Core) (h : AtWord s g w o) :
    inRange g 192 (onCoreMem f s) = .next { s with core := f s.mem s.core } := by
  rw [inRange_lt h.2.1, onCoreMem_powered _ (runs_powered h.1)]

theorem onBoth_atWord (f : Memory → Core → Core × Memory) (h : AtWord s g w o) :
    inRange g 192 (onBoth f s) = .next { s with core := (f s.mem s.core).1, mem := (f s.mem s.core).2 } := by
  rw [inRange_lt h.2.1, onBoth_powered _ (runs_powered h.1)]

end Sys2Proof.Machine
end

