-- ==== Sys2Proof/Laws/State.lean ====
section
/-! SUPPORT. One lemma for each field of the core under each update of it: what the update leaves alone. -/

namespace Sys2Proof.Machine

variable (c : Core)

/-! ### setStn -/

@[simp] theorem setStn_dict (g : Nat) (x : Station) : (setStn c g x).dict = c.dict := rfl
@[simp] theorem setStn_ev (g : Nat) (x : Station) : (setStn c g x).ev = c.ev := rfl
@[simp] theorem setStn_alm (g : Nat) (x : Station) : (setStn c g x).alm = c.alm := rfl
@[simp] theorem setStn_vigil (g : Nat) (x : Station) : (setStn c g x).vigil = c.vigil := rfl
@[simp] theorem setStn_fl (g : Nat) (x : Station) : (setStn c g x).fl = c.fl := rfl
@[simp] theorem setStn_acc (g : Nat) (x : Station) : (setStn c g x).acc = c.acc := rfl
@[simp] theorem setStn_scale (g : Nat) (x : Station) : (setStn c g x).scale = c.scale := rfl
@[simp] theorem setStn_scaleAt (g : Nat) (x : Station) : (setStn c g x).scaleAt = c.scaleAt := rfl
@[simp] theorem setStn_slots (g : Nat) (x : Station) : (setStn c g x).slots = c.slots := rfl
@[simp] theorem setStn_norm (g : Nat) (x : Station) : (setStn c g x).norm = c.norm := rfl
@[simp] theorem setStn_recv (g : Nat) (x : Station) : (setStn c g x).recv = c.recv := rfl
@[simp] theorem setStn_merge (g : Nat) (x : Station) : (setStn c g x).merge = c.merge := rfl
@[simp] theorem setStn_net (g : Nat) (x : Station) : (setStn c g x).net = c.net := rfl
@[simp] theorem setStn_fab (g : Nat) (x : Station) : (setStn c g x).fab = c.fab := rfl
@[simp] theorem setStn_host (g : Nat) (x : Station) : (setStn c g x).host = c.host := rfl
@[simp] theorem setStn_clk (g : Nat) (x : Station) : (setStn c g x).clk = c.clk := rfl
@[simp] theorem setStn_power (g : Nat) (x : Station) : (setStn c g x).power = c.power := rfl
@[simp] theorem setStn_boot (g : Nat) (x : Station) : (setStn c g x).boot = c.boot := rfl
@[simp] theorem setStn_ecc (g : Nat) (x : Station) : (setStn c g x).ecc = c.ecc := rfl
@[simp] theorem setStn_freeCtr (g : Nat) (x : Station) : (setStn c g x).freeCtr = c.freeCtr := rfl

/-! ### setFld -/

@[simp] theorem setFld_dict (f : Nat) (x : Field) : (setFld c f x).dict = c.dict := rfl
@[simp] theorem setFld_ev (f : Nat) (x : Field) : (setFld c f x).ev = c.ev := rfl
@[simp] theorem setFld_alm (f : Nat) (x : Field) : (setFld c f x).alm = c.alm := rfl
@[simp] theorem setFld_vigil (f : Nat) (x : Field) : (setFld c f x).vigil = c.vigil := rfl
@[simp] theorem setFld_st (f : Nat) (x : Field) : (setFld c f x).st = c.st := rfl
@[simp] theorem setFld_acc (f : Nat) (x : Field) : (setFld c f x).acc = c.acc := rfl
@[simp] theorem setFld_scale (f : Nat) (x : Field) : (setFld c f x).scale = c.scale := rfl
@[simp] theorem setFld_scaleAt (f : Nat) (x : Field) : (setFld c f x).scaleAt = c.scaleAt := rfl
@[simp] theorem setFld_slots (f : Nat) (x : Field) : (setFld c f x).slots = c.slots := rfl
@[simp] theorem setFld_norm (f : Nat) (x : Field) : (setFld c f x).norm = c.norm := rfl
@[simp] theorem setFld_recv (f : Nat) (x : Field) : (setFld c f x).recv = c.recv := rfl
@[simp] theorem setFld_merge (f : Nat) (x : Field) : (setFld c f x).merge = c.merge := rfl
@[simp] theorem setFld_net (f : Nat) (x : Field) : (setFld c f x).net = c.net := rfl
@[simp] theorem setFld_fab (f : Nat) (x : Field) : (setFld c f x).fab = c.fab := rfl
@[simp] theorem setFld_host (f : Nat) (x : Field) : (setFld c f x).host = c.host := rfl
@[simp] theorem setFld_clk (f : Nat) (x : Field) : (setFld c f x).clk = c.clk := rfl
@[simp] theorem setFld_power (f : Nat) (x : Field) : (setFld c f x).power = c.power := rfl
@[simp] theorem setFld_boot (f : Nat) (x : Field) : (setFld c f x).boot = c.boot := rfl
@[simp] theorem setFld_ecc (f : Nat) (x : Field) : (setFld c f x).ecc = c.ecc := rfl
@[simp] theorem setFld_freeCtr (f : Nat) (x : Field) : (setFld c f x).freeCtr = c.freeCtr := rfl

/-! ### setSync -/

@[simp] theorem setSync_dict (f : Nat) (u : SyncUnit) : (setSync c f u).dict = c.dict := rfl
@[simp] theorem setSync_ev (f : Nat) (u : SyncUnit) : (setSync c f u).ev = c.ev := rfl
@[simp] theorem setSync_alm (f : Nat) (u : SyncUnit) : (setSync c f u).alm = c.alm := rfl
@[simp] theorem setSync_vigil (f : Nat) (u : SyncUnit) : (setSync c f u).vigil = c.vigil := rfl
@[simp] theorem setSync_st (f : Nat) (u : SyncUnit) : (setSync c f u).st = c.st := rfl
@[simp] theorem setSync_acc (f : Nat) (u : SyncUnit) : (setSync c f u).acc = c.acc := rfl
@[simp] theorem setSync_scale (f : Nat) (u : SyncUnit) : (setSync c f u).scale = c.scale := rfl
@[simp] theorem setSync_scaleAt (f : Nat) (u : SyncUnit) : (setSync c f u).scaleAt = c.scaleAt := rfl
@[simp] theorem setSync_slots (f : Nat) (u : SyncUnit) : (setSync c f u).slots = c.slots := rfl
@[simp] theorem setSync_norm (f : Nat) (u : SyncUnit) : (setSync c f u).norm = c.norm := rfl
@[simp] theorem setSync_recv (f : Nat) (u : SyncUnit) : (setSync c f u).recv = c.recv := rfl
@[simp] theorem setSync_merge (f : Nat) (u : SyncUnit) : (setSync c f u).merge = c.merge := rfl
@[simp] theorem setSync_net (f : Nat) (u : SyncUnit) : (setSync c f u).net = c.net := rfl
@[simp] theorem setSync_fab (f : Nat) (u : SyncUnit) : (setSync c f u).fab = c.fab := rfl
@[simp] theorem setSync_host (f : Nat) (u : SyncUnit) : (setSync c f u).host = c.host := rfl
@[simp] theorem setSync_clk (f : Nat) (u : SyncUnit) : (setSync c f u).clk = c.clk := rfl
@[simp] theorem setSync_power (f : Nat) (u : SyncUnit) : (setSync c f u).power = c.power := rfl
@[simp] theorem setSync_boot (f : Nat) (u : SyncUnit) : (setSync c f u).boot = c.boot := rfl
@[simp] theorem setSync_ecc (f : Nat) (u : SyncUnit) : (setSync c f u).ecc = c.ecc := rfl
@[simp] theorem setSync_freeCtr (f : Nat) (u : SyncUnit) : (setSync c f u).freeCtr = c.freeCtr := rfl

/-! ### setStrm -/

@[simp] theorem setStrm_dict (g i : Nat) (x : Stream) : (setStrm c g i x).dict = c.dict := rfl
@[simp] theorem setStrm_ev (g i : Nat) (x : Stream) : (setStrm c g i x).ev = c.ev := rfl
@[simp] theorem setStrm_alm (g i : Nat) (x : Stream) : (setStrm c g i x).alm = c.alm := rfl
@[simp] theorem setStrm_vigil (g i : Nat) (x : Stream) : (setStrm c g i x).vigil = c.vigil := rfl
@[simp] theorem setStrm_fl (g i : Nat) (x : Stream) : (setStrm c g i x).fl = c.fl := rfl
@[simp] theorem setStrm_acc (g i : Nat) (x : Stream) : (setStrm c g i x).acc = c.acc := rfl
@[simp] theorem setStrm_scale (g i : Nat) (x : Stream) : (setStrm c g i x).scale = c.scale := rfl
@[simp] theorem setStrm_scaleAt (g i : Nat) (x : Stream) : (setStrm c g i x).scaleAt = c.scaleAt := rfl
@[simp] theorem setStrm_slots (g i : Nat) (x : Stream) : (setStrm c g i x).slots = c.slots := rfl
@[simp] theorem setStrm_norm (g i : Nat) (x : Stream) : (setStrm c g i x).norm = c.norm := rfl
@[simp] theorem setStrm_recv (g i : Nat) (x : Stream) : (setStrm c g i x).recv = c.recv := rfl
@[simp] theorem setStrm_merge (g i : Nat) (x : Stream) : (setStrm c g i x).merge = c.merge := rfl
@[simp] theorem setStrm_net (g i : Nat) (x : Stream) : (setStrm c g i x).net = c.net := rfl
@[simp] theorem setStrm_fab (g i : Nat) (x : Stream) : (setStrm c g i x).fab = c.fab := rfl
@[simp] theorem setStrm_host (g i : Nat) (x : Stream) : (setStrm c g i x).host = c.host := rfl
@[simp] theorem setStrm_clk (g i : Nat) (x : Stream) : (setStrm c g i x).clk = c.clk := rfl
@[simp] theorem setStrm_power (g i : Nat) (x : Stream) : (setStrm c g i x).power = c.power := rfl
@[simp] theorem setStrm_boot (g i : Nat) (x : Stream) : (setStrm c g i x).boot = c.boot := rfl
@[simp] theorem setStrm_ecc (g i : Nat) (x : Stream) : (setStrm c g i x).ecc = c.ecc := rfl
@[simp] theorem setStrm_freeCtr (g i : Nat) (x : Stream) : (setStrm c g i x).freeCtr = c.freeCtr := rfl

/-! ### setObj -/

@[simp] theorem setObj_ev (k v : Nat) : (setObj c k v).ev = c.ev := rfl
@[simp] theorem setObj_alm (k v : Nat) : (setObj c k v).alm = c.alm := rfl
@[simp] theorem setObj_vigil (k v : Nat) : (setObj c k v).vigil = c.vigil := rfl
@[simp] theorem setObj_st (k v : Nat) : (setObj c k v).st = c.st := rfl
@[simp] theorem setObj_fl (k v : Nat) : (setObj c k v).fl = c.fl := rfl
@[simp] theorem setObj_acc (k v : Nat) : (setObj c k v).acc = c.acc := rfl
@[simp] theorem setObj_scale (k v : Nat) : (setObj c k v).scale = c.scale := rfl
@[simp] theorem setObj_scaleAt (k v : Nat) : (setObj c k v).scaleAt = c.scaleAt := rfl
@[simp] theorem setObj_slots (k v : Nat) : (setObj c k v).slots = c.slots := rfl
@[simp] theorem setObj_norm (k v : Nat) : (setObj c k v).norm = c.norm := rfl
@[simp] theorem setObj_recv (k v : Nat) : (setObj c k v).recv = c.recv := rfl
@[simp] theorem setObj_merge (k v : Nat) : (setObj c k v).merge = c.merge := rfl
@[simp] theorem setObj_net (k v : Nat) : (setObj c k v).net = c.net := rfl
@[simp] theorem setObj_fab (k v : Nat) : (setObj c k v).fab = c.fab := rfl
@[simp] theorem setObj_host (k v : Nat) : (setObj c k v).host = c.host := rfl
@[simp] theorem setObj_clk (k v : Nat) : (setObj c k v).clk = c.clk := rfl
@[simp] theorem setObj_power (k v : Nat) : (setObj c k v).power = c.power := rfl
@[simp] theorem setObj_boot (k v : Nat) : (setObj c k v).boot = c.boot := rfl
@[simp] theorem setObj_ecc (k v : Nat) : (setObj c k v).ecc = c.ecc := rfl
@[simp] theorem setObj_freeCtr (k v : Nat) : (setObj c k v).freeCtr = c.freeCtr := rfl

/-! ### addObj -/

@[simp] theorem addObj_ev (k n : Nat) : (addObj c k n).ev = c.ev := rfl
@[simp] theorem addObj_alm (k n : Nat) : (addObj c k n).alm = c.alm := rfl
@[simp] theorem addObj_vigil (k n : Nat) : (addObj c k n).vigil = c.vigil := rfl
@[simp] theorem addObj_st (k n : Nat) : (addObj c k n).st = c.st := rfl
@[simp] theorem addObj_fl (k n : Nat) : (addObj c k n).fl = c.fl := rfl
@[simp] theorem addObj_acc (k n : Nat) : (addObj c k n).acc = c.acc := rfl
@[simp] theorem addObj_scale (k n : Nat) : (addObj c k n).scale = c.scale := rfl
@[simp] theorem addObj_scaleAt (k n : Nat) : (addObj c k n).scaleAt = c.scaleAt := rfl
@[simp] theorem addObj_slots (k n : Nat) : (addObj c k n).slots = c.slots := rfl
@[simp] theorem addObj_norm (k n : Nat) : (addObj c k n).norm = c.norm := rfl
@[simp] theorem addObj_recv (k n : Nat) : (addObj c k n).recv = c.recv := rfl
@[simp] theorem addObj_merge (k n : Nat) : (addObj c k n).merge = c.merge := rfl
@[simp] theorem addObj_net (k n : Nat) : (addObj c k n).net = c.net := rfl
@[simp] theorem addObj_fab (k n : Nat) : (addObj c k n).fab = c.fab := rfl
@[simp] theorem addObj_host (k n : Nat) : (addObj c k n).host = c.host := rfl
@[simp] theorem addObj_clk (k n : Nat) : (addObj c k n).clk = c.clk := rfl
@[simp] theorem addObj_power (k n : Nat) : (addObj c k n).power = c.power := rfl
@[simp] theorem addObj_boot (k n : Nat) : (addObj c k n).boot = c.boot := rfl
@[simp] theorem addObj_ecc (k n : Nat) : (addObj c k n).ecc = c.ecc := rfl
@[simp] theorem addObj_freeCtr (k n : Nat) : (addObj c k n).freeCtr = c.freeCtr := rfl

/-! ### setSession -/

@[simp] theorem setSession_dict (k : Nat) (x : Session) : (setSession c k x).dict = c.dict := rfl
@[simp] theorem setSession_ev (k : Nat) (x : Session) : (setSession c k x).ev = c.ev := rfl
@[simp] theorem setSession_alm (k : Nat) (x : Session) : (setSession c k x).alm = c.alm := rfl
@[simp] theorem setSession_vigil (k : Nat) (x : Session) : (setSession c k x).vigil = c.vigil := rfl
@[simp] theorem setSession_st (k : Nat) (x : Session) : (setSession c k x).st = c.st := rfl
@[simp] theorem setSession_fl (k : Nat) (x : Session) : (setSession c k x).fl = c.fl := rfl
@[simp] theorem setSession_acc (k : Nat) (x : Session) : (setSession c k x).acc = c.acc := rfl
@[simp] theorem setSession_scale (k : Nat) (x : Session) : (setSession c k x).scale = c.scale := rfl
@[simp] theorem setSession_scaleAt (k : Nat) (x : Session) : (setSession c k x).scaleAt = c.scaleAt := rfl
@[simp] theorem setSession_slots (k : Nat) (x : Session) : (setSession c k x).slots = c.slots := rfl
@[simp] theorem setSession_norm (k : Nat) (x : Session) : (setSession c k x).norm = c.norm := rfl
@[simp] theorem setSession_recv (k : Nat) (x : Session) : (setSession c k x).recv = c.recv := rfl
@[simp] theorem setSession_merge (k : Nat) (x : Session) : (setSession c k x).merge = c.merge := rfl
@[simp] theorem setSession_net (k : Nat) (x : Session) : (setSession c k x).net = c.net := rfl
@[simp] theorem setSession_fab (k : Nat) (x : Session) : (setSession c k x).fab = c.fab := rfl
@[simp] theorem setSession_clk (k : Nat) (x : Session) : (setSession c k x).clk = c.clk := rfl
@[simp] theorem setSession_power (k : Nat) (x : Session) : (setSession c k x).power = c.power := rfl
@[simp] theorem setSession_boot (k : Nat) (x : Session) : (setSession c k x).boot = c.boot := rfl
@[simp] theorem setSession_ecc (k : Nat) (x : Session) : (setSession c k x).ecc = c.ecc := rfl
@[simp] theorem setSession_freeCtr (k : Nat) (x : Session) : (setSession c k x).freeCtr = c.freeCtr := rfl

/-! ### send -/

@[simp] theorem send_dict (m : OutMsg) : (send c m).dict = c.dict := by unfold send; simp only []; split <;> rfl
@[simp] theorem send_ev (m : OutMsg) : (send c m).ev = c.ev := by unfold send; simp only []; split <;> rfl
@[simp] theorem send_alm (m : OutMsg) : (send c m).alm = c.alm := by unfold send; simp only []; split <;> rfl
@[simp] theorem send_vigil (m : OutMsg) : (send c m).vigil = c.vigil := by unfold send; simp only []; split <;> rfl
@[simp] theorem send_st (m : OutMsg) : (send c m).st = c.st := by unfold send; simp only []; split <;> rfl
@[simp] theorem send_fl (m : OutMsg) : (send c m).fl = c.fl := by unfold send; simp only []; split <;> rfl
@[simp] theorem send_acc (m : OutMsg) : (send c m).acc = c.acc := by unfold send; simp only []; split <;> rfl
@[simp] theorem send_scale (m : OutMsg) : (send c m).scale = c.scale := by unfold send; simp only []; split <;> rfl
@[simp] theorem send_scaleAt (m : OutMsg) : (send c m).scaleAt = c.scaleAt := by unfold send; simp only []; split <;> rfl
@[simp] theorem send_slots (m : OutMsg) : (send c m).slots = c.slots := by unfold send; simp only []; split <;> rfl
@[simp] theorem send_norm (m : OutMsg) : (send c m).norm = c.norm := by unfold send; simp only []; split <;> rfl
@[simp] theorem send_recv (m : OutMsg) : (send c m).recv = c.recv := by unfold send; simp only []; split <;> rfl
@[simp] theorem send_merge (m : OutMsg) : (send c m).merge = c.merge := by unfold send; simp only []; split <;> rfl
@[simp] theorem send_net (m : OutMsg) : (send c m).net = c.net := by unfold send; simp only []; split <;> rfl
@[simp] theorem send_fab (m : OutMsg) : (send c m).fab = c.fab := by unfold send; simp only []; split <;> rfl
@[simp] theorem send_clk (m : OutMsg) : (send c m).clk = c.clk := by unfold send; simp only []; split <;> rfl
@[simp] theorem send_power (m : OutMsg) : (send c m).power = c.power := by unfold send; simp only []; split <;> rfl
@[simp] theorem send_boot (m : OutMsg) : (send c m).boot = c.boot := by unfold send; simp only []; split <;> rfl
@[simp] theorem send_ecc (m : OutMsg) : (send c m).ecc = c.ecc := by unfold send; simp only []; split <;> rfl
@[simp] theorem send_freeCtr (m : OutMsg) : (send c m).freeCtr = c.freeCtr := by unfold send; simp only []; split <;> rfl

/-! ### setCtx -/

@[simp] theorem setCtx_dict (i : Nat) (x : Ctx) : (setCtx c i x).dict = c.dict := rfl
@[simp] theorem setCtx_ev (i : Nat) (x : Ctx) : (setCtx c i x).ev = c.ev := rfl
@[simp] theorem setCtx_alm (i : Nat) (x : Ctx) : (setCtx c i x).alm = c.alm := rfl
@[simp] theorem setCtx_vigil (i : Nat) (x : Ctx) : (setCtx c i x).vigil = c.vigil := rfl
@[simp] theorem setCtx_st (i : Nat) (x : Ctx) : (setCtx c i x).st = c.st := rfl
@[simp] theorem setCtx_fl (i : Nat) (x : Ctx) : (setCtx c i x).fl = c.fl := rfl
@[simp] theorem setCtx_acc (i : Nat) (x : Ctx) : (setCtx c i x).acc = c.acc := rfl
@[simp] theorem setCtx_scale (i : Nat) (x : Ctx) : (setCtx c i x).scale = c.scale := rfl
@[simp] theorem setCtx_scaleAt (i : Nat) (x : Ctx) : (setCtx c i x).scaleAt = c.scaleAt := rfl
@[simp] theorem setCtx_slots (i : Nat) (x : Ctx) : (setCtx c i x).slots = c.slots := rfl
@[simp] theorem setCtx_norm (i : Nat) (x : Ctx) : (setCtx c i x).norm = c.norm := rfl
@[simp] theorem setCtx_recv (i : Nat) (x : Ctx) : (setCtx c i x).recv = c.recv := rfl
@[simp] theorem setCtx_merge (i : Nat) (x : Ctx) : (setCtx c i x).merge = c.merge := rfl
@[simp] theorem setCtx_net (i : Nat) (x : Ctx) : (setCtx c i x).net = c.net := rfl
@[simp] theorem setCtx_host (i : Nat) (x : Ctx) : (setCtx c i x).host = c.host := rfl
@[simp] theorem setCtx_clk (i : Nat) (x : Ctx) : (setCtx c i x).clk = c.clk := rfl
@[simp] theorem setCtx_power (i : Nat) (x : Ctx) : (setCtx c i x).power = c.power := rfl
@[simp] theorem setCtx_boot (i : Nat) (x : Ctx) : (setCtx c i x).boot = c.boot := rfl
@[simp] theorem setCtx_ecc (i : Nat) (x : Ctx) : (setCtx c i x).ecc = c.ecc := rfl
@[simp] theorem setCtx_freeCtr (i : Nat) (x : Ctx) : (setCtx c i x).freeCtr = c.freeCtr := rfl

/-! ### setSem -/

@[simp] theorem setSem_dict (f s : Nat) (x : Sem) : (setSem c f s x).dict = c.dict := rfl
@[simp] theorem setSem_ev (f s : Nat) (x : Sem) : (setSem c f s x).ev = c.ev := rfl
@[simp] theorem setSem_alm (f s : Nat) (x : Sem) : (setSem c f s x).alm = c.alm := rfl
@[simp] theorem setSem_vigil (f s : Nat) (x : Sem) : (setSem c f s x).vigil = c.vigil := rfl
@[simp] theorem setSem_st (f s : Nat) (x : Sem) : (setSem c f s x).st = c.st := rfl
@[simp] theorem setSem_acc (f s : Nat) (x : Sem) : (setSem c f s x).acc = c.acc := rfl
@[simp] theorem setSem_scale (f s : Nat) (x : Sem) : (setSem c f s x).scale = c.scale := rfl
@[simp] theorem setSem_scaleAt (f s : Nat) (x : Sem) : (setSem c f s x).scaleAt = c.scaleAt := rfl
@[simp] theorem setSem_slots (f s : Nat) (x : Sem) : (setSem c f s x).slots = c.slots := rfl
@[simp] theorem setSem_norm (f s : Nat) (x : Sem) : (setSem c f s x).norm = c.norm := rfl
@[simp] theorem setSem_recv (f s : Nat) (x : Sem) : (setSem c f s x).recv = c.recv := rfl
@[simp] theorem setSem_merge (f s : Nat) (x : Sem) : (setSem c f s x).merge = c.merge := rfl
@[simp] theorem setSem_net (f s : Nat) (x : Sem) : (setSem c f s x).net = c.net := rfl
@[simp] theorem setSem_fab (f s : Nat) (x : Sem) : (setSem c f s x).fab = c.fab := rfl
@[simp] theorem setSem_host (f s : Nat) (x : Sem) : (setSem c f s x).host = c.host := rfl
@[simp] theorem setSem_clk (f s : Nat) (x : Sem) : (setSem c f s x).clk = c.clk := rfl
@[simp] theorem setSem_power (f s : Nat) (x : Sem) : (setSem c f s x).power = c.power := rfl
@[simp] theorem setSem_boot (f s : Nat) (x : Sem) : (setSem c f s x).boot = c.boot := rfl
@[simp] theorem setSem_ecc (f s : Nat) (x : Sem) : (setSem c f s x).ecc = c.ecc := rfl
@[simp] theorem setSem_freeCtr (f s : Nat) (x : Sem) : (setSem c f s x).freeCtr = c.freeCtr := rfl

/-! ### modHold -/

@[simp] theorem modHold_dict (f : HoldState → HoldState) : (modHold c f).dict = c.dict := rfl
@[simp] theorem modHold_ev (f : HoldState → HoldState) : (modHold c f).ev = c.ev := rfl
@[simp] theorem modHold_vigil (f : HoldState → HoldState) : (modHold c f).vigil = c.vigil := rfl
@[simp] theorem modHold_st (f : HoldState → HoldState) : (modHold c f).st = c.st := rfl
@[simp] theorem modHold_fl (f : HoldState → HoldState) : (modHold c f).fl = c.fl := rfl
@[simp] theorem modHold_acc (f : HoldState → HoldState) : (modHold c f).acc = c.acc := rfl
@[simp] theorem modHold_scale (f : HoldState → HoldState) : (modHold c f).scale = c.scale := rfl
@[simp] theorem modHold_scaleAt (f : HoldState → HoldState) : (modHold c f).scaleAt = c.scaleAt := rfl
@[simp] theorem modHold_slots (f : HoldState → HoldState) : (modHold c f).slots = c.slots := rfl
@[simp] theorem modHold_norm (f : HoldState → HoldState) : (modHold c f).norm = c.norm := rfl
@[simp] theorem modHold_recv (f : HoldState → HoldState) : (modHold c f).recv = c.recv := rfl
@[simp] theorem modHold_merge (f : HoldState → HoldState) : (modHold c f).merge = c.merge := rfl
@[simp] theorem modHold_net (f : HoldState → HoldState) : (modHold c f).net = c.net := rfl
@[simp] theorem modHold_fab (f : HoldState → HoldState) : (modHold c f).fab = c.fab := rfl
@[simp] theorem modHold_host (f : HoldState → HoldState) : (modHold c f).host = c.host := rfl
@[simp] theorem modHold_clk (f : HoldState → HoldState) : (modHold c f).clk = c.clk := rfl
@[simp] theorem modHold_power (f : HoldState → HoldState) : (modHold c f).power = c.power := rfl
@[simp] theorem modHold_boot (f : HoldState → HoldState) : (modHold c f).boot = c.boot := rfl
@[simp] theorem modHold_ecc (f : HoldState → HoldState) : (modHold c f).ecc = c.ecc := rfl
@[simp] theorem modHold_freeCtr (f : HoldState → HoldState) : (modHold c f).freeCtr = c.freeCtr := rfl

/-! ### modSeq -/

@[simp] theorem modSeq_dict (g : Nat) (f : Seq → Seq) : (modSeq c g f).dict = c.dict := rfl
@[simp] theorem modSeq_ev (g : Nat) (f : Seq → Seq) : (modSeq c g f).ev = c.ev := rfl
@[simp] theorem modSeq_alm (g : Nat) (f : Seq → Seq) : (modSeq c g f).alm = c.alm := rfl
@[simp] theorem modSeq_vigil (g : Nat) (f : Seq → Seq) : (modSeq c g f).vigil = c.vigil := rfl
@[simp] theorem modSeq_fl (g : Nat) (f : Seq → Seq) : (modSeq c g f).fl = c.fl := rfl
@[simp] theorem modSeq_acc (g : Nat) (f : Seq → Seq) : (modSeq c g f).acc = c.acc := rfl
@[simp] theorem modSeq_scale (g : Nat) (f : Seq → Seq) : (modSeq c g f).scale = c.scale := rfl
@[simp] theorem modSeq_scaleAt (g : Nat) (f : Seq → Seq) : (modSeq c g f).scaleAt = c.scaleAt := rfl
@[simp] theorem modSeq_slots (g : Nat) (f : Seq → Seq) : (modSeq c g f).slots = c.slots := rfl
@[simp] theorem modSeq_norm (g : Nat) (f : Seq → Seq) : (modSeq c g f).norm = c.norm := rfl
@[simp] theorem modSeq_recv (g : Nat) (f : Seq → Seq) : (modSeq c g f).recv = c.recv := rfl
@[simp] theorem modSeq_merge (g : Nat) (f : Seq → Seq) : (modSeq c g f).merge = c.merge := rfl
@[simp] theorem modSeq_net (g : Nat) (f : Seq → Seq) : (modSeq c g f).net = c.net := rfl
@[simp] theorem modSeq_fab (g : Nat) (f : Seq → Seq) : (modSeq c g f).fab = c.fab := rfl
@[simp] theorem modSeq_host (g : Nat) (f : Seq → Seq) : (modSeq c g f).host = c.host := rfl
@[simp] theorem modSeq_clk (g : Nat) (f : Seq → Seq) : (modSeq c g f).clk = c.clk := rfl
@[simp] theorem modSeq_power (g : Nat) (f : Seq → Seq) : (modSeq c g f).power = c.power := rfl
@[simp] theorem modSeq_boot (g : Nat) (f : Seq → Seq) : (modSeq c g f).boot = c.boot := rfl
@[simp] theorem modSeq_ecc (g : Nat) (f : Seq → Seq) : (modSeq c g f).ecc = c.ecc := rfl
@[simp] theorem modSeq_freeCtr (g : Nat) (f : Seq → Seq) : (modSeq c g f).freeCtr = c.freeCtr := rfl

/-! ### waited -/

@[simp] theorem waited_ev (n : Nat) : (waited c n).ev = c.ev := by unfold waited; split <;> rfl
@[simp] theorem waited_alm (n : Nat) : (waited c n).alm = c.alm := by unfold waited; split <;> rfl
@[simp] theorem waited_vigil (n : Nat) : (waited c n).vigil = c.vigil := by unfold waited; split <;> rfl
@[simp] theorem waited_st (n : Nat) : (waited c n).st = c.st := by unfold waited; split <;> rfl
@[simp] theorem waited_fl (n : Nat) : (waited c n).fl = c.fl := by unfold waited; split <;> rfl
@[simp] theorem waited_acc (n : Nat) : (waited c n).acc = c.acc := by unfold waited; split <;> rfl
@[simp] theorem waited_scale (n : Nat) : (waited c n).scale = c.scale := by unfold waited; split <;> rfl
@[simp] theorem waited_scaleAt (n : Nat) : (waited c n).scaleAt = c.scaleAt := by unfold waited; split <;> rfl
@[simp] theorem waited_slots (n : Nat) : (waited c n).slots = c.slots := by unfold waited; split <;> rfl
@[simp] theorem waited_norm (n : Nat) : (waited c n).norm = c.norm := by unfold waited; split <;> rfl
@[simp] theorem waited_recv (n : Nat) : (waited c n).recv = c.recv := by unfold waited; split <;> rfl
@[simp] theorem waited_merge (n : Nat) : (waited c n).merge = c.merge := by unfold waited; split <;> rfl
@[simp] theorem waited_net (n : Nat) : (waited c n).net = c.net := by unfold waited; split <;> rfl
@[simp] theorem waited_fab (n : Nat) : (waited c n).fab = c.fab := by unfold waited; split <;> rfl
@[simp] theorem waited_host (n : Nat) : (waited c n).host = c.host := by unfold waited; split <;> rfl
@[simp] theorem waited_clk (n : Nat) : (waited c n).clk = c.clk := by unfold waited; split <;> rfl
@[simp] theorem waited_power (n : Nat) : (waited c n).power = c.power := by unfold waited; split <;> rfl
@[simp] theorem waited_boot (n : Nat) : (waited c n).boot = c.boot := by unfold waited; split <;> rfl
@[simp] theorem waited_ecc (n : Nat) : (waited c n).ecc = c.ecc := by unfold waited; split <;> rfl
@[simp] theorem waited_freeCtr (n : Nat) : (waited c n).freeCtr = c.freeCtr := by unfold waited; split <;> rfl

/-! ### issued -/

@[simp] theorem issued_ev (g : Nat) : (issued c g).ev = c.ev := by simp only [issued, waited]; split <;> rfl
@[simp] theorem issued_alm (g : Nat) : (issued c g).alm = c.alm := by simp only [issued, waited]; split <;> rfl
@[simp] theorem issued_vigil (g : Nat) : (issued c g).vigil = c.vigil := by simp only [issued, waited]; split <;> rfl
@[simp] theorem issued_fl (g : Nat) : (issued c g).fl = c.fl := by simp only [issued, waited]; split <;> rfl
@[simp] theorem issued_acc (g : Nat) : (issued c g).acc = c.acc := by simp only [issued, waited]; split <;> rfl
@[simp] theorem issued_scale (g : Nat) : (issued c g).scale = c.scale := by simp only [issued, waited]; split <;> rfl
@[simp] theorem issued_scaleAt (g : Nat) : (issued c g).scaleAt = c.scaleAt := by simp only [issued, waited]; split <;> rfl
@[simp] theorem issued_slots (g : Nat) : (issued c g).slots = c.slots := by simp only [issued, waited]; split <;> rfl
@[simp] theorem issued_norm (g : Nat) : (issued c g).norm = c.norm := by simp only [issued, waited]; split <;> rfl
@[simp] theorem issued_recv (g : Nat) : (issued c g).recv = c.recv := by simp only [issued, waited]; split <;> rfl
@[simp] theorem issued_merge (g : Nat) : (issued c g).merge = c.merge := by simp only [issued, waited]; split <;> rfl
@[simp] theorem issued_net (g : Nat) : (issued c g).net = c.net := by simp only [issued, waited]; split <;> rfl
@[simp] theorem issued_fab (g : Nat) : (issued c g).fab = c.fab := by simp only [issued, waited]; split <;> rfl
@[simp] theorem issued_host (g : Nat) : (issued c g).host = c.host := by simp only [issued, waited]; split <;> rfl
@[simp] theorem issued_clk (g : Nat) : (issued c g).clk = c.clk := by simp only [issued, waited]; split <;> rfl
@[simp] theorem issued_power (g : Nat) : (issued c g).power = c.power := by simp only [issued, waited]; split <;> rfl
@[simp] theorem issued_boot (g : Nat) : (issued c g).boot = c.boot := by simp only [issued, waited]; split <;> rfl
@[simp] theorem issued_ecc (g : Nat) : (issued c g).ecc = c.ecc := by simp only [issued, waited]; split <;> rfl
@[simp] theorem issued_freeCtr (g : Nat) : (issued c g).freeCtr = c.freeCtr := by simp only [issued, waited]; split <;> rfl

/-! ### waitOn -/

@[simp] theorem waitOn_dict (g r : Nat) : (waitOn c g r).dict = c.dict := rfl
@[simp] theorem waitOn_ev (g r : Nat) : (waitOn c g r).ev = c.ev := rfl
@[simp] theorem waitOn_alm (g r : Nat) : (waitOn c g r).alm = c.alm := rfl
@[simp] theorem waitOn_vigil (g r : Nat) : (waitOn c g r).vigil = c.vigil := rfl
@[simp] theorem waitOn_fl (g r : Nat) : (waitOn c g r).fl = c.fl := rfl
@[simp] theorem waitOn_acc (g r : Nat) : (waitOn c g r).acc = c.acc := rfl
@[simp] theorem waitOn_scale (g r : Nat) : (waitOn c g r).scale = c.scale := rfl
@[simp] theorem waitOn_scaleAt (g r : Nat) : (waitOn c g r).scaleAt = c.scaleAt := rfl
@[simp] theorem waitOn_slots (g r : Nat) : (waitOn c g r).slots = c.slots := rfl
@[simp] theorem waitOn_norm (g r : Nat) : (waitOn c g r).norm = c.norm := rfl
@[simp] theorem waitOn_recv (g r : Nat) : (waitOn c g r).recv = c.recv := rfl
@[simp] theorem waitOn_merge (g r : Nat) : (waitOn c g r).merge = c.merge := rfl
@[simp] theorem waitOn_net (g r : Nat) : (waitOn c g r).net = c.net := rfl
@[simp] theorem waitOn_fab (g r : Nat) : (waitOn c g r).fab = c.fab := rfl
@[simp] theorem waitOn_host (g r : Nat) : (waitOn c g r).host = c.host := rfl
@[simp] theorem waitOn_clk (g r : Nat) : (waitOn c g r).clk = c.clk := rfl
@[simp] theorem waitOn_power (g r : Nat) : (waitOn c g r).power = c.power := rfl
@[simp] theorem waitOn_boot (g r : Nat) : (waitOn c g r).boot = c.boot := rfl
@[simp] theorem waitOn_ecc (g r : Nat) : (waitOn c g r).ecc = c.ecc := rfl
@[simp] theorem waitOn_freeCtr (g r : Nat) : (waitOn c g r).freeCtr = c.freeCtr := rfl

/-! ### holdSeq -/

@[simp] theorem holdSeq_dict (g r : Nat) (h : Hold) : (holdSeq c g r h).dict = c.dict := rfl
@[simp] theorem holdSeq_ev (g r : Nat) (h : Hold) : (holdSeq c g r h).ev = c.ev := rfl
@[simp] theorem holdSeq_alm (g r : Nat) (h : Hold) : (holdSeq c g r h).alm = c.alm := rfl
@[simp] theorem holdSeq_vigil (g r : Nat) (h : Hold) : (holdSeq c g r h).vigil = c.vigil := rfl
@[simp] theorem holdSeq_fl (g r : Nat) (h : Hold) : (holdSeq c g r h).fl = c.fl := rfl
@[simp] theorem holdSeq_acc (g r : Nat) (h : Hold) : (holdSeq c g r h).acc = c.acc := rfl
@[simp] theorem holdSeq_scale (g r : Nat) (h : Hold) : (holdSeq c g r h).scale = c.scale := rfl
@[simp] theorem holdSeq_scaleAt (g r : Nat) (h : Hold) : (holdSeq c g r h).scaleAt = c.scaleAt := rfl
@[simp] theorem holdSeq_slots (g r : Nat) (h : Hold) : (holdSeq c g r h).slots = c.slots := rfl
@[simp] theorem holdSeq_norm (g r : Nat) (h : Hold) : (holdSeq c g r h).norm = c.norm := rfl
@[simp] theorem holdSeq_recv (g r : Nat) (h : Hold) : (holdSeq c g r h).recv = c.recv := rfl
@[simp] theorem holdSeq_merge (g r : Nat) (h : Hold) : (holdSeq c g r h).merge = c.merge := rfl
@[simp] theorem holdSeq_net (g r : Nat) (h : Hold) : (holdSeq c g r h).net = c.net := rfl
@[simp] theorem holdSeq_fab (g r : Nat) (h : Hold) : (holdSeq c g r h).fab = c.fab := rfl
@[simp] theorem holdSeq_host (g r : Nat) (h : Hold) : (holdSeq c g r h).host = c.host := rfl
@[simp] theorem holdSeq_clk (g r : Nat) (h : Hold) : (holdSeq c g r h).clk = c.clk := rfl
@[simp] theorem holdSeq_power (g r : Nat) (h : Hold) : (holdSeq c g r h).power = c.power := rfl
@[simp] theorem holdSeq_boot (g r : Nat) (h : Hold) : (holdSeq c g r h).boot = c.boot := rfl
@[simp] theorem holdSeq_ecc (g r : Nat) (h : Hold) : (holdSeq c g r h).ecc = c.ecc := rfl
@[simp] theorem holdSeq_freeCtr (g r : Nat) (h : Hold) : (holdSeq c g r h).freeCtr = c.freeCtr := rfl

/-! ### releaseSeq -/

@[simp] theorem releaseSeq_dict (g : Nat) : (releaseSeq c g).dict = c.dict := rfl
@[simp] theorem releaseSeq_ev (g : Nat) : (releaseSeq c g).ev = c.ev := rfl
@[simp] theorem releaseSeq_alm (g : Nat) : (releaseSeq c g).alm = c.alm := rfl
@[simp] theorem releaseSeq_vigil (g : Nat) : (releaseSeq c g).vigil = c.vigil := rfl
@[simp] theorem releaseSeq_fl (g : Nat) : (releaseSeq c g).fl = c.fl := rfl
@[simp] theorem releaseSeq_acc (g : Nat) : (releaseSeq c g).acc = c.acc := rfl
@[simp] theorem releaseSeq_scale (g : Nat) : (releaseSeq c g).scale = c.scale := rfl
@[simp] theorem releaseSeq_scaleAt (g : Nat) : (releaseSeq c g).scaleAt = c.scaleAt := rfl
@[simp] theorem releaseSeq_slots (g : Nat) : (releaseSeq c g).slots = c.slots := rfl
@[simp] theorem releaseSeq_norm (g : Nat) : (releaseSeq c g).norm = c.norm := rfl
@[simp] theorem releaseSeq_recv (g : Nat) : (releaseSeq c g).recv = c.recv := rfl
@[simp] theorem releaseSeq_merge (g : Nat) : (releaseSeq c g).merge = c.merge := rfl
@[simp] theorem releaseSeq_net (g : Nat) : (releaseSeq c g).net = c.net := rfl
@[simp] theorem releaseSeq_fab (g : Nat) : (releaseSeq c g).fab = c.fab := rfl
@[simp] theorem releaseSeq_host (g : Nat) : (releaseSeq c g).host = c.host := rfl
@[simp] theorem releaseSeq_clk (g : Nat) : (releaseSeq c g).clk = c.clk := rfl
@[simp] theorem releaseSeq_power (g : Nat) : (releaseSeq c g).power = c.power := rfl
@[simp] theorem releaseSeq_boot (g : Nat) : (releaseSeq c g).boot = c.boot := rfl
@[simp] theorem releaseSeq_ecc (g : Nat) : (releaseSeq c g).ecc = c.ecc := rfl
@[simp] theorem releaseSeq_freeCtr (g : Nat) : (releaseSeq c g).freeCtr = c.freeCtr := rfl

/-! ### lastStatus -/

@[simp] theorem lastStatus_dict (g : Nat) (s : Status) : (lastStatus c g s).dict = c.dict := rfl
@[simp] theorem lastStatus_ev (g : Nat) (s : Status) : (lastStatus c g s).ev = c.ev := rfl
@[simp] theorem lastStatus_alm (g : Nat) (s : Status) : (lastStatus c g s).alm = c.alm := rfl
@[simp] theorem lastStatus_vigil (g : Nat) (s : Status) : (lastStatus c g s).vigil = c.vigil := rfl
@[simp] theorem lastStatus_fl (g : Nat) (s : Status) : (lastStatus c g s).fl = c.fl := rfl
@[simp] theorem lastStatus_acc (g : Nat) (s : Status) : (lastStatus c g s).acc = c.acc := rfl
@[simp] theorem lastStatus_scale (g : Nat) (s : Status) : (lastStatus c g s).scale = c.scale := rfl
@[simp] theorem lastStatus_scaleAt (g : Nat) (s : Status) : (lastStatus c g s).scaleAt = c.scaleAt := rfl
@[simp] theorem lastStatus_slots (g : Nat) (s : Status) : (lastStatus c g s).slots = c.slots := rfl
@[simp] theorem lastStatus_norm (g : Nat) (s : Status) : (lastStatus c g s).norm = c.norm := rfl
@[simp] theorem lastStatus_recv (g : Nat) (s : Status) : (lastStatus c g s).recv = c.recv := rfl
@[simp] theorem lastStatus_merge (g : Nat) (s : Status) : (lastStatus c g s).merge = c.merge := rfl
@[simp] theorem lastStatus_net (g : Nat) (s : Status) : (lastStatus c g s).net = c.net := rfl
@[simp] theorem lastStatus_fab (g : Nat) (s : Status) : (lastStatus c g s).fab = c.fab := rfl
@[simp] theorem lastStatus_host (g : Nat) (s : Status) : (lastStatus c g s).host = c.host := rfl
@[simp] theorem lastStatus_clk (g : Nat) (s : Status) : (lastStatus c g s).clk = c.clk := rfl
@[simp] theorem lastStatus_power (g : Nat) (s : Status) : (lastStatus c g s).power = c.power := rfl
@[simp] theorem lastStatus_boot (g : Nat) (s : Status) : (lastStatus c g s).boot = c.boot := rfl
@[simp] theorem lastStatus_ecc (g : Nat) (s : Status) : (lastStatus c g s).ecc = c.ecc := rfl
@[simp] theorem lastStatus_freeCtr (g : Nat) (s : Status) : (lastStatus c g s).freeCtr = c.freeCtr := rfl

/-! ### holdOp -/

@[simp] theorem holdOp_dict (f : Nat) (op : SyncOp) : (holdOp c f op).dict = c.dict := rfl
@[simp] theorem holdOp_ev (f : Nat) (op : SyncOp) : (holdOp c f op).ev = c.ev := rfl
@[simp] theorem holdOp_alm (f : Nat) (op : SyncOp) : (holdOp c f op).alm = c.alm := rfl
@[simp] theorem holdOp_vigil (f : Nat) (op : SyncOp) : (holdOp c f op).vigil = c.vigil := rfl
@[simp] theorem holdOp_st (f : Nat) (op : SyncOp) : (holdOp c f op).st = c.st := rfl
@[simp] theorem holdOp_acc (f : Nat) (op : SyncOp) : (holdOp c f op).acc = c.acc := rfl
@[simp] theorem holdOp_scale (f : Nat) (op : SyncOp) : (holdOp c f op).scale = c.scale := rfl
@[simp] theorem holdOp_scaleAt (f : Nat) (op : SyncOp) : (holdOp c f op).scaleAt = c.scaleAt := rfl
@[simp] theorem holdOp_slots (f : Nat) (op : SyncOp) : (holdOp c f op).slots = c.slots := rfl
@[simp] theorem holdOp_norm (f : Nat) (op : SyncOp) : (holdOp c f op).norm = c.norm := rfl
@[simp] theorem holdOp_recv (f : Nat) (op : SyncOp) : (holdOp c f op).recv = c.recv := rfl
@[simp] theorem holdOp_merge (f : Nat) (op : SyncOp) : (holdOp c f op).merge = c.merge := rfl
@[simp] theorem holdOp_net (f : Nat) (op : SyncOp) : (holdOp c f op).net = c.net := rfl
@[simp] theorem holdOp_fab (f : Nat) (op : SyncOp) : (holdOp c f op).fab = c.fab := rfl
@[simp] theorem holdOp_host (f : Nat) (op : SyncOp) : (holdOp c f op).host = c.host := rfl
@[simp] theorem holdOp_clk (f : Nat) (op : SyncOp) : (holdOp c f op).clk = c.clk := rfl
@[simp] theorem holdOp_power (f : Nat) (op : SyncOp) : (holdOp c f op).power = c.power := rfl
@[simp] theorem holdOp_boot (f : Nat) (op : SyncOp) : (holdOp c f op).boot = c.boot := rfl
@[simp] theorem holdOp_ecc (f : Nat) (op : SyncOp) : (holdOp c f op).ecc = c.ecc := rfl
@[simp] theorem holdOp_freeCtr (f : Nat) (op : SyncOp) : (holdOp c f op).freeCtr = c.freeCtr := rfl

/-! ### setPort -/

@[simp] theorem setPort_dict (p : Nat) (x : Port) : (setPort c p x).dict = c.dict := rfl
@[simp] theorem setPort_ev (p : Nat) (x : Port) : (setPort c p x).ev = c.ev := rfl
@[simp] theorem setPort_alm (p : Nat) (x : Port) : (setPort c p x).alm = c.alm := rfl
@[simp] theorem setPort_vigil (p : Nat) (x : Port) : (setPort c p x).vigil = c.vigil := rfl
@[simp] theorem setPort_st (p : Nat) (x : Port) : (setPort c p x).st = c.st := rfl
@[simp] theorem setPort_fl (p : Nat) (x : Port) : (setPort c p x).fl = c.fl := rfl
@[simp] theorem setPort_acc (p : Nat) (x : Port) : (setPort c p x).acc = c.acc := rfl
@[simp] theorem setPort_scale (p : Nat) (x : Port) : (setPort c p x).scale = c.scale := rfl
@[simp] theorem setPort_scaleAt (p : Nat) (x : Port) : (setPort c p x).scaleAt = c.scaleAt := rfl
@[simp] theorem setPort_slots (p : Nat) (x : Port) : (setPort c p x).slots = c.slots := rfl
@[simp] theorem setPort_norm (p : Nat) (x : Port) : (setPort c p x).norm = c.norm := rfl
@[simp] theorem setPort_recv (p : Nat) (x : Port) : (setPort c p x).recv = c.recv := rfl
@[simp] theorem setPort_merge (p : Nat) (x : Port) : (setPort c p x).merge = c.merge := rfl
@[simp] theorem setPort_net (p : Nat) (x : Port) : (setPort c p x).net = c.net := rfl
@[simp] theorem setPort_host (p : Nat) (x : Port) : (setPort c p x).host = c.host := rfl
@[simp] theorem setPort_clk (p : Nat) (x : Port) : (setPort c p x).clk = c.clk := rfl
@[simp] theorem setPort_power (p : Nat) (x : Port) : (setPort c p x).power = c.power := rfl
@[simp] theorem setPort_boot (p : Nat) (x : Port) : (setPort c p x).boot = c.boot := rfl
@[simp] theorem setPort_ecc (p : Nat) (x : Port) : (setPort c p x).ecc = c.ecc := rfl
@[simp] theorem setPort_freeCtr (p : Nat) (x : Port) : (setPort c p x).freeCtr = c.freeCtr := rfl

/-! ### modClk -/

@[simp] theorem modClk_dict (f : Clocks → Clocks) : (modClk c f).dict = c.dict := rfl
@[simp] theorem modClk_ev (f : Clocks → Clocks) : (modClk c f).ev = c.ev := rfl
@[simp] theorem modClk_alm (f : Clocks → Clocks) : (modClk c f).alm = c.alm := rfl
@[simp] theorem modClk_vigil (f : Clocks → Clocks) : (modClk c f).vigil = c.vigil := rfl
@[simp] theorem modClk_st (f : Clocks → Clocks) : (modClk c f).st = c.st := rfl
@[simp] theorem modClk_fl (f : Clocks → Clocks) : (modClk c f).fl = c.fl := rfl
@[simp] theorem modClk_acc (f : Clocks → Clocks) : (modClk c f).acc = c.acc := rfl
@[simp] theorem modClk_scale (f : Clocks → Clocks) : (modClk c f).scale = c.scale := rfl
@[simp] theorem modClk_scaleAt (f : Clocks → Clocks) : (modClk c f).scaleAt = c.scaleAt := rfl
@[simp] theorem modClk_slots (f : Clocks → Clocks) : (modClk c f).slots = c.slots := rfl
@[simp] theorem modClk_norm (f : Clocks → Clocks) : (modClk c f).norm = c.norm := rfl
@[simp] theorem modClk_recv (f : Clocks → Clocks) : (modClk c f).recv = c.recv := rfl
@[simp] theorem modClk_merge (f : Clocks → Clocks) : (modClk c f).merge = c.merge := rfl
@[simp] theorem modClk_net (f : Clocks → Clocks) : (modClk c f).net = c.net := rfl
@[simp] theorem modClk_fab (f : Clocks → Clocks) : (modClk c f).fab = c.fab := rfl
@[simp] theorem modClk_host (f : Clocks → Clocks) : (modClk c f).host = c.host := rfl
@[simp] theorem modClk_power (f : Clocks → Clocks) : (modClk c f).power = c.power := rfl
@[simp] theorem modClk_boot (f : Clocks → Clocks) : (modClk c f).boot = c.boot := rfl
@[simp] theorem modClk_ecc (f : Clocks → Clocks) : (modClk c f).ecc = c.ecc := rfl
@[simp] theorem modClk_freeCtr (f : Clocks → Clocks) : (modClk c f).freeCtr = c.freeCtr := rfl

/-! ### setGen -/

@[simp] theorem setGen_dict (f : Nat) (g : Gen) : (setGen c f g).dict = c.dict := rfl
@[simp] theorem setGen_ev (f : Nat) (g : Gen) : (setGen c f g).ev = c.ev := rfl
@[simp] theorem setGen_alm (f : Nat) (g : Gen) : (setGen c f g).alm = c.alm := rfl
@[simp] theorem setGen_vigil (f : Nat) (g : Gen) : (setGen c f g).vigil = c.vigil := rfl
@[simp] theorem setGen_st (f : Nat) (g : Gen) : (setGen c f g).st = c.st := rfl
@[simp] theorem setGen_acc (f : Nat) (g : Gen) : (setGen c f g).acc = c.acc := rfl
@[simp] theorem setGen_scale (f : Nat) (g : Gen) : (setGen c f g).scale = c.scale := rfl
@[simp] theorem setGen_scaleAt (f : Nat) (g : Gen) : (setGen c f g).scaleAt = c.scaleAt := rfl
@[simp] theorem setGen_slots (f : Nat) (g : Gen) : (setGen c f g).slots = c.slots := rfl
@[simp] theorem setGen_norm (f : Nat) (g : Gen) : (setGen c f g).norm = c.norm := rfl
@[simp] theorem setGen_recv (f : Nat) (g : Gen) : (setGen c f g).recv = c.recv := rfl
@[simp] theorem setGen_merge (f : Nat) (g : Gen) : (setGen c f g).merge = c.merge := rfl
@[simp] theorem setGen_net (f : Nat) (g : Gen) : (setGen c f g).net = c.net := rfl
@[simp] theorem setGen_fab (f : Nat) (g : Gen) : (setGen c f g).fab = c.fab := rfl
@[simp] theorem setGen_host (f : Nat) (g : Gen) : (setGen c f g).host = c.host := rfl
@[simp] theorem setGen_clk (f : Nat) (g : Gen) : (setGen c f g).clk = c.clk := rfl
@[simp] theorem setGen_power (f : Nat) (g : Gen) : (setGen c f g).power = c.power := rfl
@[simp] theorem setGen_boot (f : Nat) (g : Gen) : (setGen c f g).boot = c.boot := rfl
@[simp] theorem setGen_ecc (f : Nat) (g : Gen) : (setGen c f g).ecc = c.ecc := rfl
@[simp] theorem setGen_freeCtr (f : Nat) (g : Gen) : (setGen c f g).freeCtr = c.freeCtr := rfl

/-! ### modPower -/

@[simp] theorem modPower_dict (f : Power → Power) : (modPower c f).dict = c.dict := rfl
@[simp] theorem modPower_ev (f : Power → Power) : (modPower c f).ev = c.ev := rfl
@[simp] theorem modPower_alm (f : Power → Power) : (modPower c f).alm = c.alm := rfl
@[simp] theorem modPower_vigil (f : Power → Power) : (modPower c f).vigil = c.vigil := rfl
@[simp] theorem modPower_st (f : Power → Power) : (modPower c f).st = c.st := rfl
@[simp] theorem modPower_fl (f : Power → Power) : (modPower c f).fl = c.fl := rfl
@[simp] theorem modPower_acc (f : Power → Power) : (modPower c f).acc = c.acc := rfl
@[simp] theorem modPower_scale (f : Power → Power) : (modPower c f).scale = c.scale := rfl
@[simp] theorem modPower_scaleAt (f : Power → Power) : (modPower c f).scaleAt = c.scaleAt := rfl
@[simp] theorem modPower_slots (f : Power → Power) : (modPower c f).slots = c.slots := rfl
@[simp] theorem modPower_norm (f : Power → Power) : (modPower c f).norm = c.norm := rfl
@[simp] theorem modPower_recv (f : Power → Power) : (modPower c f).recv = c.recv := rfl
@[simp] theorem modPower_merge (f : Power → Power) : (modPower c f).merge = c.merge := rfl
@[simp] theorem modPower_net (f : Power → Power) : (modPower c f).net = c.net := rfl
@[simp] theorem modPower_fab (f : Power → Power) : (modPower c f).fab = c.fab := rfl
@[simp] theorem modPower_host (f : Power → Power) : (modPower c f).host = c.host := rfl
@[simp] theorem modPower_clk (f : Power → Power) : (modPower c f).clk = c.clk := rfl
@[simp] theorem modPower_boot (f : Power → Power) : (modPower c f).boot = c.boot := rfl
@[simp] theorem modPower_ecc (f : Power → Power) : (modPower c f).ecc = c.ecc := rfl
@[simp] theorem modPower_freeCtr (f : Power → Power) : (modPower c f).freeCtr = c.freeCtr := rfl

/-! ### trafficOn -/

@[simp] theorem trafficOn_dict (p : Nat) : (trafficOn c p).dict = c.dict := rfl
@[simp] theorem trafficOn_ev (p : Nat) : (trafficOn c p).ev = c.ev := rfl
@[simp] theorem trafficOn_alm (p : Nat) : (trafficOn c p).alm = c.alm := rfl
@[simp] theorem trafficOn_vigil (p : Nat) : (trafficOn c p).vigil = c.vigil := rfl
@[simp] theorem trafficOn_st (p : Nat) : (trafficOn c p).st = c.st := rfl
@[simp] theorem trafficOn_fl (p : Nat) : (trafficOn c p).fl = c.fl := rfl
@[simp] theorem trafficOn_acc (p : Nat) : (trafficOn c p).acc = c.acc := rfl
@[simp] theorem trafficOn_scale (p : Nat) : (trafficOn c p).scale = c.scale := rfl
@[simp] theorem trafficOn_scaleAt (p : Nat) : (trafficOn c p).scaleAt = c.scaleAt := rfl
@[simp] theorem trafficOn_slots (p : Nat) : (trafficOn c p).slots = c.slots := rfl
@[simp] theorem trafficOn_norm (p : Nat) : (trafficOn c p).norm = c.norm := rfl
@[simp] theorem trafficOn_recv (p : Nat) : (trafficOn c p).recv = c.recv := rfl
@[simp] theorem trafficOn_merge (p : Nat) : (trafficOn c p).merge = c.merge := rfl
@[simp] theorem trafficOn_net (p : Nat) : (trafficOn c p).net = c.net := rfl
@[simp] theorem trafficOn_fab (p : Nat) : (trafficOn c p).fab = c.fab := rfl
@[simp] theorem trafficOn_clk (p : Nat) : (trafficOn c p).clk = c.clk := rfl
@[simp] theorem trafficOn_power (p : Nat) : (trafficOn c p).power = c.power := rfl
@[simp] theorem trafficOn_boot (p : Nat) : (trafficOn c p).boot = c.boot := rfl
@[simp] theorem trafficOn_ecc (p : Nat) : (trafficOn c p).ecc = c.ecc := rfl
@[simp] theorem trafficOn_freeCtr (p : Nat) : (trafficOn c p).freeCtr = c.freeCtr := rfl

/-! ### setEth -/

@[simp] theorem setEth_dict (p : Nat) (x : EthPort) : (setEth c p x).dict = c.dict := rfl
@[simp] theorem setEth_ev (p : Nat) (x : EthPort) : (setEth c p x).ev = c.ev := rfl
@[simp] theorem setEth_alm (p : Nat) (x : EthPort) : (setEth c p x).alm = c.alm := rfl
@[simp] theorem setEth_vigil (p : Nat) (x : EthPort) : (setEth c p x).vigil = c.vigil := rfl
@[simp] theorem setEth_st (p : Nat) (x : EthPort) : (setEth c p x).st = c.st := rfl
@[simp] theorem setEth_fl (p : Nat) (x : EthPort) : (setEth c p x).fl = c.fl := rfl
@[simp] theorem setEth_acc (p : Nat) (x : EthPort) : (setEth c p x).acc = c.acc := rfl
@[simp] theorem setEth_scale (p : Nat) (x : EthPort) : (setEth c p x).scale = c.scale := rfl
@[simp] theorem setEth_scaleAt (p : Nat) (x : EthPort) : (setEth c p x).scaleAt = c.scaleAt := rfl
@[simp] theorem setEth_slots (p : Nat) (x : EthPort) : (setEth c p x).slots = c.slots := rfl
@[simp] theorem setEth_norm (p : Nat) (x : EthPort) : (setEth c p x).norm = c.norm := rfl
@[simp] theorem setEth_recv (p : Nat) (x : EthPort) : (setEth c p x).recv = c.recv := rfl
@[simp] theorem setEth_merge (p : Nat) (x : EthPort) : (setEth c p x).merge = c.merge := rfl
@[simp] theorem setEth_net (p : Nat) (x : EthPort) : (setEth c p x).net = c.net := rfl
@[simp] theorem setEth_fab (p : Nat) (x : EthPort) : (setEth c p x).fab = c.fab := rfl
@[simp] theorem setEth_clk (p : Nat) (x : EthPort) : (setEth c p x).clk = c.clk := rfl
@[simp] theorem setEth_power (p : Nat) (x : EthPort) : (setEth c p x).power = c.power := rfl
@[simp] theorem setEth_boot (p : Nat) (x : EthPort) : (setEth c p x).boot = c.boot := rfl
@[simp] theorem setEth_ecc (p : Nat) (x : EthPort) : (setEth c p x).ecc = c.ecc := rfl
@[simp] theorem setEth_freeCtr (p : Nat) (x : EthPort) : (setEth c p x).freeCtr = c.freeCtr := rfl

/-! ### What the update gives back -/

@[simp] theorem setObj_dict (k v : Nat) : (setObj c k v).dict = tset c.dict k v := rfl
@[simp] theorem setStn_st (g : Nat) (x : Station) : (setStn c g x).st = tset c.st g x := rfl
@[simp] theorem setFld_fl (f : Nat) (x : Field) : (setFld c f x).fl = tset c.fl f x := rfl
@[simp] theorem send_out (m : OutMsg) : (send c m).host.out = c.host.out ++ [m] := by
  unfold send; simp only []; split <;> rfl
@[simp] theorem send_sessions (m : OutMsg) : (send c m).host.sessions = c.host.sessions := by
  unfold send; simp only []; split <;> rfl
@[simp] theorem send_eth (m : OutMsg) : (send c m).host.eth = c.host.eth := by
  unfold send; simp only []; split <;> rfl
@[simp] theorem send_loadBuf (m : OutMsg) : (send c m).host.loadBuf = c.host.loadBuf := by
  unfold send; simp only []; split <;> rfl
@[simp] theorem setCtx_ctxs (i : Nat) (x : Ctx) : (setCtx c i x).fab.ctxs = tset c.fab.ctxs i x := rfl
@[simp] theorem setPort_ports (p : Nat) (x : Port) : (setPort c p x).fab.ports = tset c.fab.ports p x := rfl
@[simp] theorem setSession_sessions (k : Nat) (x : Session) :
    (setSession c k x).host.sessions = tset c.host.sessions k x := rfl
@[simp] theorem modPower_power (f : Power → Power) : (modPower c f).power = f c.power := rfl
@[simp] theorem modClk_clk (f : Clocks → Clocks) : (modClk c f).clk = f c.clk := rfl

end Sys2Proof.Machine
end

