-- ==== Sys2Proof/Machine/Indicators.lean ====
section
/-! DEFINITION. The indicators of the front edge (R494), as functions of the state: PWR, STATUS, FAULT, one per fabric
port, one per host cage and management jack. Which of two amber states shows, and what a module in reset or without a
stage shows, are choices (log entry 106). -/

namespace Sys2Proof.Machine

/-- How an indicator of one colour shows: a blink is 1 Hz, a fast blink 4 Hz (R494). -/
inductive Lamp where
  | off
  | steady
  | blink
  | fast
  deriving DecidableEq, Repr

/-- What an indicator shows: dark, or a colour. -/
inductive Light where
  | dark
  | green (l : Lamp)
  | amber (l : Lamp)
  deriving DecidableEq, Repr

/-- PWR: PWRGOOD. -/
def pwrLight (c : Core) : Light := if c.power.pwrgood then .green .steady else .dark

/-- FAULT: FAULT_N low. -/
def faultLight (c : Core) : Light := if c.power.faultN then .amber .steady else .dark

/-- The green state of STATUS: the boot ROM, an Almanac RUNNING, else the runtime firmware. -/
def statusGreen (c : Core) : Lamp :=
  if !powered c then .off else if c.boot.rom then .blink else if almState c = 4 then .fast else .steady

/-- The amber state of STATUS: an HBM wipe, a life-cycle state without an owner's use, an Almanac HELD. -/
def statusAmber (fu : Fuses) (c : Core) : Lamp :=
  if !powered c then .off
  else if c.boot.hbmWipe.isSome then .fast
  else if fu.lc = 3 ∨ fu.lc = 4 ∨ fu.lc = 5 then .blink
  else if almState c = 5 then .steady
  else .off

/-- STATUS: amber takes precedence. -/
def statusLight (fu : Fuses) (c : Core) : Light :=
  match statusAmber fu c, statusGreen c with
  | .off, .off => .dark
  | .off, g => .green g
  | a, _ => .amber a

/-- The indicator of a fabric port: training, with its IDENT phase, UP, REFUSED. -/
def portLight (c : Core) (p : Nat) : Light :=
  match (if powered c then pstate c p else 0) with
  | 1 => .green .blink
  | 2 => .green .blink
  | 3 => .green .steady
  | 4 => .amber .steady
  | _ => .dark

/-- The ticks in which the indicators follow the state: 100 ms. -/
def lightTicks : Nat := 10000000

/-- Whether a frame has passed an Ethernet port in the last 100 ms. -/
def carried (c : Core) (p : Nat) : Bool :=
  match tget c.host.traffic p with
  | some t => decide (obj c Key.uptimeTicks < t + lightTicks)
  | none => false

/-- The indicator of a host cage or the management jack: link, and traffic. -/
def hostLight (c : Core) (p : Nat) : Light :=
  if !powered c || !linked c p then .dark else if carried c p then .green .fast else .green .steady

end Sys2Proof.Machine
end

