-- ==== Sys2Proof/Tests/Base.lean ====
section
/-! SUPPORT. Builders of small states for the tests. -/

namespace Sys2Proof
open Machine

set_option Elab.async false

/-- What holds of the record there, if there is one. -/
theorem allSome {α : Type} {x : Option α} {P : α → Prop} [DecidablePred P] (h : (x.all fun a => decide (P a)) = true) :
    ∀ a, x = some a → P a := by
  intro a ha; subst ha; simpa using h

/-- What holds at the member there, if there is one. -/
theorem memberOk {o : Option (Option Nat)} {f : Nat → Egress}
    (h : (match o with | some (some m) => (match f m with | .refused .. => false | _ => true) | _ => true) = true) :
    ∀ m tg n, o = some (some m) → f m ≠ .refused tg n := by
  intro m tg n e hh; subst e; simp [hh] at h

/-- A powered module in a state of the Almanac, with objects set. -/
def on (alm : Nat) (objs : List (Nat × Nat)) : State :=
  let c := State.reset.core
  let c := { c with power := { c.power with stage := true, held := false, pwrgood := true, housekeeping := true, stageEn := true },
                    boot := { c.boot with rom := false } }
  { State.reset with core := objs.foldl (fun c p => setObj c p.1 p.2) (setObj c Key.almanacState alm) }

/-- The same state with another core. -/
def edit (s : State) (f : Core → Core) : State := { s with core := f s.core }

/-- A station whose sequencer runs. -/
def ready : Station := { Station.reset with seq := { Seq.reset with state := .running } }

/-- A running module whose station `g`, changed by `f`, stands before a word. -/
def at0 (g w : Nat) (f : Station → Station) : State :=
  let s := on 4 []
  { s with mem := mwriteN [] (ctlBase g) (leBytes 8 w), core := setStn s.core g (f ready) }

/-- An image that declares nothing. -/
def plain : Image :=
  { code := [], desc := [], sems := [], watchRes := [], scales := [], tensors := [], wcDelta := 0, groups := [], scheds := [], shards := [],
    maskBase := 0, buckets := [], ties := [], reds := [], channels := [], refSlots := [], modGroups := [], recvSets := [], widths := [],
    ksplits := [], buffers := [], access := [], bindings := [], auditK := 0, retained := 0, frameTicks := 2000, mMin := 8, mMax := 18,
    reserve := 0, loop := 8, domain := 0, lMax := 10, jobModules := [0], members := [], templates := [], prologue := [], cycle := [0], flows := [],
    windows := [] }

/-- A template with nothing in it. -/
def emptyTp : Template := { segments := [], gates := [], slots := [], transit := [], vote := none, loop := none, dfw := none }

/-- The state with an image of one template loaded. -/
def withTp (s : State) (f : Template → Template) (fi : Image → Image) : State :=
  edit s fun c => { c with alm := { c.alm with image := some (fi { plain with templates := [f emptyTp] }) } }

/-- An access-table entry that gives every master every right everywhere. -/
def anyone : AccEntry := { value := 2 ^ 127 + 7 * 2 ^ 124 + (2 ^ 36 - 1) * 2 ^ 8, writer := .claim }

/-- The core with such an entry for each target named. -/
def opened (ts : List Nat) (c : Core) : Core :=
  { c with acc := { c.acc with entries := ts.foldl (fun l t => tset l (t * 64 + 1) anyone) c.acc.entries } }

/-- A request of host session 5. -/
def hd : Hdr := { ctx := 5, seq := 8, port := 1, tagOk := true, udp := 50471, len := 32, source := 9 }

/-- A bulk request of host session 5. -/
def hb : Hdr := { hd with udp := 50472 }

/-- An open session that has answered up to SEQ 7. -/
def sx : Session := { key := List.replicate 32 1, h := 7, kept := [], port := 1, source := 99, heard := 0, mask := 0, noteNext := 0, notes := [], missed := 0, bulk := [], report := none }

/-- The core with that session open and the dictionary's table open to it. -/
def hosted (c : Core) : Core := setSession (opened [137, 138] c) 5 sx
end Sys2Proof
end

