-- ==== Sys2Proof/Tests/Meets01.lean ====
section
/-! SUPPORT. Concrete states and operands that meet the hypotheses of the statements of Obligations.lean. -/

namespace Sys2Proof.Meets01
open Machine

set_option maxRecDepth 20000
set_option Elab.async false

def waitingS : State := edit (on 4 [(Key.opMult, 18)]) fun c => setStn c 7 { ready with seq := { ready.seq with state := .waiting } }
def vop (fn d a b c lo l : Nat) : Nat := 4 * 2^59 + fn * 2^53 + l * 2^52 + d * 2^47 + a * 2^42 + b*2^37 + c*2^32 + lo
def vst (w : Nat) : State := at0 0 w fun x => { x with vr := [(2, (List.range 64).flatMap fun i => leBytes 4 (0x3F800000 + i*65536*3)), (3, (List.range 64).flatMap fun i => leBytes 4 (0xBF900000 + i*65536*5)), (4, (List.range 64).flatMap fun i => leBytes 4 (if i%2=0 then 0x80000000 else i))] }
def w2 (fn l : Nat) := vop fn 1 2 3 4 5 l

/-- Meets the hypotheses of `Obligations.EveryCommandAnswers`. -/
theorem meets_EveryCommandAnswers :
  let i : Instr := .frameBoundary
  (i.wellFormed = true) :=
  by decide +kernel +zetaReduce

/-- Meets the hypotheses of `Obligations.QueueIsFirstInFirstOut`. -/
theorem meets_QueueIsFirstInFirstOut :
  let s : State := { on 4 [] with pending := [.decisionPoint, .votePoint] }
  let t : State := { on 4 [] with pending := [.votePoint] }
  (step s = Host.Outcome.next t) :=
  by rfl

/-- Meets the hypotheses of `Obligations.MemoryInvKept`. -/
theorem meets_MemoryInvKept :
  let s : State := { on 4 [] with pending := [.decisionPoint], mem := [(5,1)] }
  let t : State := { on 4 [] with mem := [(5,1)] }
  (MemoryInv s)
  ∧ (step s = Host.Outcome.next t) :=
  ⟨by decide +kernel +zetaReduce, by rfl⟩

/-- Meets the hypotheses of `Obligations.UnpoweredModuleDoesNothing`. -/
theorem meets_UnpoweredModuleDoesNothing :
  let s : State := (edit (on 4 []) fun c => { c with power := { c.power with held := true } })
  let i : Instr := .frameBoundary
  (powered s.core = false)
  ∧ (i.wellFormed = true)
  ∧ (∀ (mv : Nat), i ≠ Instr.stageStart mv)
  ∧ (∀ (mv : Nat), i ≠ Instr.undervoltage mv)
  ∧ (∀ (mv : Nat), i ≠ Instr.overvoltage mv)
  ∧ (∀ (a b : Nat), i ≠ Instr.overload a b)
  ∧ (∀ (n : Nat), i ≠ Instr.resetN n)
  ∧ (∀ (n : Nat), i ≠ Instr.reset n)
  ∧ (i ∉ [Instr.stageEnMate, Instr.stageEnBreak, Instr.resetRelease, Instr.housekeepingSupplyLoss, Instr.pwrgood]) :=
  ⟨by decide +kernel +zetaReduce, by decide +kernel +zetaReduce, by intros; simp, by intros; simp, by intros; simp, by intros; simp, by intros; simp, by intros; simp, by decide +kernel +zetaReduce⟩

/-- Meets the hypotheses of `Obligations.FusesStay`. -/
theorem meets_FusesStay :
  let s : State := (on 4 [])
  let t : State := (on 4 [])
  let i : Instr := .decisionPoint
  (s.core.boot.burn = none)
  ∧ (∀ (h : Hdr) (v : Nat), i ≠ Instr.fwRaiseMin h v)
  ∧ (∀ (h : Hdr) (v : Nat), i ≠ Instr.eonelRevoke h v)
  ∧ (exec i s = Host.Outcome.next t) :=
  ⟨by decide +kernel +zetaReduce, by intros; simp, by intros; simp, by rfl⟩

/-- Meets the hypotheses of `Obligations.IdleTick`, clause by clause. -/
theorem meets_IdleTick :
    (let s : State := waitingS
     (s.pending = [])
      ∧ (Runs s))
  ∧ (let s : State := (edit waitingS fun c => modHold c fun h => { h with heldAt := some 3 })
     (s.pending = [])
      ∧ (Runs s)) :=
  by refine ⟨?_, ?_⟩ <;> decide +kernel +zetaReduce

/-- Meets the hypotheses of `Goals.VectorTwoOperandLanes`, clause by clause. -/
theorem meets_VectorTwoOperandLanes :
    (let s : State := (vst (w2 8 0))
     let g : Nat := 0
     let w : Nat := (w2 8 0)
     let fn : Nat := 8
     let i : Instr := (.vadd 0)
     let f : Fmt → Nat → Nat → Nat := Fmt.add
     ((i, fn, f) ∈
          [(Instr.vadd g, 8, Fmt.add), (Instr.vsub g, 9, Fmt.sub), (Instr.vmul g, 10, Fmt.mul), (Instr.vmax g, 12, Fmt.max),
            (Instr.vmin g, 13, Fmt.min), (Instr.vcmpgt g, 16, cmpGt), (Instr.vcmpeq g, 17, cmpEq)])
      ∧ (AtWord s g w (Op.vop fn)))
  ∧ (let s : State := (vst (w2 0x11 0))
     let g : Nat := 0
     let w : Nat := (w2 0x11 0)
     let fn : Nat := 0x11
     let i : Instr := (.vcmpeq 0)
     let f : Fmt → Nat → Nat → Nat := cmpEq
     ((i, fn, f) ∈
          [(Instr.vadd g, 8, Fmt.add), (Instr.vsub g, 9, Fmt.sub), (Instr.vmul g, 10, Fmt.mul), (Instr.vmax g, 12, Fmt.max),
            (Instr.vmin g, 13, Fmt.min), (Instr.vcmpgt g, 16, cmpGt), (Instr.vcmpeq g, 17, cmpEq)])
      ∧ (AtWord s g w (Op.vop fn))) :=
  ⟨⟨by intros; simp, by decide +kernel +zetaReduce⟩,
   ⟨by intros; simp, by decide +kernel +zetaReduce⟩⟩

/-- Meets the hypotheses of `Goals.VectorOtherLanes`, clause by clause. -/
theorem meets_VectorOtherLanes :
    (let s : State := (vst (w2 3 0))
     let g : Nat := 0
     let w : Nat := (w2 3 0)
     let fn : Nat := 3
     let i : Instr := (.vimm 0)
     let r : List Nat := (List.replicate 64 (5+4*2^32 &&& 0xFFFFFFFF))
     let x : Station := stn s.core g
     let l : Bool := bit w 52
     let n : Nat := if l = true then 128 else 64
     let top : Nat := if l = true then 2 ^ 15 else 2 ^ 31
     let a : List Nat := Goals.inLanes x w 42
     let b : List Nat := Goals.inLanes x w 37
     let d : List Nat := Goals.inLanes x w 32
     ((i, fn, r) ∈
          [(Instr.vimm g, 3, List.replicate n (bits w 0 (if l = true then 16 else 32))),
            (Instr.vidx g, 4,
              List.map (fun k => (laneFmt l).ofInt (k + signed 32 (bits w 0 32))) do
                let a ← List.range n
                pure ↑a),
            (Instr.vbcast g, 5, List.replicate n (a.getD (bits w 0 7) 0)),
            (Instr.vfma g, 11,
              List.map (fun p => (laneFmt l).enc (((laneFmt l).dec p.1.1).fma ((laneFmt l).dec p.1.2) ((laneFmt l).dec p.2)))
                ((a.zip b).zip d)),
            (Instr.vabs g, 14, List.map (fun p => p % top) a), (Instr.vneg g, 15, List.map (fun p => p ^^^ top) a),
            (Instr.vsel g, 18, List.map (fun p => if p.2 = 0 ∨ p.2 = top then p.1.2 else p.1.1) ((a.zip b).zip d))])
      ∧ (AtWord s g w (Op.vop fn)))
  ∧ (let s : State := (vst (w2 0x0f 1))
     let g : Nat := 0
     let w : Nat := (w2 0x0f 1)
     let fn : Nat := 0x0f
     let i : Instr := (.vneg 0)
     let r : List Nat := ((Goals.inLanes (stn (vst (w2 0x0f 1)).core 0) (w2 0x0f 1) 42).map fun p => p ^^^ 2 ^ 15)
     let x : Station := stn s.core g
     let l : Bool := bit w 52
     let n : Nat := if l = true then 128 else 64
     let top : Nat := if l = true then 2 ^ 15 else 2 ^ 31
     let a : List Nat := Goals.inLanes x w 42
     let b : List Nat := Goals.inLanes x w 37
     let d : List Nat := Goals.inLanes x w 32
     ((i, fn, r) ∈
          [(Instr.vimm g, 3, List.replicate n (bits w 0 (if l = true then 16 else 32))),
            (Instr.vidx g, 4,
              List.map (fun k => (laneFmt l).ofInt (k + signed 32 (bits w 0 32))) do
                let a ← List.range n
                pure ↑a),
            (Instr.vbcast g, 5, List.replicate n (a.getD (bits w 0 7) 0)),
            (Instr.vfma g, 11,
              List.map (fun p => (laneFmt l).enc (((laneFmt l).dec p.1.1).fma ((laneFmt l).dec p.1.2) ((laneFmt l).dec p.2)))
                ((a.zip b).zip d)),
            (Instr.vabs g, 14, List.map (fun p => p % top) a), (Instr.vneg g, 15, List.map (fun p => p ^^^ top) a),
            (Instr.vsel g, 18, List.map (fun p => if p.2 = 0 ∨ p.2 = top then p.1.2 else p.1.1) ((a.zip b).zip d))])
      ∧ (AtWord s g w (Op.vop fn))) :=
  ⟨⟨by decide +kernel +zetaReduce, by decide +kernel +zetaReduce⟩,
   ⟨by decide +kernel +zetaReduce, by decide +kernel +zetaReduce⟩⟩

/-- Meets the hypotheses of `Goals.VectorTranscendentalLanes`, clause by clause. -/
theorem meets_VectorTranscendentalLanes :
    (let s : State := (vst (w2 0x18 0))
     let g : Nat := 0
     let w : Nat := (w2 0x18 0)
     let fn : Nat := 0x18
     let i : Instr := (.vexp2 0)
     let f : FVal → FVal := FVal.exp2
     ((i, fn, f) ∈
          [(Instr.vexp2 g, 24, FVal.exp2), (Instr.vlog2 g, 25, FVal.log2), (Instr.vrcp g, 26, (FVal.fin false 1 0).div),
            (Instr.vrsq g, 27, FVal.rsqrt)])
      ∧ (AtWord s g w (Op.vop fn)))
  ∧ (let s : State := (vst (w2 0x1b 1))
     let g : Nat := 0
     let w : Nat := (w2 0x1b 1)
     let fn : Nat := 0x1b
     let i : Instr := (.vrsq 0)
     let f : FVal → FVal := FVal.rsqrt
     ((i, fn, f) ∈
          [(Instr.vexp2 g, 24, FVal.exp2), (Instr.vlog2 g, 25, FVal.log2), (Instr.vrcp g, 26, (FVal.fin false 1 0).div),
            (Instr.vrsq g, 27, FVal.rsqrt)])
      ∧ (AtWord s g w (Op.vop fn))) :=
  ⟨⟨by intros; simp, by decide +kernel +zetaReduce⟩,
   ⟨by intros; simp, by decide +kernel +zetaReduce⟩⟩

/-- Meets the hypotheses of `Obligations.VectorReductionTree`, clause by clause. -/
theorem meets_VectorReductionTree :
    (let s : State := (vst (w2 0x20 0))
     let g : Nat := 0
     let w : Nat := (w2 0x20 0)
     let fn : Nat := 0x20
     let i : Instr := (.vrsum 0)
     let f : Nat → Nat → Nat := fp32.add
     ((i, fn, f) ∈ [(Instr.vrsum g, 32, fp32.add), (Instr.vrmax g, 33, fp32.max)])
      ∧ (AtWord s g w (Op.vop fn)))
  ∧ (let s : State := (vst (w2 0x21 1))
     let g : Nat := 0
     let w : Nat := (w2 0x21 1)
     let fn : Nat := 0x21
     let i : Instr := (.vrmax 0)
     let f : Nat → Nat → Nat := fp32.max
     ((i, fn, f) ∈ [(Instr.vrsum g, 32, fp32.add), (Instr.vrmax g, 33, fp32.max)])
      ∧ (AtWord s g w (Op.vop fn))) :=
  ⟨⟨by intros; simp, by decide +kernel +zetaReduce⟩,
   ⟨by intros; simp, by decide +kernel +zetaReduce⟩⟩

end Sys2Proof.Meets01
end

