-- ==== Sys2Proof/Tests/Meets02.lean ====
section
/-! SUPPORT. Concrete states and operands that meet the hypotheses of the statements of Obligations.lean. -/

namespace Sys2Proof.Meets02
open Machine

set_option maxRecDepth 20000
set_option Elab.async false

def waitingS : State := edit (on 4 [(Key.opMult, 18)]) fun c => setStn c 7 { ready with seq := { ready.seq with state := .waiting } }
def vop (fn d a b c lo l : Nat) : Nat := 4 * 2^59 + fn * 2^53 + l * 2^52 + d * 2^47 + a * 2^42 + b*2^37 + c*2^32 + lo
def vst (w : Nat) : State := at0 0 w fun x => { x with vr := [(2, (List.range 64).flatMap fun i => leBytes 4 (0x3F800000 + i*65536*3)), (3, (List.range 64).flatMap fun i => leBytes 4 (0xBF900000 + i*65536*5)), (4, (List.range 64).flatMap fun i => leBytes 4 (if i%2=0 then 0x80000000 else i))] }
def mem1 (s : State) : State := { s with mem := mwriteN s.mem (stBase 0 + 0x100) ((List.range 40).map fun i => BitVec.ofNat 8 (i*7+1)) }
def vld (a) := vop 0 1 0 0 0 (15 * 2^28 + a * 2^6) 0
def unp (l d fmt n sc a : Nat) := 5*2^59 + 2^58 + l * 2^57 + d*2^52 + fmt*2^48 + (n-1)*2^41 + sc*2^28 + 15*2^24 + a*2^2
def vstw (a) := vop 1 0 2 0 0 (15 * 2^28 + a * 2^6) 0
def pck (l d fmt n sc a : Nat) := 5*2^59 + l * 2^57 + d*2^52 + fmt*2^48 + (n-1)*2^41 + sc*2^28 + 15*2^24 + a*2^2

/-- Meets the hypotheses of `Obligations.IdleTick`, clause by clause. -/
theorem meets_IdleTick :
    (let s : State := waitingS
     (s.pending = [])
      ∧ (Runs s))
  ∧ (let s : State := (edit waitingS fun c => modHold c fun h => { h with heldAt := some 3 })
     (s.pending = [])
      ∧ (Runs s)) :=
  by refine ⟨?_, ?_⟩ <;> decide +kernel +zetaReduce

/-- Meets the hypotheses of `Obligations.LanesReadBack`, clause by clause. -/
theorem meets_LanesReadBack :
    (let l : Bool := false
     let r : List Nat := ((List.range 64).map fun i => i * 67108863)
     (r.length = laneCount l)
      ∧ (∀ p ∈ r, p < 2 ^ (8 * laneBytes l)))
  ∧ (let l : Bool := true
     let r : List Nat := ((List.range 128).map fun i => i * 511)
     (r.length = laneCount l)
      ∧ (∀ p ∈ r, p < 2 ^ (8 * laneBytes l))) :=
  by refine ⟨?_, ?_⟩ <;> decide +kernel +zetaReduce

/-- Meets the hypotheses of `Goals.VectorLoadAndMove`, clause by clause. -/
theorem meets_VectorLoadAndMove :
    (let s : State := (vst (vop 2 1 2 0 0 0 0))
     let g : Nat := 0
     let w : Nat := (vop 2 1 2 0 0 0 0)
     (AtWord s g w (Op.vop 2)))
  ∧ (let s : State := (mem1 (vst (vld 0x100)))
     let g : Nat := 0
     let w : Nat := (vld 0x100)
     let x : Station := stn s.core g
     let a : Nat := namedAddr x (bits w 28 4) (bits w 6 22)
     (AtWord s g w (Op.vop 0))
      ∧ (a % 64 = 0)
      ∧ (a + 256 ≤ stSize))
  ∧ (let s : State := (mem1 (vst (vld 0x2fff40)))
     let g : Nat := 0
     let w : Nat := (vld 0x2fff40)
     let x : Station := stn s.core g
     let a : Nat := namedAddr x (bits w 28 4) (bits w 6 22)
     (AtWord s g w (Op.vop 0))
      ∧ (¬(a % 64 = 0 ∧ a + 256 ≤ stSize)))
  ∧ (let s : State := (mem1 (vst (vld 0x101)))
     let g : Nat := 0
     let w : Nat := (vld 0x101)
     let x : Station := stn s.core g
     let a : Nat := namedAddr x (bits w 28 4) (bits w 6 22)
     (AtWord s g w (Op.vop 0))
      ∧ (¬(a % 64 = 0 ∧ a + 256 ≤ stSize))) :=
  by refine ⟨?_, ?_, ?_, ?_⟩ <;> decide +kernel +zetaReduce

/-- Meets the hypotheses of `Goals.CvtUnpackLanes`, clause by clause. -/
theorem meets_CvtUnpackLanes :
    (let s : State := (mem1 (vst (unp 0 1 1 5 0 0x100)))
     let g : Nat := 0
     let w : Nat := (unp 0 1 1 5 0 0x100)
     let x : Station := stn s.core g
     let fmt : Nat := bits w 48 4
     let n : Nat := bits w 41 7 + 1
     let a : Nat := namedAddr x (bits w 24 4) (bits w 2 22)
     (AtWord s g w Op.unpack)
      ∧ (a % tagBytes fmt = 0)
      ∧ (a + n * tagBytes fmt ≤ stSize))
  ∧ (let s : State := (mem1 (vst (unp 0 1 4 64 0 0x100)))
     let g : Nat := 0
     let w : Nat := (unp 0 1 4 64 0 0x100)
     let x : Station := stn s.core g
     let fmt : Nat := bits w 48 4
     let n : Nat := bits w 41 7 + 1
     let a : Nat := namedAddr x (bits w 24 4) (bits w 2 22)
     (AtWord s g w Op.unpack)
      ∧ (a % tagBytes fmt = 0)
      ∧ (a + n * tagBytes fmt ≤ stSize)) :=
  by refine ⟨?_, ?_⟩ <;> decide +kernel +zetaReduce

/-- Meets the hypotheses of `Goals.VectorStores`, clause by clause. -/
theorem meets_VectorStores :
    (let s : State := (mem1 (vst (vstw 0x100)))
     let g : Nat := 0
     let w : Nat := (vstw 0x100)
     let x : Station := stn s.core g
     let a : Nat := namedAddr x (bits w 28 4) (bits w 6 22)
     (AtWord s g w (Op.vop 1))
      ∧ (a % 64 = 0)
      ∧ (a + 256 ≤ stSize))
  ∧ (let s : State := (mem1 (vst (pck 0 2 1 64 0 0x100)))
     let g : Nat := 0
     let w : Nat := (pck 0 2 1 64 0 0x100)
     let x : Station := stn s.core g
     let b : Nat := namedAddr x (bits w 24 4) (bits w 2 22)
     let fmt : Nat := bits w 48 4
     let n : Nat := bits w 41 7 + 1
     (AtWord s g w Op.pack)
      ∧ (b % tagBytes fmt = 0)
      ∧ (b + n * tagBytes fmt ≤ stSize))
  ∧ (let s : State := (mem1 (vst (pck 1 2 3 100 0 0x100)))
     let g : Nat := 0
     let w : Nat := (pck 1 2 3 100 0 0x100)
     let x : Station := stn s.core g
     let b : Nat := namedAddr x (bits w 24 4) (bits w 2 22)
     let fmt : Nat := bits w 48 4
     let n : Nat := bits w 41 7 + 1
     (AtWord s g w Op.pack)
      ∧ (b % tagBytes fmt = 0)
      ∧ (b + n * tagBytes fmt ≤ stSize)) :=
  by refine ⟨?_, ?_, ?_⟩ <;> decide +kernel +zetaReduce

end Sys2Proof.Meets02
end

