-- ==== Sys2Proof/Tests/Meets03.lean ====
section
/-! SUPPORT. Concrete states and operands that meet the hypotheses of the statements of Obligations.lean. -/

namespace Sys2Proof.Meets03
open Machine

set_option maxRecDepth 20000
set_option Elab.async false

def vop (fn d a b c lo l : Nat) : Nat := 4 * 2^59 + fn * 2^53 + l * 2^52 + d * 2^47 + a * 2^42 + b*2^37 + c*2^32 + lo
def vld (b a) := vop 0 1 0 0 0 (b * 2^28 + a * 2^6) 0
def vsb (w : Nat) : State := at0 0 w fun x => { x with ba := [(3, 0x200000)], vr := [(2, (List.range 64).flatMap fun i => leBytes 4 (0x3F800000 + i*65536*3))] }
def pck (l d fmt n sc b a : Nat) := 5*2^59 + l * 2^57 + d*2^52 + fmt*2^48 + (n-1)*2^41 + sc*2^28 + b*2^24 + a*2^2
def setaw := 15*2^59 + 2*2^56 + 5*2^52 + 0x123456*2^28 + 0xFFFFFF*2^4
def lsetw := 16*2^59 + 3*2^54 + 0xFFFFF*2^34
def jmpw (c t) := 15*2^59 + c*2^52 + t*2^39
def jst (c t last) (lost : Bool) := at0 5 (jmpw c t) fun x => { x with seq := { x.seq with lastStatus := last, sigLost := lost } }
def lendw (n m t) := 16*2^59 + 1*2^56 + n*2^54 + t*2^41 + m*2^25
def lst (n m t c) := at0 5 (lendw n m t) fun x => { x with lc := [(n,c)], ba := [(0,0xFFFFFF),(3,7),(15,1)], bi := [(0,2),(3,1),(15,0xFFFFFF)] }
def endw := 15*2^59 + 1*2^56

/-- Meets the hypotheses of `Goals.VectorLoadAndMove`, clause by clause. -/
theorem meets_VectorLoadAndMove :
    (let s : State := (vsb (vld 3 0xfff00))
     let g : Nat := 0
     let w : Nat := (vld 3 0xfff00)
     let x : Station := stn s.core g
     let a : Nat := namedAddr x (bits w 28 4) (bits w 6 22)
     (AtWord s g w (Op.vop 0))
      ∧ (a % 64 = 0)
      ∧ (a + 256 ≤ stSize))
  ∧ (let s : State := (vsb (vld 3 0xfff40))
     let g : Nat := 0
     let w : Nat := (vld 3 0xfff40)
     let x : Station := stn s.core g
     let a : Nat := namedAddr x (bits w 28 4) (bits w 6 22)
     (AtWord s g w (Op.vop 0))
      ∧ (¬(a % 64 = 0 ∧ a + 256 ≤ stSize))) :=
  by refine ⟨?_, ?_⟩ <;> decide +kernel +zetaReduce

/-- Meets the hypotheses of `Goals.VectorStores`. -/
theorem meets_VectorStores :
  let s : State := (vsb (pck 0 2 5 64 0 3 0xfff00))
  let g : Nat := 0
  let w : Nat := (pck 0 2 5 64 0 3 0xfff00)
  let x : Station := stn s.core g
  let b : Nat := namedAddr x (bits w 24 4) (bits w 2 22)
  let fmt : Nat := bits w 48 4
  let n : Nat := bits w 41 7 + 1
  (AtWord s g w Op.pack)
  ∧ (b % tagBytes fmt = 0)
  ∧ (b + n * tagBytes fmt ≤ stSize) :=
  by decide +kernel +zetaReduce

/-- Meets the hypotheses of `Goals.SequencerRegisterWrites`, clause by clause. -/
theorem meets_SequencerRegisterWrites :
    (let s : State := (at0 191 7 id)
     let g : Nat := 191
     let w : Nat := 7
     (AtWord s g w Op.nop))
  ∧ (let s : State := (at0 191 setaw id)
     let g : Nat := 191
     let w : Nat := setaw
     (AtWord s g w Op.seta))
  ∧ (let s : State := (at0 0 lsetw id)
     let g : Nat := 0
     let w : Nat := lsetw
     (AtWord s g w Op.lset)) :=
  by refine ⟨?_, ?_, ?_⟩ <;> decide +kernel +zetaReduce

/-- Meets the hypotheses of `Goals.JmpFollowsItsCondition`, clause by clause. -/
theorem meets_JmpFollowsItsCondition :
    (let s : State := (jst 0 8191 0 true)
     let g : Nat := 5
     let w : Nat := (jmpw 0 8191)
     (AtWord s g w Op.jmp)
      ∧ (bits w 52 4 < 7))
  ∧ (let s : State := (jst 4 0 1 false)
     let g : Nat := 5
     let w : Nat := (jmpw 4 0)
     (AtWord s g w Op.jmp)
      ∧ (bits w 52 4 < 7)) :=
  by refine ⟨?_, ?_⟩ <;> decide +kernel +zetaReduce

/-- Meets the hypotheses of `Goals.LendLoops`, clause by clause. -/
theorem meets_LendLoops :
    (let s : State := (lst 2 0x8001 33 2)
     let g : Nat := 5
     let w : Nat := (lendw 2 0x8001 33)
     (AtWord s g w Op.lend))
  ∧ (let s : State := (lst 3 0 33 0)
     let g : Nat := 5
     let w : Nat := (lendw 3 0 33)
     (AtWord s g w Op.lend)) :=
  by refine ⟨?_, ?_⟩ <;> decide +kernel +zetaReduce

/-- Meets the hypotheses of `Goals.EndOfSegment`, clause by clause. -/
theorem meets_EndOfSegment :
    (let s : State := (at0 5 endw id)
     let g : Nat := 5
     let w : Nat := endw
     (AtWord s g w Op.endSeg))
  ∧ (let s : State := (edit (at0 5 endw fun x => { x with seq := { x.seq with pendingStart := some 9000 } }) fun c => { c with alm := { c.alm with segs := [(4,1),(5,2),(5,3)] } })
     let g : Nat := 5
     let w : Nat := endw
     (AtWord s g w Op.endSeg)) :=
  by refine ⟨?_, ?_⟩ <;> decide +kernel +zetaReduce

end Sys2Proof.Meets03
end

