-- ==== Sys2Proof/Tests/Meets04.lean ====
section
/-! SUPPORT. Concrete states and operands that meet the hypotheses of the statements of Obligations.lean. -/

namespace Sys2Proof.Meets04
open Machine

set_option maxRecDepth 20000
set_option Elab.async false

def jmpw (c t) := 15*2^59 + c*2^52 + t*2^39
def jst (c t last) (lost : Bool) := at0 5 (jmpw c t) fun x => { x with seq := { x.seq with lastStatus := last, sigLost := lost } }

/-- Meets the hypotheses of `Goals.JmpFollowsItsCondition`, clause by clause. -/
theorem meets_JmpFollowsItsCondition :
    (let s : State := (jst 0 8191 0 true)
     let g : Nat := 5
     let w : Nat := (jmpw 0 8191)
     (AtWord s g w Op.jmp)
      ∧ (bits w 52 4 < 7))
  ∧ (let s : State := (jst 4 0 1 false)
     let g : Nat := 5
     let w : Nat := (jmpw 4 0)
     (AtWord s g w Op.jmp)
      ∧ (bits w 52 4 < 7)) :=
  by refine ⟨?_, ?_⟩ <;> decide +kernel +zetaReduce

end Sys2Proof.Meets04
end

