-- ==== Sys2Proof/Tests/Meets05.lean ====
section
/-! SUPPORT. Concrete states and operands that meet the hypotheses of the statements of Obligations.lean. -/

namespace Sys2Proof.Meets05
open Machine

set_option maxRecDepth 20000
set_option Elab.async false

def segS (q : Seq → Seq) := edit (withTp (on 4 []) (fun t => { t with segments := [⟨5,0,9001,2⟩] }) id) fun c => setStn c 5 { ready with seq := q ready.seq }
def tp5 : Template := { emptyTp with segments := [⟨5,0,9001,2⟩] }
def imIll := withTp (at0 7 (16 * 2^59 + 0) id) id id
def lyrw := 13*2^59
def lyrH (f : Station → Station) := edit (on 4 []) fun c => setStn c 7 (f { ready with seq := { ready.seq with state := .waiting, waitCause := 15, hold := .lyr } })
def redw := 11*2^59 + 77*2^44 + 2^43 + 9*2^31
def updw := 12*2^59 + 77*2^48
def shp (m n k mode fa fw st) := (m-1) + (n-1)*2^8 + k*2^16 + mode*2^24 + fa*2^28 + fw*2^32 + st*2^64 + 1*2^124
def mmaw (ring t p d ba ofs last fin sem) := 1*2^59 + ring*2^57 + t*2^56 + p*2^55 + last*2^54 + d*2^46 + ba*2^42 + ofs*2^20 + fin*2^19 + sem*2^7
def pl : Plane := { tag := some 1, data := (List.range 600).map fun i => (i, BitVec.ofNat 8 (i % 200 + 1)) }
def mst (w : Nat) (f : Station → Station) : State := let s := at0 9 w fun x => f { x with ba := [(2, 0x1000)], desc := [(4, shp 2 3 16 1 1 1 64)], arr := { x.arr with plane1 := pl } }
  { s with mem := mwriteN s.mem (stBase 9 + 0x1040) ((List.range 100).map fun i => BitVec.ofNat 8 (i*3+1)) }

/-- Meets the hypotheses of `Goals.SegmentStartPoints`, clause by clause. -/
theorem meets_SegmentStartPoints :
    (let s : State := (segS fun q => { q with state := .idle })
     let g : Nat := 5
     let e : Nat := 9001
     let p : SegEntry := ⟨5,0,9001,2⟩
     (Runs s)
      ∧ (g < 192)
      ∧ (almState s.core = 4)
      ∧ (firstPoint (startPoints s.core g e) = some p))
  ∧ (let s : State := (segS fun q => { q with state := .faulted })
     let g : Nat := 5
     let e : Nat := 9001
     let p : SegEntry := ⟨5,0,9001,2⟩
     (Runs s)
      ∧ (g < 192)
      ∧ (almState s.core = 4)
      ∧ (firstPoint (startPoints s.core g e) = some p))
  ∧ (let s : State := (segS id)
     let g : Nat := 5
     let e : Nat := 9000
     (Runs s)
      ∧ (g < 192)
      ∧ (almState s.core = 4)
      ∧ (startPoints s.core g e = [])) :=
  by refine ⟨?_, ?_, ?_⟩ <;> decide +kernel +zetaReduce

/-- Meets the hypotheses of `Goals.IllegalInstructionFaults`, clause by clause. -/
theorem meets_IllegalInstructionFaults :
    (let s : State := (at0 7 (31 * 2^59) id)
     let g : Nat := 7
     let x : Station := stn s.core g
     let w : Nat := imemWord s.mem g x.seq.pc
     (Runs s)
      ∧ (g < 192)
      ∧ (x.seq.state = SeqState.running ∨ x.seq.state = SeqState.waiting)
      ∧ (x.seq.hold = Hold.free)
      ∧ (opOf w = none ∨ issueOk s.core g w = false))
  ∧ (let s : State := imIll
     let g : Nat := 7
     let x : Station := stn s.core g
     let w : Nat := imemWord s.mem g x.seq.pc
     (Runs s)
      ∧ (g < 192)
      ∧ (x.seq.state = SeqState.running ∨ x.seq.state = SeqState.waiting)
      ∧ (x.seq.hold = Hold.free)
      ∧ (opOf w = none ∨ issueOk s.core g w = false)) :=
  by refine ⟨?_, ?_⟩ <;> decide +kernel +zetaReduce

/-- Meets the hypotheses of `Goals.LyrHoldsUntilQuiet`, clause by clause. -/
theorem meets_LyrHoldsUntilQuiet :
    (let s : State := (at0 7 lyrw id)
     let g : Nat := 7
     let w : Nat := lyrw
     (AtWord s g w Op.lyr))
  ∧ (let s : State := (lyrH id)
     let g : Nat := 7
     let x : Station := stn s.core g
     (Runs s)
      ∧ (g < 192)
      ∧ (x.seq.hold = Hold.lyr)
      ∧ (x.arr.mva = none)
      ∧ (∀ t ∈ [x.arr.tile0, x.arr.tile1], t.state = TileState.open ∧ t.inflight = []))
  ∧ (let s : State := (lyrH fun x => { x with arr := { x.arr with mva := some ⟨0,[],none,0⟩ } })
     let g : Nat := 7
     let x : Station := stn s.core g
     (Runs s)
      ∧ (g < 192)
      ∧ (x.seq.hold = Hold.lyr)
      ∧ (x.arr.mva.isSome = true)) :=
  by refine ⟨?_, ?_, ?_⟩ <;> decide +kernel +zetaReduce

/-- Meets the hypotheses of `Goals.SubmissionsJoinTheirQueue`, clause by clause. -/
theorem meets_SubmissionsJoinTheirQueue :
    (let s : State := (at0 30 redw id)
     let g : Nat := 30
     let w : Nat := redw
     (AtWord s g w Op.red)
      ∧ (redGated s.core (g / 24) = false))
  ∧ (let s : State := (edit (at0 30 redw id) fun c => setFld c 1 { fld c 1 with red := { (fld c 1).red with queue := List.replicate 16 (1,none) } })
     let g : Nat := 30
     let w : Nat := redw
     (AtWord s g w Op.red)
      ∧ (redGated s.core (g / 24) = false))
  ∧ (let s : State := (at0 30 updw fun x => { x with desc := [(77, 1234)] })
     let g : Nat := 30
     let w : Nat := updw
     (AtWord s g w Op.upd)
      ∧ (updGated s.core (g / 24) = false))
  ∧ (let s : State := (edit (at0 30 updw id) fun c => setFld c 1 { fld c 1 with upd := { (fld c 1).upd with queue := List.replicate 16 ⟨1,0,false⟩ } })
     let g : Nat := 30
     let w : Nat := updw
     (AtWord s g w Op.upd)
      ∧ (updGated s.core (g / 24) = false)) :=
  by refine ⟨?_, ?_, ?_, ?_⟩ <;> decide +kernel +zetaReduce

/-- Meets the hypotheses of `Obligations.SegmentWindowNeverOverflows`, clause by clause. -/
theorem meets_SegmentWindowNeverOverflows :
    (let fa : Nat := 1
     let fw : Nat := 1
     let as : List Nat := (List.replicate 16 0x7E)
     let ws : List Nat := (List.replicate 16 0x7E)
     let em : Int := 16
     (eMax (List.zipWith (product fa fw) as ws) = some em)
      ∧ (fa = 1 ∨ fa = 2)
      ∧ (fw = 1 ∨ fw = 2)
      ∧ (∀ a ∈ as ++ ws, a < 256)
      ∧ (as.length ≤ 16))
  ∧ (let fa : Nat := 1
     let fw : Nat := 2
     let as : List Nat := (List.replicate 16 0xFE)
     let ws : List Nat := (List.replicate 16 0x7B)
     let em : Int := 23
     (eMax (List.zipWith (product fa fw) as ws) = some em)
      ∧ (fa = 1 ∨ fa = 2)
      ∧ (fw = 1 ∨ fw = 2)
      ∧ (∀ a ∈ as ++ ws, a < 256)
      ∧ (as.length ≤ 16))
  ∧ (let fa : Nat := 3
     let fw : Nat := 3
     let as : List Nat := (List.replicate 8 0x7F7F)
     let ws : List Nat := (List.replicate 8 0xFF7F)
     let em : Int := 254
     (eMax (List.zipWith (product fa fw) as ws) = some em)
      ∧ (fa = 3)
      ∧ (fw = 3)
      ∧ (∀ a ∈ as ++ ws, a < 65536)
      ∧ (as.length ≤ 8)) :=
  ⟨⟨by decide +kernel +zetaReduce, by decide +kernel +zetaReduce, by decide +kernel +zetaReduce, by decide +kernel +zetaReduce, by decide +kernel +zetaReduce⟩,
   ⟨by decide +kernel +zetaReduce, by decide +kernel +zetaReduce, by decide +kernel +zetaReduce, by decide +kernel +zetaReduce, by decide +kernel +zetaReduce⟩,
   ⟨by decide +kernel +zetaReduce, by decide +kernel +zetaReduce, by decide +kernel +zetaReduce, by decide +kernel +zetaReduce, by decide +kernel +zetaReduce⟩⟩

/-- Meets the hypotheses of `Goals.SegmentSpecialCases`, clause by clause. -/
theorem meets_SegmentSpecialCases :
    (let ps : List Product := [.none,.none]
     (∀ p ∈ ps, p = Product.none))
  ∧ (let ps : List Product := [.none,.inf true,.nan true,.nan false]
     let pre : List Product := [.none,.inf true]
     let post : List Product := [.nan false]
     let n : Bool := true
     (ps = pre ++ Product.nan n :: post)
      ∧ (∀ p ∈ pre, ∀ (b : Bool), p ≠ Product.nan b))
  ∧ (let ps : List Product := [.inf true,.inf false]
     (∀ p ∈ ps, ∀ (b : Bool), p ≠ Product.nan b)
      ∧ (Product.inf false ∈ ps)
      ∧ (Product.inf true ∈ ps))
  ∧ (let ps : List Product := [.inf true,.none]
     let n : Bool := true
     (∀ p ∈ ps, ∀ (b : Bool), p ≠ Product.nan b)
      ∧ (Product.inf n ∈ ps)
      ∧ ((Product.inf !n) ∉ ps)) :=
  by refine ⟨?_, ?_, ?_, ?_⟩ <;> decide +kernel +zetaReduce

end Sys2Proof.Meets05
end

