-- ==== Sys2Proof/Tests/Meets06.lean ====
section
/-! SUPPORT. Concrete states and operands that meet the hypotheses of the statements of Obligations.lean. -/

namespace Sys2Proof.Meets06
open Machine

set_option maxRecDepth 20000
set_option Elab.async false

def shp (m n k mode fa fw st) := (m-1) + (n-1)*2^8 + k*2^16 + mode*2^24 + fa*2^28 + fw*2^32 + st*2^64 + 1*2^124
def mmaw (ring t p d ba ofs last fin sem) := 1*2^59 + ring*2^57 + t*2^56 + p*2^55 + last*2^54 + d*2^46 + ba*2^42 + ofs*2^20 + fin*2^19 + sem*2^7
def pl : Plane := { tag := some 1, data := (List.range 600).map fun i => (i, BitVec.ofNat 8 (i % 200 + 1)) }
def mst (w : Nat) (f : Station → Station) : State := let s := at0 9 w fun x => f { x with ba := [(2, 0x1000)], desc := [(4, shp 2 3 16 1 1 1 64)], arr := { x.arr with plane1 := pl } }
  { s with mem := mwriteN s.mem (stBase 9 + 0x1040) ((List.range 100).map fun i => BitVec.ofNat 8 (i*3+1)) }

def rfl' := 0
def row (n : Nat) : OpRow := { tile := (0,0), rows := 2, fmt := 1, h := 0, sigma := 1, hop := 0, idx := n, data := (List.range 128).map fun i => BitVec.ofNat 8 (i*5+n), fwd := true, used := false }
def mring (n fmt : Nat) := mst (mmaw 1 1 1 4 2 64 1 1 33) fun x => { x with ring := { x.ring with crit := [{ row 0 with rows := n, fmt := fmt }, { row 1 with rows := n }] } }
def mst0 (mode : Nat) (w : Nat) : State := at0 9 w fun x => { x with desc := [(4, shp 256 256 0 mode 1 1 64)] }
def ldp : PlaneLoad := { plane := 1, fmt := 1, src := none, pc := 0, xfer := 0, tile := none }
def drn0 : Drain := { rows := 2, cols := 3, pair := false, dest := some (0x2000, 64), out := [], fin := some (5, 9), xfer := 0, begun := false, dfw := false, group := none, order := 0 }
def sig16 : List FenceOrSig := List.replicate 16 (.sig 0 none 0 (signalOf 0 0 0))
def dfe : DfwEntry := { pc := 0, a := 0, b := 0, started := false, restored := false, tileK := 0, row := 0, drained := false }
def mbad (w : Nat) (f : Station → Station) : State := at0 9 w fun x => f { x with ba := [(2, 0x1000)], desc := [(4, shp 2 3 16 1 3 1 64)], arr := { x.arr with plane1 := pl } }
def mringB (f : Station → Station) := mst (mmaw 1 1 1 4 2 64 1 1 33) fun x => f { x with ring := { x.ring with crit := [{ row 0 with rows := 1 }] } }
def mring2 := mst (mmaw 1 1 0 4 2 64 1 1 33) fun x => { x with ring := { x.ring with crit := [row 0,row 1] }, arr := { x.arr with plane0 := { pl with tag := some 2 } } }
def mmem2 := mst (mmaw 0 1 0 4 2 64 1 1 33) fun x => { x with arr := { x.arr with plane0 := { pl with tag := some 2 } } }

/-- Meets the hypotheses of `Goals.MmaPutsItsRowsInFlight`, clause by clause. -/
theorem meets_MmaPutsItsRowsInFlight :
    (let s : State := (mst (mmaw 0 1 1 4 2 64 1 1 33) id)
     let g : Nat := 9
     let w : Nat := (mmaw 0 1 1 4 2 64 1 1 33)
     let x : Station := stn s.core g
     let h : Shape := shapeOf (tgetD x.desc (bits w 46 8) 0)
     let p : Plane := planeOf x (bits w 55 1)
     let t : Nat := bits w 56 1
     let base : Nat := namedAddr x (bits w 42 4) (bits w 20 22)
     (AtWord s g w Op.mma)
      ∧ (∀ (l : PlaneLoad), x.arr.load = some l → l.plane ≠ bits w 55 1)
      ∧ ((tileOf x t).state = TileState.open)
      ∧ (pairOk h.fa h.fw = true)
      ∧ (p.tag = none ∨ p.tag = some h.fw)
      ∧ (bit w 57 = false)
      ∧ (h.k = 0 ∧ base % 64 = 0 ∨
          0 < h.k ∧
            (∀ m < h.m, (base + m * h.stride) % 64 = 0 ∧ base + m * h.stride + h.k * tagBytes h.fa ≤ stSize) ∧
              Goals.sound s g (List.map (fun m => base + m * h.stride) (List.range h.m)) (h.k * tagBytes h.fa)))
  ∧ (let s : State := (mring 2 1)
     let g : Nat := 9
     let w : Nat := (mmaw 1 1 1 4 2 64 1 1 33)
     let x : Station := stn s.core g
     let h : Shape := shapeOf (tgetD x.desc (bits w 46 8) 0)
     let p : Plane := planeOf x (bits w 55 1)
     let t : Nat := bits w 56 1
     let rows : List OpRow := [row 0, row 1]
     (AtWord s g w Op.mma)
      ∧ (∀ (l : PlaneLoad), x.arr.load = some l → l.plane ≠ bits w 55 1)
      ∧ ((tileOf x t).state = TileState.open)
      ∧ (pairOk h.fa h.fw = true)
      ∧ (p.tag = none ∨ p.tag = some h.fw)
      ∧ (bit w 57 = true)
      ∧ (headTile x.ring.crit = some rows)
      ∧ (rows.length = h.m)
      ∧ (∀ r ∈ rows, r.fmt = h.fa))
  ∧ (let s : State := (mst0 2 (mmaw 0 0 0 4 0 0 0 0 0))
     let g : Nat := 9
     let w : Nat := (mmaw 0 0 0 4 0 0 0 0 0)
     let x : Station := stn s.core g
     let h : Shape := shapeOf (tgetD x.desc (bits w 46 8) 0)
     let p : Plane := planeOf x (bits w 55 1)
     let t : Nat := bits w 56 1
     let base : Nat := namedAddr x (bits w 42 4) (bits w 20 22)
     (AtWord s g w Op.mma)
      ∧ (∀ (l : PlaneLoad), x.arr.load = some l → l.plane ≠ bits w 55 1)
      ∧ ((tileOf x t).state = TileState.open)
      ∧ (pairOk h.fa h.fw = true)
      ∧ (p.tag = none ∨ p.tag = some h.fw)
      ∧ (bit w 57 = false)
      ∧ (h.k = 0 ∧ base % 64 = 0 ∨
          0 < h.k ∧
            (∀ m < h.m, (base + m * h.stride) % 64 = 0 ∧ base + m * h.stride + h.k * tagBytes h.fa ≤ stSize) ∧
              Goals.sound s g (List.map (fun m => base + m * h.stride) (List.range h.m)) (h.k * tagBytes h.fa))) :=
  ⟨⟨by decide +kernel +zetaReduce, allSome (by decide +kernel +zetaReduce), by decide +kernel +zetaReduce, by decide +kernel +zetaReduce, by decide +kernel +zetaReduce, by decide +kernel +zetaReduce, by decide +kernel +zetaReduce⟩,
   ⟨by decide +kernel +zetaReduce, allSome (by decide +kernel +zetaReduce), by decide +kernel +zetaReduce, by decide +kernel +zetaReduce, by decide +kernel +zetaReduce, by decide +kernel +zetaReduce, by decide +kernel +zetaReduce, by decide +kernel +zetaReduce, by decide +kernel +zetaReduce⟩,
   ⟨by decide +kernel +zetaReduce, allSome (by decide +kernel +zetaReduce), by decide +kernel +zetaReduce, by decide +kernel +zetaReduce, by decide +kernel +zetaReduce, by decide +kernel +zetaReduce, by decide +kernel +zetaReduce⟩⟩

/-- Meets the hypotheses of `Goals.IssueConditionsWait`, clause by clause. -/
theorem meets_IssueConditionsWait :
    (let s : State := (mst (mmaw 0 1 1 4 2 64 1 1 33) fun x => { x with arr := { x.arr with load := some ldp } })
     let g : Nat := 9
     let w : Nat := (mmaw 0 1 1 4 2 64 1 1 33)
     let i : Instr := (.mma 9)
     let o : Op := .mma
     let cond : Station → Prop := (fun x => ∃ l, x.arr.load = some l ∧ l.plane = bits (mmaw 0 1 1 4 2 64 1 1 33) 55 1)
     let row : Nat := 2
     ((i, o, cond, row) ∈
          [(Instr.mma g, Op.mma, fun x => ∃ l, x.arr.load = some l ∧ l.plane = bits w 55 1, 2),
            (Instr.mma g, Op.mma, fun x =>
              (∀ (l : PlaneLoad), x.arr.load = some l → l.plane ≠ bits w 55 1) ∧
                (tileOf x (bits w 56 1)).state ≠ TileState.open,
              3),
            (Instr.mma g, Op.mma, fun x =>
              (∀ (l : PlaneLoad), x.arr.load = some l → l.plane ≠ bits w 55 1) ∧
                (tileOf x (bits w 56 1)).state = TileState.open ∧ bit w 57 = true ∧ headTile x.ring.crit = none,
              4),
            (Instr.drn g, Op.drn, fun x => (tileOf x (bits w 58 1)).state ≠ TileState.open, 3),
            (Instr.mva g, Op.mva, fun x => x.arr.mva.isSome = true, 5),
            (Instr.ldw g, Op.ldw, fun x => x.arr.load.isSome = true, 8),
            (Instr.sigAdd g, Op.sigAdd, fun x => 16 ≤ sigCount x, 11),
            (Instr.sigSub g, Op.sigSub, fun x => 16 ≤ sigCount x, 11), (Instr.fnc g, Op.fnc, fun x => 16 ≤ fenceCount x, 12),
            (Instr.fncWait g, Op.fncWait, fun x => 16 ≤ fenceCount x, 12),
            (Instr.dfw g, Op.dfw, fun x => 64 ≤ x.dfw.entries.length, 14)])
      ∧ (AtWord s g w o)
      ∧ (cond (stn s.core g)))
  ∧ (let s : State := (mst (mmaw 1 1 1 4 2 64 1 1 33) id)
     let g : Nat := 9
     let w : Nat := (mmaw 1 1 1 4 2 64 1 1 33)
     let i : Instr := (.mma 9)
     let o : Op := .mma
     let cond : Station → Prop := (fun x => (∀ l, x.arr.load = some l → l.plane ≠ bits (mmaw 1 1 1 4 2 64 1 1 33) 55 1) ∧ (tileOf x (bits (mmaw 1 1 1 4 2 64 1 1 33) 56 1)).state = .open ∧ bit (mmaw 1 1 1 4 2 64 1 1 33) 57 = true ∧ headTile x.ring.crit = none)
     let row : Nat := 4
     ((i, o, cond, row) ∈
          [(Instr.mma g, Op.mma, fun x => ∃ l, x.arr.load = some l ∧ l.plane = bits w 55 1, 2),
            (Instr.mma g, Op.mma, fun x =>
              (∀ (l : PlaneLoad), x.arr.load = some l → l.plane ≠ bits w 55 1) ∧
                (tileOf x (bits w 56 1)).state ≠ TileState.open,
              3),
            (Instr.mma g, Op.mma, fun x =>
              (∀ (l : PlaneLoad), x.arr.load = some l → l.plane ≠ bits w 55 1) ∧
                (tileOf x (bits w 56 1)).state = TileState.open ∧ bit w 57 = true ∧ headTile x.ring.crit = none,
              4),
            (Instr.drn g, Op.drn, fun x => (tileOf x (bits w 58 1)).state ≠ TileState.open, 3),
            (Instr.mva g, Op.mva, fun x => x.arr.mva.isSome = true, 5),
            (Instr.ldw g, Op.ldw, fun x => x.arr.load.isSome = true, 8),
            (Instr.sigAdd g, Op.sigAdd, fun x => 16 ≤ sigCount x, 11),
            (Instr.sigSub g, Op.sigSub, fun x => 16 ≤ sigCount x, 11), (Instr.fnc g, Op.fnc, fun x => 16 ≤ fenceCount x, 12),
            (Instr.fncWait g, Op.fncWait, fun x => 16 ≤ fenceCount x, 12),
            (Instr.dfw g, Op.dfw, fun x => 64 ≤ x.dfw.entries.length, 14)])
      ∧ (AtWord s g w o)
      ∧ (cond (stn s.core g))) :=
  ⟨⟨by intros; simp, by decide +kernel +zetaReduce, by decide +kernel +zetaReduce⟩,
   ⟨by intros; simp, by decide +kernel +zetaReduce, by decide +kernel +zetaReduce⟩⟩

/-- Meets the hypotheses of `Goals.MmaFaults`, clause by clause. -/
theorem meets_MmaFaults :
    (let s : State := (mbad (mmaw 0 1 1 4 2 64 1 1 33) id)
     let g : Nat := 9
     let w : Nat := (mmaw 0 1 1 4 2 64 1 1 33)
     let x : Station := stn s.core g
     let h : Shape := shapeOf (tgetD x.desc (bits w 46 8) 0)
     (AtWord s g w Op.mma)
      ∧ (∀ (l : PlaneLoad), x.arr.load = some l → l.plane ≠ bits w 55 1)
      ∧ ((tileOf x (bits w 56 1)).state = TileState.open)
      ∧ (pairOk h.fa h.fw = false)
      ∧ (bit w 57 = true → (headTile x.ring.crit).isSome = true))
  ∧ (let s : State := (mringB id)
     let g : Nat := 9
     let w : Nat := (mmaw 1 1 1 4 2 64 1 1 33)
     let x : Station := stn s.core g
     let h : Shape := shapeOf (tgetD x.desc (bits w 46 8) 0)
     let rows : List OpRow := [{row 0 with rows := 1}]
     (AtWord s g w Op.mma)
      ∧ (∀ (l : PlaneLoad), x.arr.load = some l → l.plane ≠ bits w 55 1)
      ∧ ((tileOf x (bits w 56 1)).state = TileState.open)
      ∧ (pairOk h.fa h.fw = true)
      ∧ (bit w 57 = true)
      ∧ (headTile x.ring.crit = some rows)
      ∧ (rows.length ≠ h.m))
  ∧ (let s : State := (mring 2 2)
     let g : Nat := 9
     let w : Nat := (mmaw 1 1 1 4 2 64 1 1 33)
     let x : Station := stn s.core g
     let h : Shape := shapeOf (tgetD x.desc (bits w 46 8) 0)
     let p : Plane := planeOf x (bits w 55 1)
     let rows : List OpRow := [{row 0 with fmt := 2}, row 1]
     (AtWord s g w Op.mma)
      ∧ (∀ (l : PlaneLoad), x.arr.load = some l → l.plane ≠ bits w 55 1)
      ∧ ((tileOf x (bits w 56 1)).state = TileState.open)
      ∧ (bit w 57 = true)
      ∧ (headTile x.ring.crit = some rows)
      ∧ (rows.length = h.m)
      ∧ ((∃ r ∈ rows, r.fmt ≠ h.fa) ∨ ∃ t, p.tag = some t ∧ t ≠ h.fw))
  ∧ (let s : State := mmem2
     let g : Nat := 9
     let w : Nat := (mmaw 0 1 0 4 2 64 1 1 33)
     let x : Station := stn s.core g
     let h : Shape := shapeOf (tgetD x.desc (bits w 46 8) 0)
     let p : Plane := planeOf x (bits w 55 1)
     let t : Nat := 2
     (AtWord s g w Op.mma)
      ∧ (∀ (l : PlaneLoad), x.arr.load = some l → l.plane ≠ bits w 55 1)
      ∧ ((tileOf x (bits w 56 1)).state = TileState.open)
      ∧ (bit w 57 = false)
      ∧ (p.tag = some t)
      ∧ (t ≠ h.fw))
  ∧ (let s : State := (mst (mmaw 0 1 1 4 2 65 1 1 33) id)
     let g : Nat := 9
     let w : Nat := (mmaw 0 1 1 4 2 65 1 1 33)
     let x : Station := stn s.core g
     let h : Shape := shapeOf (tgetD x.desc (bits w 46 8) 0)
     let p : Plane := planeOf x (bits w 55 1)
     let base : Nat := namedAddr x (bits w 42 4) (bits w 20 22)
     let m : Nat := 1
     (AtWord s g w Op.mma)
      ∧ (∀ (l : PlaneLoad), x.arr.load = some l → l.plane ≠ bits w 55 1)
      ∧ ((tileOf x (bits w 56 1)).state = TileState.open)
      ∧ (pairOk h.fa h.fw = true)
      ∧ (bit w 57 = false)
      ∧ (p.tag = none ∨ p.tag = some h.fw)
      ∧ (0 < h.k)
      ∧ (m < h.m)
      ∧ ((base + m * h.stride) % 64 ≠ 0 ∨ stSize < base + m * h.stride + h.k * tagBytes h.fa))
  ∧ (let s : State := (mst0 0 (mmaw 0 0 0 4 0 1 0 0 0))
     let g : Nat := 9
     let w : Nat := (mmaw 0 0 0 4 0 1 0 0 0)
     let x : Station := stn s.core g
     let h : Shape := shapeOf (tgetD x.desc (bits w 46 8) 0)
     let p : Plane := planeOf x (bits w 55 1)
     let base : Nat := namedAddr x (bits w 42 4) (bits w 20 22)
     (AtWord s g w Op.mma)
      ∧ (∀ (l : PlaneLoad), x.arr.load = some l → l.plane ≠ bits w 55 1)
      ∧ ((tileOf x (bits w 56 1)).state = TileState.open)
      ∧ (pairOk h.fa h.fw = true)
      ∧ (bit w 57 = false)
      ∧ (p.tag = none ∨ p.tag = some h.fw)
      ∧ (h.k = 0)
      ∧ (base % 64 ≠ 0)) :=
  ⟨⟨by decide +kernel +zetaReduce, allSome (by decide +kernel +zetaReduce), by decide +kernel +zetaReduce, by decide +kernel +zetaReduce, by decide +kernel +zetaReduce⟩,
   ⟨by decide +kernel +zetaReduce, allSome (by decide +kernel +zetaReduce), by decide +kernel +zetaReduce, by decide +kernel +zetaReduce, by decide +kernel +zetaReduce, by decide +kernel +zetaReduce, by decide +kernel +zetaReduce⟩,
   ⟨by decide +kernel +zetaReduce, allSome (by decide +kernel +zetaReduce), by decide +kernel +zetaReduce, by decide +kernel +zetaReduce, by decide +kernel +zetaReduce, by decide +kernel +zetaReduce, by decide +kernel +zetaReduce⟩,
   ⟨by decide +kernel +zetaReduce, allSome (by decide +kernel +zetaReduce), by decide +kernel +zetaReduce, by decide +kernel +zetaReduce, by decide +kernel +zetaReduce, by decide +kernel +zetaReduce⟩,
   ⟨by decide +kernel +zetaReduce, allSome (by decide +kernel +zetaReduce), by decide +kernel +zetaReduce, by decide +kernel +zetaReduce, by decide +kernel +zetaReduce, by decide +kernel +zetaReduce, by decide +kernel +zetaReduce, by decide +kernel +zetaReduce, by decide +kernel +zetaReduce⟩,
   ⟨by decide +kernel +zetaReduce, allSome (by decide +kernel +zetaReduce), by decide +kernel +zetaReduce, by decide +kernel +zetaReduce, by decide +kernel +zetaReduce, by decide +kernel +zetaReduce, by decide +kernel +zetaReduce, by decide +kernel +zetaReduce⟩⟩

end Sys2Proof.Meets06
end

