-- ==== Sys2Proof/Tests/Meets07.lean ====
section
/-! SUPPORT. Concrete states and operands that meet the hypotheses of the statements of Obligations.lean. -/

namespace Sys2Proof.Meets07
open Machine

set_option maxRecDepth 20000
set_option Elab.async false

def shp (m n k mode fa fw st) := (m-1) + (n-1)*2^8 + k*2^16 + mode*2^24 + fa*2^28 + fw*2^32 + st*2^64 + 1*2^124
def mmaw (ring t p d ba ofs last fin sem) := 1*2^59 + ring*2^57 + t*2^56 + p*2^55 + last*2^54 + d*2^46 + ba*2^42 + ofs*2^20 + fin*2^19 + sem*2^7
def ldp : PlaneLoad := { plane := 1, fmt := 1, src := none, pc := 0, xfer := 0, tile := none }
def drn0 : Drain := { rows := 2, cols := 3, pair := false, dest := some (0x2000, 64), out := [], fin := some (5, 9), xfer := 0, begun := false, dfw := false, group := none, order := 0 }
def rw0 (m : AddMode) (fin : Option (Nat × Nat)) : RowUpd := { row := 3, mode := m, vals := [0x3F800000, 0xBF000000, 0x7F800000], zero := false, last := true, fin := fin }
def rst (m : AddMode) (fin : Option (Nat × Nat)) : State := let s := edit (on 4 []) fun c => setStn c 191 { Station.reset with arr := { Station.reset.arr with tile1 := { Tile.reset with inflight := [rw0 m fin, rw0 m none] } } }
  { s with mem := mwriteN [] (accAddr 191 1 3 0) ((leBytes 4 0x40490FDB ++ leBytes 4 0x33000000) ++ (leBytes 4 0x3F000000 ++ leBytes 4 0x33000000)++ (leBytes 4 0x3F000000 ++ leBytes 4 0x33000000)++ (leBytes 4 0x3F000000 ++ leBytes 4 0x33000000)) }
def ldw (ring p fmt ba ofs st) := 2^59 + 2^58 + ring*2^57 + p*2^56 + fmt*2^52 + ba*2^48 + ofs*2^26 + st*2^10
def plst (tile : Option Memory) (src : Option (Nat × Nat)) : State := let s := edit (on 4 []) fun c => setStn c 9 { Station.reset with openX := [3,4], arr := { Station.reset.arr with load := some { ldp with tile := tile, src := src, xfer := 4 } } }
  { s with mem := mwriteN [] (stBase 9 + 0x1000) ((List.range 60).map fun i => BitVec.ofNat 8 (i*3+1)) }
def mvaw (x xo b bo z zo d fin sem) := 2*2^59 + x*2^55 + b*2^51 + z*2^47 + d*2^39 + xo*2^31 + bo*2^23 + zo*2^15 + fin*2^14 + sem*2^2
def mshp (n k mode fa fw st) := (n-1)*2^8 + mode*2^24 + fa*2^28 + fw*2^32 + st*2^64 + (k-1)*2^80 + 1*2^124
def mvst (w d : Nat) : State := let s := at0 9 w fun x => { x with ba := [(1,0x1000),(2,0x2000),(3,0x3000)], desc := [(7,d)] }
  { s with mem := mwriteN s.mem (stBase 9 + 0x1000) ((List.range 60).map fun i => BitVec.ofNat 8 (i*3+1)) }
def mva0 : Mva := ⟨0x5000,[0x3F800000,0x40000000],some (1,2),3⟩
def drw (t ring d ba ofs fin sem) := 3*2^59 + t*2^58+ring*2^57+d*2^49+ba*2^45+ofs*2^23+fin*2^22+sem*2^10
def dsc (m n pair st) := (m-1)+(n-1)*2^8+pair*2^16+st*2^32+2*2^124
def drst (d : Drain) : State := let s := edit (on 4 []) fun c => setStn c 9 { Station.reset with arr := { Station.reset.arr with tile1 := { Tile.reset with state := .draining d } } }
  { s with mem := mwriteN [] (accAddr 9 1 0 0) ((List.range 30).map fun i => BitVec.ofNat 8 (i*3+1)) }
def rdr : Drain := { drn0 with dest := none, begun := true, out := [[1,2,3],[4,5,6]], group := some 0 }
def imr : Image := { plain with ksplits := [{ owner := 3, tile := 1, s := 3, kTiles := 3, mode := 0, runs := [[], [], [0]] }], loop := 8 }
def rrs (op : Bool) (out : List (List Nat)) : State := edit (on 4 [(Key.loopLength, 8)]) fun c => setStn (setStn { c with alm := { c.alm with image := some imr } } 3 { Station.reset with ring := { Station.reset.ring with link := [(0, 1)] }, arr := { Station.reset.arr with tile1 := { Tile.reset with collect := [⟨0, op, 0⟩] } } }) 5 { Station.reset with arr := { Station.reset.arr with tile0 := { Tile.reset with state := .draining { rdr with out := out } } } }
def imr48 : Image := { plain with ksplits := [{ owner := 16, tile := 1, s := 16, kTiles := 16, mode := 0, runs := (List.range 16).map fun i => if i = 0 then [0] else [] }], loop := 48 }
def rrs48 : State := edit (on 4 [(Key.loopLength, 48)]) fun c => setStn (setStn { c with clk := { c.clk with slips := [1] }, alm := { c.alm with image := some imr48 } } 16 { Station.reset with ring := { Station.reset.ring with link := [(0, 7)] }, arr := { Station.reset.arr with tile1 := { Tile.reset with collect := [⟨0, true, 0⟩] } } }) 24 { Station.reset with arr := { Station.reset.arr with tile0 := { Tile.reset with state := .draining { rdr with out := [[4,5,6]] } } } }

/-- Meets the hypotheses of `Goals.IssueConditionsWait`. -/
theorem meets_IssueConditionsWait :
  let s : State := (at0 9 (mmaw 0 1 1 4 2 64 1 1 33) fun x => { x with arr := { x.arr with load := some ldp } })
  let g : Nat := 9
  let w : Nat := (mmaw 0 1 1 4 2 64 1 1 33)
  let i : Instr := (.mma 9)
  let o : Op := .mma
  let cond : Station → Prop := (fun x => ∃ l, x.arr.load = some l ∧ l.plane = bits (mmaw 0 1 1 4 2 64 1 1 33) 55 1)
  let row : Nat := 2
  ((i, o, cond, row) ∈
      [(Instr.mma g, Op.mma, fun x => ∃ l, x.arr.load = some l ∧ l.plane = bits w 55 1, 2),
        (Instr.mma g, Op.mma, fun x =>
          (∀ (l : PlaneLoad), x.arr.load = some l → l.plane ≠ bits w 55 1) ∧
            (tileOf x (bits w 56 1)).state ≠ TileState.open,
          3),
        (Instr.mma g, Op.mma, fun x =>
          (∀ (l : PlaneLoad), x.arr.load = some l → l.plane ≠ bits w 55 1) ∧
            (tileOf x (bits w 56 1)).state = TileState.open ∧ bit w 57 = true ∧ headTile x.ring.crit = none,
          4),
        (Instr.drn g, Op.drn, fun x => (tileOf x (bits w 58 1)).state ≠ TileState.open, 3),
        (Instr.mva g, Op.mva, fun x => x.arr.mva.isSome = true, 5),
        (Instr.ldw g, Op.ldw, fun x => x.arr.load.isSome = true, 8),
        (Instr.sigAdd g, Op.sigAdd, fun x => 16 ≤ sigCount x, 11),
        (Instr.sigSub g, Op.sigSub, fun x => 16 ≤ sigCount x, 11), (Instr.fnc g, Op.fnc, fun x => 16 ≤ fenceCount x, 12),
        (Instr.fncWait g, Op.fncWait, fun x => 16 ≤ fenceCount x, 12),
        (Instr.dfw g, Op.dfw, fun x => 64 ≤ x.dfw.entries.length, 14)])
  ∧ (AtWord s g w o)
  ∧ (cond (stn s.core g)) :=
  ⟨by intros; simp, by decide +kernel +zetaReduce, by decide +kernel +zetaReduce⟩

/-- Meets the hypotheses of `Goals.RowRetiresIntoItsTile`, clause by clause. -/
theorem meets_RowRetiresIntoItsTile :
    (let s : State := (rst .compensate (some (5,9)))
     let g : Nat := 191
     let t : Nat := 1
     let r : RowUpd := (rw0 .compensate (some (5,9)))
     let rest : List RowUpd := [rw0 .compensate none]
     (Runs s)
      ∧ (g < 192)
      ∧ (t < 2)
      ∧ (MemoryInv s)
      ∧ ((tileOf (stn s.core g) t).inflight = r :: rest))
  ∧ (let s : State := (rst .accumulate none)
     let g : Nat := 191
     let t : Nat := 1
     let r : RowUpd := (rw0 .accumulate none)
     let rest : List RowUpd := [rw0 .accumulate none]
     (Runs s)
      ∧ (g < 192)
      ∧ (t < 2)
      ∧ (MemoryInv s)
      ∧ ((tileOf (stn s.core g) t).inflight = r :: rest)) :=
  by refine ⟨?_, ?_⟩ <;> decide +kernel +zetaReduce

/-- Meets the hypotheses of `Goals.PlaneLoads`, clause by clause. -/
theorem meets_PlaneLoads :
    (let s : State := (at0 9 (ldw 0 1 1 2 64 256) id)
     let g : Nat := 9
     let w : Nat := (ldw 0 1 1 2 64 256)
     let x : Station := stn s.core g
     let fmt : Nat := bits w 52 4
     let base : Nat := namedAddr x (bits w 48 4) (bits w 26 22)
     let n : Nat := if fmt = 3 then 512 else 256
     (AtWord s g w Op.ldw)
      ∧ (x.arr.load = none)
      ∧ (∀ (b : WTile), x.ring.wbuf = some b → bit w 57 = true → b.fmt = fmt)
      ∧ (bit w 57 = false →
          ∀ k < if fmt = 3 then 64 else 128, (base + k * bits w 10 16) % 64 = 0 ∧ base + k * bits w 10 16 + n ≤ stSize))
  ∧ (let s : State := (at0 9 (ldw 1 0 3 2 0 512) fun x => { x with ba := [(2,0x2f8000)] })
     let g : Nat := 9
     let w : Nat := (ldw 1 0 3 2 0 512)
     let x : Station := stn s.core g
     let fmt : Nat := bits w 52 4
     let base : Nat := namedAddr x (bits w 48 4) (bits w 26 22)
     let n : Nat := if fmt = 3 then 512 else 256
     (AtWord s g w Op.ldw)
      ∧ (x.arr.load = none)
      ∧ (∀ (b : WTile), x.ring.wbuf = some b → bit w 57 = true → b.fmt = fmt)
      ∧ (bit w 57 = false →
          ∀ k < if fmt = 3 then 64 else 128, (base + k * bits w 10 16) % 64 = 0 ∧ base + k * bits w 10 16 + n ≤ stSize))
  ∧ (let s : State := (plst none (some (0x1000,256)))
     let g : Nat := 9
     let x : Station := stn s.core g
     let l : PlaneLoad := { ldp with tile := none, src := (some (0x1000,256)), xfer := 4 }
     let a : Nat := 0x1000
     let st : Nat := 256
     (Runs s)
      ∧ (g < 192)
      ∧ (x.arr.load = some l)
      ∧ (l.tile = none)
      ∧ (l.src = some (a, st)))
  ∧ (let s : State := (plst (some [(3,4)]) none)
     let g : Nat := 9
     let x : Station := stn s.core g
     let l : PlaneLoad := { ldp with tile := some [(3,4)], src := none, xfer := 4 }
     let tile : Memory := [(3,4)]
     (Runs s)
      ∧ (g < 192)
      ∧ (x.arr.load = some l)
      ∧ (l.tile = some tile)) :=
  ⟨⟨by decide +kernel +zetaReduce, by decide +kernel +zetaReduce, allSome (by decide +kernel +zetaReduce), by decide +kernel +zetaReduce⟩,
   ⟨by decide +kernel +zetaReduce, by decide +kernel +zetaReduce, allSome (by decide +kernel +zetaReduce), by decide +kernel +zetaReduce⟩,
   (by decide +kernel +zetaReduce),
   (by decide +kernel +zetaReduce)⟩

/-- Meets the hypotheses of `Goals.MvaComputesThenWrites`, clause by clause. -/
theorem meets_MvaComputesThenWrites :
    (let s : State := (mvst (mvaw 1 0 2 0 3 0 7 1 55) (mshp 4 130 1 1 2 64))
     let g : Nat := 9
     let w : Nat := (mvaw 1 0 2 0 3 0 7 1 55)
     let x : Station := stn s.core g
     let d : Nat := tgetD x.desc (bits w 39 8) 0
     let fa : Nat := bits d 28 4
     let fw : Nat := bits d 32 4
     let k : Nat := bits d 80 16 + 1
     let n : Nat := bits d 8 8 + 1
     let xa : Nat := mvaAddr x (bits w 55 4) (bits w 31 8)
     let ba : Nat := mvaAddr x (bits w 51 4) (bits w 23 8)
     let za : Nat := mvaAddr x (bits w 47 4) (bits w 15 8)
     let inside : Nat → Nat → Prop := fun a len => a % 64 = 0 ∧ a + len ≤ stSize
     (AtWord s g w Op.mva)
      ∧ (x.arr.mva = none)
      ∧ (inside xa (k * tagBytes fa))
      ∧ (inside za (4 * n))
      ∧ (∀ r < k, inside (ba + r * bits d 64 16) (n * tagBytes fw)))
  ∧ (let s : State := (mvst (mvaw 1 255 2 0 3 0 7 0 55) (mshp 128 64 0 3 3 256))
     let g : Nat := 9
     let w : Nat := (mvaw 1 255 2 0 3 0 7 0 55)
     let x : Station := stn s.core g
     let d : Nat := tgetD x.desc (bits w 39 8) 0
     let fa : Nat := bits d 28 4
     let fw : Nat := bits d 32 4
     let k : Nat := bits d 80 16 + 1
     let n : Nat := bits d 8 8 + 1
     let xa : Nat := mvaAddr x (bits w 55 4) (bits w 31 8)
     let ba : Nat := mvaAddr x (bits w 51 4) (bits w 23 8)
     let za : Nat := mvaAddr x (bits w 47 4) (bits w 15 8)
     let inside : Nat → Nat → Prop := fun a len => a % 64 = 0 ∧ a + len ≤ stSize
     (AtWord s g w Op.mva)
      ∧ (x.arr.mva = none)
      ∧ (inside xa (k * tagBytes fa))
      ∧ (inside za (4 * n))
      ∧ (∀ r < k, inside (ba + r * bits d 64 16) (n * tagBytes fw)))
  ∧ (let s : State := (edit (on 4 []) fun c => setStn c 9 { Station.reset with openX := [3,4], arr := { Station.reset.arr with mva := some mva0 } })
     let g : Nat := 9
     let x : Station := stn s.core g
     let v : Mva := mva0
     (Runs s)
      ∧ (g < 192)
      ∧ (x.arr.mva = some v)) :=
  by refine ⟨?_, ?_, ?_⟩ <;> decide +kernel +zetaReduce

/-- Meets the hypotheses of `Goals.DrainsToStationMemory`, clause by clause. -/
theorem meets_DrainsToStationMemory :
    (let s : State := (at0 9 (drw 1 0 3 0 0x4000 1 7) fun x => { x with desc := [(3, dsc 4 5 1 64)] })
     let g : Nat := 9
     let w : Nat := (drw 1 0 3 0 0x4000 1 7)
     let x : Station := stn s.core g
     let d : Nat := tgetD x.desc (bits w 49 8) 0
     let base : Nat := namedAddr x (bits w 45 4) (bits w 23 22)
     let rows : Nat := bits d 0 8 + 1
     let cols : Nat := bits d 8 8 + 1
     (AtWord s g w Op.drn)
      ∧ ((tileOf x (bits w 58 1)).state = TileState.open)
      ∧ (bit w 57 = false →
          ∀ r < rows,
            (base + r * bits d 32 16) % 64 = 0 ∧ (base + r * bits d 32 16 + cols * if bit d 16 = true then 8 else 4) ≤ stSize))
  ∧ (let s : State := (at0 9 (drw 1 1 3 0 0x4000 0 7) fun x => { x with desc := [(3, dsc 4 5 0 64)] })
     let g : Nat := 9
     let w : Nat := (drw 1 1 3 0 0x4000 0 7)
     let x : Station := stn s.core g
     let d : Nat := tgetD x.desc (bits w 49 8) 0
     let base : Nat := namedAddr x (bits w 45 4) (bits w 23 22)
     let rows : Nat := bits d 0 8 + 1
     let cols : Nat := bits d 8 8 + 1
     (AtWord s g w Op.drn)
      ∧ ((tileOf x (bits w 58 1)).state = TileState.open)
      ∧ (bit w 57 = false →
          ∀ r < rows,
            (base + r * bits d 32 16) % 64 = 0 ∧ (base + r * bits d 32 16 + cols * if bit d 16 = true then 8 else 4) ≤ stSize))
  ∧ (let s : State := (drst drn0)
     let g : Nat := 9
     let t : Nat := 1
     let x : Station := stn s.core g
     let dr : Drain := drn0
     let a : Nat := 0x2000
     let st : Nat := 64
     (Runs s)
      ∧ (g < 192)
      ∧ (t < 2)
      ∧ ((tileOf x t).state = TileState.draining dr)
      ∧ (dr.begun = false)
      ∧ ((tileOf x t).inflight = [])
      ∧ (dr.dest = some (a, st))
      ∧ ((4 * dr.cols * if dr.pair = true then 2 else 1) ≤ st)
      ∧ (MemoryInv s))
  ∧ (let s : State := (drst { drn0 with pair := true })
     let g : Nat := 9
     let t : Nat := 1
     let x : Station := stn s.core g
     let dr : Drain := { drn0 with pair := true }
     let a : Nat := 0x2000
     let st : Nat := 64
     (Runs s)
      ∧ (g < 192)
      ∧ (t < 2)
      ∧ ((tileOf x t).state = TileState.draining dr)
      ∧ (dr.begun = false)
      ∧ ((tileOf x t).inflight = [])
      ∧ (dr.dest = some (a, st))
      ∧ ((4 * dr.cols * if dr.pair = true then 2 else 1) ≤ st)
      ∧ (MemoryInv s))
  ∧ (let s : State := (drst { drn0 with begun := true })
     let g : Nat := 9
     let t : Nat := 1
     let x : Station := stn s.core g
     let dr : Drain := { drn0 with begun := true }
     (Runs s)
      ∧ (g < 192)
      ∧ (t < 2)
      ∧ ((tileOf x t).state = TileState.draining dr)
      ∧ (dr.begun = true)
      ∧ (dr.out = [])
      ∧ (dr.dfw = false)) :=
  by refine ⟨?_, ?_, ?_, ?_, ?_⟩ <;> decide +kernel +zetaReduce

/-- Meets the hypotheses of `Goals.RingPartialRowArrives`, clause by clause. -/
theorem meets_RingPartialRowArrives :
    (let s : State := (rrs true [[1,2,3],[4,5,6]])
     let g : Nat := 3
     let q : Nat := 5
     let u : Nat := 0
     let k : Nat := 0
     let total : Nat := 2
     let im : Image := imr
     let mode : AddMode := .overwrite
     let dr : Drain := rdr
     let vs : List Nat := [1,2,3]
     let rest : List (List Nat) := [[4,5,6]]
     let l : Nat := obj s.core Key.loopLength
     let x : Station := stn s.core g
     (Runs s)
      ∧ (g < 192)
      ∧ (s.core.alm.image = some im)
      ∧ (0 < l)
      ∧ (heldNow s.core = false)
      ∧ (x.ring.pbuf = [])
      ∧ (q ≠ g)
      ∧ (u < 2)
      ∧ (linkGroup s.core im l g = some k)
      ∧ (nextPartial s.core im l g k = some (q, u, dr))
      ∧ (groupOf? s.core g k = some (mode, total))
      ∧ (dr.out = vs :: rest)
      ∧ (wayStopped s.core l g (distanceTo l g q) = false))
  ∧ (let s : State := (rrs false [[4,5,6]])
     let g : Nat := 3
     let q : Nat := 5
     let u : Nat := 0
     let k : Nat := 0
     let total : Nat := 2
     let im : Image := imr
     let mode : AddMode := .overwrite
     let dr : Drain := { rdr with out := [[4,5,6]] }
     let vs : List Nat := [4,5,6]
     let rest : List (List Nat) := []
     let l : Nat := obj s.core Key.loopLength
     let x : Station := stn s.core g
     (Runs s)
      ∧ (g < 192)
      ∧ (s.core.alm.image = some im)
      ∧ (0 < l)
      ∧ (heldNow s.core = false)
      ∧ (x.ring.pbuf = [])
      ∧ (q ≠ g)
      ∧ (u < 2)
      ∧ (linkGroup s.core im l g = some k)
      ∧ (nextPartial s.core im l g k = some (q, u, dr))
      ∧ (groupOf? s.core g k = some (mode, total))
      ∧ (dr.out = vs :: rest)
      ∧ (wayStopped s.core l g (distanceTo l g q) = false))
  ∧ (let s : State := rrs48
     let g : Nat := 16
     let q : Nat := 24
     let u : Nat := 0
     let k : Nat := 0
     let total : Nat := 15
     let im : Image := imr48
     let mode : AddMode := .overwrite
     let dr : Drain := { rdr with out := [[4,5,6]] }
     let vs : List Nat := [4,5,6]
     let rest : List (List Nat) := []
     let l : Nat := obj s.core Key.loopLength
     let x : Station := stn s.core g
     (Runs s)
      ∧ (g < 192)
      ∧ (s.core.alm.image = some im)
      ∧ (0 < l)
      ∧ (heldNow s.core = false)
      ∧ (x.ring.pbuf = [])
      ∧ (q ≠ g)
      ∧ (u < 2)
      ∧ (linkGroup s.core im l g = some k)
      ∧ (nextPartial s.core im l g k = some (q, u, dr))
      ∧ (groupOf? s.core g k = some (mode, total))
      ∧ (dr.out = vs :: rest)
      ∧ (wayStopped s.core l g (distanceTo l g q) = true)) :=
  by refine ⟨?_, ?_, ?_⟩ <;> decide +kernel +zetaReduce

end Sys2Proof.Meets07
end

