-- ==== Sys2Proof/Tests/Meets08.lean ====
section
/-! SUPPORT. Concrete states and operands that meet the hypotheses of the statements of Obligations.lean. -/

namespace Sys2Proof.Meets08
open Machine

set_option maxRecDepth 20000
set_option Elab.async false

/-- A descriptor of a stream. -/
def sdesc (kind rows rb ur src dst : Nat) : Nat := kind * 2^60 + 0 * 2^56 + (rb-1) * 2^32 + (rows-1) + src * 2^64 + dst * 2^128 + rb * 2^192 + rb * 2^224 + (ur-1) * 2^384
def stA (g o : Nat) : Nat := 2^60 + stBase g + o
def dCopy := sdesc 0 4 32 2 (stA 9 0x1000) (stA 9 0x2000)
def strWord (st ofs : Nat) := 6 * 2^59 + st * 2^52 + ofs * 2^26
/-- A station before STR with a descriptor at offset 64. -/
def strAt (d : Nat) (f : Station → Station) : State :=
  let s := at0 9 (strWord 3 64) f
  { s with mem := mwriteN s.mem (stBase 9 + 64) (leBytes 64 d) }
def run4 : State := on 4 []
/-- A module with a stream. -/
def withStream (g st : Nat) (x : Stream) (f : Core → Core) : State := edit (on 4 []) fun c => f (setStrm c g st x)
def stC : Stream := { Stream.reset with state := 1, active := dCopy, srcA := stA 9 0x1000, dstA := stA 9 0x2000 }
def stE (d : Nat) : Stream := { stC with active := d }
def dEmpty := dCopy + (2^15 + 5) * 2^432
def oneSem (c : Core) (f s n : Nat) : Core := setSem c f s { valid := true, poison := false, owner := 0, cap := 4, count := n, cause := 0, pframe := 0 }
def stM : Stream := { stC with credit := true, row := 1, off := 0 }
def dMrg := sdesc 0 1 64 1 (2^60 + sliceBase + 0x1000) (stA 9 0x2000) + 2^52
def stMm : Stream := { stC with active := dMrg, srcA := 2^60 + sliceBase + 0x1000, credit := true }
def winS : State := { withStream 9 3 stMm fun c => opened [0] { c with merge := [⟨(sliceBase + 0x1000)/256, [(9,3,4)], none⟩] } with mem := mwriteN [] (sliceBase + 0x1000) (leBytes 32 0x123456789abcdef0123456789) }
def dSig := dCopy + (2^15 + 5 + 3 * 2^12) * 2^416 + (2^15 + 6 + 2 * 2^12) * 2^400 + 7 * 2^496
def mg0 : ModGroup := { num := 2, members := [(1, 7), (2, 7), (3, 8)], detachTime := 1 }
def dMc := sdesc 5 4 32 2 (stA 9 0x1000) (2^60 + stBase 0 + 0x2000) + 2 * 2^8 * 2^320 + 2^53 + (2^15 + 16) * 2^432
def mcS : State := edit (withStream 9 3 { stE dMc with got := [0, 2], waits := true } fun c => oneSem (oneSem c 0 16 1) 0 17 0) fun c => { c with alm := { c.alm with image := some { plain with modGroups := [mg0] } } }
def or0 : OpRow := { tile := (0, 0), rows := 4, fmt := 1, h := 3, sigma := 1, hop := 0, idx := 0, data := leBytes 4 7, fwd := false, used := false }
def car (d : Bool) : State := edit (on 4 [(Key.loopLength, 8)]) fun c => setOpBuf (setOpBuf c 9 d [{ or0 with fwd := true }, or0, { or0 with idx := 2 }]) 10 d [or0]
def wt0 (t : Bool) : WTile := { fmt := 1, left := 2, got := 32768, data := [(3, 4)], taken := t, sent := false }
def carW (t : Bool) : State := edit (on 4 [(Key.loopLength, 8)]) fun c => setStn c 9 { Station.reset with ring := { Station.reset.ring with wbuf := some (wt0 t) } }
def carX : State := edit (on 4 [(Key.loopLength, 48)]) fun c => setOpBuf { c with clk := { c.clk with slips := [1] } } 23 false [or0]
def carY : State := edit (on 4 [(Key.loopLength, 96)]) fun c => setOpBuf { c with clk := { c.clk with slips := [10] } } 95 false [or0]
def dfwWord (e : Nat) := 14 * 2^59 + e * 2^48
def eA (t m n i kt ch rs : Nat) (dp bs : Nat) := (t + (m-1) * 2^2 + (n-1) * 2^10 + kt * 2^18 + ch * 2^30 + rs * 2^34 + dp * 2^36 + i * 2^58 + bs * 2^74 + 256 * 2^96)
def e0 (started restored : Bool) (a b : Nat) : DfwEntry := { pc := 4, a := a, b := b, started := started, restored := restored, tileK := 0, row := 0, drained := false }
def a0 := eA 1 3 2 128 0 1 1 0x1000 0x3000
def b0 := 0x2000 * 2^34 + 1 * 2^30
def dfS (e : DfwEntry) : State := { edit (on 4 []) fun c => setStn c 9 { Station.reset with dfw := { Station.reset.dfw with entries := [e, e] }, arr := { Station.reset.arr with tile1 := { Tile.reset with state := .open } } } with mem := mwriteN (mwriteN [] (stBase 9 + 0x2000) (leBytes 16 0x123456789abcdef0)) (stBase 9 + 0x2800) (leBytes 16 0x123456789abcdef0fedcab987654321) }
def aC := eA 1 40 2 128 2 0 0 0x1000 0x3000
def e1 : DfwEntry := { e0 true false aC b0 with row := 32 }

/-- Meets the hypotheses of `Goals.StrArmsItsStream`, clause by clause. -/
theorem meets_StrArmsItsStream :
    (let s : State := (strAt dCopy id)
     let g : Nat := 9
     let w : Nat := (strWord 3 64)
     let a : Nat := namedAddr (stn s.core g) (bits w 48 4) (bits w 26 22)
     (AtWord s g w Op.str)
      ∧ (a % 64 = 0)
      ∧ (a + 64 ≤ stSize))
  ∧ (let s : State := (strAt dCopy fun x => { x with streams := [(3, { Stream.reset with state := 1, active := dCopy, pending := some dCopy })] })
     let g : Nat := 9
     let w : Nat := (strWord 3 64)
     let a : Nat := namedAddr (stn s.core g) (bits w 48 4) (bits w 26 22)
     (AtWord s g w Op.str)
      ∧ (a % 64 = 0)
      ∧ (a + 64 ≤ stSize)) :=
  by refine ⟨?_, ?_⟩ <;> decide +kernel +zetaReduce

/-- Meets the hypotheses of `Goals.WritesIntoControlBlocks`, clause by clause. -/
theorem meets_WritesIntoControlBlocks :
    (let s : State := (edit (on 4 []) (opened [129]))
     let m : Nat := 8
     let g : Nat := 9
     let st : Nat := 3
     let data : Bytes := (leBytes 64 dCopy)
     let p : Nat := ctlBase g + 98304 + 256 * st + 64
     (Runs s)
      ∧ (g < 192)
      ∧ (st < 16)
      ∧ (List.length data = 64)
      ∧ (refusalOf s.core m p 64 Right.w = none))
  ∧ (let s : State := (edit (on 4 []) (opened [129]))
     let m : Nat := 8
     let g : Nat := 9
     let st : Nat := 3
     let a : Nat := 8
     let data : Bytes := (leBytes 64 dCopy)
     let p : Nat := ctlBase g + a
     (Runs s)
      ∧ (g < 192)
      ∧ (st < 16)
      ∧ (0 < List.length data)
      ∧ (a + List.length data ≤ 65536)
      ∧ (refusalOf s.core m p (List.length data) Right.w = none)
      ∧ (stGated s.core g = false))
  ∧ (let s : State := (edit (on 4 []) (opened [129]))
     let m : Nat := 8
     let g : Nat := 9
     let st : Nat := 3
     let a : Nat := 12
     let data : Bytes := (leBytes 16 dCopy)
     let p : Nat := ctlBase g + a
     (Runs s)
      ∧ (g < 192)
      ∧ (st < 16)
      ∧ (0 < List.length data)
      ∧ (a + List.length data ≤ 65536)
      ∧ (refusalOf s.core m p (List.length data) Right.w = none)
      ∧ (stGated s.core g = false)) :=
  by refine ⟨?_, ?_, ?_⟩ <;> decide +kernel +zetaReduce

/-- Meets the hypotheses of `Goals.StreamUnitsTakeCredits`, clause by clause. -/
theorem meets_StreamUnitsTakeCredits :
    (let s : State := (withStream 9 3 stC id)
     let g : Nat := 9
     let st : Nat := 3
     let x : Machine.Stream := strm (stn s.core g) st
     let r : Nat := sEmpty x.active
     (Runs s)
      ∧ (g < 192)
      ∧ (st < 16)
      ∧ (x.state = 1)
      ∧ (x.credit = false)
      ∧ (x.row < sRows x.active)
      ∧ (refOn r = false))
  ∧ (let s : State := (withStream 9 3 (stE dEmpty) fun c => oneSem c 0 5 2)
     let g : Nat := 9
     let st : Nat := 3
     let x : Machine.Stream := strm (stn s.core g) st
     let r : Nat := sEmpty x.active
     let e : Sem := semOf s.core (refField r) (refSem r)
     (Runs s)
      ∧ (g < 192)
      ∧ (st < 16)
      ∧ (x.state = 1)
      ∧ (x.credit = false)
      ∧ (x.row < sRows x.active)
      ∧ (refOn r = true)
      ∧ (refField r = g / 24)
      ∧ (running s.core = true)
      ∧ (e.valid = true)
      ∧ (e.poison = false)
      ∧ (1 ≤ e.cap)
      ∧ (sKind x.active ≠ 5)
      ∧ (x.got = [])
      ∧ (x.waits = false)
      ∧ (∀ o ∈ (syncU s.core (g / 24)).held, o.issuer ≠ g)
      ∧ (∀ y ∈ (syncU s.core (g / 24)).waits, y.unit ≠ streamSlot g st)
      ∧ (1 ≤ e.count))
  ∧ (let s : State := (withStream 9 3 (stE dEmpty) fun c => oneSem c 0 5 0)
     let g : Nat := 9
     let st : Nat := 3
     let x : Machine.Stream := strm (stn s.core g) st
     let r : Nat := sEmpty x.active
     let e : Sem := semOf s.core (refField r) (refSem r)
     (Runs s)
      ∧ (g < 192)
      ∧ (st < 16)
      ∧ (x.state = 1)
      ∧ (x.credit = false)
      ∧ (x.row < sRows x.active)
      ∧ (refOn r = true)
      ∧ (refField r = g / 24)
      ∧ (running s.core = true)
      ∧ (e.valid = true)
      ∧ (e.poison = false)
      ∧ (1 ≤ e.cap)
      ∧ (sKind x.active ≠ 5)
      ∧ (x.got = [])
      ∧ (x.waits = false)
      ∧ (∀ o ∈ (syncU s.core (g / 24)).held, o.issuer ≠ g)
      ∧ (∀ y ∈ (syncU s.core (g / 24)).waits, y.unit ≠ streamSlot g st)
      ∧ (e.count = 0)) :=
  by refine ⟨?_, ?_, ?_⟩ <;> decide +kernel +zetaReduce

/-- Meets the hypotheses of `Goals.StreamTransferMovesBytes`. -/
theorem meets_StreamTransferMovesBytes :
  let s : State := ({ withStream 9 3 stM id with mem := mwriteN [] (stBase 9 + 0x1020) (leBytes 32 0x123456789abcdef0123456789) })
  let g : Nat := 9
  let st : Nat := 3
  let so : Nat := (stBase 9 + 0x1020)
  let do' : Nat := (stBase 9 + 0x2020)
  let n : Nat := 32
  let x : Machine.Stream := strm (stn s.core g) st
  (Runs s)
  ∧ (g < 192)
  ∧ (st < 16)
  ∧ (Goals.copyPiece s x so do' n)
  ∧ (sMrg x.active = false)
  ∧ (refusalOf s.core g so n Right.r = none)
  ∧ (refusalOf s.core g do' n Right.w = none)
  ∧ (gatedIn s.core so n = none)
  ∧ (∀ i < n, gatedAt s.core (so + i) = false) :=
  by decide +kernel +zetaReduce

/-- Meets the hypotheses of `Goals.MergeWindowDelivers`. -/
theorem meets_MergeWindowDelivers :
  let s : State := winS
  let line : Nat := ((sliceBase + 0x1000)/256)
  let g : Nat := 9
  let st : Nat := 3
  let so : Nat := (sliceBase + 0x1000)
  let do' : Nat := (stBase 9 + 0x2000)
  let n : Nat := 64
  let xf : Nat := 4
  let v : MergeWin := ⟨(sliceBase + 0x1000)/256, [(9,3,4)], none⟩
  let x : Machine.Stream := strm (stn s.core g) st
  let data : Bytes := v.data.getD (mreadN s.mem (line * 256) 256)
  (Runs s)
  ∧ (List.find? (fun w => decide (w.line = line)) s.core.merge = some v)
  ∧ (v.members = [(g, st, xf)])
  ∧ (Goals.copyPiece s x so do' n)
  ∧ (so / 256 = line)
  ∧ (sMrg x.active = true)
  ∧ (so % 256 + n ≤ 256)
  ∧ (List.length data = 256)
  ∧ (refusalOf s.core g do' n Right.w = none) :=
  by decide +kernel +zetaReduce

/-- Meets the hypotheses of `Goals.StreamUnitsCompleteAndStall`, clause by clause. -/
theorem meets_StreamUnitsCompleteAndStall :
    (let s : State := (withStream 9 3 { stE dSig with row := 2 } id)
     let g : Nat := 9
     let st : Nat := 3
     let x : Machine.Stream := strm (stn s.core g) st
     let d : Nat := x.active
     (Runs s)
      ∧ (g < 192)
      ∧ (st < 16)
      ∧ (x.state = 1)
      ∧ (x.units < unitCount d)
      ∧ (min ((x.units + 1) * sUnitRows d) (sRows d) ≤ x.row)
      ∧ (x.openRows = [])
      ∧ (sKind d ≠ 5))
  ∧ (let s : State := (withStream 9 3 { stE dCopy with row := 4, units := 1 } id)
     let g : Nat := 9
     let st : Nat := 3
     let x : Machine.Stream := strm (stn s.core g) st
     let d : Nat := x.active
     (Runs s)
      ∧ (g < 192)
      ∧ (st < 16)
      ∧ (x.state = 1)
      ∧ (x.units < unitCount d)
      ∧ (min ((x.units + 1) * sUnitRows d) (sRows d) ≤ x.row)
      ∧ (x.openRows = [])
      ∧ (sKind d ≠ 5))
  ∧ (let s : State := (withStream 9 3 { stE dSig with row := 4, units := 2 } id)
     let g : Nat := 9
     let st : Nat := 3
     let x : Machine.Stream := strm (stn s.core g) st
     let d : Nat := x.active
     (Runs s)
      ∧ (g < 192)
      ∧ (st < 16)
      ∧ (x.state = 1)
      ∧ (sRows d ≤ x.row)
      ∧ (x.openRows = [])
      ∧ (unitCount d ≤ x.units))
  ∧ (let s : State := (withStream 9 3 { stE dSig with row := 4, units := 2, pending := some dCopy } id)
     let g : Nat := 9
     let st : Nat := 3
     let x : Machine.Stream := strm (stn s.core g) st
     let d : Nat := x.active
     (Runs s)
      ∧ (g < 192)
      ∧ (st < 16)
      ∧ (x.state = 1)
      ∧ (sRows d ≤ x.row)
      ∧ (x.openRows = [])
      ∧ (unitCount d ≤ x.units))
  ∧ (let s : State := (withStream 9 3 { stE dSig with row := 4, units := 2, pending := some dCopy } id)
     let g : Nat := 9
     let st : Nat := 3
     let x : Machine.Stream := strm (stn s.core g) st
     let d : Nat := x.active
     (Runs s)
      ∧ (g < 192)
      ∧ (st < 16)
      ∧ (x.state = 1)
      ∧ (sWatchdog d ≠ 0)
      ∧ (x.stalled = false))
  ∧ (let s : State := (withStream 9 3 { stE dSig with row := 4, stalled := true } id)
     let g : Nat := 9
     let st : Nat := 3
     let x : Machine.Stream := strm (stn s.core g) st
     (Runs s)
      ∧ (g < 192)
      ∧ (st < 16)
      ∧ (x.state = 1)
      ∧ (x.stalled = true)) :=
  by refine ⟨?_, ?_, ?_, ?_, ?_, ?_⟩ <;> decide +kernel +zetaReduce

/-- Meets the hypotheses of `Goals.McastDetachExcludesTheMember`. -/
theorem meets_McastDetachExcludesTheMember :
  let s : State := mcS
  let g : Nat := 9
  let st : Nat := 3
  let mem : Nat := 1
  let mg : ModGroup := mg0
  let x : Machine.Stream := strm (stn s.core g) st
  let d : Nat := x.active
  (Runs s)
  ∧ (g < 192)
  ∧ (st < 16)
  ∧ (modGroup s.core (mcGroup d) = some mg)
  ∧ (x.state = 1)
  ∧ (sKind d = 5)
  ∧ (bit d 53 = true)
  ∧ (x.credit = false)
  ∧ (x.row < sRows d)
  ∧ (refOn (sEmpty d) = true)
  ∧ (mem < (mcMembers s.core d).length)
  ∧ (∀ (m tg n : Nat), (mcMembers s.core d)[mem]? = some (some m) → egressNow s.core g m 0 Right.w ≠ Egress.refused tg n)
  ∧ (isDetached s.core d mem = false)
  ∧ (∀ i ∈ creditMembers s.core d, i ≠ mem → i ∈ x.got)
  ∧ (mem ∉ x.got)
  ∧ ((semOf s.core (refField (sEmpty d)) (refSem (sEmpty d) + mem)).count = 0) :=
  ⟨by decide +kernel +zetaReduce, by decide +kernel +zetaReduce, by decide +kernel +zetaReduce, by decide +kernel +zetaReduce, by decide +kernel +zetaReduce, by decide +kernel +zetaReduce, by decide +kernel +zetaReduce, by decide +kernel +zetaReduce, by decide +kernel +zetaReduce, by decide +kernel +zetaReduce, by decide +kernel +zetaReduce, memberOk (by decide +kernel +zetaReduce), by decide +kernel +zetaReduce, by decide +kernel +zetaReduce, by decide +kernel +zetaReduce, by decide +kernel +zetaReduce⟩

/-- Meets the hypotheses of `Goals.CarouselForwards`, clause by clause. -/
theorem meets_CarouselForwards :
    (let s : State := (car false)
     let g : Nat := 9
     let l : Nat := obj s.core Key.loopLength
     let q : Nat := atDistance l g 1
     let deferred : Bool := false
     let pre : List OpRow := [{ or0 with fwd := true }]
     let post : List OpRow := [{ or0 with idx := 2 }]
     let r : OpRow := or0
     (Runs s)
      ∧ (g < 192)
      ∧ (0 < l)
      ∧ (q ≠ g)
      ∧ (stGated s.core g = false)
      ∧ (heldNow s.core = false)
      ∧ (hopStopped s.core l g = false)
      ∧ (opBuf (stn s.core g) deferred = pre ++ r :: post)
      ∧ (∀ p ∈ pre, p.fwd = true ∨ p.h ≤ p.hop)
      ∧ (r.fwd = false)
      ∧ (r.hop < r.h)
      ∧ ((opBuf (stn s.core q) deferred).length < if deferred = true then 256 else 512)
      ∧ (deferred = true → canSend s.core g false = false))
  ∧ (let s : State := (car true)
     let g : Nat := 9
     let l : Nat := obj s.core Key.loopLength
     let q : Nat := atDistance l g 1
     let deferred : Bool := true
     let pre : List OpRow := [{ or0 with fwd := true }]
     let post : List OpRow := [{ or0 with idx := 2 }]
     let r : OpRow := or0
     (Runs s)
      ∧ (g < 192)
      ∧ (0 < l)
      ∧ (q ≠ g)
      ∧ (stGated s.core g = false)
      ∧ (heldNow s.core = false)
      ∧ (hopStopped s.core l g = false)
      ∧ (opBuf (stn s.core g) deferred = pre ++ r :: post)
      ∧ (∀ p ∈ pre, p.fwd = true ∨ p.h ≤ p.hop)
      ∧ (r.fwd = false)
      ∧ (r.hop < r.h)
      ∧ ((opBuf (stn s.core q) deferred).length < if deferred = true then 256 else 512)
      ∧ (deferred = true → canSend s.core g false = false))
  ∧ (let s : State := (carW true)
     let g : Nat := 9
     let l : Nat := obj s.core Key.loopLength
     let q : Nat := atDistance l g 1
     let b : WTile := (wt0 true)
     (Runs s)
      ∧ (g < 192)
      ∧ (0 < l)
      ∧ (q ≠ g)
      ∧ (stGated s.core g = false)
      ∧ (heldNow s.core = false)
      ∧ (hopStopped s.core l g = false)
      ∧ ((stn s.core g).ring.wbuf = some b)
      ∧ (b.got = 32768)
      ∧ (b.sent = false)
      ∧ (0 < b.left)
      ∧ ((stn s.core q).ring.wbuf = none)
      ∧ (canSend s.core g false = false)
      ∧ (canSend s.core g true = false))
  ∧ (let s : State := (carW false)
     let g : Nat := 9
     let l : Nat := obj s.core Key.loopLength
     let q : Nat := atDistance l g 1
     let b : WTile := (wt0 false)
     (Runs s)
      ∧ (g < 192)
      ∧ (0 < l)
      ∧ (q ≠ g)
      ∧ (stGated s.core g = false)
      ∧ (heldNow s.core = false)
      ∧ (hopStopped s.core l g = false)
      ∧ ((stn s.core g).ring.wbuf = some b)
      ∧ (b.got = 32768)
      ∧ (b.sent = false)
      ∧ (0 < b.left)
      ∧ ((stn s.core q).ring.wbuf = none)
      ∧ (canSend s.core g false = false)
      ∧ (canSend s.core g true = false))
  ∧ (let s : State := carX
     let g : Nat := 23
     let l : Nat := obj s.core Key.loopLength
     let q : Nat := atDistance l g 1
     (Runs s)
      ∧ (g < 192)
      ∧ (0 < l)
      ∧ (q ≠ g)
      ∧ (stGated s.core g = false)
      ∧ (heldNow s.core = false)
      ∧ (hopStopped s.core l g = true))
  ∧ (let s : State := carY
     let g : Nat := 95
     let l : Nat := obj s.core Key.loopLength
     let q : Nat := atDistance l g 1
     (Runs s)
      ∧ (g < 192)
      ∧ (0 < l)
      ∧ (q ≠ g)
      ∧ (stGated s.core g = false)
      ∧ (heldNow s.core = false)
      ∧ (hopStopped s.core l g = true)) :=
  by refine ⟨?_, ?_, ?_, ?_, ?_, ?_⟩ <;> decide +kernel +zetaReduce

/-- Meets the hypotheses of `Goals.DeferredEntries`, clause by clause. -/
theorem meets_DeferredEntries :
    (let s : State := (at0 9 (dfwWord 6) fun x => { x with desc := [(6, 77), (7, 88)] })
     let g : Nat := 9
     let w : Nat := (dfwWord 6)
     let x : Station := stn s.core g
     (AtWord s g w Op.dfw)
      ∧ (x.dfw.entries.length < 64))
  ∧ (let s : State := (dfS (e0 false false a0 b0))
     let g : Nat := 9
     let x : Station := stn s.core g
     let e : DfwEntry := (e0 false false a0 b0)
     let rest : List DfwEntry := [e0 false false a0 b0]
     (Runs s)
      ∧ (g < 192)
      ∧ (x.dfw.entries = e :: rest)
      ∧ (s.core.alm.hold.heldAt = none)
      ∧ (e.started = false)
      ∧ (bit e.b 78 = false))
  ∧ (let s : State := (dfS (e0 true false a0 b0))
     let g : Nat := 9
     let x : Station := stn s.core g
     let e : DfwEntry := (e0 true false a0 b0)
     let rest : List DfwEntry := [e0 true false a0 b0]
     (Runs s)
      ∧ (g < 192)
      ∧ (x.dfw.entries = e :: rest)
      ∧ (s.core.alm.hold.heldAt = none)
      ∧ (e.started = true)
      ∧ (e.restored = false)
      ∧ (bit e.a 34 = true)
      ∧ (MemoryInv s)
      ∧ ((tileOf x (bits e.a 0 1)).state = TileState.open)
      ∧ ((tileOf x (bits e.a 0 1)).inflight = [])
      ∧ (∀ r ≤ bits e.a 2 8,
          (bits e.b 34 22 + r * 2048) % 64 = 0 ∧ bits e.b 34 22 + r * 2048 + 8 * (bits e.a 10 8 + 1) ≤ stSize)) :=
  by refine ⟨?_, ?_, ?_⟩ <;> decide +kernel +zetaReduce

/-- Meets the hypotheses of `Goals.DeferredChunkIssues`, clause by clause. -/
theorem meets_DeferredChunkIssues :
    (let s : State := (dfS (e0 true false aC b0))
     let g : Nat := 9
     let e : DfwEntry := (e0 true false aC b0)
     let rest : List DfwEntry := [e0 true false aC b0]
     let x : Station := stn s.core g
     let t : Nat := bits e.a 0 1
     let n : Nat := min (32 <<< bits e.a 30 2) (bits e.a 2 8 + 1 - e.row)
     (Runs s)
      ∧ (g < 192)
      ∧ (x.dfw.entries = e :: rest)
      ∧ (s.core.alm.hold.heldAt = none)
      ∧ (stGated s.core g = false)
      ∧ (e.started = true)
      ∧ (e.drained = false)
      ∧ (bit e.a 34 = true → e.restored = true)
      ∧ (bit e.a 32 = false)
      ∧ ((tileOf x t).state = TileState.open)
      ∧ (x.arr.load = none)
      ∧ (0 < n)
      ∧ (mmaReady s.mem s.core g = false)
      ∧ (Goals.sound s g (chunkAddrs e n) 128)
      ∧ (Goals.sound s g (statAddrs e) (if bits e.b 30 4 = 3 then 512 else 256)))
  ∧ (let s : State := (dfS e1)
     let g : Nat := 9
     let e : DfwEntry := e1
     let rest : List DfwEntry := [e1]
     let x : Station := stn s.core g
     let t : Nat := bits e.a 0 1
     let n : Nat := min (32 <<< bits e.a 30 2) (bits e.a 2 8 + 1 - e.row)
     (Runs s)
      ∧ (g < 192)
      ∧ (x.dfw.entries = e :: rest)
      ∧ (s.core.alm.hold.heldAt = none)
      ∧ (stGated s.core g = false)
      ∧ (e.started = true)
      ∧ (e.drained = false)
      ∧ (bit e.a 34 = true → e.restored = true)
      ∧ (bit e.a 32 = false)
      ∧ ((tileOf x t).state = TileState.open)
      ∧ (x.arr.load = none)
      ∧ (0 < n)
      ∧ (mmaReady s.mem s.core g = false)
      ∧ (Goals.sound s g (chunkAddrs e n) 128)
      ∧ (Goals.sound s g (statAddrs e) (if bits e.b 30 4 = 3 then 512 else 256))) :=
  by refine ⟨?_, ?_⟩ <;> decide +kernel +zetaReduce

end Sys2Proof.Meets08
end

