-- ==== Sys2Proof/Tests/Meets09.lean ====
section
/-! SUPPORT. Concrete states and operands that meet the hypotheses of the statements of Obligations.lean. -/

namespace Sys2Proof.Meets09
open Machine

set_option maxRecDepth 20000
set_option Elab.async false

def oneSem (c : Core) (f s n : Nat) : Core := setSem c f s { valid := true, poison := false, owner := 0, cap := 4, count := n, cause := 0, pframe := 0 }
def t0 (fmt : Nat) : TensorDecl := { num := 3, fmt := fmt, scale := 5, stage := 1, start := 0, length := 4096, wc := 2^60 + 0x100000, group := 2 }
def gr0 (decay : Nat) (bias : Bool) : OptGroup := { num := 2, beta1 := 0x3F666666, beta2 := 0x3F7FBE77, eps := 0x322BCC77, lambda := 0x3C23D70A, decay := decay, bias := bias, gradMult := 0x3F800000, sched := 1, clipMax := 0 }
def sh0 : ShardDecl := { stage := 1, start := 0, blocks := 4, holders := [], mine := true, primary := true, master := 2^60 + 0x200000, moment1 := 2^60 + 0x300000, moment2 := 2^60 + 0x400000, grad0 := 2^60 + 0x500000, grad1 := 2^60 + 0x600000 }
def rd0 : RedDecl := { redno := 7, kind := .sum, chain := false, channel := 0, fmt := 9, n := 1, source := 2^60 + 0x700000, amaxOf := none, ready := none, result := none, slot := 1, seed := 0, mask := false, first := 0, moves := [], arrival := none, vote := false, norm := none, sem := none }
def imU (fmt decay : Nat) : Image := { plain with tensors := [t0 fmt], groups := [gr0 decay true], scheds := [{ num := 1, points := [(0, 0x3A83126F)] }], shards := [sh0], reds := [rd0], maskBase := 2^60 + 0x800000, wcDelta := 0x80000 }
def updE (pass sem : Nat) := pass + 2 * 2^2 + 3 * 2^8 + 1 * 2^24 + 7 * 2^77 + sem
def sub0 (pass sem : Nat) : UpdSub := { g := 30, entry := updE pass sem, did := false }
def updS (pass fmt decay : Nat) (objs : List (Nat × Nat)) (f : Core → Core) : State :=
  { edit (on 4 ([(Key.stepNumber, 3), (Key.lastVoteStep, 2)] ++ objs)) fun c => f (opened [128] (setFld { c with alm := { c.alm with image := some (imU fmt decay) }, scale := [(5, { ScaleEntry.blank with fmt := 1, scaleA := 2, scaleB := 3, dbuf := true })] } 1 { Field.reset with upd := { Field.reset.upd with queue := [sub0 pass 0, sub0 0 0] } }))
    with mem := mwriteN (mwriteN [] (0x200000 + 4096) (leBytes 8 0x3F8000003E000001)) (0x600000 + 4096) (leBytes 8 0x3C8000003D000001) }
def uA (fmt decay : Nat) : UpdArgs := { im := imU fmt decay, t := t0 fmt, gr := gr0 decay true, sh := sh0, first := 1, count := 1 }
def sigWord (sub n m f s self : Nat) := 7 * 2^59 + sub * 2^56 + n * 2^40 + m * 2^28 + f * 2^25 + s * 2^13 + self * 2^12
def op0 (k : SyncKind) (n : Nat) : SyncOp := { issuer := 9, kind := k, sem := 77, n := n, cookie := 3, slot := 1, back := .sig 9 5 }
def fqS (l : List FenceOrSig) (f : Core → Core) : State := edit (on 4 []) fun c => f (setStn c 9 { Station.reset with fq := l })
def flow0 : FlowDecl := { num := 4, peer := 6, issuers := [9], routes := [[{ src := 0, port := 2, dst := 6, bound := 1 }]] }
def withFlow (c : Core) : Core := opened [141] { c with alm := { c.alm with image := some { plain with flows := [flow0] } }, fab := { c.fab with ctxs := [(8, { Ctx.reset with state := 1, peerMod := 6, flow := 4 })] } }
def opS (o : SyncOp) (n : Nat) (f : Core → Core) : State := edit (on 4 []) fun c => f (let c := oneSem c 0 77 n; setSync c 0 { syncU c 0 with held := [o, op0 .add 1] })
def gates0 (c : Core) : Core := setSync c 0 { syncU c 0 with gates := [(77, 3), (78, 1)] }
def stopped (s : State) : State := edit s fun c => setObj c Key.almanacState 2
def opW (n : Nat) : SyncOp := { op0 .wat n with back := .wat 9 1 5 true }
def wres (k : Nat) (c : Core) : Core := setSync c 0 { syncU c 0 with watchRes := k, watches := [(0, { sem := 77, thresh := 4, dest := 9, slot := 0, cookie := 1 })] }
def wc1 (n : Nat) : Core := (opS (op0 .add 2) n (wres 4)).core

/-- Meets the hypotheses of `Goals.UpdateInitAndNorm`, clause by clause. -/
theorem meets_UpdateInitAndNorm :
    (let s : State := (updS 0 1 1 [] id)
     let f : Nat := 1
     let x : UpdSub := (sub0 0 0)
     let rest : List UpdSub := [sub0 0 0]
     let u : UpdArgs := (uA 1 1)
     let m : Nat := updMaster f
     (Runs s)
      ∧ (updArgs s.core x.entry = some u)
      ∧ (u.count = 1)
      ∧ (Goals.updNext s.core f 0 x rest)
      ∧ (Goals.allPermitted s.core m
          [(masterAt u 0, 4096, Right.r), (wcAt u false 0, 1024 * wcBytes u, Right.w),
            (wcAt u true 0, 1024 * wcBytes u, Right.w)]))
  ∧ (let s : State := (updS 0 3 1 [] id)
     let f : Nat := 1
     let x : UpdSub := (sub0 0 0)
     let rest : List UpdSub := [sub0 0 0]
     let u : UpdArgs := (uA 3 1)
     let m : Nat := updMaster f
     (Runs s)
      ∧ (updArgs s.core x.entry = some u)
      ∧ (u.count = 1)
      ∧ (Goals.updNext s.core f 0 x rest)
      ∧ (Goals.allPermitted s.core m
          [(masterAt u 0, 4096, Right.r), (wcAt u false 0, 1024 * wcBytes u, Right.w),
            (wcAt u true 0, 1024 * wcBytes u, Right.w)]))
  ∧ (let s : State := (updS 1 3 1 [] id)
     let f : Nat := 1
     let x : UpdSub := (sub0 1 0)
     let rest : List UpdSub := [sub0 0 0]
     let u : UpdArgs := (uA 3 1)
     let m : Nat := updMaster f
     let r : RedDecl := rd0
     (Runs s)
      ∧ (updArgs s.core x.entry = some u)
      ∧ (u.count = 1)
      ∧ (Goals.updNext s.core f 1 x rest)
      ∧ (redDecl u.im (bits x.entry 77 12) = some r)
      ∧ (frozen s.mem u.im.maskBase (blockIndex u 0) = false)
      ∧ (Goals.allPermitted s.core m
          [(gradAt u (obj s.core Key.stepNumber) 0, 4096, Right.r),
            (gaOff u.im.maskBase + blockIndex u 0 / 1024 / 8, 1, Right.r), (gaOff r.source, 16, Right.w)])) :=
  by refine ⟨?_, ?_, ?_⟩ <;> decide +kernel +zetaReduce

/-- Meets the hypotheses of `Goals.UpdatePrepareAndApply`, clause by clause. -/
theorem meets_UpdatePrepareAndApply :
    (let s : State := (updS 2 3 1 [] id)
     let f : Nat := 1
     let x : UpdSub := (sub0 2 0)
     let rest : List UpdSub := [sub0 0 0]
     let u : UpdArgs := (uA 3 1)
     let m : Nat := updMaster f
     let idle : Bool := decide (obj s.core Key.commits % 2 = 0)
     let k : Nat := obj s.core Key.stepNumber
     (Runs s)
      ∧ (updArgs s.core x.entry = some u)
      ∧ (u.count = 1)
      ∧ (bit x.entry 64 = false)
      ∧ (Goals.updNext s.core f 2 x rest)
      ∧ (Goals.allPermitted s.core m (readsOf u k 0 ++ [(wcAt u idle 0, 1024 * wcBytes u, Right.w)])))
  ∧ (let s : State := (updS 2 1 2 [(Key.commits, 1)] id)
     let f : Nat := 1
     let x : UpdSub := (sub0 2 0)
     let rest : List UpdSub := [sub0 0 0]
     let u : UpdArgs := (uA 1 2)
     let m : Nat := updMaster f
     let idle : Bool := decide (obj s.core Key.commits % 2 = 0)
     let k : Nat := obj s.core Key.stepNumber
     (Runs s)
      ∧ (updArgs s.core x.entry = some u)
      ∧ (u.count = 1)
      ∧ (bit x.entry 64 = false)
      ∧ (Goals.updNext s.core f 2 x rest)
      ∧ (Goals.allPermitted s.core m (readsOf u k 0 ++ [(wcAt u idle 0, 1024 * wcBytes u, Right.w)])))
  ∧ (let s : State := (updS 3 1 2 [] id)
     let f : Nat := 1
     let x : UpdSub := (sub0 3 0)
     let rest : List UpdSub := [sub0 0 0]
     let u : UpdArgs := (uA 1 2)
     (Runs s)
      ∧ (updArgs s.core x.entry = some u)
      ∧ (u.count = 1)
      ∧ (bit x.entry 64 = false)
      ∧ (Goals.updNext s.core f 3 x rest)
      ∧ (applyRuns s.core = false))
  ∧ (let s : State := (updS 3 1 2 [] fun c => { c with alm := { c.alm with cycleCommitted := true } })
     let f : Nat := 1
     let x : UpdSub := (sub0 3 0)
     let rest : List UpdSub := [sub0 0 0]
     let u : UpdArgs := (uA 1 2)
     let m : Nat := updMaster f
     let v : Nat := obj s.core Key.lastVoteStep
     (Runs s)
      ∧ (updArgs s.core x.entry = some u)
      ∧ (u.count = 1)
      ∧ (bit x.entry 64 = false)
      ∧ (Goals.updNext s.core f 3 x rest)
      ∧ (applyRuns s.core = true)
      ∧ (Goals.allPermitted s.core m
          (readsOf u v 0 ++ [(masterAt u 0, 4096, Right.w), (moment1At u 0, 2048, Right.w), (moment2At u 0, 2048, Right.w)]))) :=
  by refine ⟨?_, ?_, ?_, ?_⟩ <;> decide +kernel +zetaReduce

/-- Meets the hypotheses of `Goals.UpdateCompletes`, clause by clause. -/
theorem meets_UpdateCompletes :
    (let s : State := (updS 3 1 2 [] fun c => setFld c 1 { Field.reset with upd := { Field.reset.upd with running := some (sub0 1 (2^89 + 77 * 2^90)) } })
     let f : Nat := 1
     let x : UpdSub := (sub0 1 (2^89 + 77 * 2^90))
     (Runs s)
      ∧ (f < 8)
      ∧ ((fld s.core f).upd.running = some x))
  ∧ (let s : State := (updS 3 1 2 [] fun c => setFld c 1 { Field.reset with upd := { Field.reset.upd with running := some (sub0 1 0) } })
     let f : Nat := 1
     let x : UpdSub := (sub0 1 0)
     (Runs s)
      ∧ (f < 8)
      ∧ ((fld s.core f).upd.running = some x)) :=
  by refine ⟨?_, ?_⟩ <;> decide +kernel +zetaReduce

/-- Meets the hypotheses of `Goals.SigEntersItsQueue`, clause by clause. -/
theorem meets_SigEntersItsQueue :
    (let s : State := (at0 9 (sigWord 0 3 0 2 77 1) id)
     let g : Nat := 9
     let w : Nat := (sigWord 0 3 0 2 77 1)
     let i : Instr := (.sigAdd 9)
     let o : Op := .sigAdd
     let k : SyncKind := .add
     let x : Station := stn s.core g
     ((i, o, k) ∈ [(Instr.sigAdd g, Op.sigAdd, SyncKind.add), (Instr.sigSub g, Op.sigSub, SyncKind.sub)])
      ∧ (AtWord s g w o)
      ∧ (sigCount x < 16))
  ∧ (let s : State := (at0 9 (sigWord 1 3 5 2 77 0) id)
     let g : Nat := 9
     let w : Nat := (sigWord 1 3 5 2 77 0)
     let i : Instr := (.sigSub 9)
     let o : Op := .sigSub
     let k : SyncKind := .sub
     let x : Station := stn s.core g
     ((i, o, k) ∈ [(Instr.sigAdd g, Op.sigAdd, SyncKind.add), (Instr.sigSub g, Op.sigSub, SyncKind.sub)])
      ∧ (AtWord s g w o)
      ∧ (sigCount x < 16)) :=
  by refine ⟨?_, ?_⟩ <;> decide +kernel +zetaReduce

/-- Meets the hypotheses of `Goals.SigLeavesItsQueue`, clause by clause. -/
theorem meets_SigLeavesItsQueue :
    (let s : State := (fqS [.sig 5 none 0 (op0 .add 2), .fence 1 2] id)
     let g : Nat := 9
     let pc : Nat := 5
     let f : Nat := 0
     let op : SyncOp := (op0 .add 2)
     let rest : List FenceOrSig := [.fence 1 2]
     let x : Station := stn s.core g
     (Runs s)
      ∧ (g < 192)
      ∧ (x.fq = FenceOrSig.sig pc none f op :: rest))
  ∧ (let s : State := (fqS [.sig 5 (some 6) 2 (op0 .add 2)] withFlow)
     let g : Nat := 9
     let pc : Nat := 5
     let f : Nat := 2
     let op : SyncOp := (op0 .add 2)
     let rest : List FenceOrSig := []
     let x : Station := stn s.core g
     let n : Nat := 6
     let i : Nat := 8
     (Runs s)
      ∧ (g < 192)
      ∧ (x.fq = FenceOrSig.sig pc (some n) f op :: rest)
      ∧ (flowAny s.core op.issuer n = some i)
      ∧ ((ctxOf s.core i).state = 1)
      ∧ (tablePermits s.core.acc (portTarget s.core (egressPort s.core i)) op.issuer n op.kind.right = true))
  ∧ (let s : State := (fqS [.fence 1 2] withFlow)
     let g : Nat := 9
     let rest : List FenceOrSig := []
     let x : Station := stn s.core g
     let a : Nat := 1
     let b : Nat := 2
     (Runs s)
      ∧ (g < 192)
      ∧ (x.fq = FenceOrSig.fence a b :: rest)) :=
  by refine ⟨?_, ?_, ?_⟩ <;> decide +kernel +zetaReduce

/-- Meets the hypotheses of `Goals.SemaphoreCounts`, clause by clause. -/
theorem meets_SemaphoreCounts :
    (let s : State := (opS (op0 .add 2) 2 id)
     let f : Nat := 0
     let op : SyncOp := (op0 .add 2)
     let rest : List SyncOp := [op0 .add 1]
     let gates : List (Nat × Nat) := (syncU s.core f).gates
     (Goals.opFirst s f op rest)
      ∧ (Goals.opEnabled s f op)
      ∧ ((List.filter (fun p => decide (p.1 = op.sem)) gates).length ≤ 1)
      ∧ (op.kind = SyncKind.add))
  ∧ (let s : State := (opS (op0 .sub 2) 2 id)
     let f : Nat := 0
     let op : SyncOp := (op0 .sub 2)
     let rest : List SyncOp := [op0 .add 1]
     let gates : List (Nat × Nat) := (syncU s.core f).gates
     (Goals.opFirst s f op rest)
      ∧ (Goals.opEnabled s f op)
      ∧ ((List.filter (fun p => decide (p.1 = op.sem)) gates).length ≤ 1)
      ∧ (op.kind = SyncKind.sub))
  ∧ (let s : State := (opS (op0 .sub 3) 2 id)
     let f : Nat := 0
     let op : SyncOp := (op0 .sub 3)
     let rest : List SyncOp := [op0 .add 1]
     let gates : List (Nat × Nat) := (syncU s.core f).gates
     (Goals.opFirst s f op rest)
      ∧ (Goals.opEnabled s f op)
      ∧ ((List.filter (fun p => decide (p.1 = op.sem)) gates).length ≤ 1)
      ∧ (op.kind = SyncKind.sub))
  ∧ (let s : State := (opS (op0 .tak 2) 2 id)
     let f : Nat := 0
     let op : SyncOp := (op0 .tak 2)
     let rest : List SyncOp := [op0 .add 1]
     let gates : List (Nat × Nat) := (syncU s.core f).gates
     (Goals.opFirst s f op rest)
      ∧ (Goals.opEnabled s f op)
      ∧ ((List.filter (fun p => decide (p.1 = op.sem)) gates).length ≤ 1)
      ∧ (op.kind = SyncKind.tak))
  ∧ (let s : State := (opS (op0 .tak 2) 2 gates0)
     let f : Nat := 0
     let op : SyncOp := (op0 .tak 2)
     let rest : List SyncOp := [op0 .add 1]
     let gates : List (Nat × Nat) := (syncU s.core f).gates
     (Goals.opFirst s f op rest)
      ∧ (Goals.opEnabled s f op)
      ∧ ((List.filter (fun p => decide (p.1 = op.sem)) gates).length ≤ 1)
      ∧ (op.kind = SyncKind.tak))
  ∧ (let s : State := (opS { op0 .add 3 with back := .comp 9 4 } 2 id)
     let f : Nat := 0
     let op : SyncOp := { op0 .add 3 with back := .comp 9 4 }
     let rest : List SyncOp := [op0 .add 1]
     let gates : List (Nat × Nat) := (syncU s.core f).gates
     (Goals.opFirst s f op rest)
      ∧ (Goals.opEnabled s f op)
      ∧ ((List.filter (fun p => decide (p.1 = op.sem)) gates).length ≤ 1)
      ∧ (op.kind = SyncKind.add)) :=
  by refine ⟨?_, ?_, ?_, ?_, ?_, ?_⟩ <;> decide +kernel +zetaReduce

/-- Meets the hypotheses of `Goals.SemaphoreRefusals`, clause by clause. -/
theorem meets_SemaphoreRefusals :
    (let s : State := (opS { op0 .add 2 with issuer := 25 } 2 id)
     let f : Nat := 0
     let op : SyncOp := { op0 .add 2 with issuer := 25 }
     let rest : List SyncOp := [op0 .add 1]
     let i : Instr := (.semSigAdd 0)
     let e : Sem := semOf s.core f op.sem
     let bound : Nat := if op.kind = SyncKind.tak ∨ op.kind = SyncKind.wat then e.cap else 65535
     let p : Bool := semPermits s.core f op
     let r : Bool := running s.core
     let st : Status := .access
     (Goals.opFirst s f op rest)
      ∧ ((i, op.kind) ∈
          [(Instr.semSigAdd f, SyncKind.add), (Instr.semSigSub f, SyncKind.sub), (Instr.semTak f, SyncKind.tak),
            (Instr.semWat f, SyncKind.wat)])
      ∧ (st = Status.access ∧ p = false ∨
          st = Status.state ∧ p = true ∧ r = false ∨
            st = Status.range ∧ p = true ∧ r = true ∧ e.valid = false ∨
              st = Status.range ∧ p = true ∧ r = true ∧ e.valid = true ∧ (op.n = 0 ∨ bound < op.n) ∨
                st = Status.lost ∧ p = true ∧ r = true ∧ e.valid = true ∧ 0 < op.n ∧ op.n ≤ bound ∧ e.poison = true))
  ∧ (let s : State := (opS (op0 .add 1) 2 fun c => setSem c 0 77 { valid := true, poison := true, owner := 0, cap := 4, count := 1, cause := 0, pframe := 0 })
     let f : Nat := 0
     let op : SyncOp := (op0 .add 1)
     let rest : List SyncOp := [op0 .add 1]
     let i : Instr := (.semSigAdd 0)
     let e : Sem := semOf s.core f op.sem
     let bound : Nat := if op.kind = SyncKind.tak ∨ op.kind = SyncKind.wat then e.cap else 65535
     let p : Bool := semPermits s.core f op
     let r : Bool := running s.core
     let st : Status := .lost
     (Goals.opFirst s f op rest)
      ∧ ((i, op.kind) ∈
          [(Instr.semSigAdd f, SyncKind.add), (Instr.semSigSub f, SyncKind.sub), (Instr.semTak f, SyncKind.tak),
            (Instr.semWat f, SyncKind.wat)])
      ∧ (st = Status.access ∧ p = false ∨
          st = Status.state ∧ p = true ∧ r = false ∨
            st = Status.range ∧ p = true ∧ r = true ∧ e.valid = false ∨
              st = Status.range ∧ p = true ∧ r = true ∧ e.valid = true ∧ (op.n = 0 ∨ bound < op.n) ∨
                st = Status.lost ∧ p = true ∧ r = true ∧ e.valid = true ∧ 0 < op.n ∧ op.n ≤ bound ∧ e.poison = true)) :=
  by refine ⟨?_, ?_⟩ <;> decide +kernel +zetaReduce

/-- Meets the hypotheses of `Goals.WatRegistersAWatch`, clause by clause. -/
theorem meets_WatRegistersAWatch :
    (let s : State := (opS (opW 3) 2 (wres 1))
     let f : Nat := 0
     let op : SyncOp := (opW 3)
     let rest : List SyncOp := [op0 .add 1]
     let e : Sem := semOf s.core f op.sem
     (Goals.opFirst s f op rest)
      ∧ (Goals.opEnabled s f op)
      ∧ (op.kind = SyncKind.wat)
      ∧ (op.issuer < 32768)
      ∧ (∀ p ∈ (syncU s.core f).gates, p.1 = op.sem → e.count < p.2)
      ∧ (freeWatch (syncU s.core f) op.issuer = none))
  ∧ (let s : State := (opS (opW 3) 2 (wres 2))
     let f : Nat := 0
     let op : SyncOp := (opW 3)
     let rest : List SyncOp := [op0 .add 1]
     let e : Sem := semOf s.core f op.sem
     let w : Nat := 1
     (Goals.opFirst s f op rest)
      ∧ (Goals.opEnabled s f op)
      ∧ (op.kind = SyncKind.wat)
      ∧ (op.issuer < 32768)
      ∧ (∀ p ∈ (syncU s.core f).gates, p.1 = op.sem → e.count < p.2)
      ∧ (freeWatch (syncU s.core f) op.issuer = some w)
      ∧ (e.count < op.n)
      ∧ (∀ p ∈ (syncU s.core f).watches, p.2.sem = op.sem → e.count < p.2.thresh))
  ∧ (let s : State := (opS (opW 2) 2 (wres 2))
     let f : Nat := 0
     let op : SyncOp := (opW 2)
     let rest : List SyncOp := [op0 .add 1]
     let e : Sem := semOf s.core f op.sem
     let w : Nat := 1
     (Goals.opFirst s f op rest)
      ∧ (Goals.opEnabled s f op)
      ∧ (op.kind = SyncKind.wat)
      ∧ (op.issuer < 32768)
      ∧ (∀ p ∈ (syncU s.core f).gates, p.1 = op.sem → e.count < p.2)
      ∧ (freeWatch (syncU s.core f) op.issuer = some w)
      ∧ (op.n ≤ e.count)) :=
  by refine ⟨?_, ?_, ?_⟩ <;> decide +kernel +zetaReduce

/-- Meets the hypotheses of `Obligations.NoWatchIsMissed`, clause by clause. -/
theorem meets_NoWatchIsMissed :
    (let c : Core := (wc1 2)
     let f : Nat := 0
     let op : SyncOp := (op0 .add 2)
     ((applyOp c f op).2 = Status.ok)
      ∧ (op.kind ∈ [SyncKind.add, SyncKind.sub, SyncKind.tak, SyncKind.wat]))
  ∧ (let c : Core := (wc1 2)
     let f : Nat := 0
     let op : SyncOp := (opW 2)
     ((applyOp c f op).2 = Status.ok)
      ∧ (op.kind ∈ [SyncKind.add, SyncKind.sub, SyncKind.tak, SyncKind.wat])) :=
  by refine ⟨?_, ?_⟩ <;> decide +kernel +zetaReduce

end Sys2Proof.Meets09
end

