-- ==== Sys2Proof/Tests/Meets10.lean ====
section
/-! SUPPORT. Concrete states and operands that meet the hypotheses of the statements of Obligations.lean. -/

namespace Sys2Proof.Meets10
open Machine

set_option maxRecDepth 20000
set_option Elab.async false

def takWord (n m f s self : Nat) := 8 * 2^59 + n * 2^36 + m * 2^24 + f * 2^21 + s * 2^9 + self * 2^8
def watWord (sub n m f s self ck : Nat) := 9 * 2^59 + sub * 2^56 + n * 2^36 + m * 2^24 + f * 2^21 + s * 2^9 + self * 2^8 + ck
def wi (ck : Nat) (b : Option WatchMsg) : WatchIdx := { cookie := ck, block := false, sem := 0x12345, thresh := 3, inbox := b }
def full16 : Tab WatchIdx := (List.range 16).map fun i => (i, wi (i + 20) none)
def flow0 : FlowDecl := { num := 4, peer := 6, issuers := [9], routes := [[{ src := 0, port := 2, dst := 6, bound := 1 }]] }
def withFlow (c : Core) : Core := opened [141] { c with alm := { c.alm with image := some { plain with flows := [flow0] } }, fab := { c.fab with ctxs := [(8, { Ctx.reset with state := 1, peerMod := 6, flow := 4 })] } }
def msg0 (s : Status) : WatchMsg := { status := s, cause := 0, sem := 0x12345, cookie := 5, noWatch := false, localOrigin := true, handle := 3, count := 1, thresh := 1, frame := 8 }
def repS (b : Back) (st : Status) (f : Station → Station) : State := edit (on 4 []) fun c => { setStn c 9 (f ready) with net := [.reply (.sig 8 1) .ok, .reply b st, .reply b .ok] }
def heldq (h : Hold) (x : Station) : Station := { x with seq := { x.seq with state := .waiting, hold := h, waitCause := 10 } }
def wmS (m : WatchMsg) (f : Station → Station) : State := edit (on 4 []) fun c => { setStn c 9 (f { ready with watches := [(2, wi 5 none)] }) with net := [.watch 9 2 m, .watch 9 2 m] }
def stC : Stream := { Stream.reset with state := 1, waits := true }
def wsS (m : WatchMsg) : State := edit (on 4 []) fun c => { setStrm c 9 3 stC with net := [.watch (streamSlot 9 3) 0 m] }
def fncWord (sub : Nat) := 10 * 2^59 + sub * 2^56
def op0 (k : SyncKind) (n : Nat) : SyncOp := { issuer := 9, kind := k, sem := 77, n := n, cookie := 3, slot := 1, back := .sig 9 5 }
def sg (i : Nat) : FenceOrSig := .sig i none 0 (op0 .add i)
def frS (l : List FenceOrSig) (o lo : List Nat) (f : Station → Station) : State := edit (on 4 []) fun c => setStn c 9 (f { ready with fq := l, openX := o, lostX := lo, nextX := 9 })
theorem aSig (i : Nat) : ∃ p n f op, sg i = .sig p n f op := ⟨_, _, _, _, rfl⟩
def oneSem (c : Core) (f s n : Nat) : Core := setSem c f s { valid := true, poison := false, owner := 0, cap := 4, count := n, cause := 0, pframe := 0 }
def opS (o : SyncOp) (n : Nat) (f : Core → Core) : State := edit (on 4 []) fun c => f (let c := oneSem c 0 77 n; setSync c 0 { syncU c 0 with held := [o, op0 .add 1] })

/-- Meets the hypotheses of `Goals.TakAndWatHoldTheSequencer`, clause by clause. -/
theorem meets_TakAndWatHoldTheSequencer :
    (let s : State := (at0 9 (takWord 3 0 2 77 1) id)
     let g : Nat := 9
     let w : Nat := (takWord 3 0 2 77 1)
     let here : Prop := bit w 8 = true ∨ bits w 24 12 = ownMod s.core
     (AtWord s g w Op.tak)
      ∧ (here))
  ∧ (let s : State := (at0 9 (watWord 0 3 0 2 77 1 5) fun x => { x with watches := [(0, wi 7 none)] })
     let g : Nat := 9
     let w : Nat := (watWord 0 3 0 2 77 1 5)
     let x : Station := stn s.core g
     let here : Prop := bit w 8 = true ∨ bits w 24 12 = ownMod s.core
     let i : Instr := (.watPost 9)
     let o : Op := .watPost
     let blk : Bool := false
     let idx : Nat := 1
     ((i, o, blk) ∈ [(Instr.watPost g, Op.watPost, false), (Instr.watBlock g, Op.watBlock, true)])
      ∧ (AtWord s g w o)
      ∧ (here)
      ∧ (freeIdx x = some idx)
      ∧ (∀ p ∈ x.watches, p.2.cookie ≠ bits w 0 8))
  ∧ (let s : State := (at0 9 (watWord 1 3 0 2 77 1 5) fun x => { x with watches := [(0, wi 7 none)] })
     let g : Nat := 9
     let w : Nat := (watWord 1 3 0 2 77 1 5)
     let x : Station := stn s.core g
     let here : Prop := bit w 8 = true ∨ bits w 24 12 = ownMod s.core
     let i : Instr := (.watBlock 9)
     let o : Op := .watBlock
     let blk : Bool := true
     let idx : Nat := 1
     ((i, o, blk) ∈ [(Instr.watPost g, Op.watPost, false), (Instr.watBlock g, Op.watBlock, true)])
      ∧ (AtWord s g w o)
      ∧ (here)
      ∧ (freeIdx x = some idx)
      ∧ (∀ p ∈ x.watches, p.2.cookie ≠ bits w 0 8))
  ∧ (let s : State := (at0 9 (watWord 1 3 0 2 77 1 5) fun x => { x with watches := [(0, wi 5 none)] })
     let g : Nat := 9
     let w : Nat := (watWord 1 3 0 2 77 1 5)
     let x : Station := stn s.core g
     let i : Instr := (.watBlock 9)
     let o : Op := .watBlock
     let st : Nat := 2
     ((i, o) ∈ [(Instr.watPost g, Op.watPost), (Instr.watBlock g, Op.watBlock)])
      ∧ (AtWord s g w o)
      ∧ (freeIdx x = none ∧ st = 1 ∨ freeIdx x ≠ none ∧ (∃ p ∈ x.watches, p.2.cookie = bits w 0 8) ∧ st = 2))
  ∧ (let s : State := (at0 9 (watWord 0 3 1 2 77 0 5) fun x => { x with watches := full16 })
     let g : Nat := 9
     let w : Nat := (watWord 0 3 1 2 77 0 5)
     let x : Station := stn s.core g
     let i : Instr := (.watPost 9)
     let o : Op := .watPost
     let st : Nat := 1
     ((i, o) ∈ [(Instr.watPost g, Op.watPost), (Instr.watBlock g, Op.watBlock)])
      ∧ (AtWord s g w o)
      ∧ (freeIdx x = none ∧ st = 1 ∨ freeIdx x ≠ none ∧ (∃ p ∈ x.watches, p.2.cookie = bits w 0 8) ∧ st = 2))
  ∧ (let s : State := (edit (at0 9 (takWord 3 6 2 77 0) id) withFlow)
     let g : Nat := 9
     let w : Nat := (takWord 3 6 2 77 0)
     let here : Prop := bit w 8 = true ∨ bits w 24 12 = ownMod s.core
     let away : Nat := bits w 24 12
     let flow : Nat → Right → Prop := fun i rt =>
          flowAny s.core g away = some i ∧
            (ctxOf s.core i).state = 1 ∧ tablePermits s.core.acc (portTarget s.core (egressPort s.core i)) g away rt = true
     let k : Nat := 8
     (AtWord s g w Op.tak)
      ∧ (¬here)
      ∧ (flow k Right.a))
  ∧ (let s : State := (edit (at0 9 (watWord 0 3 6 2 77 0 5) id) withFlow)
     let g : Nat := 9
     let w : Nat := (watWord 0 3 6 2 77 0 5)
     let x : Station := stn s.core g
     let here : Prop := bit w 8 = true ∨ bits w 24 12 = ownMod s.core
     let away : Nat := bits w 24 12
     let flow : Nat → Right → Prop := fun i rt =>
          flowAny s.core g away = some i ∧
            (ctxOf s.core i).state = 1 ∧ tablePermits s.core.acc (portTarget s.core (egressPort s.core i)) g away rt = true
     let i : Instr := (.watPost 9)
     let o : Op := .watPost
     let blk : Bool := false
     let idx : Nat := 0
     let k : Nat := 8
     let y : Nat := 0
     ((i, o, blk) ∈ [(Instr.watPost g, Op.watPost, false), (Instr.watBlock g, Op.watBlock, true)])
      ∧ (AtWord s g w o)
      ∧ (¬here)
      ∧ (freeIdx x = some idx)
      ∧ (∀ p ∈ x.watches, p.2.cookie ≠ bits w 0 8)
      ∧ (freeProxy s.core = some y)
      ∧ (flow k Right.r))
  ∧ (let s : State := (edit (at0 9 (watWord 1 3 6 2 77 0 5) id) withFlow)
     let g : Nat := 9
     let w : Nat := (watWord 1 3 6 2 77 0 5)
     let x : Station := stn s.core g
     let here : Prop := bit w 8 = true ∨ bits w 24 12 = ownMod s.core
     let away : Nat := bits w 24 12
     let flow : Nat → Right → Prop := fun i rt =>
          flowAny s.core g away = some i ∧
            (ctxOf s.core i).state = 1 ∧ tablePermits s.core.acc (portTarget s.core (egressPort s.core i)) g away rt = true
     let i : Instr := (.watBlock 9)
     let o : Op := .watBlock
     let blk : Bool := true
     let idx : Nat := 0
     let k : Nat := 8
     let y : Nat := 0
     ((i, o, blk) ∈ [(Instr.watPost g, Op.watPost, false), (Instr.watBlock g, Op.watBlock, true)])
      ∧ (AtWord s g w o)
      ∧ (¬here)
      ∧ (freeIdx x = some idx)
      ∧ (∀ p ∈ x.watches, p.2.cookie ≠ bits w 0 8)
      ∧ (freeProxy s.core = some y)
      ∧ (flow k Right.r)) :=
  by refine ⟨?_, ?_, ?_, ?_, ?_, ?_, ?_, ?_⟩ <;> decide +kernel +zetaReduce

/-- Meets the hypotheses of `Goals.WaitTakesItsInboxEntry`, clause by clause. -/
theorem meets_WaitTakesItsInboxEntry :
    (let s : State := (at0 9 (watWord 2 0 0 0 0 0 5) fun x => { x with watches := [(2, wi 5 (some (msg0 .lost)))] })
     let g : Nat := 9
     let w : Nat := (watWord 2 0 0 0 0 0 5)
     let idx : Nat := 2
     let v : WatchIdx := (wi 5 (some (msg0 .lost)))
     let x : Station := stn s.core g
     let m : WatchMsg := (msg0 .lost)
     (AtWord s g w Op.watWait)
      ∧ (List.find? (fun p => decide (p.2.cookie = bits w 0 8)) x.watches = some (idx, v))
      ∧ (v.inbox = some m))
  ∧ (let s : State := (at0 9 (watWord 2 0 0 0 0 0 5) fun x => { x with watches := [(2, wi 5 none)] })
     let g : Nat := 9
     let w : Nat := (watWord 2 0 0 0 0 0 5)
     let idx : Nat := 2
     let v : WatchIdx := (wi 5 none)
     let x : Station := stn s.core g
     (AtWord s g w Op.watWait)
      ∧ (List.find? (fun p => decide (p.2.cookie = bits w 0 8)) x.watches = some (idx, v))
      ∧ (v.inbox = none))
  ∧ (let s : State := (at0 9 (watWord 2 0 0 0 0 0 5) fun x => { x with watches := [(2, wi 6 none)] })
     let g : Nat := 9
     let w : Nat := (watWord 2 0 0 0 0 0 5)
     let x : Station := stn s.core g
     (AtWord s g w Op.watWait)
      ∧ (∀ p ∈ x.watches, p.2.cookie ≠ bits w 0 8)) :=
  by refine ⟨?_, ?_, ?_⟩ <;> decide +kernel +zetaReduce

/-- Meets the hypotheses of `Goals.RepliesReachTheirStation`, clause by clause. -/
theorem meets_RepliesReachTheirStation :
    (let s : State := (repS (.tak 9 5) .taken (heldq .reply))
     let g : Nat := 9
     let pc : Nat := 5
     let b : Back := (.tak 9 5)
     let st : Status := .taken
     let x : Station := stn s.core g
     (Runs s)
      ∧ (g < 192)
      ∧ (List.find? (isReplyTo g) s.core.net = some (NetMsg.reply b st))
      ∧ (b = Back.tak g pc)
      ∧ (st ∈ [Status.ok, Status.taken, Status.lost])
      ∧ (x.seq.hold = Hold.reply)
      ∧ (x.seq.state = SeqState.waiting))
  ∧ (let s : State := (repS (.sig 9 5) .ok id)
     let g : Nat := 9
     let pc : Nat := 5
     let b : Back := (.sig 9 5)
     let st : Status := .ok
     (Runs s)
      ∧ (g < 192)
      ∧ (List.find? (isReplyTo g) s.core.net = some (NetMsg.reply b st))
      ∧ (b = Back.sig g pc ∨ b = Back.comp g pc)
      ∧ (st = Status.ok))
  ∧ (let s : State := (repS (.comp 9 5) .lost id)
     let g : Nat := 9
     let pc : Nat := 5
     let b : Back := (.comp 9 5)
     let st : Status := .lost
     (Runs s)
      ∧ (g < 192)
      ∧ (List.find? (isReplyTo g) s.core.net = some (NetMsg.reply b st))
      ∧ (b = Back.sig g pc ∨ b = Back.comp g pc)
      ∧ (st = Status.lost))
  ∧ (let s : State := (repS (.comp 9 5) .range id)
     let g : Nat := 9
     let pc : Nat := 5
     let b : Back := (.comp 9 5)
     let st : Status := .range
     let x : Station := stn s.core g
     (Runs s)
      ∧ (g < 192)
      ∧ (List.find? (isReplyTo g) s.core.net = some (NetMsg.reply b st))
      ∧ (b = Back.sig g pc ∨ b = Back.comp g pc ∨ b = Back.tak g pc)
      ∧ (st ∈ [Status.range, Status.access, Status.state])
      ∧ (x.seq.state ≠ SeqState.faulted))
  ∧ (let s : State := (repS (.tak 9 5) .access (heldq .reply))
     let g : Nat := 9
     let pc : Nat := 5
     let b : Back := (.tak 9 5)
     let st : Status := .access
     let x : Station := stn s.core g
     (Runs s)
      ∧ (g < 192)
      ∧ (List.find? (isReplyTo g) s.core.net = some (NetMsg.reply b st))
      ∧ (b = Back.sig g pc ∨ b = Back.comp g pc ∨ b = Back.tak g pc)
      ∧ (st ∈ [Status.range, Status.access, Status.state])
      ∧ (x.seq.state ≠ SeqState.faulted)) :=
  by refine ⟨?_, ?_, ?_, ?_, ?_⟩ <;> decide +kernel +zetaReduce

/-- Meets the hypotheses of `Goals.WatchMessagesReachTheirUnit`, clause by clause. -/
theorem meets_WatchMessagesReachTheirUnit :
    (let s : State := (wmS (msg0 .ok) (heldq (.message 2)))
     let unit : Nat := 9
     let idx : Nat := 2
     let m : WatchMsg := (msg0 .ok)
     let x : Station := stn s.core unit
     let v : WatchIdx := (wi 5 none)
     (Runs s)
      ∧ (List.find? (isWatchFor unit) s.core.net = some (NetMsg.watch unit idx m))
      ∧ (unit < 192)
      ∧ (tget x.watches idx = some v)
      ∧ (x.seq.hold = Hold.message idx ∨ x.seq.hold = Hold.inbox v.cookie)
      ∧ (x.seq.state = SeqState.waiting))
  ∧ (let s : State := (wmS (msg0 .lost) (heldq (.inbox 5)))
     let unit : Nat := 9
     let idx : Nat := 2
     let m : WatchMsg := (msg0 .lost)
     let x : Station := stn s.core unit
     let v : WatchIdx := (wi 5 none)
     (Runs s)
      ∧ (List.find? (isWatchFor unit) s.core.net = some (NetMsg.watch unit idx m))
      ∧ (unit < 192)
      ∧ (tget x.watches idx = some v)
      ∧ (x.seq.hold = Hold.message idx ∨ x.seq.hold = Hold.inbox v.cookie)
      ∧ (x.seq.state = SeqState.waiting))
  ∧ (let s : State := (wmS (msg0 .ok) (heldq .reply))
     let unit : Nat := 9
     let idx : Nat := 2
     let m : WatchMsg := (msg0 .ok)
     let x : Station := stn s.core unit
     let v : WatchIdx := (wi 5 none)
     (Runs s)
      ∧ (List.find? (isWatchFor unit) s.core.net = some (NetMsg.watch unit idx m))
      ∧ (unit < 192)
      ∧ (tget x.watches idx = some v)
      ∧ (x.seq.hold = Hold.free ∨ x.seq.hold = Hold.reply))
  ∧ (let s : State := (wsS (msg0 .ok))
     let unit : Nat := (streamSlot 9 3)
     let idx : Nat := 0
     let m : WatchMsg := (msg0 .ok)
     let g : Nat := 9
     let st : Nat := 3
     (Runs s)
      ∧ (List.find? (isWatchFor unit) s.core.net = some (NetMsg.watch unit idx m))
      ∧ (g < 192)
      ∧ (st < 16)
      ∧ (unit = streamSlot g st)
      ∧ ((strm (stn s.core g) st).state = 1)
      ∧ (m.status = Status.ok))
  ∧ (let s : State := (wsS (msg0 .lost))
     let unit : Nat := (streamSlot 9 3)
     let idx : Nat := 0
     let m : WatchMsg := (msg0 .lost)
     let g : Nat := 9
     let st : Nat := 3
     (Runs s)
      ∧ (List.find? (isWatchFor unit) s.core.net = some (NetMsg.watch unit idx m))
      ∧ (g < 192)
      ∧ (st < 16)
      ∧ (unit = streamSlot g st)
      ∧ ((strm (stn s.core g) st).state = 1)
      ∧ (m.status = Status.lost)) :=
  by refine ⟨?_, ?_, ?_, ?_, ?_⟩ <;> decide +kernel +zetaReduce

/-- Meets the hypotheses of `Goals.FencesAreRecorded`, clause by clause. -/
theorem meets_FencesAreRecorded :
    (let s : State := (at0 9 (fncWord 0) fun x => { x with waitStart := 2, nextX := 6, fq := [.fence 0 2] })
     let g : Nat := 9
     let w : Nat := (fncWord 0)
     let x : Station := stn s.core g
     (fenceCount x < 16)
      ∧ (AtWord s g w Op.fnc))
  ∧ (let s : State := (at0 9 (fncWord 1) fun x => { x with waitStart := 2, nextX := 6, fq := [.fence 0 2] })
     let g : Nat := 9
     let w : Nat := (fncWord 1)
     let x : Station := stn s.core g
     (fenceCount x < 16)
      ∧ (AtWord s g w Op.fncWait)) :=
  by refine ⟨?_, ?_⟩ <;> decide +kernel +zetaReduce

/-- Meets the hypotheses of `Goals.FencesRetire`, clause by clause. -/
theorem meets_FencesRetire :
    (let s : State := (frS [sg 1, .fence 2 4, sg 2, .fence 4 6] [3, 5] [] id)
     let g : Nat := 9
     let a : Nat := 2
     let b : Nat := 4
     let pre : List FenceOrSig := [sg 1]
     let sigs : List FenceOrSig := [sg 2]
     let post : List FenceOrSig := [.fence 4 6]
     let x : Station := stn s.core g
     let isSig : FenceOrSig → Prop := fun e => ∃ p n f op, e = FenceOrSig.sig p n f op
     (Runs s)
      ∧ (g < 192)
      ∧ (x.fq = pre ++ FenceOrSig.fence a b :: (sigs ++ post))
      ∧ (∀ e ∈ pre ++ sigs, isSig e)
      ∧ (∀ (e : FenceOrSig) (r : List FenceOrSig), post = e :: r → ¬isSig e)
      ∧ (∃ k ∈ x.openX, k < b))
  ∧ (let s : State := (frS [sg 1, .fence 2 4, sg 2, .fence 4 6] [5] [] id)
     let g : Nat := 9
     let a : Nat := 2
     let b : Nat := 4
     let pre : List FenceOrSig := [sg 1]
     let sigs : List FenceOrSig := [sg 2]
     let post : List FenceOrSig := [.fence 4 6]
     let x : Station := stn s.core g
     let isSig : FenceOrSig → Prop := fun e => ∃ p n f op, e = FenceOrSig.sig p n f op
     (Runs s)
      ∧ (g < 192)
      ∧ (x.fq = pre ++ FenceOrSig.fence a b :: (sigs ++ post))
      ∧ (∀ e ∈ pre ++ sigs, isSig e)
      ∧ (∀ (e : FenceOrSig) (r : List FenceOrSig), post = e :: r → ¬isSig e)
      ∧ (∀ k ∈ x.openX, b ≤ k))
  ∧ (let s : State := (frS [.fence 2 4] [] [1] (heldq .fences))
     let g : Nat := 9
     let a : Nat := 2
     let b : Nat := 4
     let pre : List FenceOrSig := []
     let sigs : List FenceOrSig := []
     let post : List FenceOrSig := []
     let x : Station := stn s.core g
     let isSig : FenceOrSig → Prop := fun e => ∃ p n f op, e = FenceOrSig.sig p n f op
     (Runs s)
      ∧ (g < 192)
      ∧ (x.fq = pre ++ FenceOrSig.fence a b :: (sigs ++ post))
      ∧ (∀ e ∈ pre ++ sigs, isSig e)
      ∧ (∀ (e : FenceOrSig) (r : List FenceOrSig), post = e :: r → ¬isSig e)
      ∧ (∀ k ∈ x.openX, b ≤ k)) :=
  ⟨⟨by decide +kernel +zetaReduce, by decide +kernel +zetaReduce, by decide +kernel +zetaReduce, by simp [sg], by simp, by decide +kernel +zetaReduce⟩,
   ⟨by decide +kernel +zetaReduce, by decide +kernel +zetaReduce, by decide +kernel +zetaReduce, by simp [sg], by simp, by decide +kernel +zetaReduce⟩,
   ⟨by decide +kernel +zetaReduce, by decide +kernel +zetaReduce, by decide +kernel +zetaReduce, by simp [sg], by simp, by decide +kernel +zetaReduce⟩⟩

/-- Meets the hypotheses of `Goals.GateJudgements`, clause by clause. -/
theorem meets_GateJudgements :
    (let s : State := (opS (op0 .gate 2) 3 id)
     let f : Nat := 0
     let op : SyncOp := (op0 .gate 2)
     let rest : List SyncOp := [op0 .add 1]
     let e : Sem := semOf s.core f op.sem
     (Goals.opFirst s f op rest)
      ∧ (op.kind = SyncKind.gate)
      ∧ (op.sem < 4096)
      ∧ ((syncU s.core f).gates = [])
      ∧ (e.valid = true)
      ∧ (e.poison = false)
      ∧ (op.n ≤ e.count))
  ∧ (let s : State := (opS (op0 .gate 4) 3 id)
     let f : Nat := 0
     let op : SyncOp := (op0 .gate 4)
     let rest : List SyncOp := [op0 .add 1]
     let e : Sem := semOf s.core f op.sem
     (Goals.opFirst s f op rest)
      ∧ (op.kind = SyncKind.gate)
      ∧ (op.sem < 4096)
      ∧ ((syncU s.core f).gates = [])
      ∧ (e.valid = true)
      ∧ (e.poison = false)
      ∧ (e.count < op.n)) :=
  by refine ⟨?_, ?_⟩ <;> decide +kernel +zetaReduce

end Sys2Proof.Meets10
end

