-- ==== Sys2Proof/Tests/Meets11.lean ====
section
/-! SUPPORT. Concrete states and operands that meet the hypotheses of the statements of Obligations.lean. -/

namespace Sys2Proof.Meets11
open Machine

set_option maxRecDepth 20000
set_option Elab.async false

def prt (p : Port) (f : Core → Core) : State := edit (on 0 []) fun c => f { c with fab := { c.fab with ports := [(3, { p with badRun := p.badRun })] } }
def idm (ok : Bool) : IdentMsg := { modId := 6, modValid := true, instId := 0, bootEpoch := 5, peerPort := 4, digest := 99, nonce := List.replicate 16 3, lc := 2, sigOk := ok, certOk := true }
def upP : Port := { Port.reset with pstate := 3, phase := 5, rxGroup := 65535, replaySeq := 8, tries := 3, peerMod := 6, peerValid := true }
def two (f : Core → Core) : State := edit (on 0 []) fun c => f { c with fab := { c.fab with ports := [(3, upP), (6, { upP with peerMod := 7 })] } }
def adv : Advert := { modId := 8, digest := 5, bootEpoch := 6, links := [(1,2,3)], hops := 2, refDepth := 3, tick := 7000, tickSource := 1, distance := 1, instId := 0, valid := true }
/-- A packet. -/
def pk (typ op addr : Nat) (pl : Bytes) : Packet := { typ := typ, dstMod := 0, srcMod := 6, dstCtx := 8, seq := 5, issuer := 9, opTag := 3, addr := addr, status := 0, op := op, payload := pl }
def rx0 (p : Packet) : Rx := { port := 3, slot := 4, crc := packetCrc p, pkt := p }
def flow0 : FlowDecl := { num := 4, peer := 6, issuers := [9], routes := [[{ src := 0, port := 3, dst := 6, bound := 1 }]] }
def tp0 : Template := { emptyTp with slots := [{ port := 3, out := false, slot := 4, flow := 4, bytes := 512 }, { port := 3, out := true, slot := 7, flow := 4, bytes := 512 }], transit := [{ inPort := 3, slot := 5, outPort := 3, outSlot := 9, srcMod := 6, dstMod := 7, bytes := 512 }] }
def cx : Ctx := { Ctx.reset with state := 1, peerMod := 6, flow := 4, rxSeq := 5, peerCtx := 2, master := 0x8006 }
def flS (a : Nat) (x : Ctx) (f : Core → Core) : State := edit (on a []) fun c => f { c with alm := { c.alm with image := some { plain with flows := [flow0], templates := [tp0] } }, fab := { c.fab with ports := [(3, upP)], ctxs := [(8, x)] } }
def ga (o : Nat) : Nat := o
def op128 : Core → Core := opened [128]
def inM (s : State) : State := { s with mem := mwriteN [] 0x1000 (leBytes 16 0x12345678ABCDEF0011223344556677) }
def reqS (cause : Cause) (f : Core → Core) : State := flS 4 cx fun c => f { c with fab := { c.fab with reqs := [(3, (8, 0x600000001000, cause))] } }
def dCopy : Nat := 31 * 2^32 + 3 + 2^60 * 2^64 + (2^60 + stBase 9 + 0x2000) * 2^128 + 32 * 2^192
def stR : Stream := { Stream.reset with state := 1, active := dCopy, dstA := 2^60 + stBase 9 + 0x2000, openRows := [0], row := 1 }
def dAt : Nat := 6 * 2^60 + 15 * 2^32 + 3 + (2^60 + stBase 9) * 2^64 + (0x600000000000) * 2^128 + (4 * 2^60 + 0x3000) * 2^320
def prx : Proxy := { home := 6, waiter := 9, slot := 2, sem := 0x60001, n := 3, cookie := 7 }
def q0 (seq n : Nat) : FlowPkt := { pkt := { pk 0 0 0 (List.replicate n 7) with seq := seq }, cause := .none, sent := false }
def sq (x : Ctx) : State := flS 4 x id
def cq : Ctx := { cx with queue := [q0 0 10, q0 0 3], txSeq := 2^32-1 }
def cxs : Ctx := { cx with store := [q0 4 1, q0 5 2, q0 6 3], queue := [q0 0 4], txSeq := 7, unacked := 2 }
def cxc : Ctx := { cxs with state := 2 }
def te : TransitEntry := { inPort := 3, slot := 5, outPort := 3, outSlot := 9, srcMod := 6, dstMod := 7, bytes := 512 }
def trx (n : Nat) : Rx := { rx0 { pk 0 0 0 [1,2] with dstMod := 7 } with slot := n }

/-- Meets the hypotheses of `Goals.LinkTrainingAndIdentity`, clause by clause. -/
theorem meets_LinkTrainingAndIdentity :
    (let s : State := (prt { Port.reset with pstate := 0 } id)
     let p : Nat := 3
     let x : Port := portOf s.core p
     (Goals.linkActs s p)
      ∧ (s.core.boot.rom = false)
      ∧ (x.pstate = 0))
  ∧ (let s : State := (prt { Port.reset with pstate := 1, phase := 2 } id)
     let p : Nat := 3
     let x : Port := portOf s.core p
     (Goals.linkActs s p)
      ∧ (s.core.boot.rom = false)
      ∧ (x.pstate = 1)
      ∧ (x.phase < 4))
  ∧ (let s : State := (prt { Port.reset with pstate := 1, phase := 4 } id)
     let p : Nat := 3
     let x : Port := portOf s.core p
     (Goals.linkActs s p)
      ∧ (s.core.boot.rom = false)
      ∧ (x.pstate = 1)
      ∧ (4 ≤ x.phase))
  ∧ (let s : State := (prt { Port.reset with pstate := 1, phase := 4 } id)
     let p : Nat := 3
     let x : Port := portOf s.core p
     (Goals.linkActs s p)
      ∧ (s.core.boot.rom = false)
      ∧ (x.pstate = 1)
      ∧ (4 ≤ x.phase))
  ∧ (let s : State := (prt { Port.reset with pstate := 2, phase := 5 } id)
     let p : Nat := 3
     let x : Port := portOf s.core p
     (Goals.linkActs s p)
      ∧ (x.pstate = 2 ∨ x.pstate = 1 ∧ 0 < x.phase))
  ∧ (let s : State := (prt { Port.reset with pstate := 3, phase := 5 } id)
     let p : Nat := 3
     let x : Port := portOf s.core p
     (Goals.linkActs s p)
      ∧ (x.pstate ≠ 0))
  ∧ (let s : State := (prt { Port.reset with pstate := 2, phase := 5 } id)
     let p : Nat := 3
     let x : Port := portOf s.core p
     let m : IdentMsg := (idm true)
     (Goals.linkActs s p)
      ∧ (x.pstate = 2)
      ∧ (x.again = false)
      ∧ (m.sigOk = true ∧ m.certOk = true ∧ m.instId = obj s.core Key.installationId))
  ∧ (let s : State := (prt { Port.reset with pstate := 2, phase := 5 } id)
     let p : Nat := 3
     let x : Port := portOf s.core p
     let m : IdentMsg := (idm false)
     (Goals.linkActs s p)
      ∧ (x.pstate = 2)
      ∧ (x.again = false)
      ∧ (¬(m.sigOk = true ∧ m.certOk = true ∧ m.instId = obj s.core Key.installationId))) :=
  by refine ⟨?_, ?_, ?_, ?_, ?_, ?_, ?_, ?_⟩ <;> decide +kernel +zetaReduce

/-- Meets the hypotheses of `Goals.CodewordGroupsAreReplayed`, clause by clause. -/
theorem meets_CodewordGroupsAreReplayed :
    (let s : State := (prt upP id)
     let p : Nat := 3
     let seq : Nat := 65535
     let errs : List Nat := [0, 3, 16, 1]
     let x : Port := portOf s.core p
     let bad : List Nat := Goals.lostLanes s.core p errs
     (Goals.linkActs s p)
      ∧ (1 < x.pstate)
      ∧ (seq = x.rxGroup)
      ∧ (bad = []))
  ∧ (let s : State := (prt upP id)
     let p : Nat := 3
     let seq : Nat := 7
     let errs : List Nat := [4]
     let x : Port := portOf s.core p
     let bad : List Nat := Goals.lostLanes s.core p errs
     (Goals.linkActs s p)
      ∧ (1 < x.pstate)
      ∧ (seq ≠ x.rxGroup)
      ∧ (bad = []))
  ∧ (let s : State := (prt { upP with badRun := [(1, 3), (2, 63)] } id)
     let p : Nat := 3
     let errs : List Nat := [0, 17]
     let x : Port := portOf s.core p
     let bad : List Nat := Goals.lostLanes s.core p errs
     (Goals.linkActs s p)
      ∧ (1 < x.pstate)
      ∧ (bad ≠ [])
      ∧ (∀ l ∈ bad, tgetD x.badRun l 0 < 63))
  ∧ (let s : State := (prt { upP with badRun := [(1, 3), (3, 63)] } id)
     let p : Nat := 3
     let errs : List Nat := [0, 0, 0, 20]
     let x : Port := portOf s.core p
     let bad : List Nat := Goals.lostLanes s.core p errs
     (Goals.linkActs s p)
      ∧ (x.pstate ≠ 0)
      ∧ (∃ l ∈ bad, 63 ≤ tgetD x.badRun l 0))
  ∧ (let s : State := (prt upP id)
     let p : Nat := 3
     let seq : Nat := 8
     let x : Port := portOf s.core p
     (Goals.linkActs s p)
      ∧ (x.pstate ≠ 0)
      ∧ (x.replaySeq ≠ seq ∨ x.tries < 8))
  ∧ (let s : State := (prt { upP with tries := 8 } id)
     let p : Nat := 3
     let seq : Nat := 8
     let x : Port := portOf s.core p
     (Goals.linkActs s p)
      ∧ (x.pstate ≠ 0)
      ∧ (x.replaySeq = seq)
      ∧ (8 ≤ x.tries)) :=
  by refine ⟨?_, ?_, ?_, ?_, ?_, ?_⟩ <;> decide +kernel +zetaReduce

/-- Meets the hypotheses of `Goals.AdvertsSpread`, clause by clause. -/
theorem meets_AdvertsSpread :
    (let s : State := (two id)
     (Runs s)
      ∧ (s.core.boot.rom = false))
  ∧ (let s : State := (two id)
     let p : Nat := 3
     let a : Advert := { adv with digest := ownDigest (two id).fuse + 1 }
     (Runs s)
      ∧ (Goals.linkActs s p)
      ∧ ((portOf s.core p).pstate = 3)
      ∧ (a.hops ≤ 6)
      ∧ (a.valid = true)
      ∧ (a.modId ≠ ownMod s.core)
      ∧ (a.digest ≠ ownDigest s.fuse)
      ∧ (∀ (x : Topo), topoOf s.core a.modId = some x → x.epoch = a.bootEpoch ∧ x.linked = false ∧ x.port ∈ upPorts s.core))
  ∧ (let s : State := (two id)
     let p : Nat := 3
     let a : Advert := { adv with digest := ownDigest (two id).fuse + 1, hops := 6 }
     (Runs s)
      ∧ (Goals.linkActs s p)
      ∧ ((portOf s.core p).pstate = 3)
      ∧ (a.hops ≤ 6)
      ∧ (a.valid = true)
      ∧ (a.modId ≠ ownMod s.core)
      ∧ (a.digest ≠ ownDigest s.fuse)
      ∧ (∀ (x : Topo), topoOf s.core a.modId = some x → x.epoch = a.bootEpoch ∧ x.linked = false ∧ x.port ∈ upPorts s.core)) :=
  ⟨(by decide +kernel +zetaReduce),
   ⟨by decide +kernel +zetaReduce, by decide +kernel +zetaReduce, by decide +kernel +zetaReduce, by decide +kernel +zetaReduce, by decide +kernel +zetaReduce, by decide +kernel +zetaReduce, Nat.succ_ne_self _, allSome (by decide +kernel +zetaReduce)⟩,
   ⟨by decide +kernel +zetaReduce, by decide +kernel +zetaReduce, by decide +kernel +zetaReduce, by decide +kernel +zetaReduce, by decide +kernel +zetaReduce, by decide +kernel +zetaReduce, Nat.succ_ne_self _, allSome (by decide +kernel +zetaReduce)⟩⟩

/-- Meets the hypotheses of `Goals.PacketsAreJudged`, clause by clause. -/
theorem meets_PacketsAreJudged :
    (let s : State := (flS 4 cx id)
     let rx : Rx := (rx0 (pk 0 0 0 []))
     (Goals.inTurn s rx))
  ∧ (let s : State := (flS 0 cx id)
     let rx : Rx := { rx0 (pk 0 0 0 []) with slot := 9 }
     (Goals.inTurn s rx))
  ∧ (let s : State := (flS 4 cx id)
     let rx : Rx := { rx0 (pk 0 0 0 []) with slot := 9 }
     (running s.core = true)
      ∧ (rx.pkt.dstMod = ownMod s.core)
      ∧ (slotOwner s.core rx.port rx.slot false = none))
  ∧ (let s : State := (flS 0 { cx with rxSeq := 6 } id)
     let rx : Rx := (rx0 (pk 0 0 0 []))
     let i : Nat := rx.pkt.dstCtx
     let x : Ctx := ctxOf s.core i
     (running s.core = false)
      ∧ (rx.pkt.dstMod = ownMod s.core)
      ∧ (crcHolds rx = true)
      ∧ (x.kind = 0)
      ∧ (x.state = 1)
      ∧ (rx.pkt.seq ≠ x.rxSeq))
  ∧ (let s : State := (flS 0 { cx with rxSeq := 4 } id)
     let rx : Rx := (rx0 (pk 0 0 0 []))
     let i : Nat := rx.pkt.dstCtx
     let x : Ctx := ctxOf s.core i
     (running s.core = false)
      ∧ (rx.pkt.dstMod = ownMod s.core)
      ∧ (crcHolds rx = true)
      ∧ (x.kind = 0)
      ∧ (x.state = 1)
      ∧ (rx.pkt.seq ≠ x.rxSeq))
  ∧ (let s : State := (flS 0 { cx with state := 0 } id)
     let rx : Rx := (rx0 (pk 0 0 0 []))
     let i : Nat := rx.pkt.dstCtx
     let x : Ctx := ctxOf s.core i
     (running s.core = false)
      ∧ (rx.pkt.dstMod = ownMod s.core)
      ∧ (crcHolds rx = true)
      ∧ (¬(x.kind = 0 ∧ x.state = 1)))
  ∧ (let s : State := (flS 0 cx id)
     let rx : Rx := { rx0 (pk 0 0 0 []) with crc := 0 }
     let i : Nat := rx.pkt.dstCtx
     let x : Ctx := ctxOf s.core i
     (running s.core = false)
      ∧ (rx.pkt.dstMod = ownMod s.core)
      ∧ (crcHolds rx = false)
      ∧ (x.kind = 0)
      ∧ (x.state = 1)) :=
  by refine ⟨?_, ?_, ?_, ?_, ?_, ?_, ?_⟩ <;> decide +kernel +zetaReduce

/-- Meets the hypotheses of `Goals.RemoteRequestsAreServed`, clause by clause. -/
theorem meets_RemoteRequestsAreServed :
    (let s : State := (flS 4 cx op128)
     let rx : Rx := (rx0 (pk 0 0 0x1000 (leBytes 40 77777)))
     let c : Core := Goals.taken s rx
     let p : Packet := rx.pkt
     let o : Nat := gaOff p.addr
     let m : Nat := 32768 + p.srcMod
     let mem : Nat → Prop := fun a => inHbm a = true ∨ inSlice a = true ∨ inStation a = true
     (Goals.inTurn s rx)
      ∧ (p.typ = 0)
      ∧ (p.payload ≠ [])
      ∧ (addrHere c p (List.length p.payload) = true)
      ∧ (mem o)
      ∧ (gatedIn c o (List.length p.payload) = none)
      ∧ (refusalOf c m o (List.length p.payload) Right.w = none))
  ∧ (let s : State := (flS 4 cx id)
     let rx : Rx := (rx0 (pk 0 0 0x1000 (leBytes 40 77777)))
     let c : Core := Goals.taken s rx
     let p : Packet := rx.pkt
     let o : Nat := gaOff p.addr
     let m : Nat := 32768 + p.srcMod
     let mem : Nat → Prop := fun a => inHbm a = true ∨ inSlice a = true ∨ inStation a = true
     (Goals.inTurn s rx)
      ∧ (p.typ = 0)
      ∧ (p.payload ≠ [])
      ∧ (addrHere c p (List.length p.payload) = true)
      ∧ (mem o)
      ∧ (gatedIn c o (List.length p.payload) = none)
      ∧ (refusalOf c m o (List.length p.payload) Right.w ≠ none))
  ∧ (let s : State := (inM (flS 4 cx op128))
     let rx : Rx := (rx0 (pk 1 0 0x1000 (leBytes 4 40)))
     let c : Core := Goals.taken s rx
     let p : Packet := rx.pkt
     let i : Nat := p.dstCtx
     let o : Nat := gaOff p.addr
     let m : Nat := 32768 + p.srcMod
     let mem : Nat → Prop := fun a => inHbm a = true ∨ inSlice a = true ∨ inStation a = true
     let n : Nat := leNat (List.take 4 p.payload)
     (Goals.inTurn s rx)
      ∧ (p.typ = 1)
      ∧ (0 < n)
      ∧ (n ≤ 512)
      ∧ (addrHere c p n = true)
      ∧ (mem o)
      ∧ (mem (o + (n - 1)))
      ∧ (gatedIn c o n = none)
      ∧ (∀ i < n, gatedAt c (o + i) = false)
      ∧ (refusalOf c m o n Right.r = none)
      ∧ (eccBad c [o] n = none))
  ∧ (let s : State := (inM (flS 4 cx id))
     let rx : Rx := (rx0 (pk 1 0 0x1000 (leBytes 4 40)))
     let c : Core := Goals.taken s rx
     let p : Packet := rx.pkt
     let i : Nat := p.dstCtx
     let o : Nat := gaOff p.addr
     let m : Nat := 32768 + p.srcMod
     let mem : Nat → Prop := fun a => inHbm a = true ∨ inSlice a = true ∨ inStation a = true
     let n : Nat := leNat (List.take 4 p.payload)
     (Goals.inTurn s rx)
      ∧ (p.typ = 1)
      ∧ (0 < n)
      ∧ (n ≤ 512)
      ∧ (addrHere c p n = true)
      ∧ (mem o)
      ∧ (mem (o + (n - 1)))
      ∧ (gatedIn c o n = none)
      ∧ (∀ i < n, gatedAt c (o + i) = false)
      ∧ (refusalOf c m o n Right.r ≠ none))
  ∧ (let s : State := (inM (flS 4 cx fun c => { op128 c with ecc := { single := [], double := [0x1008] } }))
     let rx : Rx := (rx0 (pk 1 0 0x1000 (leBytes 4 40)))
     let c : Core := Goals.taken s rx
     let p : Packet := rx.pkt
     let i : Nat := p.dstCtx
     let o : Nat := gaOff p.addr
     let m : Nat := 32768 + p.srcMod
     let mem : Nat → Prop := fun a => inHbm a = true ∨ inSlice a = true ∨ inStation a = true
     let n : Nat := leNat (List.take 4 p.payload)
     (Goals.inTurn s rx)
      ∧ (p.typ = 1)
      ∧ (0 < n)
      ∧ (n ≤ 512)
      ∧ (addrHere c p n = true)
      ∧ (mem o)
      ∧ (mem (o + (n - 1)))
      ∧ (gatedIn c o n = none)
      ∧ (∀ i < n, gatedAt c (o + i) = false)
      ∧ (refusalOf c m o n Right.r = none)
      ∧ (eccBad c [o] n ≠ none))
  ∧ (let s : State := (inM (flS 4 cx op128))
     let rx : Rx := (rx0 (pk 3 4 0x1000 (leBytes 16 40)))
     let c : Core := Goals.taken s rx
     let p : Packet := rx.pkt
     let o : Nat := gaOff p.addr
     let m : Nat := 32768 + p.srcMod
     let mem : Nat → Prop := fun a => inHbm a = true ∨ inSlice a = true ∨ inStation a = true
     let n : Nat := atomicTarget p.op
     (Goals.inTurn s rx)
      ∧ (p.typ = 3)
      ∧ (p.op ≤ 4)
      ∧ (atomicOperand p.op ≤ List.length p.payload)
      ∧ (addrHere c p n = true)
      ∧ (o % n = 0)
      ∧ (mem o)
      ∧ (gatedAt c o = false)
      ∧ (eccBad c [o] n = none)
      ∧ (refusalOf c m o n Right.a = none))
  ∧ (let s : State := (inM (flS 4 cx id))
     let rx : Rx := (rx0 (pk 3 1 0x1000 (leBytes 8 40)))
     let c : Core := Goals.taken s rx
     let p : Packet := rx.pkt
     let o : Nat := gaOff p.addr
     let m : Nat := 32768 + p.srcMod
     let mem : Nat → Prop := fun a => inHbm a = true ∨ inSlice a = true ∨ inStation a = true
     let n : Nat := atomicTarget p.op
     (Goals.inTurn s rx)
      ∧ (p.typ = 3)
      ∧ (p.op ≤ 4)
      ∧ (atomicOperand p.op ≤ List.length p.payload)
      ∧ (addrHere c p n = true)
      ∧ (o % n = 0)
      ∧ (mem o)
      ∧ (gatedAt c o = false)
      ∧ (eccBad c [o] n = none)
      ∧ (refusalOf c m o n Right.a ≠ none))
  ∧ (let s : State := (inM (flS 4 cx id))
     let rx : Rx := (rx0 (pk 5 2 0x204D (leBytes 12 40)))
     let p : Packet := rx.pkt
     let k : SyncKind := .tak
     (Goals.inTurn s rx)
      ∧ (p.typ = 5)
      ∧ ((p.op, k) ∈ [(0, SyncKind.add), (1, SyncKind.sub), (2, SyncKind.tak), (3, SyncKind.wat)])
      ∧ (bits p.addr 16 12 = ownMod s.core)) :=
  by refine ⟨?_, ?_, ?_, ?_, ?_, ?_, ?_, ?_⟩ <;> decide +kernel +zetaReduce

/-- Meets the hypotheses of `Goals.RemoteAnswersArrive`, clause by clause. -/
theorem meets_RemoteAnswersArrive :
    (let s : State := (reqS (.read 9 2 4 0 0 32) fun c => setStrm c 9 2 stR)
     let rx : Rx := (rx0 (pk 2 0 0 (leBytes 32 99)))
     let c : Core := Goals.taken s rx
     let p : Packet := rx.pkt
     let i : Nat := 8
     let a : Nat := 0x600000001000
     let g : Nat := 9
     let st : Nat := 2
     let x : Nat := 4
     let row : Nat := 0
     let off : Nat := 0
     let n : Nat := 32
     (Goals.inTurn s rx)
      ∧ (p.typ = 2)
      ∧ (p.status = 0)
      ∧ (tget c.fab.reqs p.opTag = some (i, a, Cause.read g st x row off n)))
  ∧ (let s : State := (reqS (.atomic 9 2 4 1) fun c => setStrm c 9 2 { stR with active := dAt })
     let rx : Rx := (rx0 (pk 4 0 0 (leBytes 8 99)))
     let c : Core := Goals.taken s rx
     let p : Packet := rx.pkt
     let i : Nat := 8
     let a : Nat := 0x600000001000
     let g : Nat := 9
     let st : Nat := 2
     let x : Nat := 4
     let row : Nat := 1
     (Goals.inTurn s rx)
      ∧ (p.typ = 4)
      ∧ (p.status = 0)
      ∧ (tget c.fab.reqs p.opTag = some (i, a, Cause.atomic g st x row)))
  ∧ (let s : State := (reqS (.sync (.tak 9 5) none) id)
     let rx : Rx := (rx0 { pk 6 0 0 [] with status := 11 })
     let c : Core := Goals.taken s rx
     let p : Packet := rx.pkt
     let i : Nat := 8
     let a : Nat := 0x600000001000
     let g : Nat := 9
     let pc : Nat := 5
     let st : Status := .lost
     (Goals.inTurn s rx)
      ∧ (p.typ = 6)
      ∧ (p.status = st.code)
      ∧ (tget c.fab.reqs p.opTag = some (i, a, Cause.sync (Back.tak g pc) none)))
  ∧ (let s : State := (reqS .none fun c => { c with fab := { c.fab with proxies := [(3, prx)] } })
     let rx : Rx := (rx0 (pk 7 0 0 (leBytes 24 0x123456789)))
     let c : Core := Goals.taken s rx
     let p : Packet := rx.pkt
     let x : Proxy := prx
     (Goals.inTurn s rx)
      ∧ (p.typ = 7)
      ∧ (tget c.fab.proxies p.opTag = some x)
      ∧ (x.waiter ≠ goneWaiter)) :=
  by refine ⟨?_, ?_, ?_, ?_⟩ <;> decide +kernel +zetaReduce

/-- Meets the hypotheses of `Goals.FlowPacketsLeaveInTheirSlot`, clause by clause. -/
theorem meets_FlowPacketsLeaveInTheirSlot :
    (let s : State := (sq cq)
     let i : Nat := 8
     let p : Nat := 3
     let slot : Nat := 7
     let room : Nat := 128
     let x : Ctx := ctxOf s.core i
     let used : Nat := slotUsed s.core p slot
     let free : Nat := min room ((if joined s.core p = true then 117760 else 58880) - used)
     let q : FlowPkt := (q0 0 10)
     let rest : List FlowPkt := [q0 0 3]
     (Goals.mayUse s i p slot)
      ∧ (x.queue = q :: rest)
      ∧ (storeTakes s.core i q = true)
      ∧ (pktBytes q.pkt ≤ free))
  ∧ (let s : State := (sq cq)
     let i : Nat := 8
     let p : Nat := 3
     let slot : Nat := 7
     let room : Nat := 70
     let x : Ctx := ctxOf s.core i
     let used : Nat := slotUsed s.core p slot
     let free : Nat := min room ((if joined s.core p = true then 117760 else 58880) - used)
     let q : FlowPkt := (q0 0 10)
     let rest : List FlowPkt := [q0 0 3]
     let out : Packet := have __src := q.pkt;
        { typ := __src.typ, dstMod := __src.dstMod, srcMod := __src.srcMod, dstCtx := __src.dstCtx, seq := x.txSeq,
          issuer := __src.issuer, opTag := __src.opTag, addr := __src.addr, status := __src.status, op := __src.op,
          payload := __src.payload }
     let d : SlotOwner := { port := 3, out := true, slot := 7, flow := 4, bytes := 512 }
     (Goals.mayUse s i p slot)
      ∧ (x.queue = q :: rest)
      ∧ (storeTakes s.core i q = true)
      ∧ (free < pktBytes q.pkt)
      ∧ (slotDecl s.core p slot true = some d)
      ∧ (used + free < d.bytes)
      ∧ (x.missed = false))
  ∧ (let s : State := (edit (sq cq) fun c => setPort c 3 { upP with used := [(7, 500)] })
     let i : Nat := 8
     let p : Nat := 3
     let slot : Nat := 7
     let room : Nat := 70
     let x : Ctx := ctxOf s.core i
     let used : Nat := slotUsed s.core p slot
     let free : Nat := min room ((if joined s.core p = true then 117760 else 58880) - used)
     let q : FlowPkt := (q0 0 10)
     let rest : List FlowPkt := [q0 0 3]
     let out : Packet := have __src := q.pkt;
        { typ := __src.typ, dstMod := __src.dstMod, srcMod := __src.srcMod, dstCtx := __src.dstCtx, seq := x.txSeq,
          issuer := __src.issuer, opTag := __src.opTag, addr := __src.addr, status := __src.status, op := __src.op,
          payload := __src.payload }
     let d : SlotOwner := { port := 3, out := true, slot := 7, flow := 4, bytes := 512 }
     (Goals.mayUse s i p slot)
      ∧ (x.queue = q :: rest)
      ∧ (storeTakes s.core i q = true)
      ∧ (free < pktBytes q.pkt)
      ∧ (slotDecl s.core p slot true = some d)
      ∧ (d.bytes ≤ used + free))
  ∧ (let s : State := (sq cx)
     let i : Nat := 8
     let p : Nat := 3
     let slot : Nat := 7
     let room : Nat := 70
     let x : Ctx := ctxOf s.core i
     let used : Nat := slotUsed s.core p slot
     let free : Nat := min room ((if joined s.core p = true then 117760 else 58880) - used)
     let d : SlotOwner := { port := 3, out := true, slot := 7, flow := 4, bytes := 512 }
     (Goals.mayUse s i p slot)
      ∧ (x.queue = [])
      ∧ (slotDecl s.core p slot true = some d)
      ∧ (used + free < d.bytes)
      ∧ (x.missed = false))
  ∧ (let s : State := (sq cx)
     let i : Nat := 8
     let p : Nat := 3
     let slot : Nat := 7
     let room : Nat := 5000
     let x : Ctx := ctxOf s.core i
     let used : Nat := slotUsed s.core p slot
     let free : Nat := min room ((if joined s.core p = true then 117760 else 58880) - used)
     let d : SlotOwner := { port := 3, out := true, slot := 7, flow := 4, bytes := 512 }
     (Goals.mayUse s i p slot)
      ∧ (x.queue = [])
      ∧ (slotDecl s.core p slot true = some d)
      ∧ (d.bytes ≤ used + free))
  ∧ (let s : State := (sq { cq with store := List.replicate 100 (q0 4 12000) })
     let i : Nat := 8
     let p : Nat := 3
     let slot : Nat := 7
     let x : Ctx := ctxOf s.core i
     let q : FlowPkt := (q0 0 10)
     let rest : List FlowPkt := [q0 0 3]
     (Goals.mayUse s i p slot)
      ∧ (x.queue = q :: rest)
      ∧ (storeTakes s.core i q = false))
  ∧ (let s : State := (sq cq)
     let i : Nat := 8
     let p : Nat := 3
     let slot : Nat := 4
     let x : Ctx := ctxOf s.core i
     (Runs s)
      ∧ (i < 4096)
      ∧ (p < 16)
      ∧ (slotOwner s.core p slot true ≠ some x.flow)) :=
  by refine ⟨?_, ?_, ?_, ?_, ?_, ?_, ?_⟩ <;> decide +kernel +zetaReduce

/-- Meets the hypotheses of `Goals.FlowControl`, clause by clause. -/
theorem meets_FlowControl :
    (let s : State := (flS 4 cxs id)
     let rx : Rx := (rx0 { pk 9 0 0 [] with seq := 5 })
     let i : Nat := 8
     let x : Ctx := ctxOf s.core i
     let p : Packet := rx.pkt
     (Runs s)
      ∧ (i < 4096)
      ∧ (x.kind = 0)
      ∧ (x.state = 1)
      ∧ (p.dstCtx = i)
      ∧ (p.dstMod = ownMod s.core)
      ∧ (crcHolds rx = true)
      ∧ (x.peerMod = p.srcMod)
      ∧ (p.typ = 9))
  ∧ (let s : State := (flS 4 cxs id)
     let rx : Rx := (rx0 { pk 10 0 0 [] with seq := 5 })
     let i : Nat := 8
     let x : Ctx := ctxOf s.core i
     let p : Packet := rx.pkt
     (Runs s)
      ∧ (i < 4096)
      ∧ (x.kind = 0)
      ∧ (x.state = 1)
      ∧ (p.dstCtx = i)
      ∧ (p.dstMod = ownMod s.core)
      ∧ (crcHolds rx = true)
      ∧ (x.peerMod = p.srcMod)
      ∧ (p.typ = 10))
  ∧ (let s : State := (flS 4 cxs id)
     let rx : Rx := (rx0 { pk 11 0 0 [] with seq := 5 })
     let i : Nat := 8
     let x : Ctx := ctxOf s.core i
     let p : Packet := rx.pkt
     (Runs s)
      ∧ (i < 4096)
      ∧ (x.kind = 0)
      ∧ (x.state = 1)
      ∧ (p.dstCtx = i)
      ∧ (p.dstMod = ownMod s.core)
      ∧ (crcHolds rx = true)
      ∧ (x.peerMod = p.srcMod)
      ∧ (p.typ = 11)
      ∧ (p.op = 0))
  ∧ (let s : State := (flS 4 cxs id)
     let rx : Rx := (rx0 { pk 11 1 0 [] with seq := 5 })
     let i : Nat := 8
     let x : Ctx := ctxOf s.core i
     let p : Packet := rx.pkt
     (Runs s)
      ∧ (i < 4096)
      ∧ (x.kind = 0)
      ∧ (x.state = 1)
      ∧ (p.dstCtx = i)
      ∧ (p.dstMod = ownMod s.core)
      ∧ (crcHolds rx = true)
      ∧ (x.peerMod = p.srcMod)
      ∧ (p.typ = 11)
      ∧ (p.op = 1))
  ∧ (let s : State := (flS 4 cxs (fun c => setObj c Key.uptimeTicks (obj c Key.partnerTimeout)))
     let i : Nat := 8
     let x : Ctx := ctxOf s.core i
     let now : Nat := obj s.core Key.uptimeTicks
     (Runs s)
      ∧ (i < 4096)
      ∧ (x.kind = 0)
      ∧ (x.state = 1)
      ∧ (x.lastHeard + obj s.core Key.partnerTimeout ≤ now))
  ∧ (let s : State := (flS 4 cxs id)
     let i : Nat := 8
     let x : Ctx := ctxOf s.core i
     let now : Nat := obj s.core Key.uptimeTicks
     (Runs s)
      ∧ (i < 4096)
      ∧ (x.kind = 0)
      ∧ (x.state = 1)
      ∧ (now < x.lastHeard + obj s.core Key.partnerTimeout))
  ∧ (let s : State := (flS 4 cxs id)
     let i : Nat := 8
     let x : Ctx := ctxOf s.core i
     (Runs s)
      ∧ (i < 4096)
      ∧ (x.kind = 0)
      ∧ (x.state = 1)
      ∧ (0 < x.unacked))
  ∧ (let s : State := (flS 4 cxs (fun c => setObj c Key.uptimeTicks 2000))
     let i : Nat := 8
     let x : Ctx := ctxOf s.core i
     let now : Nat := obj s.core Key.uptimeTicks
     (Runs s)
      ∧ (i < 4096)
      ∧ (x.kind = 0)
      ∧ (x.state = 1)
      ∧ (x.lastSent + 2000 ≤ now))
  ∧ (let s : State := (flS 4 cxs id)
     let i : Nat := 8
     let x : Ctx := ctxOf s.core i
     let now : Nat := obj s.core Key.uptimeTicks
     (Runs s)
      ∧ (i < 4096)
      ∧ (x.kind = 0)
      ∧ (x.state = 1)
      ∧ (now < x.lastSent + 2000))
  ∧ (let s : State := (flS 4 cxc id)
     let rx : Rx := (rx0 { pk 9 0 0 [] with seq := 5 })
     let i : Nat := 8
     let x : Ctx := ctxOf s.core i
     let p : Packet := rx.pkt
     (Runs s)
      ∧ (i < 4096)
      ∧ (x.kind = 0)
      ∧ (x.state = 2)
      ∧ (p.dstCtx = i)
      ∧ (p.dstMod = ownMod s.core)
      ∧ (crcHolds rx = true)
      ∧ (x.peerMod = p.srcMod)
      ∧ (p.typ = 9)
      ∧ (∀ q ∈ x.store ++ x.queue, q.cause = Cause.none)) :=
  by refine ⟨?_, ?_, ?_, ?_, ?_, ?_, ?_, ?_, ?_, ?_⟩ <;> decide +kernel +zetaReduce

/-- Meets the hypotheses of `Goals.TransitForwards`, clause by clause. -/
theorem meets_TransitForwards :
    (let s : State := (flS 4 cxs id)
     let rx : Rx := (trx 5)
     let since : Nat := 0
     let p : Packet := rx.pkt
     let slot : TransitEntry → Option Nat := fun e => transitSlot s.core e.outPort (4 - since) p
     let entry : Option TransitEntry := List.find? (fun e => decide (e.inPort = rx.port) && decide (e.slot = rx.slot)) (transits s.core)
     let e : TransitEntry := te
     let waits : Prop := pstate s.core e.outPort ≠ 3 ∨ (∃ q ∈ s.core.fab.transit, sameWay q.2 p = true) ∨ slot e = none
     let j : Nat := 9
     (Runs s)
      ∧ (running s.core = true)
      ∧ (rx.pkt.dstMod ≠ ownMod s.core)
      ∧ (p.typ < 9)
      ∧ (entry = some e)
      ∧ (e.srcMod = p.srcMod)
      ∧ (e.dstMod = p.dstMod)
      ∧ (¬waits)
      ∧ (slot e = some j))
  ∧ (let s : State := (flS 4 cxs fun c => setPort (setPort c 3 upP) 3 { upP with pstate := 0 })
     let rx : Rx := (trx 5)
     let since : Nat := 0
     let p : Packet := rx.pkt
     let slot : TransitEntry → Option Nat := fun e => transitSlot s.core e.outPort (4 - since) p
     let entry : Option TransitEntry := List.find? (fun e => decide (e.inPort = rx.port) && decide (e.slot = rx.slot)) (transits s.core)
     let e : TransitEntry := te
     let waits : Prop := pstate s.core e.outPort ≠ 3 ∨ (∃ q ∈ s.core.fab.transit, sameWay q.2 p = true) ∨ slot e = none
     (Runs s)
      ∧ (running s.core = true)
      ∧ (rx.pkt.dstMod ≠ ownMod s.core)
      ∧ (p.typ < 9)
      ∧ (entry = some e)
      ∧ (e.srcMod = p.srcMod)
      ∧ (e.dstMod = p.dstMod)
      ∧ (waits))
  ∧ (let s : State := (flS 4 cxs fun c => { c with fab := { c.fab with ports := [(3, upP)], transit := [(3, (trx 5).pkt)] } })
     let rx : Rx := (trx 5)
     let since : Nat := 0
     let p : Packet := rx.pkt
     let slot : TransitEntry → Option Nat := fun e => transitSlot s.core e.outPort (4 - since) p
     let entry : Option TransitEntry := List.find? (fun e => decide (e.inPort = rx.port) && decide (e.slot = rx.slot)) (transits s.core)
     let e : TransitEntry := te
     let waits : Prop := pstate s.core e.outPort ≠ 3 ∨ (∃ q ∈ s.core.fab.transit, sameWay q.2 p = true) ∨ slot e = none
     (Runs s)
      ∧ (running s.core = true)
      ∧ (rx.pkt.dstMod ≠ ownMod s.core)
      ∧ (p.typ < 9)
      ∧ (entry = some e)
      ∧ (e.srcMod = p.srcMod)
      ∧ (e.dstMod = p.dstMod)
      ∧ (waits))
  ∧ (let s : State := (flS 4 cxs id)
     let rx : Rx := (trx 6)
     let p : Packet := rx.pkt
     let entry : Option TransitEntry := List.find? (fun e => decide (e.inPort = rx.port) && decide (e.slot = rx.slot)) (transits s.core)
     (Runs s)
      ∧ (running s.core = true)
      ∧ (rx.pkt.dstMod ≠ ownMod s.core)
      ∧ (p.typ < 9)
      ∧ (∀ (e : TransitEntry), entry = some e → ¬(e.srcMod = p.srcMod ∧ e.dstMod = p.dstMod)))
  ∧ (let s : State := (flS 4 cxs id)
     let rx : Rx := (rx0 { pk 9 0 0 [] with srcMod := 7, dstMod := 6 })
     let p : Packet := rx.pkt
     let e : TransitEntry := te
     (Runs s)
      ∧ (running s.core = true)
      ∧ (rx.pkt.dstMod ≠ ownMod s.core)
      ∧ (9 ≤ p.typ)
      ∧ (List.find? (fun e => decide (e.outPort = rx.port) && decide (e.srcMod = p.dstMod) && decide (e.dstMod = p.srcMod))
            (transits s.core) =
          some e)) :=
  ⟨(by decide +kernel +zetaReduce),
   (by decide +kernel +zetaReduce),
   (by decide +kernel +zetaReduce),
   ⟨by decide +kernel +zetaReduce, by decide +kernel +zetaReduce, by decide +kernel +zetaReduce, by decide +kernel +zetaReduce, allSome (by decide +kernel +zetaReduce)⟩,
   (by decide +kernel +zetaReduce)⟩

end Sys2Proof.Meets11
end

