-- ==== Sys2Proof/Tests/Meets12.lean ====
section
/-! SUPPORT. Concrete states and operands that meet the hypotheses of the statements of Obligations.lean. -/

namespace Sys2Proof.Meets12
open Machine

set_option maxRecDepth 20000
set_option Elab.async false

def clk (rdy : List Nat) (objs : List (Nat × Nat)) (f : Core → Core) : State := edit (on 0 ((Key.refReady, (rdy.map fun i => 2^readyBit i).sum) :: objs)) f
def rf (run : Nat) (l : Option Nat) (src : Nat) (c : Core) : Core := { c with clk := { c.clk with refs := [(src, { run := run, last := l, counts := [4,5] })] } }
def withPort (c : Core) : Core := { c with fab := { c.fab with ports := [(3, { Port.reset with pstate := 3, peerMod := 6, peerValid := true })], topo := [(6, { digest := 1, epoch := 1, distance := 1, links := [], port := 3, refDepth := 4, tickSource := 0, tickDist := 0, instId := 0, agreed := 0, linked := true })] } }
def gen (f : Nat) (g : Gen → Gen) (h : Core → Core) (a : Nat) : State := edit (on a []) fun c => h (setGen c f (g { (fld c f).gen with locked := 2 }))
def g4 : State := edit (on 4 []) hosted
def g6 : State := edit (on 6 []) hosted

/-- Meets the hypotheses of `Goals.ReferenceWindows`, clause by clause. -/
theorem meets_ReferenceWindows :
    (let s : State := (clk [] [] (rf 7 (some 32000) 0))
     let src : Nat := 0
     let count : Nat := 32020
     let r : RefSource := tgetD s.core.clk.refs src { run := 0, last := none, counts := [] }
     let passes : Prop := if src = 0 then 31785 ≤ count ∧ count ≤ 33751 ∧ ∀ (l : Nat), r.last = some l → count ≤ l + 33 ∧ l ≤ count + 33
        else
          if src = 1 then 99980 ≤ count ∧ count ≤ 100020
          else 999800 ≤ count ∧ count ≤ 1000200 ∧ pstate s.core (src - 2) = 3 ∧ partnerDepth s.core (src - 2) ≤ 14
     (Runs s)
      ∧ (src < 18)
      ∧ (src = 0 ∨ isReady s.core 0 = true)
      ∧ (passes))
  ∧ (let s : State := (clk [0] [] (rf 7 (some 32000) 0))
     let src : Nat := 0
     let count : Nat := 32070
     let r : RefSource := tgetD s.core.clk.refs src { run := 0, last := none, counts := [] }
     let passes : Prop := if src = 0 then 31785 ≤ count ∧ count ≤ 33751 ∧ ∀ (l : Nat), r.last = some l → count ≤ l + 33 ∧ l ≤ count + 33
        else
          if src = 1 then 99980 ≤ count ∧ count ≤ 100020
          else 999800 ≤ count ∧ count ≤ 1000200 ∧ pstate s.core (src - 2) = 3 ∧ partnerDepth s.core (src - 2) ≤ 14
     (Runs s)
      ∧ (src < 18)
      ∧ (src = 0 ∨ isReady s.core 0 = true)
      ∧ (¬passes))
  ∧ (let s : State := (clk [0] [] fun c => withPort (rf 2 none 5 c))
     let src : Nat := 5
     let count : Nat := 999800
     let r : RefSource := tgetD s.core.clk.refs src { run := 0, last := none, counts := [] }
     let passes : Prop := if src = 0 then 31785 ≤ count ∧ count ≤ 33751 ∧ ∀ (l : Nat), r.last = some l → count ≤ l + 33 ∧ l ≤ count + 33
        else
          if src = 1 then 99980 ≤ count ∧ count ≤ 100020
          else 999800 ≤ count ∧ count ≤ 1000200 ∧ pstate s.core (src - 2) = 3 ∧ partnerDepth s.core (src - 2) ≤ 14
     (Runs s)
      ∧ (src < 18)
      ∧ (src = 0 ∨ isReady s.core 0 = true)
      ∧ (passes))
  ∧ (let s : State := (clk [0,5] [] fun c => (rf 2 none 5 c))
     let src : Nat := 5
     let count : Nat := 999800
     let r : RefSource := tgetD s.core.clk.refs src { run := 0, last := none, counts := [] }
     let passes : Prop := if src = 0 then 31785 ≤ count ∧ count ≤ 33751 ∧ ∀ (l : Nat), r.last = some l → count ≤ l + 33 ∧ l ≤ count + 33
        else
          if src = 1 then 99980 ≤ count ∧ count ≤ 100020
          else 999800 ≤ count ∧ count ≤ 1000200 ∧ pstate s.core (src - 2) = 3 ∧ partnerDepth s.core (src - 2) ≤ 14
     (Runs s)
      ∧ (src < 18)
      ∧ (src = 0 ∨ isReady s.core 0 = true)
      ∧ (¬passes))
  ∧ (let s : State := (clk [] [] (rf 2 none 1))
     let src : Nat := 1
     (Runs s)
      ∧ (src < 18)
      ∧ (src ≠ 0)
      ∧ (isReady s.core 0 = false)) :=
  by refine ⟨?_, ?_, ?_, ?_, ?_⟩ <;> decide +kernel +zetaReduce

/-- Meets the hypotheses of `Goals.LossOfReference`, clause by clause. -/
theorem meets_LossOfReference :
    (let s : State := (clk [0] [(Key.refActive, 0), (Key.almanacState, 4)] id)
     let src : Nat := 0
     let act : Nat := obj s.core Key.refActive
     (Runs s)
      ∧ (src < 18)
      ∧ (isReady s.core src = true)
      ∧ (src = 0)
      ∧ (act = 0 ∨ act = 3))
  ∧ (let s : State := (clk [0] [(Key.refActive, 3), (Key.almanacState, 0)] id)
     let src : Nat := 0
     let act : Nat := obj s.core Key.refActive
     (Runs s)
      ∧ (src < 18)
      ∧ (isReady s.core src = true)
      ∧ (src = 0)
      ∧ (act = 0 ∨ act = 3))
  ∧ (let s : State := (clk [0, 1] [(Key.refActive, 1), (Key.almanacState, 4)] id)
     let src : Nat := 0
     let act : Nat := obj s.core Key.refActive
     (Runs s)
      ∧ (src < 18)
      ∧ (isReady s.core src = true)
      ∧ (src = 0)
      ∧ (act = 1 ∨ act = 2))
  ∧ (let s : State := (clk [0, 1] [(Key.refActive, 1), (Key.almanacState, 4)] id)
     let src : Nat := 1
     (Runs s)
      ∧ (src < 18)
      ∧ (isReady s.core src = true)
      ∧ (src ≠ 0)
      ∧ (refInForce s.core = some src)
      ∧ (isReady s.core 0 = true))
  ∧ (let s : State := (clk [0, 5] [(Key.refActive, 2), (Key.refPort, 3)] id)
     let src : Nat := 5
     (Runs s)
      ∧ (src < 18)
      ∧ (isReady s.core src = true)
      ∧ (src ≠ 0)
      ∧ (refInForce s.core = some src)
      ∧ (isReady s.core 0 = true))
  ∧ (let s : State := (clk [1] [(Key.refActive, 1), (Key.almanacState, 4)] id)
     let src : Nat := 1
     (Runs s)
      ∧ (src < 18)
      ∧ (isReady s.core src = true)
      ∧ (src ≠ 0)
      ∧ (refInForce s.core = some src)
      ∧ (isReady s.core 0 = false))
  ∧ (let s : State := (clk [0, 1, 5] [(Key.refActive, 1), (Key.almanacState, 4)] id)
     let src : Nat := 5
     (Runs s)
      ∧ (src < 18)
      ∧ (isReady s.core src = true)
      ∧ (src ≠ 0)
      ∧ (refInForce s.core ≠ some src)) :=
  by refine ⟨?_, ?_, ?_, ?_, ?_, ?_, ?_⟩ <;> decide +kernel +zetaReduce

/-- Meets the hypotheses of `Goals.ReferenceSwitches`, clause by clause. -/
theorem meets_ReferenceSwitches :
    (let s : State := (clk [0, 5] [] fun c => hosted (withPort c))
     let h : Hdr := hd
     let x : Session := sx
     let v : Nat := 0x302
     let code : Nat := bits v 0 8
     let src : Nat := if code = 2 then 2 + bits v 8 4 else code
     (Goals.writes s h x Key.refSelect)
      ∧ (v < 2 ^ 12)
      ∧ (code < 3)
      ∧ (s.core.clk.switch = none)
      ∧ (refInForce s.core ≠ some src)
      ∧ (isReady s.core src = true))
  ∧ (let s : State := (clk [0, 1] [] hosted)
     let h : Hdr := hd
     let x : Session := sx
     let v : Nat := 1
     let code : Nat := bits v 0 8
     let src : Nat := if code = 2 then 2 + bits v 8 4 else code
     (Goals.writes s h x Key.refSelect)
      ∧ (v < 2 ^ 12)
      ∧ (code < 3)
      ∧ (s.core.clk.switch = none)
      ∧ (refInForce s.core ≠ some src)
      ∧ (isReady s.core src = true))
  ∧ (let s : State := (clk [0, 1] [(Key.refActive, 1)] hosted)
     let h : Hdr := hd
     let x : Session := sx
     let v : Nat := 1
     let code : Nat := bits v 0 8
     let src : Nat := if code = 2 then 2 + bits v 8 4 else code
     (Goals.writes s h x Key.refSelect)
      ∧ (v < 2 ^ 12)
      ∧ (code < 3)
      ∧ (s.core.clk.switch = none)
      ∧ (refInForce s.core = some src))
  ∧ (let s : State := (clk [0] [] hosted)
     let h : Hdr := hd
     let x : Session := sx
     let v : Nat := 1
     let code : Nat := bits v 0 8
     let src : Nat := if code = 2 then 2 + bits v 8 4 else code
     (Goals.writes s h x Key.refSelect)
      ∧ (v < 2 ^ 12)
      ∧ (code < 3)
      ∧ (s.core.clk.switch = none)
      ∧ (refInForce s.core ≠ some src)
      ∧ (isReady s.core src = false))
  ∧ (let s : State := (clk [0,1] [] fun c => hosted { c with clk := { c.clk with switch := some 1 } })
     let h : Hdr := hd
     let x : Session := sx
     let v : Nat := 1
     let code : Nat := bits v 0 8
     (Goals.writes s h x Key.refSelect)
      ∧ (v < 2 ^ 12)
      ∧ (code < 3)
      ∧ (s.core.clk.switch ≠ none))
  ∧ (let s : State := (clk [0,1] [] hosted)
     let h : Hdr := hd
     let x : Session := sx
     let v : Nat := 3
     let code : Nat := bits v 0 8
     (Goals.writes s h x Key.refSelect)
      ∧ (2 ^ 12 ≤ v ∨ 3 ≤ code))
  ∧ (let s : State := (clk [0,1] [] hosted)
     let h : Hdr := hd
     let x : Session := sx
     let v : Nat := 4096
     let code : Nat := bits v 0 8
     (Goals.writes s h x Key.refSelect)
      ∧ (2 ^ 12 ≤ v ∨ 3 ≤ code)) :=
  by refine ⟨?_, ?_, ?_, ?_, ?_, ?_, ?_⟩ <;> decide +kernel +zetaReduce

/-- Meets the hypotheses of `Goals.FieldGeneratorsLock`, clause by clause. -/
theorem meets_FieldGeneratorsLock :
    (let s : State := (clk [0] [] id)
     let occ : List Nat := (List.replicate crossings.length 4)
     (Runs s)
      ∧ (isReady s.core 0 = true)
      ∧ (running s.core = false)
      ∧ (occ.length = crossings.length))
  ∧ (let s : State := (clk [0] [] id)
     let occ : List Nat := ((List.replicate crossings.length 4).set 3 5)
     (Runs s)
      ∧ (isReady s.core 0 = true)
      ∧ (running s.core = false)
      ∧ (occ.length = crossings.length)) :=
  by refine ⟨?_, ?_⟩ <;> decide +kernel +zetaReduce

/-- Meets the hypotheses of `Goals.OperatingPointChanges`, clause by clause. -/
theorem meets_OperatingPointChanges :
    (let s : State := (clk [0] [(Key.almanacState, 4), (Key.frameCount, 6), (Key.multRange, 0x1208)] hosted)
     let h : Hdr := hd
     let x : Session := sx
     let m : Nat := 12
     let fr : Nat := 10
     let run : Prop := running s.core = true
     let fits : Prop := loaded s.core = true → multFloor s.core ≤ m ∧ m ≤ multCeil s.core
     let clear : Prop := s.core.clk.queued = none ∧ s.core.clk.direct = none
     let early : Prop := if running s.core = true then fr < obj s.core Key.frameCount + 4 else fr ≠ 0
     (Goals.writes s h x Key.opChange)
      ∧ (fr < 2 ^ 64)
      ∧ (8 ≤ m)
      ∧ (m ≤ 18)
      ∧ (fits)
      ∧ (¬early)
      ∧ (clear)
      ∧ (run))
  ∧ (let s : State := (clk [0] [] hosted)
     let h : Hdr := hd
     let x : Session := sx
     let m : Nat := 12
     let fr : Nat := 0
     let run : Prop := running s.core = true
     let fits : Prop := loaded s.core = true → multFloor s.core ≤ m ∧ m ≤ multCeil s.core
     let clear : Prop := s.core.clk.queued = none ∧ s.core.clk.direct = none
     let early : Prop := if running s.core = true then fr < obj s.core Key.frameCount + 4 else fr ≠ 0
     (Goals.writes s h x Key.opChange)
      ∧ (fr < 2 ^ 64)
      ∧ (8 ≤ m)
      ∧ (m ≤ 18)
      ∧ (fits)
      ∧ (¬early)
      ∧ (clear)
      ∧ (¬run))
  ∧ (let s : State := (clk [0] [] hosted)
     let h : Hdr := hd
     let x : Session := sx
     let m : Nat := 19
     let fr : Nat := 0
     (Goals.writes s h x Key.opChange)
      ∧ (fr < 2 ^ 64)
      ∧ (m < 8 ∨ 18 < m))
  ∧ (let s : State := (clk [0] [] hosted)
     let h : Hdr := hd
     let x : Session := sx
     let m : Nat := 18
     let fr : Nat := 1
     let fits : Prop := loaded s.core = true → multFloor s.core ≤ m ∧ m ≤ multCeil s.core
     let early : Prop := if running s.core = true then fr < obj s.core Key.frameCount + 4 else fr ≠ 0
     (Goals.writes s h x Key.opChange)
      ∧ (fr < 2 ^ 64)
      ∧ (8 ≤ m)
      ∧ (m ≤ 18)
      ∧ (¬fits ∨ early))
  ∧ (let s : State := (clk [0] [(Key.almanacState, 4), (Key.frameCount, 6)] hosted)
     let h : Hdr := hd
     let x : Session := sx
     let m : Nat := 12
     let fr : Nat := 9
     let fits : Prop := loaded s.core = true → multFloor s.core ≤ m ∧ m ≤ multCeil s.core
     let early : Prop := if running s.core = true then fr < obj s.core Key.frameCount + 4 else fr ≠ 0
     (Goals.writes s h x Key.opChange)
      ∧ (fr < 2 ^ 64)
      ∧ (8 ≤ m)
      ∧ (m ≤ 18)
      ∧ (¬fits ∨ early))
  ∧ (let s : State := (clk [0] [] fun c => hosted { c with clk := { c.clk with direct := some (9, 0) } })
     let h : Hdr := hd
     let x : Session := sx
     let m : Nat := 8
     let fr : Nat := 0
     let fits : Prop := loaded s.core = true → multFloor s.core ≤ m ∧ m ≤ multCeil s.core
     let clear : Prop := s.core.clk.queued = none ∧ s.core.clk.direct = none
     let early : Prop := if running s.core = true then fr < obj s.core Key.frameCount + 4 else fr ≠ 0
     (Goals.writes s h x Key.opChange)
      ∧ (fr < 2 ^ 64)
      ∧ (8 ≤ m)
      ∧ (m ≤ 18)
      ∧ (fits)
      ∧ (¬early)
      ∧ (¬clear)) :=
  by refine ⟨?_, ?_, ?_, ?_, ?_, ?_⟩ <;> decide +kernel +zetaReduce

/-- Meets the hypotheses of `Goals.OperatingPointTakesEffect`, clause by clause. -/
theorem meets_OperatingPointTakesEffect :
    (let s : State := (clk [0] [] fun c => { c with clk := { c.clk with direct := some (9, 0) } })
     let m : Nat := 9
     let o : Nat := 0
     (Runs s)
      ∧ (s.core.clk.direct = some (m, o)))
  ∧ (let s : State := (clk [0] [] fun c => setGen c 3 { (fld c 3).gen with standbyMult := 9 })
     (Runs s)
      ∧ (s.core.clk.direct = none))
  ∧ (let s : State := (clk [0] [] fun c => setGen c 3 { (fld c 3).gen with standbyMult := 9 })
     let f : Nat := 3
     (Runs s)
      ∧ (f < 8)
      ∧ ((fld s.core f).gen.standbyMult ≠ 0)) :=
  by refine ⟨?_, ?_, ?_⟩ <;> decide +kernel +zetaReduce

/-- Meets the hypotheses of `Obligations.LeapsAreNeverRefused`, clause by clause. -/
theorem meets_LeapsAreNeverRefused :
    (let s : State := (gen 1 id (fun c => c) 4)
     let f : Nat := 1
     let path : Nat := 3
     (Runs s)
      ∧ (f < 8)
      ∧ (path < 32)
      ∧ ((fld s.core f).gen.locked ≠ 0))
  ∧ (let s : State := (gen 1 (fun g => { g with own := 65535, companion := 2, overBudget := true }) (fun c => { setSkew c 1 2 3 with clk := { c.clk with slips := [8] } }) 4)
     let f : Nat := 1
     let path : Nat := 3
     (Runs s)
      ∧ (f < 8)
      ∧ (path < 32)
      ∧ ((fld s.core f).gen.locked ≠ 0))
  ∧ (let s : State := (gen 1 (fun g => { g with locked := 0 }) id 4)
     let f : Nat := 1
     let path : Nat := 3
     (Runs s)
      ∧ (f < 8)
      ∧ (path < 32)
      ∧ ((fld s.core f).gen.locked = 0)) :=
  by refine ⟨?_, ?_, ?_⟩ <;> decide +kernel +zetaReduce

/-- Meets the hypotheses of `Goals.GeneratorEvents`, clause by clause. -/
theorem meets_GeneratorEvents :
    (let s : State := (gen 1 id (fun c => setSkew c 1 2 (-2)) 4)
     let f : Nat := 1
     let gen : Nat := 4
     (Runs s)
      ∧ (f < 8)
      ∧ (gen < 11)
      ∧ (∃ b ∈ neighbours f, skewOf s.core f b ≤ -2))
  ∧ (let s : State := (gen 1 id (fun c => setSkew c 1 2 (-1)) 4)
     let f : Nat := 1
     let gen : Nat := 4
     (Runs s)
      ∧ (f < 8)
      ∧ (gen < 11)
      ∧ (∀ b ∈ neighbours f, -2 < skewOf s.core f b))
  ∧ (let s : State := (gen 1 (fun g => { g with own := 65535, companion := 2, curMargin := 5, curPath := 3 }) id 0)
     let f : Nat := 1
     let gen : Nat := 4
     (Runs s)
      ∧ (f < 8)
      ∧ (gen < 11)
      ∧ (running s.core = false))
  ∧ (let s : State := (gen 1 id id 4)
     let f : Nat := 1
     let gen : Nat := 4
     (Runs s)
      ∧ (f < 8)
      ∧ (gen < 11)
      ∧ (running s.core = true))
  ∧ (let s : State := (gen 1 id id 4)
     let f : Nat := 1
     let gen : Nat := 4
     (Runs s)
      ∧ (f < 8)
      ∧ (gen < 11)
      ∧ (gen ∉ s.core.clk.freeRun))
  ∧ (let s : State := (gen 1 id (fun c => { c with clk := { c.clk with freeRun := [9] } }) 4)
     let f : Nat := 1
     let gen : Nat := 9
     (Runs s)
      ∧ (f < 8)
      ∧ (gen < 11)
      ∧ (gen ∈ s.core.clk.freeRun))
  ∧ (let s : State := (gen 1 id id 4)
     let f : Nat := 1
     let gen : Nat := 9
     (Runs s)
      ∧ (f < 8)
      ∧ (gen < 11)
      ∧ (gen ∉ s.core.clk.freeRun)) :=
  by refine ⟨?_, ?_, ?_, ?_, ?_, ?_, ?_⟩ <;> decide +kernel +zetaReduce

/-- Meets the hypotheses of `Goals.GatingWrites`, clause by clause. -/
theorem meets_GatingWrites :
    (let s : State := (clk [0] [] hosted)
     let h : Hdr := hd
     let x : Session := sx
     let data : Bytes := (leBytes 24 5)
     let v : Nat := 5
     let still : Prop := almState s.core = 0 ∨ almState s.core = 2 ∨ almState s.core = 6
     let row : Instr × Nat × Nat × Prop × Prop := (.gateStations hd (leBytes 24 5), Key.gateStations, leNat (leBytes 24 5), (leBytes 24 5).length = 24, (almState (clk [0] [] hosted).core = 0 ∨ almState (clk [0] [] hosted).core = 2 ∨ almState (clk [0] [] hosted).core = 6))
     let k : Nat := row.2.1
     (row ∈
          [(Instr.gateStations h data, Key.gateStations, leNat data, List.length data = 24, still),
            (Instr.gateEngines h v, Key.gateEngines, v, v < 2 ^ 16, still),
            (Instr.gateHbm h v, Key.gateHbm, v, v < 2 ^ 32, still),
            (Instr.gateHostports h v, Key.gateHostports, v, v < 4, still),
            (Instr.vigilEnable h v, Key.vigilEnable, v, v < 2, almState s.core = 0 ∨ almState s.core = 6)])
      ∧ (Goals.writes s h x k)
      ∧ (row.2.2.2.1)
      ∧ (row.2.2.2.2))
  ∧ (let s : State := (clk [0] [] hosted)
     let h : Hdr := hd
     let x : Session := sx
     let data : Bytes := (leBytes 23 5)
     let v : Nat := 5
     let still : Prop := almState s.core = 0 ∨ almState s.core = 2 ∨ almState s.core = 6
     let row : Instr × Nat × Nat × Prop × Prop := (.gateStations hd (leBytes 23 5), Key.gateStations, leNat (leBytes 23 5), (leBytes 23 5).length = 24, (almState (clk [0] [] hosted).core = 0 ∨ almState (clk [0] [] hosted).core = 2 ∨ almState (clk [0] [] hosted).core = 6))
     let k : Nat := row.2.1
     (row ∈
          [(Instr.gateStations h data, Key.gateStations, leNat data, List.length data = 24, still),
            (Instr.gateEngines h v, Key.gateEngines, v, v < 2 ^ 16, still),
            (Instr.gateHbm h v, Key.gateHbm, v, v < 2 ^ 32, still),
            (Instr.gateHostports h v, Key.gateHostports, v, v < 4, still),
            (Instr.vigilEnable h v, Key.vigilEnable, v, v < 2, almState s.core = 0 ∨ almState s.core = 6)])
      ∧ (Goals.writes s h x k)
      ∧ (¬row.2.2.2.1))
  ∧ (let s : State := g4
     let h : Hdr := hd
     let x : Session := sx
     let data : Bytes := []
     let v : Nat := 5
     let still : Prop := almState s.core = 0 ∨ almState s.core = 2 ∨ almState s.core = 6
     let row : Instr × Nat × Nat × Prop × Prop := (.gateEngines hd 5, Key.gateEngines, 5, 5 < 2^16, (almState g4.core = 0 ∨ almState g4.core = 2 ∨ almState g4.core = 6))
     let k : Nat := row.2.1
     (row ∈
          [(Instr.gateStations h data, Key.gateStations, leNat data, List.length data = 24, still),
            (Instr.gateEngines h v, Key.gateEngines, v, v < 2 ^ 16, still),
            (Instr.gateHbm h v, Key.gateHbm, v, v < 2 ^ 32, still),
            (Instr.gateHostports h v, Key.gateHostports, v, v < 4, still),
            (Instr.vigilEnable h v, Key.vigilEnable, v, v < 2, almState s.core = 0 ∨ almState s.core = 6)])
      ∧ (Goals.writes s h x k)
      ∧ (row.2.2.2.1)
      ∧ (¬row.2.2.2.2))
  ∧ (let s : State := g4
     let h : Hdr := hd
     let x : Session := sx
     let data : Bytes := []
     let v : Nat := 5
     let still : Prop := almState s.core = 0 ∨ almState s.core = 2 ∨ almState s.core = 6
     let row : Instr × Nat × Nat × Prop × Prop := (.gateHbm hd 5, Key.gateHbm, 5, 5 < 2^32, (almState g4.core = 0 ∨ almState g4.core = 2 ∨ almState g4.core = 6))
     let k : Nat := row.2.1
     (row ∈
          [(Instr.gateStations h data, Key.gateStations, leNat data, List.length data = 24, still),
            (Instr.gateEngines h v, Key.gateEngines, v, v < 2 ^ 16, still),
            (Instr.gateHbm h v, Key.gateHbm, v, v < 2 ^ 32, still),
            (Instr.gateHostports h v, Key.gateHostports, v, v < 4, still),
            (Instr.vigilEnable h v, Key.vigilEnable, v, v < 2, almState s.core = 0 ∨ almState s.core = 6)])
      ∧ (Goals.writes s h x k)
      ∧ (row.2.2.2.1)
      ∧ (¬row.2.2.2.2))
  ∧ (let s : State := g6
     let h : Hdr := hd
     let x : Session := sx
     let data : Bytes := []
     let v : Nat := 2
     let still : Prop := almState s.core = 0 ∨ almState s.core = 2 ∨ almState s.core = 6
     let row : Instr × Nat × Nat × Prop × Prop := (.vigilEnable hd 2, Key.vigilEnable, 2, 2 < 2, (almState g6.core = 0 ∨ almState g6.core = 6))
     let k : Nat := row.2.1
     (row ∈
          [(Instr.gateStations h data, Key.gateStations, leNat data, List.length data = 24, still),
            (Instr.gateEngines h v, Key.gateEngines, v, v < 2 ^ 16, still),
            (Instr.gateHbm h v, Key.gateHbm, v, v < 2 ^ 32, still),
            (Instr.gateHostports h v, Key.gateHostports, v, v < 4, still),
            (Instr.vigilEnable h v, Key.vigilEnable, v, v < 2, almState s.core = 0 ∨ almState s.core = 6)])
      ∧ (Goals.writes s h x k)
      ∧ (¬row.2.2.2.1))
  ∧ (let s : State := g6
     let h : Hdr := hd
     let x : Session := sx
     let data : Bytes := []
     let v : Nat := 2
     let still : Prop := almState s.core = 0 ∨ almState s.core = 2 ∨ almState s.core = 6
     let row : Instr × Nat × Nat × Prop × Prop := (.gateHostports hd 2, Key.gateHostports, 2, 2 < 4, (almState g6.core = 0 ∨ almState g6.core = 2 ∨ almState g6.core = 6))
     let k : Nat := row.2.1
     (row ∈
          [(Instr.gateStations h data, Key.gateStations, leNat data, List.length data = 24, still),
            (Instr.gateEngines h v, Key.gateEngines, v, v < 2 ^ 16, still),
            (Instr.gateHbm h v, Key.gateHbm, v, v < 2 ^ 32, still),
            (Instr.gateHostports h v, Key.gateHostports, v, v < 4, still),
            (Instr.vigilEnable h v, Key.vigilEnable, v, v < 2, almState s.core = 0 ∨ almState s.core = 6)])
      ∧ (Goals.writes s h x k)
      ∧ (row.2.2.2.1)
      ∧ (row.2.2.2.2)) :=
  ⟨⟨by intros; simp, by decide +kernel +zetaReduce, by decide +kernel +zetaReduce, by decide +kernel +zetaReduce⟩,
   ⟨by intros; simp, by decide +kernel +zetaReduce, by decide +kernel +zetaReduce⟩,
   ⟨by intros; simp, by decide +kernel +zetaReduce, by decide +kernel +zetaReduce, by decide +kernel +zetaReduce⟩,
   ⟨by intros; simp, by decide +kernel +zetaReduce, by decide +kernel +zetaReduce, by decide +kernel +zetaReduce⟩,
   ⟨by intros; simp, by decide +kernel +zetaReduce, by decide +kernel +zetaReduce⟩,
   ⟨by intros; simp, by decide +kernel +zetaReduce, by decide +kernel +zetaReduce, by decide +kernel +zetaReduce⟩⟩

/-- Meets the hypotheses of `Goals.SwitchesAreMade`, clause by clause. -/
theorem meets_SwitchesAreMade :
    (let s : State := (clk [0, 5] [] fun c => withPort { c with clk := { c.clk with switch := some 0x302 } })
     let v : Nat := 0x302
     (Runs s)
      ∧ (s.core.clk.switch = some v))
  ∧ (let s : State := (clk [0, 5] [] fun c => withPort { c with clk := { c.clk with switch := some 1 } })
     let v : Nat := 1
     (Runs s)
      ∧ (s.core.clk.switch = some v))
  ∧ (let s : State := (clk [0, 5] [] withPort)
     (Runs s)
      ∧ (s.core.clk.switch = none)) :=
  by refine ⟨?_, ?_, ?_⟩ <;> decide +kernel +zetaReduce

end Sys2Proof.Meets12
end

