-- ==== Sys2Proof/Tests/Meets13.lean ====
section
/-! SUPPORT. Concrete states and operands that meet the hypotheses of the statements of Obligations.lean. -/

namespace Sys2Proof.Meets13
open Machine

set_option maxRecDepth 20000
set_option Elab.async false

def rr (a : Nat) : Record := { csumIn := csumP - 1 - a, csumOut := csumP - 2, eObs := if a % 3 = 0 then none else some (a - 40), eMin := -32768 + a, eMax := 32767 - a, flags := 2^(a % 7), count := a, rseq := 5, channel := 3, csumRx := a * 77 }
def rd (k : RedKind) : RedDecl := { redno := 7, kind := k, chain := false, channel := 4, fmt := 4, n := 3, source := 2^60 + 0x7000, amaxOf := none, ready := some (2, 9, 3), result := some (2^60 + 0x9000), slot := 1, seed := 5, mask := false, first := 0, moves := [], arrival := none, vote := false, norm := none, sem := none }
def cd (p : List Nat) : ChannelDecl := { num := 4, field := 1, participants := p, fanin := 2, copyHolder := none, stagingBase := 2^60 + 0xA000, stagingSize := 64 }
def imC (d : RedDecl) (p : List Nat) : Image := { plain with reds := [d], channels := [cd p] }
def oneSem (c : Core) (f s n : Nat) : Core := setSem c f s { valid := true, poison := false, owner := 0, cap := 4, count := n, cause := 0, pframe := 0 }
def redS (d : RedDecl) (p : List Nat) (f : Core → Core) : State := edit (on 4 [(Key.stepNumber, 6)]) fun c => f (opened [128, 129, 130, 131] { setFld c 1 { Field.reset with red := { Field.reset.red with queue := [(7, some 33)] } } with alm := { c.alm with image := some (imC d p) } })
def run0 : RedRun := { redno := 7, rseq := 5, sem := some 33, step := 6, eRef := 2, own := [1, 2, 3], vals := [1, 2, 3], sent := 0, csumIn := 5, csumOut := 0, csumRx := 0, eObs := none, flags := 0, srcFail := none, lost := false, added := [], summed := false, results := [], openW := 0, signalled := false, recs := [], recSent := false, decided := none, written := false }
def withRun (r : RedRun) (c : Core) : Core := setChan c 1 4 { Channel.reset with next := 6, run := some r }
def pk (typ op addr : Nat) (pl : Bytes) : Packet := { typ := typ, dstMod := 0, srcMod := 6, dstCtx := 8, seq := 5, issuer := 9, opTag := 7, addr := addr, status := 0, op := op, payload := pl }
def rx0 (p : Packet) : Rx := { port := 3, slot := 4, crc := packetCrc p, pkt := p }
def flow0 : FlowDecl := { num := 4, peer := 6, issuers := [9], routes := [[{ src := 0, port := 3, dst := 6, bound := 1 }]] }
def tp0 : Template := { emptyTp with slots := [{ port := 3, out := false, slot := 4, flow := 4, bytes := 512 }] }
def imF (d : RedDecl) (p : List Nat) : Image := { imC d p with flows := [flow0], templates := [tp0] }
def flowed (d : RedDecl) (p : List Nat) (c : Core) : Core := { c with alm := { c.alm with image := some (imF d p) }, fab := { c.fab with ports := [(3, { Port.reset with pstate := 3, peerMod := 6, peerValid := true })], ctxs := [(8, { Ctx.reset with state := 1, peerMod := 6, flow := 4, rxSeq := 5, peerCtx := 2, master := 0x8006 })] } }
def coll (part q first : Nat) : Nat := 4 * 2^58 + q * 2^42 + part * 2^40 + first
def rdL : RedDecl := { rd .sum with n := 200 }
def shC : ShardDecl := { stage := 1, start := 1024, blocks := 4, holders := [], mine := true, primary := true, master := 2^60 + 0x200000, moment1 := 2^60 + 0x300000, moment2 := 2^60 + 0x400000, grad0 := 2^60 + 0x500000, grad1 := 2^60 + 0x600000 }
def imB : Image := { imC (rd .sum) [6, 0] with flows := [flow0], templates := [tp0], shards := [shC], buckets := [{ stage := 1, start := 2048, length := 3, fmt := 4, redno := 7 }] }
def bukS (k : Nat) : State := redS (rd .sum) [6, 0] fun c => let c := flowed (rd .sum) [6, 0] (withRun { run0 with results := [4], step := k } c); { c with alm := { c.alm with image := some imB } }
def runD (ok : Bool) : RedRun := { run0 with results := [1, 2, 3], decided := some { rr 2 with flags := 0, count := 2, eMin := 2, eMax := 2, csumIn := 9, csumOut := if ok then 9 else 8 }, written := true, recSent := true, recs := [(1, rr 1)], summed := true, added := [1] }
def mv : Move := { srcMod := 6, src := 0x1000, dstMod := 0, dst := 0xB000, length := 32, staging := 0x20 }
def rdP : RedDecl := { rd .permute with moves := [mv, { mv with srcMod := 0, dstMod := 6 }] }
def runP : RedRun := { run0 with signalled := true, summed := true }
def inM (s : State) : State := { s with mem := mwriteN [] 0xA020 (leBytes 16 0x12345678ABCDEF0011223344556677) }
def dOk (f : Nat) : Record := { rr 2 with flags := f, count := 2, eMin := 2, eMax := 2, csumIn := 9, csumOut := 9 }
def mcA (note last : Nat) : Nat := 2 * 2^58 + 44 * 2^46 + 3 * 2^40 + note * 2^39 + last * 2^38 + 0x100
def mcS : State := redS (rd .sum) [0, 6] fun c => { flowed (rd .sum) [0, 6] c with recv := [(2, [9, 30, 33])] }

/-- Meets the hypotheses of `Goals.ReductionStarts`, clause by clause. -/
theorem meets_ReductionStarts :
    (let s : State := (redS (rd .sum) [0, 6] fun c => oneSem c 2 9 3)
     let f : Nat := 1
     let redno : Nat := 7
     let im : Image := (imC (rd .sum) [0, 6])
     let d : RedDecl := (rd .sum)
     let ch : ChannelDecl := (cd [0, 6])
     let sem : Option Nat := (some 33)
     let rest : List (Nat × Option Nat) := []
     let x : Channel := chanOf s.core f ch.num
     let took : Status → Prop := fun st =>
          match d.ready with
          | none => st = Status.ok
          | some r => (engineTake s.core f r.1 r.2.1 r.2.2).2 = st
     let st : Status := .ok
     (Runs s)
      ∧ (f < 8)
      ∧ (s.core.alm.image = some im)
      ∧ (redDecl im redno = some d)
      ∧ (chanDecl s.core d.channel = some ch)
      ∧ (ch.field = f)
      ∧ (Goals.waitingOn s im f d.channel = (redno, sem) :: rest)
      ∧ (redGated s.core f = false)
      ∧ ((List.filter (fun p => p.2.run.isSome) (fld s.core f).red.channels).length < 8)
      ∧ (d.vote = true → s.core.alm.vote.own ≠ none)
      ∧ (unsent s.core f ch.num = false)
      ∧ (x.run = none)
      ∧ (took st)
      ∧ (st ≠ Status.taken)
      ∧ (st ≠ Status.busy))
  ∧ (let s : State := (redS (rd .max) [0, 6] fun c => let c := setSem c 2 9 { valid := true, poison := true, owner := 0, cap := 4, count := 3, cause := 5, pframe := 0 }; setSync c 2 { syncU c 2 with waits := [{ unit := redSlot 1, sem := 9, n := 3, phase := 2 }] })
     let f : Nat := 1
     let redno : Nat := 7
     let im : Image := (imC (rd .max) [0, 6])
     let d : RedDecl := (rd .max)
     let ch : ChannelDecl := (cd [0, 6])
     let sem : Option Nat := (some 33)
     let rest : List (Nat × Option Nat) := []
     let x : Channel := chanOf s.core f ch.num
     let took : Status → Prop := fun st =>
          match d.ready with
          | none => st = Status.ok
          | some r => (engineTake s.core f r.1 r.2.1 r.2.2).2 = st
     let st : Status := .lost
     (Runs s)
      ∧ (f < 8)
      ∧ (s.core.alm.image = some im)
      ∧ (redDecl im redno = some d)
      ∧ (chanDecl s.core d.channel = some ch)
      ∧ (ch.field = f)
      ∧ (Goals.waitingOn s im f d.channel = (redno, sem) :: rest)
      ∧ (redGated s.core f = false)
      ∧ ((List.filter (fun p => p.2.run.isSome) (fld s.core f).red.channels).length < 8)
      ∧ (d.vote = true → s.core.alm.vote.own ≠ none)
      ∧ (unsent s.core f ch.num = false)
      ∧ (x.run = none)
      ∧ (took st)
      ∧ (st ≠ Status.taken)
      ∧ (st ≠ Status.busy))
  ∧ (let s : State := (redS (rd .sum) [0, 6] fun c => oneSem c 2 9 2)
     let f : Nat := 1
     let redno : Nat := 7
     let im : Image := (imC (rd .sum) [0, 6])
     let d : RedDecl := (rd .sum)
     let ch : ChannelDecl := (cd [0, 6])
     let sem : Option Nat := (some 33)
     let rest : List (Nat × Option Nat) := []
     let x : Channel := chanOf s.core f ch.num
     let r : Nat × Nat × Nat := (2, 9, 3)
     (Runs s)
      ∧ (f < 8)
      ∧ (s.core.alm.image = some im)
      ∧ (redDecl im redno = some d)
      ∧ (chanDecl s.core d.channel = some ch)
      ∧ (ch.field = f)
      ∧ (Goals.waitingOn s im f d.channel = (redno, sem) :: rest)
      ∧ (redGated s.core f = false)
      ∧ ((List.filter (fun p => p.2.run.isSome) (fld s.core f).red.channels).length < 8)
      ∧ (d.vote = true → s.core.alm.vote.own ≠ none)
      ∧ (unsent s.core f ch.num = false)
      ∧ (x.run = none)
      ∧ (d.ready = some r)
      ∧ ((engineTake s.core f r.1 r.2.1 r.2.2).2 ∈ [Status.taken, Status.busy]))
  ∧ (let s : State := (redS (rd .sum) [0, 6] (withRun run0))
     let f : Nat := 1
     let redno : Nat := 7
     let im : Image := (imC (rd .sum) [0, 6])
     let d : RedDecl := (rd .sum)
     let ch : ChannelDecl := (cd [0, 6])
     let sem : Option Nat := (some 33)
     let rest : List (Nat × Option Nat) := []
     let x : Channel := chanOf s.core f ch.num
     (Runs s)
      ∧ (f < 8)
      ∧ (s.core.alm.image = some im)
      ∧ (redDecl im redno = some d)
      ∧ (chanDecl s.core d.channel = some ch)
      ∧ (ch.field = f)
      ∧ (Goals.waitingOn s im f d.channel = (redno, sem) :: rest)
      ∧ (redGated s.core f = false)
      ∧ ((List.filter (fun p => p.2.run.isSome) (fld s.core f).red.channels).length < 8)
      ∧ (d.vote = true → s.core.alm.vote.own ≠ none)
      ∧ (unsent s.core f ch.num = false)
      ∧ (x.run ≠ none)) :=
  ⟨⟨by decide +kernel +zetaReduce, by decide +kernel +zetaReduce, by decide +kernel +zetaReduce, by decide +kernel +zetaReduce, by decide +kernel +zetaReduce, by decide +kernel +zetaReduce, by decide +kernel +zetaReduce, by decide +kernel +zetaReduce, by decide +kernel +zetaReduce, by decide +kernel +zetaReduce, by decide +kernel +zetaReduce, by decide +kernel +zetaReduce, by rfl, by decide +kernel +zetaReduce, by decide +kernel +zetaReduce⟩,
   ⟨by decide +kernel +zetaReduce, by decide +kernel +zetaReduce, by decide +kernel +zetaReduce, by decide +kernel +zetaReduce, by decide +kernel +zetaReduce, by decide +kernel +zetaReduce, by decide +kernel +zetaReduce, by decide +kernel +zetaReduce, by decide +kernel +zetaReduce, by decide +kernel +zetaReduce, by decide +kernel +zetaReduce, by decide +kernel +zetaReduce, by rfl, by decide +kernel +zetaReduce, by decide +kernel +zetaReduce⟩,
   ⟨by decide +kernel +zetaReduce, by decide +kernel +zetaReduce, by decide +kernel +zetaReduce, by decide +kernel +zetaReduce, by decide +kernel +zetaReduce, by decide +kernel +zetaReduce, by decide +kernel +zetaReduce, by decide +kernel +zetaReduce, by decide +kernel +zetaReduce, by decide +kernel +zetaReduce, by decide +kernel +zetaReduce, by decide +kernel +zetaReduce, by decide +kernel +zetaReduce, by decide +kernel +zetaReduce⟩,
   ⟨by decide +kernel +zetaReduce, by decide +kernel +zetaReduce, by decide +kernel +zetaReduce, by decide +kernel +zetaReduce, by decide +kernel +zetaReduce, by decide +kernel +zetaReduce, by decide +kernel +zetaReduce, by decide +kernel +zetaReduce, by decide +kernel +zetaReduce, by decide +kernel +zetaReduce, by decide +kernel +zetaReduce, by decide +kernel +zetaReduce⟩⟩

/-- Meets the hypotheses of `Goals.PartialsAreStaged`, clause by clause. -/
theorem meets_PartialsAreStaged :
    (let s : State := (redS (rd .sum) [6, 0] fun c => flowed (rd .sum) [6, 0] (setChan c 1 4 { Channel.reset with next := 6 }))
     let rx : Rx := (rx0 (pk 8 0 (coll 0 6 0) (partialBytes [1,-2,3])))
     let ch : ChannelDecl := (cd [6, 0])
     let im : Image := (imF (rd .sum) [6, 0])
     let c : Core := Goals.taken s rx
     let x : Channel := chanOf s.core ch.field ch.num
     let q : Nat := bits rx.pkt.addr 42 16
     let half : Nat × Nat := stagingHalf ch q
     (Goals.collFor s rx 0 ch)
      ∧ (s.core.alm.image = some im)
      ∧ (x.run = none)
      ∧ (q = x.next)
      ∧ (rednoAt c im ch q = none ∨ rednoAt c im ch q = some rx.pkt.opTag)
      ∧ (inHbm half.1 = true))
  ∧ (let s : State := (redS (rd .sum) [6, 0] fun c => flowed (rd .sum) [6, 0] (setChan c 1 4 { Channel.reset with next := 6 }))
     let rx : Rx := (rx0 (pk 8 0 (coll 0 8 0) (partialBytes [1,-2,3])))
     let ch : ChannelDecl := (cd [6, 0])
     let im : Image := (imF (rd .sum) [6, 0])
     let x : Channel := chanOf s.core ch.field ch.num
     let q : Nat := bits rx.pkt.addr 42 16
     (Goals.collFor s rx 0 ch)
      ∧ (s.core.alm.image = some im)
      ∧ (x.run = none)
      ∧ (q ≠ x.next)
      ∧ (q ≠ (x.next + 1) % 65536))
  ∧ (let s : State := (redS (rd .sum) [6, 0] fun c => let c := flowed (rd .sum) [6, 0] (setChan c 1 4 { Channel.reset with next := 6 }); { c with acc := { c.acc with entries := [] } })
     let rx : Rx := (rx0 (pk 8 0 (coll 0 6 0) (partialBytes [1,-2,3])))
     let ch : ChannelDecl := (cd [6, 0])
     let im : Image := (imF (rd .sum) [6, 0])
     let c : Core := Goals.taken s rx
     let x : Channel := chanOf s.core ch.field ch.num
     let q : Nat := bits rx.pkt.addr 42 16
     let half : Nat × Nat := stagingHalf ch q
     (Goals.collFor s rx 0 ch)
      ∧ (s.core.alm.image = some im)
      ∧ (x.run = none)
      ∧ (q = x.next)
      ∧ (rednoAt c im ch q = none ∨ rednoAt c im ch q = some rx.pkt.opTag)
      ∧ (inHbm half.1 = true)) :=
  by refine ⟨?_, ?_, ?_⟩ <;> decide +kernel +zetaReduce

/-- Meets the hypotheses of `Goals.ResultsAreWritten`, clause by clause. -/
theorem meets_ResultsAreWritten :
    (let s : State := (redS rdL [6, 0] fun c => flowed rdL [6, 0] (withRun { run0 with results := [] } c))
     let rx : Rx := (rx0 (pk 8 0 (coll 1 5 0) (elemBytes 4 (List.range 128))))
     let ch : ChannelDecl := (cd [6, 0])
     let im : Image := (imF rdL [6, 0])
     let d : RedDecl := rdL
     let r : RedRun := { run0 with results := [] }
     let f : Nat := ch.field
     let first : Nat := bits rx.pkt.addr 0 32
     let vs : List Nat := elems 4 (min 128 (d.n - first)) rx.pkt.payload
     (Goals.collFor s rx 1 ch)
      ∧ (s.core.alm.image = some im)
      ∧ ((chanOf s.core f ch.num).run = some r)
      ∧ (redDecl im r.redno = some d)
      ∧ (bits rx.pkt.addr 42 16 = r.rseq)
      ∧ (first = r.results.length)
      ∧ (takesResults d ch (ownPos s.core ch) = true)
      ∧ (d.chain = true ∨ resultTargets d ch (ownPos s.core ch) = [])
      ∧ (first + vs.length < d.n))
  ∧ (let s : State := (redS (rd .sum) [6, 0] fun c => flowed (rd .sum) [6, 0] (withRun { run0 with results := [4] } c))
     let rx : Rx := (rx0 (pk 8 0 (coll 1 5 1) (elemBytes 4 [9, 8, 7])))
     let ch : ChannelDecl := (cd [6, 0])
     let im : Image := (imF (rd .sum) [6, 0])
     let d : RedDecl := (rd .sum)
     let r : RedRun := { run0 with results := [4] }
     let c : Core := Goals.taken s rx
     let f : Nat := ch.field
     let first : Nat := bits rx.pkt.addr 0 32
     let vs : List Nat := elems 4 (min 128 (d.n - first)) rx.pkt.payload
     let a : Nat := (2^60 + 0x9000)
     (Goals.collFor s rx 1 ch)
      ∧ (s.core.alm.image = some im)
      ∧ ((chanOf s.core f ch.num).run = some r)
      ∧ (redDecl im r.redno = some d)
      ∧ (bits rx.pkt.addr 42 16 = r.rseq)
      ∧ (first = r.results.length)
      ∧ (takesResults d ch (ownPos s.core ch) = true)
      ∧ (d.chain = true ∨ resultTargets d ch (ownPos s.core ch) = [])
      ∧ (d.n ≤ first + vs.length)
      ∧ (d.kind = RedKind.sum)
      ∧ (resultAt s.core d r.step = some a)
      ∧ (inHbm (gaOff a) = true ∨ inSlice (gaOff a) = true ∨ inStation (gaOff a) = true)
      ∧ (gatedIn c (gaOff a) (4 * (r.results ++ vs).length) = none)
      ∧ (refusalOf c (redMaster f) (gaOff a) (4 * (r.results ++ vs).length) Right.w = none))
  ∧ (let s : State := (bukS 6)
     let rx : Rx := (rx0 (pk 8 0 (coll 1 5 1) (elemBytes 4 [9, 8, 7])))
     let ch : ChannelDecl := (cd [6, 0])
     let im : Image := imB
     let d : RedDecl := (rd .sum)
     let r : RedRun := { run0 with results := [4], step := 6 }
     let f : Nat := ch.field
     let first : Nat := bits rx.pkt.addr 0 32
     let e : Nat := (2^60 + 0x9000)
     let b : BucketDecl := { stage := 1, start := 2048, length := 3, fmt := 4, redno := 7 }
     let sh : ShardDecl := shC
     (Goals.collFor s rx 1 ch)
      ∧ (s.core.alm.image = some im)
      ∧ ((chanOf s.core f ch.num).run = some r)
      ∧ (redDecl im r.redno = some d)
      ∧ (bits rx.pkt.addr 42 16 = r.rseq)
      ∧ (first = r.results.length)
      ∧ (takesResults d ch (ownPos s.core ch) = true)
      ∧ (d.chain = true ∨ resultTargets d ch (ownPos s.core ch) = [])
      ∧ (d.result = some e)
      ∧ (bucketOf im d.redno = some b)
      ∧ (List.find?
            (fun h =>
              h.mine && decide (h.stage = b.stage) && decide (h.start ≤ b.start ∧ b.start < h.start + 1024 * h.blocks))
            im.shards =
          some sh))
  ∧ (let s : State := (bukS 7)
     let rx : Rx := (rx0 (pk 8 0 (coll 1 5 1) (elemBytes 4 [9, 8, 7])))
     let ch : ChannelDecl := (cd [6, 0])
     let im : Image := imB
     let d : RedDecl := (rd .sum)
     let r : RedRun := { run0 with results := [4], step := 7 }
     let c : Core := Goals.taken s rx
     let f : Nat := ch.field
     let first : Nat := bits rx.pkt.addr 0 32
     let vs : List Nat := elems 4 (min 128 (d.n - first)) rx.pkt.payload
     let a : Nat := (2^60 + 0x600000 + 4096)
     (Goals.collFor s rx 1 ch)
      ∧ (s.core.alm.image = some im)
      ∧ ((chanOf s.core f ch.num).run = some r)
      ∧ (redDecl im r.redno = some d)
      ∧ (bits rx.pkt.addr 42 16 = r.rseq)
      ∧ (first = r.results.length)
      ∧ (takesResults d ch (ownPos s.core ch) = true)
      ∧ (d.chain = true ∨ resultTargets d ch (ownPos s.core ch) = [])
      ∧ (d.n ≤ first + vs.length)
      ∧ (d.kind = RedKind.sum)
      ∧ (resultAt s.core d r.step = some a)
      ∧ (inHbm (gaOff a) = true ∨ inSlice (gaOff a) = true ∨ inStation (gaOff a) = true)
      ∧ (gatedIn c (gaOff a) (4 * (r.results ++ vs).length) = none)
      ∧ (refusalOf c (redMaster f) (gaOff a) (4 * (r.results ++ vs).length) Right.w = none))
  ∧ (let s : State := (redS (rd .sum) [6, 0] fun c => flowed (rd .sum) [6, 0] (withRun { run0 with results := [4] } c))
     let rx : Rx := (rx0 (pk 8 0 (coll 1 5 1) (elemBytes 4 [9, 8, 7])))
     let ch : ChannelDecl := (cd [6, 0])
     let im : Image := (imF (rd .sum) [6, 0])
     let d : RedDecl := (rd .sum)
     let r : RedRun := { run0 with results := [4] }
     let f : Nat := ch.field
     let first : Nat := bits rx.pkt.addr 0 32
     let e : Nat := (2^60 + 0x9000)
     (Goals.collFor s rx 1 ch)
      ∧ (s.core.alm.image = some im)
      ∧ ((chanOf s.core f ch.num).run = some r)
      ∧ (redDecl im r.redno = some d)
      ∧ (bits rx.pkt.addr 42 16 = r.rseq)
      ∧ (first = r.results.length)
      ∧ (takesResults d ch (ownPos s.core ch) = true)
      ∧ (d.chain = true ∨ resultTargets d ch (ownPos s.core ch) = [])
      ∧ (d.result = some e)
      ∧ (∀ b ∈ im.buckets, b.redno ≠ d.redno)) :=
  by refine ⟨?_, ?_, ?_, ?_, ?_⟩ <;> decide +kernel +zetaReduce

/-- Meets the hypotheses of `Goals.AgreementRecordsArrive`, clause by clause. -/
theorem meets_AgreementRecordsArrive :
    (let s : State := (redS (rd .sum) [0, 6] fun c => flowed (rd .sum) [0, 6] (withRun { run0 with results := [4] } c))
     let rx : Rx := (rx0 (pk 8 0 (coll 2 5 0) (recordBytes (rr 7))))
     let ch : ChannelDecl := (cd [0, 6])
     let x : Channel := chanOf s.core ch.field ch.num
     let q : Nat := bits rx.pkt.addr 42 16
     let k : Nat := List.idxOf rx.pkt.srcMod ch.participants
     let j : Nat := ownPos s.core ch
     let child : Prop := k ∈ childPos ch.fanin j ch.participants.length
     let r : RedRun := { run0 with results := [4] }
     (Goals.collFor s rx 2 ch)
      ∧ (x.run = some r)
      ∧ (q = r.rseq)
      ∧ (child))
  ∧ (let s : State := (redS (rd .sum) [0, 6] fun c => flowed (rd .sum) [0, 6] (withRun { run0 with results := [4] } c))
     let rx : Rx := (rx0 (pk 8 0 (coll 2 6 0) (recordBytes (rr 7))))
     let ch : ChannelDecl := (cd [0, 6])
     let x : Channel := chanOf s.core ch.field ch.num
     let q : Nat := bits rx.pkt.addr 42 16
     let k : Nat := List.idxOf rx.pkt.srcMod ch.participants
     let j : Nat := ownPos s.core ch
     let child : Prop := k ∈ childPos ch.fanin j ch.participants.length
     let r : RedRun := { run0 with results := [4] }
     (Goals.collFor s rx 2 ch)
      ∧ (x.run = some r)
      ∧ (q = (r.rseq + 1) % 65536)
      ∧ (q ≠ r.rseq)
      ∧ (child))
  ∧ (let s : State := (redS (rd .sum) [6, 0] fun c => flowed (rd .sum) [6, 0] (withRun { run0 with results := [4] } c))
     let rx : Rx := (rx0 (pk 8 0 (coll 2 5 0) (recordBytes (rr 7))))
     let ch : ChannelDecl := (cd [6, 0])
     let x : Channel := chanOf s.core ch.field ch.num
     let q : Nat := bits rx.pkt.addr 42 16
     let k : Nat := List.idxOf rx.pkt.srcMod ch.participants
     let j : Nat := ownPos s.core ch
     let child : Prop := k ∈ childPos ch.fanin j ch.participants.length
     let r : RedRun := { run0 with results := [4] }
     (Goals.collFor s rx 2 ch)
      ∧ (x.run = some r)
      ∧ (q = r.rseq)
      ∧ (¬child)
      ∧ (j ≠ 0)
      ∧ (k = parentPos ch.fanin j)
      ∧ (r.decided = none)) :=
  by refine ⟨?_, ?_, ?_⟩ <;> decide +kernel +zetaReduce

/-- Meets the hypotheses of `Goals.ReductionCompletes`, clause by clause. -/
theorem meets_ReductionCompletes :
    (let s : State := (redS (rd .sum) [0, 6] fun c => flowed (rd .sum) [0, 6] (withRun (runD true) c))
     let f : Nat := 1
     let num : Nat := 4
     let im : Image := (imF (rd .sum) [0, 6])
     let d : RedDecl := (rd .sum)
     let ch : ChannelDecl := (cd [0, 6])
     let r : RedRun := (runD true)
     let x : Record := ((runD true).decided.get rfl)
     (Runs s)
      ∧ (f < 8)
      ∧ (s.core.alm.image = some im)
      ∧ (chanDecl s.core num = some ch)
      ∧ (ch.field = f)
      ∧ ((chanOf s.core f num).run = some r)
      ∧ (redDecl im r.redno = some d)
      ∧ (pumpChan s.mem s.core ch = (s.core, s.mem))
      ∧ (r.decided = some x)
      ∧ (r.written = true))
  ∧ (let s : State := (redS (rd .sum) [0, 6] fun c => flowed (rd .sum) [0, 6] (withRun (runD false) c))
     let f : Nat := 1
     let num : Nat := 4
     let im : Image := (imF (rd .sum) [0, 6])
     let d : RedDecl := (rd .sum)
     let ch : ChannelDecl := (cd [0, 6])
     let r : RedRun := (runD false)
     let x : Record := ((runD false).decided.get rfl)
     (Runs s)
      ∧ (f < 8)
      ∧ (s.core.alm.image = some im)
      ∧ (chanDecl s.core num = some ch)
      ∧ (ch.field = f)
      ∧ ((chanOf s.core f num).run = some r)
      ∧ (redDecl im r.redno = some d)
      ∧ (pumpChan s.mem s.core ch = (s.core, s.mem))
      ∧ (r.decided = some x)
      ∧ (r.written = true))
  ∧ (let s : State := (redS (rd .sum) [0, 6] fun c => flowed (rd .sum) [0, 6] (withRun { run0 with lost := true, sem := none } c))
     let f : Nat := 1
     let num : Nat := 4
     let im : Image := (imF (rd .sum) [0, 6])
     let d : RedDecl := (rd .sum)
     let ch : ChannelDecl := (cd [0, 6])
     let r : RedRun := { run0 with lost := true, sem := none }
     (Runs s)
      ∧ (f < 8)
      ∧ (s.core.alm.image = some im)
      ∧ (chanDecl s.core num = some ch)
      ∧ (ch.field = f)
      ∧ ((chanOf s.core f num).run = some r)
      ∧ (redDecl im r.redno = some d)
      ∧ (pumpChan s.mem s.core ch = (s.core, s.mem))
      ∧ (r.decided = none)
      ∧ (r.lost = true))
  ∧ (let s : State := (redS (rd .sum) [0, 6] fun c => flowed (rd .sum) [0, 6] (withRun run0 c))
     let f : Nat := 1
     let num : Nat := 4
     let im : Image := (imF (rd .sum) [0, 6])
     let d : RedDecl := (rd .sum)
     let ch : ChannelDecl := (cd [0, 6])
     let r : RedRun := run0
     (Runs s)
      ∧ (f < 8)
      ∧ (s.core.alm.image = some im)
      ∧ (chanDecl s.core num = some ch)
      ∧ (ch.field = f)
      ∧ ((chanOf s.core f num).run = some r)
      ∧ (redDecl im r.redno = some d)
      ∧ (pumpChan s.mem s.core ch = (s.core, s.mem))
      ∧ (r.decided = none)
      ∧ (r.lost = false)) :=
  by refine ⟨?_, ?_, ?_, ?_⟩ <;> decide +kernel +zetaReduce

/-- Meets the hypotheses of `Goals.PermutationsPlace`, clause by clause. -/
theorem meets_PermutationsPlace :
    (let s : State := (inM (redS rdP [0, 6] fun c => flowed rdP [0, 6] (withRun { runP with decided := some (dOk 0) } c)))
     let f : Nat := 1
     let num : Nat := 4
     let im : Image := (imF rdP [0, 6])
     let d : RedDecl := rdP
     let ch : ChannelDecl := (cd [0, 6])
     let r : RedRun := { runP with decided := some (dOk 0) }
     let v : Record := (dOk 0)
     let m : Move := mv
     let o : Nat := 0
     (Runs s)
      ∧ (f < 8)
      ∧ (s.core.alm.image = some im)
      ∧ (chanDecl s.core num = some ch)
      ∧ (ch.field = f)
      ∧ ((chanOf s.core f num).run = some r)
      ∧ (redDecl im r.redno = some d)
      ∧ (d.kind = RedKind.permute)
      ∧ (r.signalled = true)
      ∧ (r.decided = some v)
      ∧ (v.status RedKind.permute ch.participants.length = Status.ok)
      ∧ (r.written = false)
      ∧ (incoming s.core d = [(m, o)])
      ∧ (inHbm m.dst = true ∨ inSlice m.dst = true ∨ inStation m.dst = true)
      ∧ (gatedIn s.core m.dst m.length = none)
      ∧ (engStop s.core (redMaster f) (stagedReads s.core d ch) = none)
      ∧ (refusalOf s.core (redMaster f) m.dst m.length Right.w = none))
  ∧ (let s : State := (inM (redS rdP [0, 6] fun c => flowed rdP [0, 6] (withRun { runP with decided := some (dOk 1) } c)))
     let f : Nat := 1
     let num : Nat := 4
     let im : Image := (imF rdP [0, 6])
     let d : RedDecl := rdP
     let ch : ChannelDecl := (cd [0, 6])
     let r : RedRun := { runP with decided := some (dOk 1) }
     let v : Record := (dOk 1)
     (Runs s)
      ∧ (f < 8)
      ∧ (s.core.alm.image = some im)
      ∧ (chanDecl s.core num = some ch)
      ∧ (ch.field = f)
      ∧ ((chanOf s.core f num).run = some r)
      ∧ (redDecl im r.redno = some d)
      ∧ (d.kind = RedKind.permute)
      ∧ (r.signalled = true)
      ∧ (r.decided = some v)
      ∧ (v.status RedKind.permute ch.participants.length ≠ Status.ok))
  ∧ (let s : State := (inM (redS rdP [0, 6] fun c => flowed rdP [0, 6] (withRun { runP with summed := false } c)))
     let f : Nat := 1
     let num : Nat := 4
     let im : Image := (imF rdP [0, 6])
     let d : RedDecl := rdP
     let ch : ChannelDecl := (cd [0, 6])
     let r : RedRun := { runP with summed := false }
     (Runs s)
      ∧ (f < 8)
      ∧ (s.core.alm.image = some im)
      ∧ (chanDecl s.core num = some ch)
      ∧ (ch.field = f)
      ∧ ((chanOf s.core f num).run = some r)
      ∧ (redDecl im r.redno = some d)
      ∧ (d.kind = RedKind.permute)
      ∧ (r.signalled = true)
      ∧ (r.decided = none)
      ∧ (r.summed = false)
      ∧ (d.arrival = none)
      ∧ (engStop s.core (redMaster f) (stagedReads s.core d ch) = none))
  ∧ (let s : State := (edit (redS rdP [0, 6] fun c => flowed rdP [0, 6] (withRun { runP with summed := false } c)) fun c => { c with ecc := { single := [], double := [0xA028] } })
     let f : Nat := 1
     let num : Nat := 4
     let im : Image := (imF rdP [0, 6])
     let d : RedDecl := rdP
     let ch : ChannelDecl := (cd [0, 6])
     let r : RedRun := { runP with summed := false }
     (Runs s)
      ∧ (f < 8)
      ∧ (s.core.alm.image = some im)
      ∧ (chanDecl s.core num = some ch)
      ∧ (ch.field = f)
      ∧ ((chanOf s.core f num).run = some r)
      ∧ (redDecl im r.redno = some d)
      ∧ (d.kind = RedKind.permute)
      ∧ (r.signalled = true)
      ∧ (r.decided = none)
      ∧ (r.summed = false)
      ∧ (d.arrival = none)
      ∧ (engStop s.core (redMaster f) (stagedReads s.core d ch) ≠ none)) :=
  by refine ⟨?_, ?_, ?_, ?_⟩ <;> decide +kernel +zetaReduce

/-- Meets the hypotheses of `Goals.MulticastIsDelivered`, clause by clause. -/
theorem meets_MulticastIsDelivered :
    (let s : State := mcS
     let rx : Rx := (rx0 (pk 8 0 (mcA 0 1) (leBytes 40 0x777777777777777777)))
     let c : Core := Goals.taken s rx
     let a : Nat := rx.pkt.addr
     let gs : List Nat := tgetD s.core.recv (bits a 58 6) []
     let o : Nat := bits a 0 22
     let n : Nat := List.length rx.pkt.payload
     let m : Nat := 32768 + rx.pkt.srcMod
     (Goals.inTurn s rx)
      ∧ (rx.pkt.typ = 8)
      ∧ (bits rx.pkt.addr 40 2 = 3)
      ∧ (bit a 39 = false)
      ∧ (MemoryInv s)
      ∧ (gs.Nodup)
      ∧ (0 < n)
      ∧ (o + n ≤ stSize)
      ∧ (∀ g ∈ gs, g < 192 ∧ gatedIn c (stBase g + o) n = none ∧ refusalOf c m (stBase g + o) n Right.w = none))
  ∧ (let s : State := mcS
     let rx : Rx := (rx0 (pk 8 0 (mcA 0 0) (leBytes 40 0x777777777777777777)))
     let c : Core := Goals.taken s rx
     let a : Nat := rx.pkt.addr
     let gs : List Nat := tgetD s.core.recv (bits a 58 6) []
     let o : Nat := bits a 0 22
     let n : Nat := List.length rx.pkt.payload
     let m : Nat := 32768 + rx.pkt.srcMod
     (Goals.inTurn s rx)
      ∧ (rx.pkt.typ = 8)
      ∧ (bits rx.pkt.addr 40 2 = 3)
      ∧ (bit a 39 = false)
      ∧ (MemoryInv s)
      ∧ (gs.Nodup)
      ∧ (0 < n)
      ∧ (o + n ≤ stSize)
      ∧ (∀ g ∈ gs, g < 192 ∧ gatedIn c (stBase g + o) n = none ∧ refusalOf c m (stBase g + o) n Right.w = none))
  ∧ (let s : State := mcS
     let rx : Rx := (rx0 (pk 8 0 (mcA 1 0) []))
     let a : Nat := rx.pkt.addr
     let gs : List Nat := tgetD s.core.recv (bits a 58 6) []
     let f : Nat := 1
     (Goals.inTurn s rx)
      ∧ (rx.pkt.typ = 8)
      ∧ (bits rx.pkt.addr 40 2 = 3)
      ∧ (bit a 39 = true)
      ∧ (f < 8)
      ∧ (∃ g ∈ gs, g / 24 = f)
      ∧ ((syncU s.core f).held = [])) :=
  by refine ⟨?_, ?_, ?_⟩ <;> decide +kernel +zetaReduce

end Sys2Proof.Meets13
end

