-- ==== Sys2Proof/Tests/Meets14.lean ====
section
/-! SUPPORT. Concrete states and operands that meet the hypotheses of the statements of Obligations.lean. -/

namespace Sys2Proof.Meets14
open Machine

set_option maxRecDepth 20000
set_option Elab.async false

def hs (a : Nat) (objs : List (Nat × Nat)) (f : Core → Core) : State := edit (on a objs) fun c => hosted (f c)
def ports (c : Core) : Core := { c with fab := { c.fab with ports := [(3, { Port.reset with pstate := 3, peerMod := 6, peerValid := true }), (5, { Port.reset with pstate := 4 }), (7, { Port.reset with pstate := 1, phase := 2 })] } }
def acE (op t e v : Nat) : Bytes := leBytes 24 (t + e * 2^16 + op * 2^24 + v * 2^64)
def av : Nat := 2 ^ 127 + 5 * 2 ^ 124 + 0x1005 * 2^104 + 0xffff * 2^88 + (2^36 - 1) * 2 ^ 8 + 5 * 2^44
def fromStart (c : Core) : Core := { c with acc := { c.acc with entries := tset c.acc.entries (130 * 64 + 5) { anyone with writer := .start } } }
def mm (s : State) : State := { s with mem := [(5, 1), (0x17FFFFFFFFF, 2), (0x18000000000, 4), (stBase 3, 7)] }
def allRead : List Nat := (objTable.filter fun o => o.ty ≠ 8 && o.ty ≠ 9 && o.acc ≠ .wo && !inUnits o.key && o.key % 256 ≠ 0).map fun o => o.key
def rst0 : State := hs 4 [(Key.port 1 10, 5), (Key.frameCount, 7)] ports
def chkRead (k : Nat) : Bool := match objFind k with
  | none => false
  | some o => match exec (.readDict hd [⟨k / 256, k % 256, 0⟩]) rst0 with
    | .next t =>
      let sh := if o.acc = .rc then Goals.shows (withCore rst0 (countRx rst0.core hd.port)) hd.ctx k o else Goals.shows rst0 hd.ctx k o
      let ks := if o.acc = .rc then [k, Key.port 1 10] else [Key.port 1 10]
      decide (Goals.responds t hd sx { typ := 0x20, status := 0, payload := readAnswer k .ok o.ty sh })
      && (o.acc ≠ .rc || obj t.core k = 0)
      && (objTable.all fun q => ks.contains q.key || obj t.core q.key = obj rst0.core q.key) && decide (t.mem = rst0.mem ∧ t.core.st = rst0.core.st)
    | _ => false
def kRc : Nat := Key.ringCreditStalls
def wi (k t : Nat) (v : Bytes) : WriteItem := ⟨k / 256, k % 256, t, v⟩
def oJ := (objFind Key.jobSeed).get rfl
def jN := wi 0x777707 1 []
/- all writable objects -/
def allW : List Nat := (objTable.filter fun o => o.acc ≠ .ro && o.acc ≠ .rc && !ownRow.contains o.key && o.key % 256 ≠ 0).map fun o => o.key
def chkW (k : Nat) (v : Nat) (ty : Bool) : Nat := match objFind k with
  | none => 9
  | some o =>
    let s := hs 0 [] ports
    let i : WriteItem := wi k (if ty then o.ty else o.ty + 1) (leBytes o.size v)
    let fits := i.typ = o.ty ∧ i.value.length = o.size ∧ inObjRange s.fuse k (leNat i.value) = true
    if dictGate s.core hd.ctx k .w ≠ .ok then 8 else
    match exec (.writeDict hd [i]) s with
    | .next t =>
      let st : Status := if fits then (if writableNow s.core k then .ok else .state) else .range
      let nv := if fits ∧ writableNow s.core k then leNat i.value else obj s.core k
      let ks := [k, Key.port 1 10]
      if decide (Goals.responds t hd sx { typ := 0x21, status := 0, payload := itemHead k st o.ty 0 }) then
      if obj t.core k = nv then
      if st ≠ .ok || (objTable.all fun q => ks.contains q.key || obj t.core q.key = obj s.core q.key) then
      if decide (t.mem = s.mem ∧ t.core.st = s.core.st) then 0 else 1 else 2 else 3 else 4
    | _ => 5
def kp : State := edit (on 2 []) fun c => setSession (hosted c) 5 { sx with kept := [(7, some { typ := 0x20, status := 0, payload := [1,2] }), (6, none)] }
def hd7 : Hdr := { hd with seq := 7 }
def hdB : Hdr := { hd with tagOk := false }
def hdN : Hdr := { hd with ctx := 9 }
def hdU : Hdr := { hd7 with udp := 50472 }
def hdV : Hdr := { hd7 with udp := 99 }

/-- Meets the hypotheses of `Goals.IdentityWritesRerunIdent`, clause by clause. -/
theorem meets_IdentityWritesRerunIdent :
    (let s : State := (hs 0 [] ports)
     let h : Hdr := hd
     let x : Session := sx
     let v : Nat := 77
     let free : Prop := loaded s.core = false ∧ flowOpen s.core = false
     let row : Instr × Nat × Prop × Prop × List Nat := (.moduleId hd 1 77, Key.moduleId, 77 < 4096, (loaded (hs 0 [] ports).core = false ∧ flowOpen (hs 0 [] ports).core = false), [3])
     let k : Nat := row.2.1
     (row ∈
          [(Instr.moduleId h 1 v, Key.moduleId, v < 4096, free, [3]),
            (Instr.moduleId h 2 v, Key.moduleIdValid, v < 2, free, [3]),
            (Instr.installationId h v, Key.installationId, v < 2 ^ 64, loaded s.core = false, [3, 4])])
      ∧ (Goals.writes s h x k)
      ∧ (row.2.2.1)
      ∧ (row.2.2.2.1))
  ∧ (let s : State := (hs 0 [] ports)
     let h : Hdr := hd
     let x : Session := sx
     let v : Nat := 77
     let free : Prop := loaded s.core = false ∧ flowOpen s.core = false
     let row : Instr × Nat × Prop × Prop × List Nat := (.installationId hd 77, Key.installationId, 77 < 2^64, loaded (hs 0 [] ports).core = false, [3, 4])
     let k : Nat := row.2.1
     (row ∈
          [(Instr.moduleId h 1 v, Key.moduleId, v < 4096, free, [3]),
            (Instr.moduleId h 2 v, Key.moduleIdValid, v < 2, free, [3]),
            (Instr.installationId h v, Key.installationId, v < 2 ^ 64, loaded s.core = false, [3, 4])])
      ∧ (Goals.writes s h x k)
      ∧ (row.2.2.1)
      ∧ (row.2.2.2.1))
  ∧ (let s : State := (hs 4 [] ports)
     let h : Hdr := hd
     let x : Session := sx
     let v : Nat := 77
     let free : Prop := loaded s.core = false ∧ flowOpen s.core = false
     let row : Instr × Nat × Prop × Prop × List Nat := (.installationId hd 77, Key.installationId, 77 < 2^64, loaded (hs 4 [] ports).core = false, [3, 4])
     let k : Nat := row.2.1
     (row ∈
          [(Instr.moduleId h 1 v, Key.moduleId, v < 4096, free, [3]),
            (Instr.moduleId h 2 v, Key.moduleIdValid, v < 2, free, [3]),
            (Instr.installationId h v, Key.installationId, v < 2 ^ 64, loaded s.core = false, [3, 4])])
      ∧ (Goals.writes s h x k)
      ∧ (row.2.2.1)
      ∧ (¬row.2.2.2.1))
  ∧ (let s : State := (hs 4 [] ports)
     let h : Hdr := hd
     let x : Session := sx
     let v : Nat := 77
     let free : Prop := loaded s.core = false ∧ flowOpen s.core = false
     let row : Instr × Nat × Prop × Prop × List Nat := (.moduleId hd 1 77, Key.moduleId, 77 < 4096, (loaded (hs 4 [] ports).core = false ∧ flowOpen (hs 4 [] ports).core = false), [3])
     let k : Nat := row.2.1
     (row ∈
          [(Instr.moduleId h 1 v, Key.moduleId, v < 4096, free, [3]),
            (Instr.moduleId h 2 v, Key.moduleIdValid, v < 2, free, [3]),
            (Instr.installationId h v, Key.installationId, v < 2 ^ 64, loaded s.core = false, [3, 4])])
      ∧ (Goals.writes s h x k)
      ∧ (row.2.2.1)
      ∧ (¬row.2.2.2.1))
  ∧ (let s : State := (hs 0 [] ports)
     let h : Hdr := hd
     let x : Session := sx
     let v : Nat := 4096
     let free : Prop := loaded s.core = false ∧ flowOpen s.core = false
     let row : Instr × Nat × Prop × Prop × List Nat := (.moduleId hd 1 4096, Key.moduleId, 4096 < 4096, (loaded (hs 0 [] ports).core = false ∧ flowOpen (hs 0 [] ports).core = false), [3])
     let k : Nat := row.2.1
     (row ∈
          [(Instr.moduleId h 1 v, Key.moduleId, v < 4096, free, [3]),
            (Instr.moduleId h 2 v, Key.moduleIdValid, v < 2, free, [3]),
            (Instr.installationId h v, Key.installationId, v < 2 ^ 64, loaded s.core = false, [3, 4])])
      ∧ (Goals.writes s h x k)
      ∧ (¬row.2.2.1)) :=
  ⟨⟨by intros; simp, by decide +kernel +zetaReduce, by decide +kernel +zetaReduce, by decide +kernel +zetaReduce⟩,
   ⟨by intros; simp, by decide +kernel +zetaReduce, by decide +kernel +zetaReduce, by decide +kernel +zetaReduce⟩,
   ⟨by intros; simp, by decide +kernel +zetaReduce, by decide +kernel +zetaReduce, by decide +kernel +zetaReduce⟩,
   ⟨by intros; simp, by decide +kernel +zetaReduce, by decide +kernel +zetaReduce, by decide +kernel +zetaReduce⟩,
   ⟨by intros; simp, by decide +kernel +zetaReduce, by decide +kernel +zetaReduce⟩⟩

/-- Meets the hypotheses of `Goals.PortWritesTakePortsDown`, clause by clause. -/
theorem meets_PortWritesTakePortsDown :
    (let s : State := (hs 0 [] ports)
     let h : Hdr := hd
     let x : Session := sx
     let v : Nat := 0xFFD7
     let row : Instr × Nat × Nat × (Nat → Nat) := (.portEnable hd 0xFFD7, Key.portEnable, 65536, fun (p : Nat) => p)
     let k : Nat := row.2.1
     (row ∈
          [(Instr.portEnable h v, Key.portEnable, 65536, fun p => p), (Instr.portJoin h v, Key.portJoin, 256, fun p => p / 2)])
      ∧ (Goals.writes s h x k)
      ∧ (v < row.2.2.1)
      ∧ (loaded s.core = false))
  ∧ (let s : State := (hs 0 [] ports)
     let h : Hdr := hd
     let x : Session := sx
     let v : Nat := 0xFD
     let row : Instr × Nat × Nat × (Nat → Nat) := (.portJoin hd 0xFD, Key.portJoin, 256, fun (p : Nat) => p / 2)
     let k : Nat := row.2.1
     (row ∈
          [(Instr.portEnable h v, Key.portEnable, 65536, fun p => p), (Instr.portJoin h v, Key.portJoin, 256, fun p => p / 2)])
      ∧ (Goals.writes s h x k)
      ∧ (v < row.2.2.1)
      ∧ (loaded s.core = false))
  ∧ (let s : State := (hs 2 [] ports)
     let h : Hdr := hd
     let x : Session := sx
     let v : Nat := 2
     let row : Instr × Nat × Nat × (Nat → Nat) := (.portJoin hd 2, Key.portJoin, 256, fun (p : Nat) => p / 2)
     let k : Nat := row.2.1
     (row ∈
          [(Instr.portEnable h v, Key.portEnable, 65536, fun p => p), (Instr.portJoin h v, Key.portJoin, 256, fun p => p / 2)])
      ∧ (Goals.writes s h x k)
      ∧ (v < row.2.2.1)
      ∧ (loaded s.core = true))
  ∧ (let s : State := (hs 0 [] ports)
     let h : Hdr := hd
     let x : Session := sx
     let v : Nat := 256
     let row : Instr × Nat × Nat × (Nat → Nat) := (.portJoin hd 256, Key.portJoin, 256, fun (p : Nat) => p / 2)
     let k : Nat := row.2.1
     (row ∈
          [(Instr.portEnable h v, Key.portEnable, 65536, fun p => p), (Instr.portJoin h v, Key.portJoin, 256, fun p => p / 2)])
      ∧ (Goals.writes s h x k)
      ∧ (row.2.2.1 ≤ v)) :=
  ⟨⟨by intros; simp, by decide +kernel +zetaReduce, by decide +kernel +zetaReduce, by decide +kernel +zetaReduce⟩,
   ⟨by intros; simp, by decide +kernel +zetaReduce, by decide +kernel +zetaReduce, by decide +kernel +zetaReduce⟩,
   ⟨by intros; simp, by decide +kernel +zetaReduce, by decide +kernel +zetaReduce, by decide +kernel +zetaReduce⟩,
   ⟨by intros; simp, by decide +kernel +zetaReduce, by decide +kernel +zetaReduce⟩⟩

/-- Meets the hypotheses of `Goals.AccessEditsOneEntry`, clause by clause. -/
theorem meets_AccessEditsOneEntry :
    (let s : State := (hs 0 [] id)
     let h : Hdr := hd
     let x : Session := sx
     let data : Bytes := (acE 0 130 5 av)
     let t : Nat := 130
     let e : Nat := 5
     let k : Nat := t * 64 + e
     let shut : Prop := e < 2 ∨ ∃ y, tget s.core.acc.entries k = some y ∧ y.writer = AccWriter.start
     (Goals.writes s h x Key.accessEdit)
      ∧ (Goals.edit data 0 t e)
      ∧ (¬shut))
  ∧ (let s : State := (hs 0 [] (opened [130]))
     let h : Hdr := hd
     let x : Session := sx
     let data : Bytes := (acE 1 130 5 av)
     let t : Nat := 130
     let e : Nat := 5
     let k : Nat := t * 64 + e
     let shut : Prop := e < 2 ∨ ∃ y, tget s.core.acc.entries k = some y ∧ y.writer = AccWriter.start
     (Goals.writes s h x Key.accessEdit)
      ∧ (Goals.edit data 1 t e)
      ∧ (¬shut))
  ∧ (let s : State := (hs 4 [] fromStart)
     let h : Hdr := hd
     let x : Session := sx
     let data : Bytes := (acE 0 130 5 av)
     let t : Nat := 130
     let e : Nat := 5
     let k : Nat := t * 64 + e
     let shut : Prop := e < 2 ∨ ∃ y, tget s.core.acc.entries k = some y ∧ y.writer = AccWriter.start
     let i : Instr := (.accessEditWrite hd (acE 0 130 5 av))
     let op : Nat := 0
     (Goals.writes s h x Key.accessEdit)
      ∧ ((i, op) ∈ [(Instr.accessEditWrite h data, 0), (Instr.accessEditClear h data, 1)])
      ∧ (Goals.edit data op t e)
      ∧ (shut))
  ∧ (let s : State := (hs 4 [] id)
     let h : Hdr := hd
     let x : Session := sx
     let data : Bytes := (acE 1 130 1 av)
     let t : Nat := 130
     let e : Nat := 1
     let k : Nat := t * 64 + e
     let shut : Prop := e < 2 ∨ ∃ y, tget s.core.acc.entries k = some y ∧ y.writer = AccWriter.start
     let i : Instr := (.accessEditClear hd (acE 1 130 1 av))
     let op : Nat := 1
     (Goals.writes s h x Key.accessEdit)
      ∧ ((i, op) ∈ [(Instr.accessEditWrite h data, 0), (Instr.accessEditClear h data, 1)])
      ∧ (Goals.edit data op t e)
      ∧ (shut))
  ∧ (let s : State := (hs 4 [] id)
     let h : Hdr := hd
     let x : Session := sx
     let data : Bytes := (acE 1 155 1 av)
     let t : Nat := 130
     let e : Nat := 1
     let i : Instr := (.accessEditClear hd (acE 1 155 1 av))
     let op : Nat := 1
     (Goals.writes s h x Key.accessEdit)
      ∧ ((i, op) ∈ [(Instr.accessEditWrite h data, 0), (Instr.accessEditClear h data, 1)])
      ∧ (∀ (t e : Nat), ¬Goals.edit data op t e))
  ∧ (let s : State := (hs 4 [] id)
     let h : Hdr := hd
     let x : Session := sx
     let data : Bytes := (acE 1 130 1 (av+1))
     let t : Nat := 130
     let e : Nat := 1
     let i : Instr := (.accessEditWrite hd (acE 1 130 1 (av+1)))
     let op : Nat := 0
     (Goals.writes s h x Key.accessEdit)
      ∧ ((i, op) ∈ [(Instr.accessEditWrite h data, 0), (Instr.accessEditClear h data, 1)])
      ∧ (∀ (t e : Nat), ¬Goals.edit data op t e)) :=
  ⟨⟨by decide +kernel +zetaReduce, by decide +kernel +zetaReduce, by decide +kernel +zetaReduce⟩,
   ⟨by decide +kernel +zetaReduce, by decide +kernel +zetaReduce, by decide +kernel +zetaReduce⟩,
   ⟨by decide +kernel +zetaReduce, by decide +kernel +zetaReduce, by decide +kernel +zetaReduce, by decide +kernel +zetaReduce⟩,
   ⟨by decide +kernel +zetaReduce, by decide +kernel +zetaReduce, by decide +kernel +zetaReduce, by decide +kernel +zetaReduce⟩,
   ⟨by decide +kernel +zetaReduce, by decide +kernel +zetaReduce, fun t e h => absurd (Nat.lt_of_le_of_lt (Nat.le_of_eq h.2.1) h.2.2.2.2.2.2.1) (by decide +kernel)⟩,
   ⟨by decide +kernel +zetaReduce, by decide +kernel +zetaReduce, fun t e h => absurd h.2.2.2.2.2.1 (by decide +kernel)⟩⟩

/-- Meets the hypotheses of `Goals.GranuleWipesHbm`, clause by clause. -/
theorem meets_GranuleWipesHbm :
    (let s : State := (mm (hs 0 [] id))
     let h : Hdr := hd
     let x : Session := sx
     let v : Nat := 9
     (Goals.writes s h x Key.hbmGranule)
      ∧ (8 ≤ v)
      ∧ (v ≤ 16)
      ∧ (loaded s.core = false))
  ∧ (let s : State := (mm (hs 2 [] id))
     let h : Hdr := hd
     let x : Session := sx
     let v : Nat := 9
     (Goals.writes s h x Key.hbmGranule)
      ∧ (8 ≤ v)
      ∧ (v ≤ 16)
      ∧ (loaded s.core = true))
  ∧ (let s : State := (mm (hs 2 [] id))
     let h : Hdr := hd
     let x : Session := sx
     let v : Nat := 17
     (Goals.writes s h x Key.hbmGranule)
      ∧ (v < 8 ∨ 16 < v)) :=
  by refine ⟨?_, ?_, ?_⟩ <;> decide +kernel +zetaReduce

/-- Meets the hypotheses of `Goals.ReadsAnswerTheirItems`, clause by clause. -/
theorem meets_ReadsAnswerTheirItems :
    (let s : State := rst0
     let h : Hdr := hd
     let x : Session := sx
     let i : ReadItem := ⟨Key.frameCount / 256, Key.frameCount % 256, 0⟩
     let k : Nat := i.index * 256 + i.sub
     let o : Obj := ((objFind Key.frameCount).get rfl)
     (Goals.newRequest s h x)
      ∧ (i.index < 65536)
      ∧ (0 < i.sub)
      ∧ (i.sub < 256)
      ∧ (objFind k = some o)
      ∧ (o.ty ≠ 8)
      ∧ (o.ty ≠ 9)
      ∧ (dictGate s.core h.ctx k Right.r = Status.ok)
      ∧ (inUnits k = false)
      ∧ (o.acc ≠ ObjAccess.rc))
  ∧ (let s : State := (edit rst0 fun c => setObj c kRc 9)
     let h : Hdr := hd
     let x : Session := sx
     let i : ReadItem := ⟨kRc / 256, kRc % 256, 0⟩
     let k : Nat := i.index * 256 + i.sub
     let o : Obj := ((objFind kRc).get rfl)
     (Goals.newRequest s h x)
      ∧ (i.index < 65536)
      ∧ (0 < i.sub)
      ∧ (i.sub < 256)
      ∧ (objFind k = some o)
      ∧ (o.ty ≠ 8)
      ∧ (o.ty ≠ 9)
      ∧ (dictGate s.core h.ctx k Right.r = Status.ok)
      ∧ (inUnits k = false)
      ∧ (o.acc = ObjAccess.rc))
  ∧ (let s : State := rst0
     let h : Hdr := hd
     let x : Session := sx
     let i : ReadItem := ⟨0x7777, 7, 0⟩
     let k : Nat := i.index * 256 + i.sub
     (Goals.newRequest s h x)
      ∧ (i.index < 65536)
      ∧ (0 < i.sub)
      ∧ (i.sub < 256)
      ∧ (objFind k = none))
  ∧ (let s : State := rst0
     let h : Hdr := hd
     let x : Session := sx
     let i : ReadItem := ⟨Key.almanacCmd / 256, Key.almanacCmd % 256, 0⟩
     let k : Nat := i.index * 256 + i.sub
     let o : Obj := ((objFind Key.almanacCmd).get rfl)
     let st : Status := .access
     (Goals.newRequest s h x)
      ∧ (i.index < 65536)
      ∧ (0 < i.sub)
      ∧ (i.sub < 256)
      ∧ (objFind k = some o)
      ∧ (dictGate s.core h.ctx k Right.r = st)
      ∧ (st ≠ Status.ok))
  ∧ (let s : State := rst0
     let h : Hdr := hd
     let x : Session := sx
     let i : ReadItem := ⟨Key.frameCount / 256, Key.frameCount % 256, 0⟩
     let n : Nat := ((objMaxSub (Key.frameCount / 256)).get rfl)
     (Goals.newRequest s h x)
      ∧ (i.index < 65536)
      ∧ (0 < i.sub)
      ∧ (i.sub < 256)
      ∧ (objMaxSub i.index = some n)
      ∧ (s.core.boot.rom = false)
      ∧ (tablePermits s.core.acc 138 (sessionMaster h.ctx) (i.index * 256) Right.r = true)) :=
  by refine ⟨?_, ?_, ?_, ?_, ?_⟩ <;> decide +kernel +zetaReduce

/-- Meets the hypotheses of `Goals.WritesStoreTheirItems`, clause by clause. -/
theorem meets_WritesStoreTheirItems :
    (let s : State := (hs 4 [] id)
     let h : Hdr := hd
     let x : Session := sx
     let i : WriteItem := (wi Key.jobSeed 5 (leBytes 8 99))
     let j : WriteItem := jN
     let k : Nat := i.index * 256 + i.sub
     let fits : Obj → Prop := fun o => i.typ = o.ty ∧ List.length i.value = o.size ∧ inObjRange s.fuse k (leNat i.value) = true
     let o : Obj := oJ
     (Goals.newRequest s h x)
      ∧ (i.index < 65536)
      ∧ (i.sub < 256)
      ∧ (j.index < 65536)
      ∧ (j.sub < 256)
      ∧ (objFind k = some o)
      ∧ (0 < i.sub)
      ∧ (ownRow.contains k = false)
      ∧ (dictGate s.core h.ctx k Right.w = Status.ok)
      ∧ (fits o)
      ∧ (writableNow s.core k = false))
  ∧ (let s : State := (hs 2 [] id)
     let h : Hdr := hd
     let x : Session := sx
     let i : WriteItem := (wi Key.jobSeed 5 (leBytes 7 99))
     let j : WriteItem := jN
     let k : Nat := i.index * 256 + i.sub
     let fits : Obj → Prop := fun o => i.typ = o.ty ∧ List.length i.value = o.size ∧ inObjRange s.fuse k (leNat i.value) = true
     let o : Obj := oJ
     (Goals.newRequest s h x)
      ∧ (i.index < 65536)
      ∧ (i.sub < 256)
      ∧ (j.index < 65536)
      ∧ (j.sub < 256)
      ∧ (objFind k = some o)
      ∧ (0 < i.sub)
      ∧ (ownRow.contains k = false)
      ∧ (dictGate s.core h.ctx k Right.w = Status.ok)
      ∧ (¬fits o))
  ∧ (let s : State := (hs 2 [] id)
     let h : Hdr := hd
     let x : Session := sx
     let i : WriteItem := (wi Key.frameCount 6 (leBytes 7 99))
     let j : WriteItem := jN
     let k : Nat := i.index * 256 + i.sub
     let o : Obj := ((objFind Key.frameCount).get rfl)
     (Goals.newRequest s h x)
      ∧ (i.index < 65536)
      ∧ (i.sub < 256)
      ∧ (j.index < 65536)
      ∧ (j.sub < 256)
      ∧ (objFind k = some o)
      ∧ (0 < i.sub)
      ∧ (ownRow.contains k = false)
      ∧ (o.acc = ObjAccess.ro ∨ o.acc = ObjAccess.rc)
      ∧ (s.core.boot.rom = false))
  ∧ (let s : State := (hs 2 [] id)
     let h : Hdr := hd
     let x : Session := sx
     let i : WriteItem := (wi Key.jobSeed 5 (leBytes 8 99))
     let j : WriteItem := jN
     let k : Nat := i.index * 256 + i.sub
     let fits : Obj → Prop := fun o => i.typ = o.ty ∧ List.length i.value = o.size ∧ inObjRange s.fuse k (leNat i.value) = true
     let o : Obj := oJ
     (Goals.newRequest s h x)
      ∧ (i.index < 65536)
      ∧ (i.sub < 256)
      ∧ (j.index < 65536)
      ∧ (j.sub < 256)
      ∧ (objFind k = some o)
      ∧ (0 < i.sub)
      ∧ (ownRow.contains k = false)
      ∧ (dictGate s.core h.ctx k Right.w = Status.ok)
      ∧ (fits o)
      ∧ (writableNow s.core k = true)
      ∧ (j.sub ≠ 0)
      ∧ (objFind (j.index * 256 + j.sub) = none)) :=
  by refine ⟨?_, ?_, ?_, ?_⟩ <;> decide +kernel +zetaReduce

/-- Meets the hypotheses of `Obligations.RequestsAreCarriedOutOnce`, clause by clause. -/
theorem meets_RequestsAreCarriedOutOnce :
    (let s : State := kp
     let i : Instr := (.readDict hd7 [])
     let h : Hdr := hd7
     let kept : State → Prop := fun t =>
          t.mem = s.mem ∧
            t.fuse = s.fuse ∧
              t.core.st = s.core.st ∧
                t.core.fl = s.core.fl ∧
                  t.core.alm = s.core.alm ∧ t.core.acc = s.core.acc ∧ t.core.clk = s.core.clk ∧ t.core.boot = s.core.boot
     let udp : Nat := if Goals.isBulk i = true then 50472 else 50471
     let x : Session := { sx with kept := [(7, some { typ := 0x20, status := 0, payload := [1,2] }), (6, none)] }
     let r : Resp := { typ := 0x20, status := 0, payload := [1,2] }
     (Runs s)
      ∧ (i.wellFormed = true)
      ∧ (i.header = some h)
      ∧ (∀ (tr seg : Nat) (d : Bytes), i ≠ Instr.bulkData h tr seg d)
      ∧ (∀ (tr m : Nat), i ≠ Instr.bulkAck h tr m)
      ∧ (i ≠ Instr.noteAck h)
      ∧ (h.udp = udp)
      ∧ (sessionOf s.core h.ctx = some x)
      ∧ (h.tagOk = true)
      ∧ (have d := (h.seq + 2 ^ 32 - x.h % 2 ^ 32) % 2 ^ 32;
        ¬(1 ≤ d ∧ d < 2 ^ 31))
      ∧ (List.find? (fun p => decide (p.1 = h.seq)) x.kept = some (h.seq, some r)))
  ∧ (let s : State := kp
     let i : Instr := (.portJoin hd7 3)
     let h : Hdr := hd7
     let kept : State → Prop := fun t =>
          t.mem = s.mem ∧
            t.fuse = s.fuse ∧
              t.core.st = s.core.st ∧
                t.core.fl = s.core.fl ∧
                  t.core.alm = s.core.alm ∧ t.core.acc = s.core.acc ∧ t.core.clk = s.core.clk ∧ t.core.boot = s.core.boot
     let udp : Nat := if Goals.isBulk i = true then 50472 else 50471
     let x : Session := { sx with kept := [(7, some { typ := 0x20, status := 0, payload := [1,2] }), (6, none)] }
     let r : Resp := { typ := 0x20, status := 0, payload := [1,2] }
     (Runs s)
      ∧ (i.wellFormed = true)
      ∧ (i.header = some h)
      ∧ (∀ (tr seg : Nat) (d : Bytes), i ≠ Instr.bulkData h tr seg d)
      ∧ (∀ (tr m : Nat), i ≠ Instr.bulkAck h tr m)
      ∧ (i ≠ Instr.noteAck h)
      ∧ (h.udp = udp)
      ∧ (sessionOf s.core h.ctx = some x)
      ∧ (h.tagOk = true)
      ∧ (have d := (h.seq + 2 ^ 32 - x.h % 2 ^ 32) % 2 ^ 32;
        ¬(1 ≤ d ∧ d < 2 ^ 31))
      ∧ (List.find? (fun p => decide (p.1 = h.seq)) x.kept = some (h.seq, some r)))
  ∧ (let s : State := kp
     let i : Instr := (.readDict hdB [])
     let h : Hdr := hdB
     let kept : State → Prop := fun t =>
          t.mem = s.mem ∧
            t.fuse = s.fuse ∧
              t.core.st = s.core.st ∧
                t.core.fl = s.core.fl ∧
                  t.core.alm = s.core.alm ∧ t.core.acc = s.core.acc ∧ t.core.clk = s.core.clk ∧ t.core.boot = s.core.boot
     let udp : Nat := if Goals.isBulk i = true then 50472 else 50471
     let x : Session := { sx with kept := [(7, some { typ := 0x20, status := 0, payload := [1,2] }), (6, none)] }
     (Runs s)
      ∧ (i.wellFormed = true)
      ∧ (i.header = some h)
      ∧ (∀ (tr seg : Nat) (d : Bytes), i ≠ Instr.bulkData h tr seg d)
      ∧ (∀ (tr m : Nat), i ≠ Instr.bulkAck h tr m)
      ∧ (i ≠ Instr.noteAck h)
      ∧ (h.udp = udp)
      ∧ (sessionOf s.core h.ctx = some x)
      ∧ (h.tagOk = false))
  ∧ (let s : State := kp
     let i : Instr := (.readDict hdN [])
     let h : Hdr := hdN
     let udp : Nat := if Goals.isBulk i = true then 50472 else 50471
     (Runs s)
      ∧ (i.wellFormed = true)
      ∧ (i.header = some h)
      ∧ (∀ (tr seg : Nat) (d : Bytes), i ≠ Instr.bulkData h tr seg d)
      ∧ (∀ (tr m : Nat), i ≠ Instr.bulkAck h tr m)
      ∧ (i ≠ Instr.noteAck h)
      ∧ (h.udp = udp)
      ∧ (sessionOf s.core h.ctx = none))
  ∧ (let s : State := kp
     let i : Instr := (.portJoin hdU 3)
     let h : Hdr := hdU
     let udp : Nat := if Goals.isBulk i = true then 50472 else 50471
     (Runs s)
      ∧ (i.wellFormed = true)
      ∧ (i.header = some h)
      ∧ (∀ (tr seg : Nat) (d : Bytes), i ≠ Instr.bulkData h tr seg d)
      ∧ (∀ (tr m : Nat), i ≠ Instr.bulkAck h tr m)
      ∧ (i ≠ Instr.noteAck h)
      ∧ (h.udp ≠ udp))
  ∧ (let s : State := kp
     let i : Instr := (.readDict hdV [])
     let h : Hdr := hdV
     let udp : Nat := if Goals.isBulk i = true then 50472 else 50471
     (Runs s)
      ∧ (i.wellFormed = true)
      ∧ (i.header = some h)
      ∧ (∀ (tr seg : Nat) (d : Bytes), i ≠ Instr.bulkData h tr seg d)
      ∧ (∀ (tr m : Nat), i ≠ Instr.bulkAck h tr m)
      ∧ (i ≠ Instr.noteAck h)
      ∧ (h.udp ≠ udp)) :=
  ⟨⟨by decide +kernel +zetaReduce, by decide +kernel +zetaReduce, by decide +kernel +zetaReduce, by intros; simp, by intros; simp, by decide +kernel +zetaReduce, by decide +kernel +zetaReduce, by decide +kernel +zetaReduce, by decide +kernel +zetaReduce, by decide +kernel +zetaReduce, by decide +kernel +zetaReduce⟩,
   ⟨by decide +kernel +zetaReduce, by decide +kernel +zetaReduce, by decide +kernel +zetaReduce, by intros; simp, by intros; simp, by decide +kernel +zetaReduce, by decide +kernel +zetaReduce, by decide +kernel +zetaReduce, by decide +kernel +zetaReduce, by decide +kernel +zetaReduce, by decide +kernel +zetaReduce⟩,
   ⟨by decide +kernel +zetaReduce, by decide +kernel +zetaReduce, by decide +kernel +zetaReduce, by intros; simp, by intros; simp, by decide +kernel +zetaReduce, by decide +kernel +zetaReduce, by decide +kernel +zetaReduce, by decide +kernel +zetaReduce⟩,
   ⟨by decide +kernel +zetaReduce, by decide +kernel +zetaReduce, by decide +kernel +zetaReduce, by intros; simp, by intros; simp, by decide +kernel +zetaReduce, by decide +kernel +zetaReduce, by decide +kernel +zetaReduce⟩,
   ⟨by decide +kernel +zetaReduce, by decide +kernel +zetaReduce, by decide +kernel +zetaReduce, by intros; simp, by intros; simp, by decide +kernel +zetaReduce, by decide +kernel +zetaReduce⟩,
   ⟨by decide +kernel +zetaReduce, by decide +kernel +zetaReduce, by decide +kernel +zetaReduce, by intros; simp, by intros; simp, by decide +kernel +zetaReduce, by decide +kernel +zetaReduce⟩⟩

end Sys2Proof.Meets14
end

