-- ==== Sys2Proof/Tests/Meets15.lean ====
section
/-! SUPPORT. Concrete states and operands that meet the hypotheses of the statements of Obligations.lean. -/

namespace Sys2Proof.Meets15
open Machine

set_option maxRecDepth 20000
set_option Elab.async false

def slot0 : OwnerSlot := { digest := [7], policy := 0, revoked := false }
def os (f : Core → Core) (l : Nat) (sl : List OwnerSlot) : State := let s := edit (on 2 []) f; { s with fuse := { s.fuse with slots := sl, lc := l } }
def om (s : State) : OpenMsg := { nonce := claimNonce s.core, hostNonce := 3, ek := [1], pk := [2], pkDigest := [7], sig := [3], sigOk := true, source := 44, udp := 50471 }
def o1 := os id 2 [slot0]
def o1b := os (hosted ∘ fun c => setCtx (setObj c Key.claimed 1) 0 { Ctx.reset with state := 1 }) 2 [slot0]
def o2 := os id 2 [{ slot0 with revoked := true }]
def o3 := os id 3 [slot0]
def o4 := os (fun c => { c with fab := { c.fab with ctxs := (List.range 4096).map fun i => (i, { Ctx.reset with state := 1 }) } }) 2 [slot0]
theorem tget_map {α : Type} (v : α) (l : List Nat) (k : Nat) (h : k ∈ l) : tget (l.map fun i => (i, v)) k = some v := by
  induction l with
  | nil => simp at h
  | cons a r ih =>
    by_cases e : a = k
    · simp [tget, e]
    · simpa [tget, e] using ih (by simpa [Ne.symm e] using h)
theorem o4_full : lowestFree o4.core = none := by
  have e : o4.core.fab.ctxs = (List.range 4096).map fun i => (i, { Ctx.reset with state := 1 }) := rfl
  unfold lowestFree
  rw [List.find?_eq_none]
  intro i hi
  simp [ctxOf, tgetD, e, tget_map _ _ _ hi]
def hsx (a : Nat) (x : Session) (f : Core → Core) : State := edit (on a []) fun c => setSession (hosted (f (setCtx c 5 { Ctx.reset with state := 1, kind := 1, master := 0x1005 }))) 5 x
def sm : Sem := { valid := true, poison := false, owner := 0, cap := 4, count := 2, cause := 0, pframe := 0 }
def nm : Nat := 1 * 2^12 + 77
def smS : State := hsx 4 sx fun c => opened [130] (setSem c 1 77 sm)
def flow0 : FlowDecl := { num := 4, peer := 6, issuers := [0x1005], routes := [[{ src := 0, port := 2, dst := 6, bound := 1 }]] }
def withFlow (c : Core) : Core := opened [141] { setCtx c 8 { Ctx.reset with state := 1, peerMod := 6, flow := 4 } with alm := { c.alm with image := some { plain with flows := [flow0] } } }
def nmR : Nat := 6 * 2^16 + 2^12 + 77
def msg0 (s : Status) : WatchMsg := { status := s, cause := 0, sem := 0x12345, cookie := 5, noWatch := false, localOrigin := true, handle := 3, count := 1, thresh := 1, frame := 8 }
def r0 (n : Nat) : Resp := { typ := 0x31, status := 0, payload := [BitVec.ofNat 8 n] }
def sxn : Session := { sx with noteNext := 4, notes := [(1, r0 1), (2, r0 2), (3, r0 3)] }
def bo (k i s a l sem d : Nat) : BulkOpen := { kind := k, segBytes := 512, index := i, sub := s, addr := a, length := l, sem := sem, delta := d, zeros := true }
def bs (a : Nat) (f : Core → Core) : State := { hsx a sx fun c => opened [128, 130] (f c) with mem := mwriteN [] 0x1000 (leBytes 16 0x1234567890ABCDEF) }
def kk := Key.scaleTable
def chkOR (k : Nat) (n : Nat) : Bool :=
  match exec (.bulkObjectRead hb (bo 4 (k/256) (k%256) 0 n 0 0)) (bs 4 id) with
  | .next t => match transferOf t.core 5 0 with
    | some y => decide (Goals.opened t hb sx (bo 4 (k/256) (k%256) 0 n 0 0) 0 0 y.data.length (min ((y.data.length + 511) / 512) 256) y.data) && decide (y.data.length ≤ n)
         && (k ≠ kk || y.data = (List.range (min n 655360)).map (shownScale (bs 4 id).core).byte)
    | none => false
  | _ => false
def tf (k : Nat) (f : Transfer → Transfer) : Transfer := f { kind := k, seg := 512, index := 0, sub := 0, addr := 2^60 + 0x1000, length := 1300, sem := 0, delta := 0, got := [0], sent := 0, unacked := 1, data := [] }
def sxb (y : Transfer) : Session := { sx with bulk := [(0, tf 2 id), (3, y)] }
def bss (a : Nat) (y : Transfer) (f : Core → Core) : State := { hsx a (sxb y) fun c => opened [128, 130] (f c) with mem := mwriteN [] 0x1000 (leBytes 16 0x1234567890ABCDEF) }
def fw0 : FwVerdict := { bodyOk := true, keyOk := true, eonelSigOk := true, ownerSigOk := true }
def full (k sem d : Nat) : Transfer := tf k fun y => { y with got := [0, 2, 1], sem := sem, delta := d }
def cont : Memory := mwriteN (mwriteN [] 0 (leBytes 4 0x57465A4B ++ leBytes 2 1)) 8 (leBytes 4 7 ++ leBytes 1 1 ++ leBytes 1 2)
def fwT : Transfer := { full 3 0 0 with length := 0x2400, seg := 8192, got := [0, 1] }
def fwS (v : Memory) : State := bss 0 fwT fun c => setObj { c with boot := { c.boot with rom := true }, host := { c.host with loadBuf := v } } Key.wipeStatus 1

/-- Meets the hypotheses of `Goals.OpensBySomeRule`, clause by clause. -/
theorem meets_OpensBySomeRule :
    (let s : State := o1
     let p : Nat := 1
     let m : OpenMsg := (om o1)
     let owner : Option OwnerSlot := enrolled s.fuse
     let lc : Prop := s.fuse.lc = 1 ∨ s.fuse.lc = 2
     let fresh : Prop := m.nonce = claimNonce s.core
     let o : OwnerSlot := slot0
     let ctx : Nat := 0
     (Runs s)
      ∧ (p < 3)
      ∧ (m.udp = 50471)
      ∧ (owner = some o)
      ∧ (lc)
      ∧ (fresh)
      ∧ (m.pkDigest = o.digest)
      ∧ (m.sigOk = true)
      ∧ (lowestFree s.core = some ctx))
  ∧ (let s : State := o1
     let p : Nat := 1
     let m : OpenMsg := { om o1 with udp := 50472 }
     (Runs s)
      ∧ (p < 3)
      ∧ (m.udp ≠ 50471))
  ∧ (let s : State := o2
     let p : Nat := 1
     let m : OpenMsg := (om o2)
     let owner : Option OwnerSlot := enrolled s.fuse
     let lc : Prop := s.fuse.lc = 1 ∨ s.fuse.lc = 2
     (Runs s)
      ∧ (p < 3)
      ∧ (m.udp = 50471)
      ∧ (owner = none ∨ ¬lc))
  ∧ (let s : State := o1
     let p : Nat := 1
     let m : OpenMsg := { om o1 with nonce := claimNonce o1.core + 1 }
     let owner : Option OwnerSlot := enrolled s.fuse
     let lc : Prop := s.fuse.lc = 1 ∨ s.fuse.lc = 2
     let fresh : Prop := m.nonce = claimNonce s.core
     let o : OwnerSlot := slot0
     (Runs s)
      ∧ (p < 3)
      ∧ (m.udp = 50471)
      ∧ (owner = some o)
      ∧ (lc)
      ∧ (¬fresh))
  ∧ (let s : State := o1
     let p : Nat := 1
     let m : OpenMsg := { om o1 with pkDigest := [6] }
     let owner : Option OwnerSlot := enrolled s.fuse
     let lc : Prop := s.fuse.lc = 1 ∨ s.fuse.lc = 2
     let fresh : Prop := m.nonce = claimNonce s.core
     let o : OwnerSlot := slot0
     (Runs s)
      ∧ (p < 3)
      ∧ (m.udp = 50471)
      ∧ (owner = some o)
      ∧ (lc)
      ∧ (fresh)
      ∧ (m.pkDigest ≠ o.digest ∨ m.sigOk = false))
  ∧ (let s : State := o4
     let p : Nat := 1
     let m : OpenMsg := (om o4)
     let owner : Option OwnerSlot := enrolled s.fuse
     let lc : Prop := s.fuse.lc = 1 ∨ s.fuse.lc = 2
     let fresh : Prop := m.nonce = claimNonce s.core
     let o : OwnerSlot := slot0
     (Runs s)
      ∧ (p < 3)
      ∧ (m.udp = 50471)
      ∧ (owner = some o)
      ∧ (lc)
      ∧ (fresh)
      ∧ (m.pkDigest = o.digest)
      ∧ (m.sigOk = true)
      ∧ (lowestFree s.core = none)) :=
  ⟨⟨by decide +kernel +zetaReduce, by decide +kernel +zetaReduce, by decide +kernel +zetaReduce, by decide +kernel +zetaReduce, by decide +kernel +zetaReduce, by rfl, by decide +kernel +zetaReduce, by decide +kernel +zetaReduce, by decide +kernel +zetaReduce⟩,
   ⟨by decide +kernel +zetaReduce, by decide +kernel +zetaReduce, by decide +kernel +zetaReduce⟩,
   ⟨by decide +kernel +zetaReduce, by decide +kernel +zetaReduce, by decide +kernel +zetaReduce, by decide +kernel +zetaReduce⟩,
   ⟨by decide +kernel +zetaReduce, by decide +kernel +zetaReduce, by decide +kernel +zetaReduce, by decide +kernel +zetaReduce, by decide +kernel +zetaReduce, Nat.succ_ne_self _⟩,
   ⟨by decide +kernel +zetaReduce, by decide +kernel +zetaReduce, by decide +kernel +zetaReduce, by decide +kernel +zetaReduce, by decide +kernel +zetaReduce, by rfl, by decide +kernel +zetaReduce⟩,
   ⟨by decide +kernel +zetaReduce, by decide +kernel +zetaReduce, by decide +kernel +zetaReduce, by decide +kernel +zetaReduce, by decide +kernel +zetaReduce, by rfl, by decide +kernel +zetaReduce, by decide +kernel +zetaReduce, o4_full⟩⟩

/-- Meets the hypotheses of `Goals.SessionsLiveAndEnd`, clause by clause. -/
theorem meets_SessionsLiveAndEnd :
    (let s : State := (hsx 2 sx id)
     let h : Hdr := hd
     let x : Session := sx
     let mask : Nat := 7
     (Goals.newRequest s h x)
      ∧ (mask < 16))
  ∧ (let s : State := (edit (hsx 2 sx id) fun c => setObj c Key.uptimeTicks 3000000000)
     let ctx : Nat := 5
     let y : Session := sx
     (Runs s)
      ∧ (ctx < 4096)
      ∧ (sessionOf s.core ctx = some y)
      ∧ (y.heard + 100000 * obj s.core Key.sessionTimeout ≤ obj s.core Key.uptimeTicks))
  ∧ (let s : State := (edit (hsx 2 sx id) fun c => setObj c Key.uptimeTicks 2999999999)
     let ctx : Nat := 5
     let y : Session := sx
     (Runs s)
      ∧ (ctx < 4096)
      ∧ (sessionOf s.core ctx = some y)
      ∧ (obj s.core Key.uptimeTicks < y.heard + 100000 * obj s.core Key.sessionTimeout)) :=
  by refine ⟨?_, ?_, ?_⟩ <;> decide +kernel +zetaReduce

/-- Meets the hypotheses of `Goals.SessionsOperateSemaphores`, clause by clause. -/
theorem meets_SessionsOperateSemaphores :
    (let s : State := smS
     let h : Hdr := hd
     let x : Session := sx
     let name : Nat := nm
     let n : Nat := 2
     let e : Sem := sm
     (Goals.newRequest s h x)
      ∧ (Goals.quietSem s h name SyncKind.add e)
      ∧ (0 < n)
      ∧ (e.count + n ≤ e.cap)
      ∧ (n ≤ 65535))
  ∧ (let s : State := smS
     let h : Hdr := hd
     let x : Session := sx
     let name : Nat := nm
     let n : Nat := 2
     let e : Sem := sm
     (Goals.newRequest s h x)
      ∧ (Goals.quietSem s h name SyncKind.sub e)
      ∧ (0 < n)
      ∧ (n ≤ e.count)
      ∧ (n ≤ 65535))
  ∧ (let s : State := smS
     let h : Hdr := hd
     let x : Session := sx
     let name : Nat := nm
     let n : Nat := 2
     let e : Sem := sm
     (Goals.newRequest s h x)
      ∧ (Goals.quietSem s h name SyncKind.tak e)
      ∧ (0 < n)
      ∧ (n ≤ e.cap)
      ∧ (n ≤ e.count))
  ∧ (let s : State := smS
     let h : Hdr := hd
     let x : Session := sx
     let name : Nat := nm
     let n : Nat := 4
     let e : Sem := sm
     (Goals.newRequest s h x)
      ∧ (Goals.quietSem s h name SyncKind.tak e)
      ∧ (0 < n)
      ∧ (n ≤ e.cap)
      ∧ (e.count < n))
  ∧ (let s : State := smS
     let h : Hdr := hd
     let x : Session := sx
     let name : Nat := nm
     let n : Nat := 4
     let e : Sem := sm
     let f : Nat := bits name 12 3
     let w : Nat := 0
     (Goals.newRequest s h x)
      ∧ (Goals.quietSem s h name SyncKind.wat e)
      ∧ (0 < n)
      ∧ (n ≤ e.cap)
      ∧ (e.count < n)
      ∧ (watchLoad s.core h.ctx < 1024)
      ∧ (freeWatch (syncU s.core f) (4096 + h.ctx) = some w))
  ∧ (let s : State := smS
     let h : Hdr := hd
     let x : Session := sx
     let name : Nat := (nm+2^15)
     let n : Nat := 4
     let cookie : Nat := 9
     let i : Instr := (.syncTak hd (nm + 2^15) 4)
     (Goals.newRequest s h x)
      ∧ (i ∈ [Instr.syncSigAdd h name n, Instr.syncSigSub h name n, Instr.syncTak h name n, Instr.syncWat h name n cookie])
      ∧ (nameOk name = false))
  ∧ (let s : State := (edit smS withFlow)
     let h : Hdr := hd
     let x : Session := sx
     let name : Nat := nmR
     let n : Nat := 2
     let k : Nat := bits name 0 12
     let i : Instr := (.syncTak hd nmR 2)
     let k : SyncKind := .tak
     let away : Nat := bits name 16 12
     let j : Nat := 8
     (Goals.newRequest s h x)
      ∧ ((i, k) ∈
          [(Instr.syncSigAdd h name n, SyncKind.add), (Instr.syncSigSub h name n, SyncKind.sub),
            (Instr.syncTak h name n, SyncKind.tak)])
      ∧ (nameOk name = true)
      ∧ (away ≠ ownMod s.core)
      ∧ (running s.core = true)
      ∧ (hostFlow s.core away = some j)
      ∧ (j ≠ h.ctx)
      ∧ ((ctxOf s.core j).state ≠ 3)
      ∧ (tablePermits s.core.acc (portTarget s.core (egressPort s.core j)) (4096 + h.ctx) away k.right = true)) :=
  by refine ⟨?_, ?_, ?_, ?_, ?_, ?_, ?_⟩ <;> decide +kernel +zetaReduce

/-- Meets the hypotheses of `Goals.NotificationsAreKept`, clause by clause. -/
theorem meets_NotificationsAreKept :
    (let s : State := (hsx 4 sxn fun c => { c with net := [.watch 0x1005 3 (msg0 .ok)] })
     let ctx : Nat := 5
     let x : Session := sxn
     let u : Nat := 0x1005
     let i : Nat := 3
     let m : WatchMsg := (msg0 .ok)
     (Runs s)
      ∧ (ctx < 4096)
      ∧ (sessionOf s.core ctx = some x)
      ∧ (List.find? (isWatchFor (4096 + ctx)) s.core.net = some (NetMsg.watch u i m)))
  ∧ (let s : State := (hsx 4 sxn id)
     let ctx : Nat := 5
     let x : Session := sxn
     let h : Hdr := { hd with seq := 2 }
     (Runs s)
      ∧ (ctx < 4096)
      ∧ (sessionOf s.core ctx = some x)
      ∧ (h.ctx = ctx)
      ∧ (h.port < 3)
      ∧ (h.udp = 50471)
      ∧ (h.tagOk = true)) :=
  by refine ⟨?_, ?_⟩ <;> decide +kernel +zetaReduce

/-- Meets the hypotheses of `Goals.BulkTransfersOpen`, clause by clause. -/
theorem meets_BulkTransfersOpen :
    (let s : State := (bs 4 id)
     let h : Hdr := hb
     let x : Session := sx
     let o : BulkOpen := (bo 0 0 0 (2^60+0x1000) 700 nm 1)
     let tr : Nat := 0
     let a : Nat := (2^60+0x1000)
     (Goals.newBulk s h x)
      ∧ (freeTransfer s.core h.ctx = some tr)
      ∧ (openFields o 0 = true)
      ∧ (bulkRange s.core o true = some a)
      ∧ (refusedAt s.core.acc (4096 + h.ctx) (gaOff a) o.length Right.w = none)
      ∧ (memRefused s.core a o.length true = false))
  ∧ (let s : State := (bs 4 id)
     let h : Hdr := hb
     let x : Session := sx
     let o : BulkOpen := (bo 1 0 0 (2^60+0x1000) 100 0 0)
     let tr : Nat := 0
     let a : Nat := (2^60+0x1000)
     (Goals.newBulk s h x)
      ∧ (freeTransfer s.core h.ctx = some tr)
      ∧ (openFields o 1 = true)
      ∧ (bulkRange s.core o false = some a)
      ∧ (refusedAt s.core.acc (4096 + h.ctx) (gaOff a) o.length Right.r = none)
      ∧ (memRefused s.core a o.length false = false)
      ∧ (o.length ≤ o.segBytes)
      ∧ (inHbm (gaOff a + (o.length - 1)) = true)
      ∧ (gatedIn s.core (gaOff a) o.length = none)
      ∧ (∀ i < o.length, gatedAt s.core (gaOff a + i) = false)
      ∧ (eccBad s.core [gaOff a] o.length = none))
  ∧ (let s : State := (bs 4 id)
     let h : Hdr := hb
     let x : Session := sx
     let o : BulkOpen := (bo 2 0 0 0 100 0 0)
     let tr : Nat := 0
     (Goals.newBulk s h x)
      ∧ (freeTransfer s.core h.ctx = some tr)
      ∧ (openFields o 2 = true)
      ∧ (o.length ≤ 2 ^ 28)
      ∧ (s.core.boot.rom = false)
      ∧ (almState s.core ≠ 1))
  ∧ (let s : State := (bs 0 fun c => setObj { c with boot := { c.boot with rom := true } } Key.wipeStatus 1)
     let h : Hdr := hb
     let x : Session := sx
     let o : BulkOpen := (bo 3 0 0 0 100 0 0)
     let tr : Nat := 0
     (Goals.newBulk s h x)
      ∧ (freeTransfer s.core h.ctx = some tr)
      ∧ (openFields o 3 = true)
      ∧ (o.length ≤ 2 ^ 26)
      ∧ (s.core.boot.rom = true)
      ∧ (obj s.core Key.wipeStatus = 1)
      ∧ (s.core.boot.verified = none))
  ∧ (let s : State := (bs 4 id)
     let h : Hdr := hb
     let x : Session := sx
     let o : BulkOpen := (bo 4 (kk/256) (kk%256) 0 1000 0 0)
     let tr : Nat := 0
     let y : Obj := ((objFind kk).get rfl)
     (Goals.newBulk s h x)
      ∧ (freeTransfer s.core h.ctx = some tr)
      ∧ (openFields o 4 = true)
      ∧ (o.index < 65536)
      ∧ (o.sub < 256)
      ∧ (objectReads s.core + (List.filter (fun q => decide (q.2.kind = 4)) x.bulk).length < 4)
      ∧ (objFind (o.index * 256 + o.sub) = some y)
      ∧ (y.ty = 9)
      ∧ (dictGate s.core h.ctx (o.index * 256 + o.sub) Right.r = Status.ok)
      ∧ (o.index * 256 + o.sub ≠ Key.attestReport))
  ∧ (let s : State := (bs 4 id)
     let h : Hdr := hb
     let x : Session := sx
     let o : BulkOpen := (bo 4 (kk/256) (kk%256) 0 1000 5 0)
     let tr : Nat := 0
     let row : Instr × Nat := (.bulkObjectRead hb (bo 4 (kk/256) (kk%256) 0 1000 5 0), 4)
     (Goals.newBulk s h x)
      ∧ (freeTransfer s.core h.ctx = some tr)
      ∧ (row ∈
          [(Instr.bulkWriteMem h o, 0), (Instr.bulkReadMem h o, 1), (Instr.bulkLoadBuffer h o, 2),
            (Instr.bulkFirmware h o, 3), (Instr.bulkObjectRead h o, 4)])
      ∧ (openFields o row.2 = false))
  ∧ (let s : State := (bs 4 id)
     let h : Hdr := hb
     let x : Session := sx
     let o : BulkOpen := (bo 1 (kk/256) (kk%256) 0 1000 0 0)
     let tr : Nat := 0
     let row : Instr × Nat := (.bulkWriteMem hb (bo 1 (kk/256) (kk%256) 0 1000 0 0), 0)
     (Goals.newBulk s h x)
      ∧ (freeTransfer s.core h.ctx = some tr)
      ∧ (row ∈
          [(Instr.bulkWriteMem h o, 0), (Instr.bulkReadMem h o, 1), (Instr.bulkLoadBuffer h o, 2),
            (Instr.bulkFirmware h o, 3), (Instr.bulkObjectRead h o, 4)])
      ∧ (openFields o row.2 = false)) :=
  by refine ⟨?_, ?_, ?_, ?_, ?_, ?_, ?_⟩ <;> decide +kernel +zetaReduce

/-- Meets the hypotheses of `Goals.BulkSegmentsMove`, clause by clause. -/
theorem meets_BulkSegmentsMove :
    (let s : State := (bss 4 (tf 2 id) id)
     let h : Hdr := hb
     let x : Session := (sxb (tf 2 id))
     let tr : Nat := 3
     let seg : Nat := 2
     let data : Bytes := (leBytes 276 77777)
     let y : Transfer := (tf 2 id)
     (Runs s)
      ∧ (h.port < 3)
      ∧ (h.udp = 50472)
      ∧ (tr < 16)
      ∧ (h.ctx < 4096)
      ∧ (sessionOf s.core h.ctx = some x)
      ∧ (h.tagOk = true)
      ∧ (tget x.bulk tr = some y)
      ∧ (y.kind = 2)
      ∧ (takesSeg y seg data = true)
      ∧ (y.unacked < 31))
  ∧ (let s : State := (bss 4 (tf 0 id) id)
     let h : Hdr := hb
     let x : Session := (sxb (tf 0 id))
     let tr : Nat := 3
     let seg : Nat := 1
     let data : Bytes := (leBytes 512 77777)
     let y : Transfer := (tf 0 id)
     let a : Nat := gaOff y.addr + seg * y.seg
     (Runs s)
      ∧ (h.port < 3)
      ∧ (h.udp = 50472)
      ∧ (tr < 16)
      ∧ (h.ctx < 4096)
      ∧ (sessionOf s.core h.ctx = some x)
      ∧ (h.tagOk = true)
      ∧ (tget x.bulk tr = some y)
      ∧ (y.kind = 0)
      ∧ (takesSeg y seg data = true)
      ∧ (y.unacked < 31)
      ∧ (inHbm a = true)
      ∧ (gatedIn s.core a (List.length data) = none)
      ∧ (refusalOf s.core (4096 + h.ctx) a (List.length data) Right.w = none))
  ∧ (let s : State := (bss 4 (tf 0 id) id)
     let h : Hdr := hb
     let x : Session := (sxb (tf 0 id))
     let tr : Nat := 3
     let seg : Nat := 0
     let y : Transfer := (tf 0 id)
     (Runs s)
      ∧ (h.port < 3)
      ∧ (h.udp = 50472)
      ∧ (tr < 16)
      ∧ (h.ctx < 4096)
      ∧ (sessionOf s.core h.ctx = some x)
      ∧ (h.tagOk = true)
      ∧ (tget x.bulk tr = some y)
      ∧ (seg ∈ y.got))
  ∧ (let s : State := (bss 4 (tf 4 fun y => { y with sent := 3, data := leBytes 1300 99 }) id)
     let h : Hdr := hb
     let x : Session := (sxb (tf 4 fun y => { y with sent := 3, data := leBytes 1300 99 }))
     let tr : Nat := 3
     let data : Bytes := []
     let y : Transfer := (tf 4 fun y => { y with sent := 3, data := leBytes 1300 99 })
     (Runs s)
      ∧ (h.port < 3)
      ∧ (h.udp = 50472)
      ∧ (tr < 16)
      ∧ (h.ctx < 4096)
      ∧ (sessionOf s.core h.ctx = some x)
      ∧ (h.tagOk = true)
      ∧ (tget x.bulk tr = some y)
      ∧ (y.kind = 4)
      ∧ (y.sent = segCount y))
  ∧ (let s : State := (bss 4 (tf 0 id) id)
     let h : Hdr := hb
     let x : Session := (sxb (tf 0 id))
     let tr : Nat := 3
     let y : Transfer := (tf 0 id)
     (Runs s)
      ∧ (h.port < 3)
      ∧ (h.udp = 50472)
      ∧ (tr < 16)
      ∧ (h.ctx < 4096)
      ∧ (sessionOf s.core h.ctx = some x)
      ∧ (h.tagOk = true)
      ∧ (tget x.bulk tr = some y)
      ∧ (sends y = false)
      ∧ (0 < y.unacked))
  ∧ (let s : State := (bss 4 (tf 4 fun y => { y with sent := 3, data := leBytes 1300 99 }) id)
     let h : Hdr := hb
     let x : Session := (sxb (tf 4 fun y => { y with sent := 3, data := leBytes 1300 99 }))
     let tr : Nat := 3
     let seg : Nat := 2
     let data : Bytes := []
     let y : Transfer := (tf 4 fun y => { y with sent := 3, data := leBytes 1300 99 })
     (Runs s)
      ∧ (h.port < 3)
      ∧ (h.udp = 50472)
      ∧ (tr < 16)
      ∧ (h.ctx < 4096)
      ∧ (sessionOf s.core h.ctx = some x)
      ∧ (h.tagOk = true)
      ∧ (tget x.bulk tr = some y)
      ∧ (y.kind = 4)
      ∧ (seg < y.sent)
      ∧ (seg ∉ y.got)) :=
  by refine ⟨?_, ?_, ?_, ?_, ?_, ?_⟩ <;> decide +kernel +zetaReduce

/-- Meets the hypotheses of `Goals.BulkTransfersEnd`, clause by clause. -/
theorem meets_BulkTransfersEnd :
    (let s : State := (bss 4 (tf 0 id) id)
     let h : Hdr := hb
     let x : Session := (sxb (tf 0 id))
     let tr : Nat := 3
     let y : Transfer := (tf 0 id)
     (Goals.newBulk s h x)
      ∧ (tr < 16)
      ∧ (tget x.bulk tr = some y)
      ∧ (whole y = false))
  ∧ (let s : State := (bss 4 (full 0 0 0) id)
     let h : Hdr := hb
     let x : Session := (sxb (full 0 0 0))
     let tr : Nat := 3
     let y : Transfer := (full 0 0 0)
     (Goals.newBulk s h x)
      ∧ (tr < 16)
      ∧ (tget x.bulk tr = some y)
      ∧ (whole y = true)
      ∧ (y.kind = 1 ∨ y.kind = 2 ∨ y.kind = 4 ∨ y.kind = 0 ∧ y.sem = 0))
  ∧ (let s : State := (bss 4 (full 4 0 0) id)
     let h : Hdr := hb
     let x : Session := (sxb (full 4 0 0))
     let tr : Nat := 3
     let y : Transfer := (full 4 0 0)
     (Goals.newBulk s h x)
      ∧ (tr < 16)
      ∧ (tget x.bulk tr = some y)
      ∧ (whole y = true)
      ∧ (y.kind = 1 ∨ y.kind = 2 ∨ y.kind = 4 ∨ y.kind = 0 ∧ y.sem = 0))
  ∧ (let s : State := (bss 4 (full 0 nm 2) fun c => setSem c 1 77 sm)
     let h : Hdr := hb
     let x : Session := (sxb (full 0 nm 2))
     let tr : Nat := 3
     let y : Transfer := (full 0 nm 2)
     let e : Sem := sm
     (Goals.newBulk s h x)
      ∧ (tr < 16)
      ∧ (tget x.bulk tr = some y)
      ∧ (whole y = true)
      ∧ (y.kind = 0)
      ∧ (Goals.quietSem s h y.sem SyncKind.add e)
      ∧ (y.sem ≠ 0)
      ∧ (0 < y.delta)
      ∧ (y.delta ≤ 65535)
      ∧ (e.count + y.delta ≤ e.cap))
  ∧ (let s : State := (fwS cont)
     let h : Hdr := hb
     let x : Session := (sxb fwT)
     let tr : Nat := 3
     let y : Transfer := fwT
     let fw : FwVerdict := fw0
     (Goals.newBulk s h x)
      ∧ (tr < 16)
      ∧ (tget x.bulk tr = some y)
      ∧ (whole y = true)
      ∧ (y.kind = 3)
      ∧ (fwVerify s.fuse s.core y.length fw = Status.ok))
  ∧ (let s : State := (fwS cont)
     let h : Hdr := hb
     let x : Session := (sxb fwT)
     let tr : Nat := 3
     let y : Transfer := fwT
     let fw : FwVerdict := { fw0 with bodyOk := false }
     let st : Status := .integrity
     (Goals.newBulk s h x)
      ∧ (tr < 16)
      ∧ (tget x.bulk tr = some y)
      ∧ (whole y = true)
      ∧ (y.kind = 3)
      ∧ (fwVerify s.fuse s.core y.length fw = st)
      ∧ (st ≠ Status.ok))
  ∧ (let s : State := (fwS [])
     let h : Hdr := hb
     let x : Session := (sxb fwT)
     let tr : Nat := 3
     let y : Transfer := fwT
     let fw : FwVerdict := { fw0 with bodyOk := false }
     let st : Status := .range
     (Goals.newBulk s h x)
      ∧ (tr < 16)
      ∧ (tget x.bulk tr = some y)
      ∧ (whole y = true)
      ∧ (y.kind = 3)
      ∧ (fwVerify s.fuse s.core y.length fw = st)
      ∧ (st ≠ Status.ok)) :=
  by refine ⟨?_, ?_, ?_, ?_, ?_, ?_, ?_⟩ <;> decide +kernel +zetaReduce

end Sys2Proof.Meets15
end

