-- ==== Sys2Proof/Tests/Meets16.lean ====
section
/-! SUPPORT. Concrete states and operands that meet the hypotheses of the statements of Obligations.lean. -/

namespace Sys2Proof.Meets16
open Machine

set_option maxRecDepth 20000
set_option Elab.async false

def es (objs : List (Nat × Nat)) (f : Core → Core) : State := edit (on 2 objs) fun c => hosted (f c)
def l1 := es [(Key.port 1 2, 1)] fun c => { c with host := { c.host with eth := [(1, { pfx := some 5, ip4 := 0x0A000001, peer := none, frags := [(7, 16000), (9, 5)] })] } }
def l2 := edit l1 fun c => setObj c (Key.port 1 6) 1
def ps (f : Power → Power) (a : Nat) (objs : List (Nat × Nat)) : State := edit (on a objs) fun c => { c with power := f c.power }
def tmp (x : Int) : List Int := (List.replicate 41 (50000 : Int)).set 3 x
def pw (hi : Nat) (th : Nat) (m : Nat) : State := ps (fun p => { p with hist := List.replicate 15 hi, sinceChange := 15 }) 4 [(Key.thermalCap, th), (Key.opMult, m), (Key.multRange, 0x1208), (Key.targetMult, 18), (Key.frameCount, 9)]
def chkPE (s : State) (mv ma : Nat) (temps : List Int) : List Bool :=
    let hot := temps.zipIdx.any fun p => (thresholds p.2).1 ≤ p.1
    let cool := temps.zipIdx.all fun p => p.1 < (thresholds p.2).2.1
    let hist := (mv * ma / 1000 :: s.core.power.hist).take 16
    match exec (.powerEvaluation mv ma temps) s with
    | .next t =>
      let o := fun (k : Nat) => obj t.core k
      let caps := [o Key.powerCap, o Key.voltageCap, o Key.coolantCap, o Key.thermalCap]
      let m := obj s.core Key.opMult
      [!hot || o Key.thermalCap = max 1500 (obj s.core Key.thermalCap - 100),
       hot || !cool || o Key.thermalCap = min 4500 (obj s.core Key.thermalCap + 100),
       hot || cool || o Key.thermalCap = obj s.core Key.thermalCap,
       (List.range 4).all fun k => o Key.capInForce ≤ min 4500 (caps.getD k 0) && (!(caps.getD k 0 ≤ 4500 ∧ caps.getD k 0 = o Key.capInForce) || o Key.capSource ≤ k),
       o Key.inputMv = mv ∧ o Key.inputMa = ma ∧ o Key.inputPower = min 65535 (hist.sum / hist.length / 1000) ∧ t.core.power.hist = hist ∧ t.mem = s.mem ∧ t.core.st = s.core.st ∧ o Key.powerCap = obj s.core Key.powerCap,
       !(s.core.clk.queued = none ∧ s.core.clk.direct = none ∧ 15 ≤ s.core.power.sinceChange ∧ running s.core = true) ||
         ((!(o Key.capInForce * 1000 * hist.length < hist.sum ∧ multFloor s.core < m) || (t.core.clk.queued = some { mult := m - 1, frame := obj s.core Key.frameCount + 4, origin := 2 } ∧ tgetD t.core.ev.counts 0x0301 0 = 1))
         && (!(hist.sum ≤ o Key.capInForce * 1000 * hist.length ∧
              hist.sum * (m + 1) ≤ (o Key.capInForce - 50) * 1000 * hist.length * m ∧ m < powerCeil s.core) || (t.core.clk.queued = some { mult := m + 1, frame := obj s.core Key.frameCount + 4, origin := 2 } ∧ t.core.ev = s.core.ev))),
       !(s.core.clk.queued ≠ none ∨ s.core.clk.direct ≠ none ∨ s.core.power.sinceChange + 1 < 16) || (t.core.clk = s.core.clk ∧ t.core.ev = s.core.ev)]
    | _ => [false]
def cm (f : Power → Power) : State := ps f 4 []

/-- Meets the hypotheses of `Goals.EthernetLinks`, clause by clause. -/
theorem meets_EthernetLinks :
    (let s : State := (es [(Key.port 0 2, 1), (Key.port 0 3, 100)] id)
     let p : Nat := 0
     let up : Nat := obj s.core (Key.port p 2)
     (Runs s)
      ∧ (p < 3)
      ∧ (up = 1))
  ∧ (let s : State := (es [] id)
     let p : Nat := 0
     let up : Nat := obj s.core (Key.port p 2)
     (Runs s)
      ∧ (p < 3)
      ∧ (up ≠ 1))
  ∧ (let s : State := (es [] id)
     let p : Nat := 0
     let v : Nat := 200
     let allowed : Prop := if p = 2 then v = 1
        else bit (obj s.core Key.gateHostports) p = true ∧ ∃ i < 3, v = 100 * 2 ^ i ∧ bit (obj s.core (Key.port p 1)) i = true
     (Runs s)
      ∧ (p < 3)
      ∧ (allowed))
  ∧ (let s : State := (es [] id)
     let p : Nat := 2
     let v : Nat := 1
     let allowed : Prop := if p = 2 then v = 1
        else bit (obj s.core Key.gateHostports) p = true ∧ ∃ i < 3, v = 100 * 2 ^ i ∧ bit (obj s.core (Key.port p 1)) i = true
     (Runs s)
      ∧ (p < 3)
      ∧ (allowed))
  ∧ (let s : State := (es [] id)
     let p : Nat := 2
     let v : Nat := 100
     let allowed : Prop := if p = 2 then v = 1
        else bit (obj s.core Key.gateHostports) p = true ∧ ∃ i < 3, v = 100 * 2 ^ i ∧ bit (obj s.core (Key.port p 1)) i = true
     (Runs s)
      ∧ (p < 3)
      ∧ (¬allowed)) :=
  by refine ⟨?_, ?_, ?_, ?_, ?_⟩ <;> decide +kernel +zetaReduce

/-- Meets the hypotheses of `Goals.PortSettingsTakeLinksDown`, clause by clause. -/
theorem meets_PortSettingsTakeLinksDown :
    (let s : State := (es [(Key.port 1 2, 1), (Key.port 1 3, 400)] id)
     let h : Hdr := hd
     let x : Session := sx
     let p : Nat := 1
     let v : Nat := 3
     (p < 3)
      ∧ (Goals.writes s h x (Key.port p 1))
      ∧ (0 < v)
      ∧ (v < 16))
  ∧ (let s : State := (es [(Key.port 1 2, 1), (Key.port 1 3, 100), (Key.port 1 1, 3)] id)
     let h : Hdr := hd
     let x : Session := sx
     let p : Nat := 1
     let v : Nat := 7
     (p < 3)
      ∧ (Goals.writes s h x (Key.port p 1))
      ∧ (0 < v)
      ∧ (v < 16))
  ∧ (let s : State := (es [(Key.port 1 2, 1), (Key.port 1 3, 100), (Key.port 1 1, 3)] id)
     let h : Hdr := hd
     let x : Session := sx
     let p : Nat := 1
     let v : Nat := 16
     (p < 3)
      ∧ (Goals.writes s h x (Key.port p 1))
      ∧ (v = 0 ∨ 16 ≤ v))
  ∧ (let s : State := (es [(Key.port 1 2, 1), (Key.port 1 3, 100), (Key.port 1 1, 3)] id)
     let h : Hdr := hd
     let x : Session := sx
     let p : Nat := 1
     let v : Nat := 16
     (p < 3)
      ∧ (Goals.writes s h x (Key.port p 8))
      ∧ (v < 4095))
  ∧ (let s : State := (es [(Key.port 2 2, 1), (Key.port 2 3, 1), (Key.port 2 8, 16)] id)
     let h : Hdr := hd
     let x : Session := sx
     let p : Nat := 2
     let v : Nat := 16
     (p < 3)
      ∧ (Goals.writes s h x (Key.port p 8))
      ∧ (v < 4095))
  ∧ (let s : State := (es [(Key.port 1 2, 1), (Key.port 1 3, 100), (Key.port 1 1, 3)] id)
     let h : Hdr := hd
     let x : Session := sx
     let p : Nat := 1
     let v : Nat := 4095
     (p < 3)
      ∧ (Goals.writes s h x (Key.port p 8))
      ∧ (4095 ≤ v)) :=
  by refine ⟨?_, ?_, ?_, ?_, ?_, ?_⟩ <;> decide +kernel +zetaReduce

/-- Meets the hypotheses of `Goals.DiscoveryAnswers`, clause by clause. -/
theorem meets_DiscoveryAnswers :
    (let s : State := l1
     let p : Nat := 1
     (Runs s)
      ∧ (p < 3)
      ∧ (obj s.core (Key.port p 2) = 1))
  ∧ (let s : State := (es [] id)
     let p : Nat := 1
     (Runs s)
      ∧ (p < 3)
      ∧ (obj s.core (Key.port p 2) ≠ 1))
  ∧ (let s : State := l1
     let p : Nat := 1
     (Runs s)
      ∧ (p < 3)
      ∧ (obj s.core (Key.port p 2) = 1))
  ∧ (let s : State := l1
     let p : Nat := 1
     let ser : Option Bytes := none
     (Runs s)
      ∧ (p < 3)
      ∧ (ser = none ∨ ser = some s.fuse.serial))
  ∧ (let s : State := l1
     let p : Nat := 1
     let ser : Option Bytes := (some l1.fuse.serial)
     (Runs s)
      ∧ (p < 3)
      ∧ (ser = none ∨ ser = some s.fuse.serial))
  ∧ (let s : State := l1
     let p : Nat := 1
     let udp : Nat := 50471
     let ser : Bytes := [1]
     (Runs s)
      ∧ (p < 3)
      ∧ (ser ≠ s.fuse.serial ∨ udp ≠ 50471))
  ∧ (let s : State := l1
     let p : Nat := 1
     let udp : Nat := 50472
     let ser : Bytes := l1.fuse.serial
     (Runs s)
      ∧ (p < 3)
      ∧ (ser ≠ s.fuse.serial ∨ udp ≠ 50471)) :=
  by refine ⟨?_, ?_, ?_, ?_, ?_, ?_, ?_⟩ <;> decide +kernel +zetaReduce

/-- Meets the hypotheses of `Goals.NeighbourProtocols`, clause by clause. -/
theorem meets_NeighbourProtocols :
    (let s : State := l1
     let p : Nat := 1
     let ip : Nat := 9
     (Runs s)
      ∧ (p < 3)
      ∧ (ip4Of s.core p ≠ some ip))
  ∧ (let s : State := l2
     let p : Nat := 1
     let ip : Nat := 9
     (Runs s)
      ∧ (p < 3)
      ∧ (obj s.core (Key.port p 6) = 1)
      ∧ (ip ≠ 0))
  ∧ (let s : State := l2
     let p : Nat := 1
     let ip : Nat := 0x0A000001
     (Runs s)
      ∧ (p < 3)
      ∧ (ip4Of s.core p = some ip))
  ∧ (let s : State := (edit l1 fun c => setObj c (Key.port 1 6) 2)
     let p : Nat := 1
     (Runs s)
      ∧ (p < 3)
      ∧ (obj s.core (Key.port p 6) ≠ 1)) :=
  by refine ⟨?_, ?_, ?_, ?_⟩ <;> decide +kernel +zetaReduce

/-- Meets the hypotheses of `Goals.FragmentsAreReassembled`, clause by clause. -/
theorem meets_FragmentsAreReassembled :
    (let s : State := l1
     let p : Nat := 1
     let id : Nat := 7
     let size : Nat := 384
     let fr : Tab Nat := (ethOf s.core p).frags
     let total : Nat := tgetD fr id 0 + size
     (Runs s)
      ∧ (p < 3)
      ∧ (total ≤ 16384))
  ∧ (let s : State := l1
     let p : Nat := 1
     let id : Nat := 7
     let size : Nat := 384
     let fr : Tab Nat := (ethOf s.core p).frags
     let total : Nat := tgetD fr id 0 + size
     (Runs s)
      ∧ (p < 3)
      ∧ (total ≤ 16384))
  ∧ (let s : State := l1
     let p : Nat := 1
     let id : Nat := 7
     let size : Nat := 385
     let fr : Tab Nat := (ethOf s.core p).frags
     let total : Nat := tgetD fr id 0 + size
     (Runs s)
      ∧ (p < 3)
      ∧ (16384 < total))
  ∧ (let s : State := l1
     let p : Nat := 1
     let id : Nat := 7
     let fr : Tab Nat := (ethOf s.core p).frags
     (Runs s)
      ∧ (p < 3)
      ∧ ((tget fr id).isSome = true))
  ∧ (let s : State := l1
     let p : Nat := 1
     let id : Nat := 8
     let fr : Tab Nat := (ethOf s.core p).frags
     (Runs s)
      ∧ (p < 3)
      ∧ (tget fr id = none)) :=
  by refine ⟨?_, ?_, ?_, ?_, ?_⟩ <;> decide +kernel +zetaReduce

/-- Meets the hypotheses of `Goals.PowerStageTurnsOff`, clause by clause. -/
theorem meets_PowerStageTurnsOff :
    (let s : State := (ps id 4 [])
     let mv : Nat := 43999
     (s.core.power.stage = true)
      ∧ (mv < 44000))
  ∧ (let s : State := (ps id 4 [])
     let mv : Nat := 59001
     (s.core.power.stage = true)
      ∧ (59000 < mv))
  ∧ (let s : State := (ps id 4 [])
     let mw : Nat := 1
     let ma : Nat := 110001
     (s.core.power.stage = true)
      ∧ (5000000 < mw ∨ 110000 < ma))
  ∧ (let s : State := (ps (fun p => { p with tripped := [3] }) 4 [])
     let p : Power := s.core.power
     let i : Nat := 3
     let temp : Int := 115000
     (s.core.power.stage = true)
      ∧ (p.held = false)
      ∧ (i < 41)
      ∧ (i ∈ p.tripped)
      ∧ ((thresholds i).2.2 + 5000 ≤ temp))
  ∧ (let s : State := (ps (fun p => { p with held := true, pwrgood := true }) 4 [])
     let p : Power := s.core.power
     (s.core.power.stage = true)
      ∧ (p.pwrgood = true)
      ∧ (p.held = true))
  ∧ (let s : State := (ps (fun p => { p with held := false, pwrgood := true }) 4 [])
     let p : Power := s.core.power
     (s.core.power.stage = true)
      ∧ (p.pwrgood = false ∨ p.held = false))
  ∧ (let s : State := (ps id 4 [])
     let p : Power := s.core.power
     let mv : Nat := 50000
     let mw : Nat := 5000000
     let ma : Nat := 110000
     let i : Nat := 3
     let temp : Int := 115000
     let c : Instr := (.thermalShutdown 3 115000)
     (s.core.power.stage = true)
      ∧ (i < 41)
      ∧ (44000 ≤ mv)
      ∧ (mv ≤ 59000)
      ∧ (mw ≤ 5000000)
      ∧ (ma ≤ 110000)
      ∧ (i ∉ p.tripped ∨ temp < (thresholds i).2.2 + 5000)
      ∧ (c ∈ [Instr.undervoltage mv, Instr.overvoltage mv, Instr.overload mw ma, Instr.thermalShutdown i temp])) :=
  by refine ⟨?_, ?_, ?_, ?_, ?_, ?_, ?_⟩ <;> decide +kernel +zetaReduce

/-- Meets the hypotheses of `Obligations.VoltageCap`, clause by clause. -/
theorem meets_VoltageCap :
    (let s : State := (ps id 4 [])
     let temps : List Int := (tmp 1)
     (Runs s)
      ∧ (temps.length = 41))
  ∧ (let s : State := (ps id 4 [])
     let temps : List Int := (tmp 1)
     (Runs s)
      ∧ (temps.length = 41)) :=
  by refine ⟨?_, ?_⟩ <;> decide +kernel +zetaReduce

/-- Meets the hypotheses of `Goals.PowerEvaluations`. -/
theorem meets_PowerEvaluations :
  let s : State := (pw 0 4500 12)
  let temps : List Int := (tmp 1)
  (Runs s)
  ∧ (temps.length = 41) :=
  by decide +kernel +zetaReduce

/-- Meets the hypotheses of `Goals.MeasurementsRaiseTheirEvents`, clause by clause. -/
theorem meets_MeasurementsRaiseTheirEvents :
    (let s : State := (cm id)
     let i : Nat := 40
     let temp : Int := 125000
     (Runs s)
      ∧ (i < 41)
      ∧ ((thresholds i).2.2 ≤ temp)
      ∧ (i ∉ s.core.power.tripped))
  ∧ (let s : State := (cm id)
     let i : Nat := 40
     let temp : Int := 124999
     (Runs s)
      ∧ (i < 41)
      ∧ (temp < (thresholds i).2.2 ∨ i ∈ s.core.power.tripped))
  ∧ (let s : State := (cm id)
     let mv : Nat := 45999
     (Runs s)
      ∧ (44000 ≤ mv ∧ mv < 46000 ∧ s.core.power.band ≠ 1 ∨ 58000 < mv ∧ mv ≤ 59000 ∧ s.core.power.band ≠ 2))
  ∧ (let s : State := (cm id)
     let mv : Nat := 59000
     (Runs s)
      ∧ (44000 ≤ mv ∧ mv < 46000 ∧ s.core.power.band ≠ 1 ∨ 58000 < mv ∧ mv ≤ 59000 ∧ s.core.power.band ≠ 2))
  ∧ (let s : State := (cm fun p => { p with band := 2 })
     let mv : Nat := 58000
     (Runs s)
      ∧ (46000 ≤ mv)
      ∧ (mv ≤ 58000))
  ∧ (let s : State := (cm fun p => { p with band := 2 })
     let mv : Nat := 58500
     (Runs s)
      ∧ (44000 ≤ mv ∧ mv < 46000 ∧ s.core.power.band = 1 ∨ 58000 < mv ∧ mv ≤ 59000 ∧ s.core.power.band = 2)) :=
  by refine ⟨?_, ?_, ?_, ?_, ?_, ?_⟩ <;> decide +kernel +zetaReduce

end Sys2Proof.Meets16
end

