-- ==== Sys2Proof/Tests/Meets17.lean ====
section
/-! SUPPORT. Concrete states and operands that meet the hypotheses of the statements of Obligations.lean. -/

namespace Sys2Proof.Meets17
open Machine

set_option maxRecDepth 20000
set_option Elab.async false

def bt (a : Nat) (objs : List (Nat × Nat)) (f : Core → Core) : State := { edit (on a objs) fun c => hosted (f c) with mem := [(5, 1), (0x17FFFFFFFFF, 2), (0x18000000000, 4), (stBase 3, 7)], pending := [.decisionPoint] }
def pw (c : Core) (f : Power → Power) : Core := { c with power := f c.power }
def bo (c : Core) (f : Boot → Boot) : Core := { c with boot := f c.boot }
def burn0 : Burn := { target := 1, revoke := true, fill := some ([3, 4], 1), disable := false }
def trS (k : Nat) (l : List Nat) := (bt 0 [(Key.resetCause, 2)] fun c => bo c fun b => { b with trained := l, hbmWipe := some k, sramDone := true })
def hv := bt 0 [(Key.wipeStatus, 1), (Key.port 0 2, 1)] fun c => bo c fun b => { b with rom := true, verified := some (9, 2) }
def fv (o : List (Nat × Nat)) (f : Fuses → Fuses) (g : Boot → Boot) : State := let s := bt 0 o fun c => bo c g; { s with fuse := f s.fuse }
def sxa : Session := { sx with report := some { ready := false, report := [1, 2] } }
def ats : State := edit (fv [] id id) fun c => setSession c 5 sxa
def lcs (lc : Nat) (a : Nat) (o : List (Nat × Nat)) : State := let s := bt a o id; { s with fuse := { s.fuse with lc := lc } }
def lsl := lcs 2 0 [(Key.nextOwner, 77 * 2^512 + 99)]
def rows (s : State) := Goals.burns s hd (bootEpoch s.core)
def chkB (s : State) (e : Nat) (i : Instr) (st : Status) (b : Burn) : Bool := match exec i s with
  | .next t => match st with
    | .ok => decide (Goals.wrote t hd sx Key.lcCommand .ok ∧ t.core.boot = { s.core.boot with burn := some b } ∧ t.core.power.retainedLc = some s.fuse.lc ∧ t.fuse = s.fuse ∧ t.mem = s.mem)
    | st => decide (Goals.refusedWrite s t hd sx Key.lcCommand st)
  | _ => false
def fbS (b : Burn) : State := fv [] id fun y => { y with burn := some b }
def e0 := bootEpoch (fv [] id id).core

/-- Meets the hypotheses of `Goals.ResetsLeaveTheResetState`, clause by clause. -/
theorem meets_ResetsLeaveTheResetState :
    (let s : State := (bt 4 [(Key.frameCount, 5)] id)
     let cause : Nat := 2
     (cause < 9)
      ∧ (s.core.power.stage = true))
  ∧ (let s : State := (bt 4 [(Key.frameCount, 5)] id)
     (Runs s)
      ∧ (s.core.boot.rom = false))
  ∧ (let s : State := (bt 4 [(Key.frameCount, 5)] fun c => bo c fun b => { b with rom := true })
     (Runs s)
      ∧ (s.core.boot.rom = true))
  ∧ (let s : State := (bt 4 [(Key.frameCount, 5)] id)
     let n : Nat := 10000
     (Runs s)
      ∧ (10000 ≤ n))
  ∧ (let s : State := (bt 4 [(Key.frameCount, 5)] id)
     let n : Nat := 999
     (Runs s)
      ∧ (n < 1000))
  ∧ (let s : State := (bt 4 [(Key.frameCount, 5)] id)
     let n : Nat := 1000
     (Runs s)
      ∧ (1000 ≤ n)
      ∧ (n < 10000))
  ∧ (let s : State := (bt 4 [(Key.frameCount, 5)] fun c => pw c fun p => { p with stage := false, held := true, pwrgood := false, retained := some 6 })
     let mv : Nat := 45500
     (s.core.power.stage = false)
      ∧ (s.core.power.stageEn = true)
      ∧ (45500 ≤ mv)
      ∧ (mv ≤ 58000))
  ∧ (let s : State := (bt 4 [(Key.frameCount, 5)] fun c => pw c fun p => { p with stage := false, held := true, pwrgood := false, retained := none })
     let mv : Nat := 58001
     (s.core.power.stage = true ∨ s.core.power.stageEn = false ∨ mv < 45500 ∨ 58000 < mv)) :=
  by refine ⟨?_, ?_, ?_, ?_, ?_, ?_, ?_, ?_⟩ <;> decide +kernel +zetaReduce

/-- Meets the hypotheses of `Goals.WipesClearMemory`, clause by clause. -/
theorem meets_WipesClearMemory :
    (let s : State := (bt 0 [] id)
     let c : Core := s.core
     (Runs s)
      ∧ (c.boot.sramDone = false))
  ∧ (let s : State := (bt 0 [(Key.resetCause, 2)] id)
     let c : Core := s.core
     let k : Nat := 3
     (Runs s)
      ∧ (k < 32)
      ∧ (k ∉ c.boot.trained))
  ∧ (let s : State := (bt 0 [(Key.resetCause, 2)] fun c => bo c fun b => { b with trained := [4], hbmWipe := some 2 })
     let c : Core := s.core
     let k : Nat := 3
     (Runs s)
      ∧ (k < 32)
      ∧ (k ∉ c.boot.trained))
  ∧ (let s : State := (trS 2 (List.range 32))
     let c : Core := s.core
     let k : Nat := 2
     (Runs s)
      ∧ (c.boot.hbmWipe = some k)
      ∧ (k ≠ 16)
      ∧ (c.boot.sramDone = true)
      ∧ (∀ i < 32, i ∈ c.boot.trained))
  ∧ (let s : State := (trS 2 (List.range 31))
     let c : Core := s.core
     let k : Nat := 2
     (Runs s)
      ∧ (c.boot.hbmWipe = some k)
      ∧ (k ≠ 16)
      ∧ (c.boot.sramDone = false ∨ ∃ i < 32, i ∉ c.boot.trained))
  ∧ (let s : State := (trS 2 (List.range 31))
     let c : Core := s.core
     let k : Nat := 2
     let i : Nat := 31
     (Runs s)
      ∧ (c.boot.hbmWipe = some k)
      ∧ (i < 32))
  ∧ (let s : State := (bt 0 [] id)
     let c : Core := s.core
     (Runs s)
      ∧ (c.boot.hbmWipe = none)) :=
  by refine ⟨?_, ?_, ?_, ?_, ?_, ?_, ?_⟩ <;> decide +kernel +zetaReduce

/-- Meets the hypotheses of `Goals.HandoverRunsTheFirmware`, clause by clause. -/
theorem meets_HandoverRunsTheFirmware :
    (let s : State := hv
     let c : Core := s.core
     let v : Nat := 9
     let key : Nat := 2
     (Runs s)
      ∧ (c.boot.verified = some (v, key))
      ∧ (c.boot.rom = true)
      ∧ (obj c Key.wipeStatus = 1))
  ∧ (let s : State := (edit hv fun c => setObj c Key.wipeStatus 2)
     let c : Core := s.core
     (Runs s)
      ∧ (c.boot.verified = none ∨ c.boot.rom = false ∨ obj c Key.wipeStatus ≠ 1)) :=
  by refine ⟨?_, ?_⟩ <;> decide +kernel +zetaReduce

/-- Meets the hypotheses of `Goals.FusedFirmwareVersions`, clause by clause. -/
theorem meets_FusedFirmwareVersions :
    (let s : State := (fv [] id fun b => { b with rom := true })
     let h : Hdr := hd
     let x : Session := sx
     (Goals.writes s h x Key.fwRaiseMin)
      ∧ (s.core.boot.rom = true))
  ∧ (let s : State := (fv [(Key.fwVersion, 4)] id id)
     let h : Hdr := hd
     let x : Session := sx
     let v : Nat := 4
     (Goals.writes s h x Key.fwRaiseMin)
      ∧ (s.core.boot.rom = false)
      ∧ (s.fuse.minVersion < v)
      ∧ (v ≤ obj s.core Key.fwVersion)
      ∧ (s.fuse.raises < 32))
  ∧ (let s : State := (fv [(Key.fwVersion, 4)] (fun u => { u with raises := 32 }) id)
     let h : Hdr := hd
     let x : Session := sx
     let v : Nat := 4
     (Goals.writes s h x Key.fwRaiseMin)
      ∧ (s.core.boot.rom = false)
      ∧ (s.fuse.minVersion < v)
      ∧ (v ≤ obj s.core Key.fwVersion)
      ∧ (32 ≤ s.fuse.raises))
  ∧ (let s : State := (fv [(Key.fwVersion, 4)] (fun u => { u with raises := 32, minVersion := 4 }) id)
     let h : Hdr := hd
     let x : Session := sx
     let v : Nat := 4
     (Goals.writes s h x Key.fwRaiseMin)
      ∧ (s.core.boot.rom = false)
      ∧ (v = s.fuse.minVersion)
      ∧ (v ≤ obj s.core Key.fwVersion))
  ∧ (let s : State := (fv [(Key.fwVersion, 4)] (fun u => { u with raises := 32, minVersion := 4 }) id)
     let h : Hdr := hd
     let x : Session := sx
     let v : Nat := 5
     (Goals.writes s h x Key.fwRaiseMin)
      ∧ (s.core.boot.rom = false)
      ∧ (v < s.fuse.minVersion ∨ obj s.core Key.fwVersion < v))
  ∧ (let s : State := (fv [(Key.fwVersion, 4)] (fun u => { u with raises := 32, minVersion := 4 }) id)
     let h : Hdr := hd
     let x : Session := sx
     let v : Nat := 5
     (Goals.writes s h x Key.eonelRevoke)
      ∧ (4 ≤ v))
  ∧ (let s : State := (fv [(Key.fwVersion, 4)] id (fun b => { b with fwKey := 2 }))
     let h : Hdr := hd
     let x : Session := sx
     let v : Nat := 2
     (Goals.writes s h x Key.eonelRevoke)
      ∧ (v < 4)
      ∧ (s.core.boot.rom = false)
      ∧ (s.core.boot.fwKey = v))
  ∧ (let s : State := (fv [(Key.fwVersion, 4)] (fun u => { u with revokedKeys := [0, 1] }) (fun b => { b with fwKey := 2 }))
     let h : Hdr := hd
     let x : Session := sx
     let v : Nat := 3
     (Goals.writes s h x Key.eonelRevoke)
      ∧ (v < 4)
      ∧ (s.core.boot.rom = true ∨ s.core.boot.fwKey ≠ v)
      ∧ (v ∉ s.fuse.revokedKeys))
  ∧ (let s : State := (fv [(Key.fwVersion, 4)] (fun u => { u with revokedKeys := [0, 1, 2] }) (fun b => { b with fwKey := 2 }))
     let h : Hdr := hd
     let x : Session := sx
     let v : Nat := 1
     (Goals.writes s h x Key.eonelRevoke)
      ∧ (v < 4)
      ∧ (s.core.boot.rom = true ∨ s.core.boot.fwKey ≠ v)
      ∧ (v ∈ s.fuse.revokedKeys)) :=
  by refine ⟨?_, ?_, ?_, ?_, ?_, ?_, ?_, ?_, ?_⟩ <;> decide +kernel +zetaReduce

/-- Meets the hypotheses of `Goals.AttestationReports`, clause by clause. -/
theorem meets_AttestationReports :
    (let s : State := (fv [] id id)
     let h : Hdr := hd
     let x : Session := sx
     let data : Bytes := (leBytes 32 7)
     (Goals.writes s h x Key.attestNonce)
      ∧ (List.length data = 32)
      ∧ (s.fuse.lc = 1 ∨ s.fuse.lc = 2))
  ∧ (let s : State := (fv [] (fun u => { u with lc := 3 }) id)
     let h : Hdr := hd
     let x : Session := sx
     let data : Bytes := (leBytes 32 7)
     (Goals.writes s h x Key.attestNonce)
      ∧ (List.length data = 32)
      ∧ (s.fuse.lc ≠ 1)
      ∧ (s.fuse.lc ≠ 2))
  ∧ (let s : State := (fv [] (fun u => { u with lc := 3 }) id)
     let h : Hdr := hd
     let x : Session := sx
     let data : Bytes := (leBytes 31 7)
     (Goals.writes s h x Key.attestNonce)
      ∧ (List.length data ≠ 32))
  ∧ (let s : State := ats
     let report : State → Nat → Option Attest := fun t ctx => (sessionOf t.core ctx).bind fun y => y.report
     let ctx : Nat := 5
     let bs : Bytes := [1, 2]
     (ctx < 4096)
      ∧ (Runs s)
      ∧ (report s ctx = some { ready := false, report := bs }))
  ∧ (let s : State := (fv [] id id)
     let report : State → Nat → Option Attest := fun t ctx => (sessionOf t.core ctx).bind fun y => y.report
     let ctx : Nat := 5
     (ctx < 4096)
      ∧ (Runs s)
      ∧ (∀ (bs : Bytes), report s ctx ≠ some { ready := false, report := bs })) :=
  ⟨⟨by decide +kernel +zetaReduce, by decide +kernel +zetaReduce, by decide +kernel +zetaReduce⟩,
   ⟨by decide +kernel +zetaReduce, by decide +kernel +zetaReduce, by decide +kernel +zetaReduce, by decide +kernel +zetaReduce⟩,
   ⟨by decide +kernel +zetaReduce, by decide +kernel +zetaReduce⟩,
   ⟨by decide +kernel +zetaReduce, by decide +kernel +zetaReduce, by decide +kernel +zetaReduce⟩,
   ⟨by decide +kernel +zetaReduce, by decide +kernel +zetaReduce, fun bs h => absurd ((show ((sessionOf (fv [] id id).core 5).bind fun y => y.report) = none by decide +kernel).symm.trans h) (by simp)⟩⟩

/-- Meets the hypotheses of `Goals.LifeCycleCommands`, clause by clause. -/
theorem meets_LifeCycleCommands :
    (let s : State := (fbS burn0)
     let b : Burn := burn0
     (Runs s)
      ∧ (s.core.boot.burn = some b))
  ∧ (let s : State := (fbS { burn0 with fill := none, revoke := false, disable := true, target := 5 })
     let b : Burn := { burn0 with fill := none, revoke := false, disable := true, target := 5 }
     (Runs s)
      ∧ (s.core.boot.burn = some b))
  ∧ (let s : State := (fv [] id id)
     (Runs s)
      ∧ (s.core.boot.burn = none))
  ∧ (let s : State := (fv [] id id)
     let h : Hdr := hd
     let x : Session := sx
     let e : Nat := (e0 + 1)
     (Goals.writes s h x Key.lcCommand)
      ∧ (s.core.boot.burn = none)
      ∧ (e ≠ bootEpoch s.core))
  ∧ (let s : State := (fv [] id id)
     let h : Hdr := hd
     let x : Session := sx
     let e : Nat := e0
     (Goals.writes s h x Key.lcCommand)
      ∧ (s.core.boot.burn = none)
      ∧ (e = bootEpoch s.core)
      ∧ (s.fuse.lc = 1 ∨ s.fuse.lc = 2))
  ∧ (let s : State := (lcs 4 0 [])
     let h : Hdr := hd
     let x : Session := sx
     let e : Nat := (bootEpoch (lcs 4 0 []).core)
     (Goals.writes s h x Key.lcCommand)
      ∧ (s.core.boot.burn = none)
      ∧ (e = bootEpoch s.core)
      ∧ (s.fuse.lc ≠ 1)
      ∧ (s.fuse.lc ≠ 2)) :=
  ⟨⟨by decide +kernel +zetaReduce, by decide +kernel +zetaReduce⟩,
   ⟨by decide +kernel +zetaReduce, by decide +kernel +zetaReduce⟩,
   ⟨by decide +kernel +zetaReduce, by decide +kernel +zetaReduce⟩,
   ⟨by decide +kernel +zetaReduce, by decide +kernel +zetaReduce, Nat.succ_ne_self _⟩,
   ⟨by decide +kernel +zetaReduce, by decide +kernel +zetaReduce, by rfl, by decide +kernel +zetaReduce⟩,
   ⟨by decide +kernel +zetaReduce, by decide +kernel +zetaReduce, by rfl, by decide +kernel +zetaReduce, by decide +kernel +zetaReduce⟩⟩

end Sys2Proof.Meets17
end

