-- ==== Sys2Proof/Tests/Meets18.lean ====
section
/-! SUPPORT. Concrete states and operands that meet the hypotheses of the statements of Obligations.lean. -/

namespace Sys2Proof.Meets18
open Machine

set_option maxRecDepth 20000
set_option Elab.async false

def im0 : Image := { plain with code := [{ station := 4, start := 8190, words := [7, 2^64-1] }], templates := [{ emptyTp with vote := some 5 }], prologue := [0], cycle := [0, 0, 0], frameTicks := 2000, sems := [{ field := 2, num := 9, cap := 5, count := 3, owner := 0x20, slot := false, gate := false, commit := false }], desc := [{ station := 3, entry := 7, value := 99 }, { station := 3, entry := 8, value := 98 }], scales := [{ entry := 5, fmt := 1, h := 4, margin := 1, init := 3, shared := false, dbuf := true }] }
def k0 : Container := { magic := 0, version := 1, profile := 0xA0, flags := 0, length := 64, uwidth := 0, zeros := true, sections := [], sigOk := false, image := im0 }
def al (a : Nat) (objs : List (Nat × Nat)) (f : Core → Core) : State := { edit (on a objs) fun c => hosted (f { c with alm := { c.alm with image := if 2 ≤ a then some im0 else none } }) with mem := mwriteN [(5, 1), (0x17FFFFFFFFF, 2), (0x18000000000, 4), (stBase 3, 7)] (ctlBase 9) [1,2,3] }
def chkS (a : Nat) (k : Container) : State := al 1 [] fun c => { c with alm := { c.alm with checking := some k, before := a } }
def armS (o : List (Nat × Nat)) (a : Nat) : State := al a ([(Key.startTick, 9000), (Key.domainTick, 1000), (Key.tickSource, 2^15), (Key.startStep, 8), (Key.commitState, 0)] ++ o) id
def stS (v f : Nat) : State := al 4 [(Key.stopAt, v), (Key.frameCount, f)] id
def up (c : Core) : Core := { c with fab := { c.fab with ports := [(3, { Port.reset with pstate := 3, peerMod := 6, peerValid := true }), (5, { Port.reset with pstate := 3, peerMod := 7, peerValid := true })] } }
def fz (a : Nat) (objs : List (Nat × Nat)) (f : Core → Core) : State := al a objs fun c => f (up { c with alm := { c.alm with zeroTick := 1000 } })
def sc (c : Core) : Core := { c with scale := [(5, { ScaleEntry.blank with fmt := 1, dbuf := true, pend := [(1, 3)], nan := [(2, true)], satRaised := true, scaleA := 3 }), (7, { ScaleEntry.blank with fmt := 2 })] }
def rsS (x : Nat) : State := al 6 [(Key.commitState, x), (Key.stepNumber, 2^32-1), (Key.commits, 4)] sc
def ins : Core × Memory := installImage k0 (chkS 6 k0).mem (chkS 6 k0).core

/-- Meets the hypotheses of `Goals.LoadChecksThenInstalls`, clause by clause. -/
theorem meets_LoadChecksThenInstalls :
    (let s : State := (al 0 [] id)
     let h : Hdr := hd
     let x : Session := sx
     let ready : Prop := s.fuse.lc = 2 ∧ emptyOrStopped s.core = true ∧ obj s.core Key.hbmWiping ≠ 1
     (Goals.writes s h x Key.almanacCmd)
      ∧ (ready))
  ∧ (let s : State := (al 6 [] id)
     let h : Hdr := hd
     let x : Session := sx
     let ready : Prop := s.fuse.lc = 2 ∧ emptyOrStopped s.core = true ∧ obj s.core Key.hbmWiping ≠ 1
     (Goals.writes s h x Key.almanacCmd)
      ∧ (ready))
  ∧ (let s : State := (al 4 [] id)
     let h : Hdr := hd
     let x : Session := sx
     let ready : Prop := s.fuse.lc = 2 ∧ emptyOrStopped s.core = true ∧ obj s.core Key.hbmWiping ≠ 1
     (Goals.writes s h x Key.almanacCmd)
      ∧ (¬ready))
  ∧ (let s : State := (chkS 6 k0)
     let k : Container := k0
     let st : Status := .range
     let rep : List Nat := [2]
     (Runs s)
      ∧ (s.core.alm.checking = some k)
      ∧ (almState s.core = 1)
      ∧ (loadFault s.fuse s.core k = some (st, rep)))
  ∧ (let s : State := (al 0 [] id)
     (s.core.alm.checking = none ∨ almState s.core ≠ 1)) :=
  by refine ⟨?_, ?_, ?_, ?_, ?_⟩ <;> decide +kernel +zetaReduce

/-- Meets the hypotheses of `Goals.StartArmsTheAlmanac`, clause by clause. -/
theorem meets_StartArmsTheAlmanac :
    (let s : State := (armS [] 2)
     let h : Hdr := hd
     let x : Session := sx
     let im : Image := im0
     let r : Core × Status := startRefusal (Goals.received s h x) im
     (Goals.writes s h x Key.almanacCmd)
      ∧ (s.core.alm.image = some im)
      ∧ (r.2 = Status.ok))
  ∧ (let s : State := (edit (armS [] 6) fun c => setStn c 4 (ready))
     let h : Hdr := hd
     let x : Session := sx
     let im : Image := im0
     let r : Core × Status := startRefusal (Goals.received s h x) im
     (Goals.writes s h x Key.almanacCmd)
      ∧ (s.core.alm.image = some im)
      ∧ (r.2 = Status.ok))
  ∧ (let s : State := (armS [(Key.tickSource, 0)] 6)
     let h : Hdr := hd
     let x : Session := sx
     let im : Image := im0
     let r : Core × Status := startRefusal (Goals.received s h x) im
     (Goals.writes s h x Key.almanacCmd)
      ∧ (s.core.alm.image = some im)
      ∧ (r.2 ≠ Status.ok))
  ∧ (let s : State := (armS [] 4)
     let h : Hdr := hd
     let x : Session := sx
     (Goals.writes s h x Key.almanacCmd)
      ∧ (s.core.alm.image = none ∨ almState s.core ≠ 2 ∧ almState s.core ≠ 6))
  ∧ (let s : State := (armS [(Key.startTick, 4999)] 2)
     let h : Hdr := hd
     let x : Session := sx
     let im : Image := im0
     (Goals.writes s h x Key.almanacCmd)
      ∧ (s.core.alm.image = some im)
      ∧ (almState s.core = 2 ∨ almState s.core = 6)
      ∧ (obj s.core Key.startTick < obj s.core Key.domainTick + 2 * im.frameTicks ∨
          obj s.core Key.domainTick + 100000000 < obj s.core Key.startTick))
  ∧ (let s : State := (armS [(Key.startTick, 100001001)] 2)
     let h : Hdr := hd
     let x : Session := sx
     let im : Image := im0
     (Goals.writes s h x Key.almanacCmd)
      ∧ (s.core.alm.image = some im)
      ∧ (almState s.core = 2 ∨ almState s.core = 6)
      ∧ (obj s.core Key.startTick < obj s.core Key.domainTick + 2 * im.frameTicks ∨
          obj s.core Key.domainTick + 100000000 < obj s.core Key.startTick)) :=
  by refine ⟨?_, ?_, ?_, ?_, ?_, ?_⟩ <;> decide +kernel +zetaReduce

/-- Meets the hypotheses of `Goals.StopAndUnload`, clause by clause. -/
theorem meets_StopAndUnload :
    (let s : State := (stS 0 5)
     let h : Hdr := hd
     let x : Session := sx
     let im : Image := im0
     (Goals.writes s h x Key.almanacCmd)
      ∧ (s.core.alm.image = some im)
      ∧ (running s.core = true))
  ∧ (let s : State := (stS (2^64-1) 3)
     let h : Hdr := hd
     let x : Session := sx
     let im : Image := im0
     (Goals.writes s h x Key.almanacCmd)
      ∧ (s.core.alm.image = some im)
      ∧ (running s.core = true))
  ∧ (let s : State := (al 6 [] id)
     let h : Hdr := hd
     let x : Session := sx
     let im : Image := im0
     (Goals.writes s h x Key.almanacCmd)
      ∧ (s.core.alm.image = some im)
      ∧ (running s.core = false))
  ∧ (let s : State := (al 6 [] id)
     let h : Hdr := hd
     let x : Session := sx
     (Goals.writes s h x Key.almanacCmd)
      ∧ (almState s.core = 2 ∨ almState s.core = 6))
  ∧ (let s : State := (al 3 [] id)
     let h : Hdr := hd
     let x : Session := sx
     (Goals.writes s h x Key.almanacCmd)
      ∧ (almState s.core ≠ 2)
      ∧ (almState s.core ≠ 6)) :=
  by refine ⟨?_, ?_, ?_, ?_, ?_⟩ <;> decide +kernel +zetaReduce

/-- Meets the hypotheses of `Goals.FrameZeroBegins`, clause by clause. -/
theorem meets_FrameZeroBegins :
    (let s : State := (fz 3 [(Key.domainTick, 900)] id)
     (Runs s)
      ∧ (almState s.core = 3)
      ∧ (s.core.clk.stopped = false)
      ∧ (s.core.alm.hold.heldAt = none))
  ∧ (let s : State := (fz 2 [(Key.domainTick, 900)] id)
     (Runs s)
      ∧ (almState s.core ≠ 3 ∨ s.core.clk.stopped = true))
  ∧ (let s : State := (fz 3 [(Key.domainTick, 900)] fun c => { c with clk := { c.clk with stopped := true } })
     (Runs s)
      ∧ (almState s.core ≠ 3 ∨ s.core.clk.stopped = true)) :=
  by refine ⟨?_, ?_, ?_⟩ <;> decide +kernel +zetaReduce

/-- Meets the hypotheses of `Goals.ResolveSettlesTheStep`, clause by clause. -/
theorem meets_ResolveSettlesTheStep :
    (let s : State := (rsS 3)
     let h : Hdr := hd
     let x : Session := sx
     (Goals.writes s h x Key.resolve)
      ∧ (obj s.core Key.commitState = 3))
  ∧ (let s : State := (rsS 3)
     let h : Hdr := hd
     let x : Session := sx
     (Goals.writes s h x Key.resolve)
      ∧ (obj s.core Key.commitState = 3))
  ∧ (let s : State := (rsS 2)
     let h : Hdr := hd
     let x : Session := sx
     let i : Instr := (.resolveAbort hd)
     (Goals.writes s h x Key.resolve)
      ∧ (obj s.core Key.commitState ≠ 3)
      ∧ (i ∈ [Instr.resolveCommit h, Instr.resolveAbort h])) :=
  by refine ⟨?_, ?_, ?_⟩ <;> decide +kernel +zetaReduce

end Sys2Proof.Meets18
end

