-- ==== Sys2Proof/Tests/Meets19.lean ====
section
/-! SUPPORT. Concrete states and operands that meet the hypotheses of the statements of Obligations.lean. -/

namespace Sys2Proof.Meets19
open Machine

set_option maxRecDepth 20000
set_option Elab.async false

def imA (vote : Option Nat) (gates : List GateDecl) : Image := { plain with templates := [{ emptyTp with vote := vote, gates := gates }], cycle := [0], jobModules := [0, 6, 7], sems := [{ field := 2, num := 9, cap := 5, count := 3, owner := 0x8006, slot := false, gate := true, commit := false }] }
def tpA (v : Option Nat) (g : List GateDecl) : Template := { emptyTp with vote := v, gates := g }
def up (c : Core) : Core := { c with fab := { c.fab with ports := [(3, { Port.reset with pstate := 3, peerMod := 6, peerValid := true }), (5, { Port.reset with pstate := 3, peerMod := 7, peerValid := true })], ctxs := [(8, { Ctx.reset with state := 1, peerMod := 6, missed := true, flow := 1 }), (9, { Ctx.reset with state := 1, peerMod := 7, flow := 2 })] } }
def fa (v : Option Nat) (g : List GateDecl) (a : Nat) (f : Almanac → Almanac) (objs : List (Nat × Nat)) (fc : Core → Core) : State :=
  edit (on a ([(Key.frameCount, 4), (Key.frameTicks, 2000), (Key.domainTick, 10500)] ++ objs)) fun c => fc (up { c with alm := f { c.alm with image := some (imA v g), zeroTick := 1000 } })
def ha (a : Almanac) (f : HoldState → HoldState) : Almanac := { a with hold := f a.hold }
def sc (c : Core) : Core := { setStn c 9 { Station.reset with dfw := { Station.reset.dfw with entries := [⟨1, 2, 3, true, true, 0, 0, true⟩] } } with scale := [(5, { ScaleEntry.blank with fmt := 1, dbuf := true, h := 3, pend := [(1, 3)], nan := [(2, true)], satRaised := true, scaleA := 3 }), (7, { ScaleEntry.blank with fmt := 2 })] }
def vt (own : Option Nat) (r : Option Bool) (l : Bool) (a : Almanac) : Almanac := { a with vote := { own := own, result := r, lost := l } }
def vo : List (Nat × Nat) := [(Key.stepNumber, 2^32-1), (Key.commits, 4), (Key.consecAborts, 2)]
def qf : Nat × Nat × Nat := (0x0701, 9, 3)
def busy (c : Core) : Core := setStrm (setStn (setSem c 2 9 { valid := true, poison := false, owner := 1, cap := 4, count := 2, cause := 0, pframe := 0 }) 4 ready) 7 2 { Stream.reset with state := 1 }
theorem noCommit (v : Option Nat) (g : List GateDecl) : ∀ im, some (imA v g) = some im → ∀ d ∈ im.sems, d.commit = false := by intro im h; cases h; simp [imA]
def mk (a : Almanac) : Almanac := { a with marks := { a.marks with integrity := true, nonfinite := true } }
def late (c : Core) : Core := setStrm (setStn c 9 { Station.reset with dfw := { Station.reset.dfw with lost := true } }) 7 2 { Stream.reset with state := 1, active := 3 * 2^60 * 2^128 }
def gd : GateDecl := { field := 2, sem := 9, n := 3 }
def sm (n : Nat) (c : Core) : Core := setSem c 2 9 { valid := true, poison := false, owner := 0x8006, cap := 5, count := n, cause := 0, pframe := 0 }
def h5 (rd : List (Nat × Nat)) (rs : Option Nat) (tmo : Bool) (a : Almanac) : Almanac := ha a fun h => { h with heldAt := some 5, since := 100, ready := rd, resume := rs, timedOut := tmo, notices := [5] }
def gm (c : Core) : Core := setSync (sm 2 c) 2 { syncU (sm 2 c) 2 with gates := [(9, 3)] }
def au (k e : Nat) (ys : Tab (List (List Nat))) (a : Nat) : State := edit (on a [(Key.auditEnable, e), (Key.auditK, k), (Key.auditTol, 2)]) fun c => setStn c 0 { Station.reset with arr := { Station.reset.arr with audits := ys } }
def one1 : List (List Nat) := [[0x3F800000]]
def lg (recs : List EvRec) (n : Nat) (a : Nat) : Core := let c := (fa none [] a id [] id).core; { c with ev := { c.ev with recs := recs, interval := [(0x0701, n)] } }

/-- Meets the hypotheses of `Goals.FramesFollowEachOther`, clause by clause. -/
theorem meets_FramesFollowEachOther :
    (let s : State := (fa none [] 4 id [] id)
     let b : Nat := 5
     let seen : List Nat := s.core.alm.hold.notices
     (Goals.inFrame s b)
      ∧ (¬Goals.votes s)
      ∧ (Goals.noStop s b)
      ∧ (b ∉ seen)
      ∧ (∀ q ∈ s.core.alm.segs, q.2 ≠ b))
  ∧ (let s : State := (fa none [] 4 (fun a => { ha a fun h => { h with notices := [6, 9] } with segs := [(3, 6)] }) [] id)
     let b : Nat := 5
     let seen : List Nat := s.core.alm.hold.notices
     (Goals.inFrame s b)
      ∧ (¬Goals.votes s)
      ∧ (Goals.noStop s b)
      ∧ (b ∉ seen)
      ∧ (∀ q ∈ s.core.alm.segs, q.2 ≠ b))
  ∧ (let s : State := (fa none [] 4 (fun a => { ha a fun h => { h with notices := [] } with segs := [(3, 5)] }) [] id)
     let b : Nat := 5
     let seen : List Nat := s.core.alm.hold.notices
     (Goals.inFrame s b)
      ∧ (¬Goals.votes s)
      ∧ (Goals.noStop s b)
      ∧ (b ∉ seen)
      ∧ (∃ q ∈ s.core.alm.segs, q.2 = b))
  ∧ (let s : State := (fa none [] 4 (fun a => { ha a fun h => { h with notices := [6] } with segs := [(3, 5)] }) [] id)
     let b : Nat := 5
     let seen : List Nat := s.core.alm.hold.notices
     (Goals.inFrame s b)
      ∧ (¬Goals.votes s)
      ∧ (Goals.noStop s b)
      ∧ (b ∉ seen)
      ∧ (∃ q ∈ s.core.alm.segs, q.2 = b))
  ∧ (let s : State := (fa none [] 4 (fun a => { ha a fun h => { h with notices := [5] } with segs := [(3, 5)] }) [] id)
     let b : Nat := 5
     let seen : List Nat := s.core.alm.hold.notices
     (Goals.inFrame s b)
      ∧ (¬Goals.votes s)
      ∧ (Goals.noStop s b)
      ∧ (b ∈ seen))
  ∧ (let s : State := (fa none [] 4 (fun a => { ha a fun h => { h with notices := [5], ready := [(6, 5), (7, 5)] } with segs := [] }) [] id)
     let b : Nat := 5
     let seen : List Nat := s.core.alm.hold.notices
     (Goals.inFrame s b)
      ∧ (¬Goals.votes s)
      ∧ (Goals.noStop s b)
      ∧ (b ∈ seen)) :=
  by refine ⟨?_, ?_, ?_, ?_, ?_, ?_⟩ <;> decide +kernel +zetaReduce

/-- Meets the hypotheses of `Goals.VotesDecideTheStep`, clause by clause. -/
theorem meets_VotesDecideTheStep :
    (let s : State := (fa (some 5) [] 4 (vt (some 0) (some true) false) vo sc)
     let b : Nat := 5
     let v : Vote := s.core.alm.vote
     (Goals.inFrame s b)
      ∧ (Goals.votes s)
      ∧ (v.result = some true))
  ∧ (let s : State := (fa (some 5) [] 4 (vt (some 0) (some false) false) vo sc)
     let b : Nat := 5
     let v : Vote := s.core.alm.vote
     (Goals.inFrame s b)
      ∧ (Goals.votes s)
      ∧ (v.result = some false ∨ v.result = none ∧ v.own = some 1))
  ∧ (let s : State := (fa (some 5) [] 4 (vt (some 1) none true) vo sc)
     let b : Nat := 5
     let v : Vote := s.core.alm.vote
     (Goals.inFrame s b)
      ∧ (Goals.votes s)
      ∧ (v.result = some false ∨ v.result = none ∧ v.own = some 1))
  ∧ (let s : State := (fa (some 5) [] 4 (vt (some 0) none true) vo sc)
     let b : Nat := 5
     let v : Vote := s.core.alm.vote
     (Goals.inFrame s b)
      ∧ (Goals.votes s)
      ∧ (v.result = none)
      ∧ (v.own ≠ some 1)
      ∧ (b ∉ s.core.alm.hold.notices)
      ∧ (v.lost = true))
  ∧ (let s : State := (fa (some 5) [] 4 (vt none none false) ((Key.commitState, 1) :: vo) sc)
     let b : Nat := 5
     let v : Vote := s.core.alm.vote
     (Goals.inFrame s b)
      ∧ (Goals.votes s)
      ∧ (v.result = none)
      ∧ (v.own ≠ some 1)
      ∧ (b ∈ s.core.alm.hold.notices ∨ v.lost = false))
  ∧ (let s : State := (fa (some 5) [] 4 (fun a => ha (vt none none true a) fun h => { h with notices := [5] }) vo sc)
     let b : Nat := 5
     let v : Vote := s.core.alm.vote
     (Goals.inFrame s b)
      ∧ (Goals.votes s)
      ∧ (v.result = none)
      ∧ (v.own ≠ some 1)
      ∧ (b ∈ s.core.alm.hold.notices ∨ v.lost = false))
  ∧ (let s : State := (fa (some 5) [] 4 (fun a => ha (vt (some 0) (some true) false a) fun h => { h with notices := [5] }) vo sc)
     let b : Nat := 5
     let v : Vote := s.core.alm.vote
     (Goals.inFrame s b)
      ∧ (Goals.votes s)
      ∧ (v.result = some true)) :=
  by refine ⟨?_, ?_, ?_, ?_, ?_, ?_, ?_⟩ <;> decide +kernel +zetaReduce

/-- Meets the hypotheses of `Goals.StopsComeAtBoundaries`, clause by clause. -/
theorem meets_StopsComeAtBoundaries :
    (let s : State := (fa none [] 4 (fun a => { a with fault := some qf, mismatch := true, stopAt := some 3 }) [] busy)
     let b : Nat := 5
     let a : Almanac := s.core.alm
     let q : Nat × Nat × Nat := qf
     (Goals.inFrame s b)
      ∧ (¬Goals.votes s)
      ∧ (a.fault = some q))
  ∧ (let s : State := (fa none [] 4 (fun a => { a with fault := none, mismatch := true, stopAt := some 3 }) [] busy)
     let b : Nat := 5
     let a : Almanac := s.core.alm
     (Goals.inFrame s b)
      ∧ (¬Goals.votes s)
      ∧ (a.fault = none)
      ∧ (a.mismatch = true))
  ∧ (let s : State := (fa none [] 4 (fun a => { a with fault := none, mismatch := false, stopAt := some 5 }) [] busy)
     let b : Nat := 5
     let a : Almanac := s.core.alm
     let v : Nat := 5
     (Goals.inFrame s b)
      ∧ (¬Goals.votes s)
      ∧ (a.fault = none)
      ∧ (a.mismatch = false)
      ∧ (a.stopAt = some v)
      ∧ (v ≤ b))
  ∧ (let s : State := (fa (some 5) [] 4 (fun a => { vt (some 0) (some true) false a with stopAt := some 5 }) ((Key.stepsToRun, 5) :: vo) busy)
     let b : Nat := 5
     let a : Almanac := s.core.alm
     (Goals.inFrame s b)
      ∧ (Goals.votes s)
      ∧ (a.fault = none)
      ∧ (a.mismatch = false)
      ∧ (∀ (im : Image), a.image = some im → ∀ d ∈ im.sems, d.commit = false)
      ∧ (a.vote.result = some true)
      ∧ (obj s.core Key.stepsToRun ≠ 0)
      ∧ (obj s.core Key.stepsToRun ≤ obj s.core Key.commits + 1)
      ∧ (obj s.core Key.commits < objMax Key.commits))
  ∧ (let s : State := (fa (some 5) [] 4 (fun a => { vt (some 0) (some false) false a with stopAt := some 5 }) ((Key.abortLimit, 3) :: vo) busy)
     let b : Nat := 5
     let a : Almanac := s.core.alm
     (Goals.inFrame s b)
      ∧ (Goals.votes s)
      ∧ (a.fault = none)
      ∧ (a.mismatch = false)
      ∧ (∀ (im : Image), a.image = some im → ∀ d ∈ im.sems, d.commit = false)
      ∧ (a.vote.result = some false)
      ∧ (obj s.core Key.abortLimit ≠ 0)
      ∧ (obj s.core Key.abortLimit ≤ obj s.core Key.consecAborts + 1)
      ∧ (obj s.core Key.consecAborts < objMax Key.consecAborts))
  ∧ (let s : State := (fa none [] 5 (fun a => { ha a fun h => { h with heldAt := some 5 } with fault := some qf }) [] busy)
     let b : Nat := 5
     let a : Almanac := s.core.alm
     let q : Nat × Nat × Nat := qf
     (Runs s)
      ∧ (almState s.core = 5)
      ∧ (a.hold.heldAt = some b)
      ∧ (a.voted = false)
      ∧ (a.fault = some q))
  ∧ (let s : State := (fa none [] 5 (fun a => { ha a fun h => { h with heldAt := some 5 } with fault := none }) [] busy)
     let b : Nat := 5
     let a : Almanac := s.core.alm
     (Runs s)
      ∧ (almState s.core = 5)
      ∧ (a.hold.heldAt = some b)
      ∧ (a.voted = false)
      ∧ (Goals.noStop s b))
  ∧ (let s : State := (fa none [] 3 id [] busy)
     let a : Almanac := s.core.alm
     (almState s.core ≠ 4)
      ∧ (a.hold.heldAt = none)) :=
  by refine ⟨?_, ?_, ?_, ?_, ?_, ?_, ?_, ?_⟩ <;> decide +kernel +zetaReduce

/-- Meets the hypotheses of `Goals.VotePointFixesTheContribution`, clause by clause. -/
theorem meets_VotePointFixesTheContribution :
    (let s : State := (fa (some 5) [] 4 id [] id)
     let im : Image := (imA (some 5) [])
     let off : Nat := 5
     (Runs s)
      ∧ (s.core.alm.image = some im)
      ∧ (((curTemplate s.core).bind fun x => x.vote) = some off)
      ∧ (almState s.core = 4)
      ∧ (s.core.alm.vote.own = none))
  ∧ (let s : State := (fa (some 5) [] 4 mk [] late)
     let im : Image := (imA (some 5) [])
     let off : Nat := 5
     (Runs s)
      ∧ (s.core.alm.image = some im)
      ∧ (((curTemplate s.core).bind fun x => x.vote) = some off)
      ∧ (almState s.core = 4)
      ∧ (s.core.alm.vote.own = none))
  ∧ (let s : State := (fa none [] 4 mk [] late)
     (Runs s)
      ∧ (s.core.alm.vote.own ≠ none ∨ almState s.core ≠ 4 ∨ ¬Goals.votes s)) :=
  by refine ⟨?_, ?_, ?_⟩ <;> decide +kernel +zetaReduce

/-- Meets the hypotheses of `Goals.DecisionPointJudgesTheGates`, clause by clause. -/
theorem meets_DecisionPointJudgesTheGates :
    (let s : State := (fa none [] 4 id [] id)
     let tp : Template := (tpA none [])
     (Runs s)
      ∧ (curTemplate s.core = some tp)
      ∧ (almState s.core = 4)
      ∧ (s.core.alm.decided = false)
      ∧ (s.core.alm.hold.heldAt = none)
      ∧ (tp.gates = []))
  ∧ (let s : State := (fa none [gd] 4 id [] (sm 4))
     let tp : Template := (tpA none [gd])
     let g : GateDecl := gd
     let e : Sem := semOf s.core g.field g.sem
     (Runs s)
      ∧ (curTemplate s.core = some tp)
      ∧ (almState s.core = 4)
      ∧ (s.core.alm.decided = false)
      ∧ (s.core.alm.hold.heldAt = none)
      ∧ (tp.gates = [g])
      ∧ (g.field < 8)
      ∧ ((syncU s.core g.field).held = [])
      ∧ ((syncU s.core g.field).gates = [])
      ∧ (e.valid = true)
      ∧ (e.poison = false))
  ∧ (let s : State := (fa none [gd] 4 (fun a => ha a fun h => { h with notices := [5] }) [] (sm 2))
     let tp : Template := (tpA none [gd])
     let g : GateDecl := gd
     let e : Sem := semOf s.core g.field g.sem
     (Runs s)
      ∧ (curTemplate s.core = some tp)
      ∧ (almState s.core = 4)
      ∧ (s.core.alm.decided = false)
      ∧ (s.core.alm.hold.heldAt = none)
      ∧ (tp.gates = [g])
      ∧ (g.field < 8)
      ∧ ((syncU s.core g.field).held = [])
      ∧ ((syncU s.core g.field).gates = [])
      ∧ (e.valid = true)
      ∧ (e.poison = false))
  ∧ (let s : State := (fa none [gd] 3 id [] (sm 2))
     let tp : Template := (tpA none [gd])
     (Runs s)
      ∧ (curTemplate s.core = some tp)
      ∧ (almState s.core ≠ 4 ∨ s.core.alm.decided = true)) :=
  by refine ⟨?_, ?_, ?_, ?_⟩ <;> decide +kernel +zetaReduce

/-- Meets the hypotheses of `Goals.MarkersCarryTheCount`, clause by clause. -/
theorem meets_MarkersCarryTheCount :
    (let s : State := (fa none [] 4 id [] id)
     let p : Nat := 3
     let count : Nat := 4
     let phase : Int := 7
     let own : Nat := s.core.alm.hold.heldAt.getD (obj s.core Key.frameCount)
     (Runs s)
      ∧ (p < 16)
      ∧ (pstate s.core p = 3)
      ∧ (almState s.core = 4 ∨ almState s.core = 5)
      ∧ (obj s.core Key.refActive ≠ 3)
      ∧ (recoveredMode s.core = false ∨ phase.natAbs ≤ 32 ∨ obj s.core Key.refPort ≠ p)
      ∧ (count = own))
  ∧ (let s : State := (fa none [] 4 id [] id)
     let p : Nat := 3
     let count : Nat := 5
     let phase : Int := 7
     let own : Nat := s.core.alm.hold.heldAt.getD (obj s.core Key.frameCount)
     (Runs s)
      ∧ (p < 16)
      ∧ (pstate s.core p = 3)
      ∧ (almState s.core = 4 ∨ almState s.core = 5)
      ∧ (obj s.core Key.refActive ≠ 3)
      ∧ (recoveredMode s.core = false ∨ phase.natAbs ≤ 32 ∨ obj s.core Key.refPort ≠ p)
      ∧ (count ≠ own))
  ∧ (let s : State := (fa none [] 5 (fun a => ha a fun h => { h with heldAt := some 5 }) [] id)
     let p : Nat := 3
     let count : Nat := 5
     let phase : Int := 7
     let own : Nat := s.core.alm.hold.heldAt.getD (obj s.core Key.frameCount)
     (Runs s)
      ∧ (p < 16)
      ∧ (pstate s.core p = 3)
      ∧ (almState s.core = 4 ∨ almState s.core = 5)
      ∧ (obj s.core Key.refActive ≠ 3)
      ∧ (recoveredMode s.core = false ∨ phase.natAbs ≤ 32 ∨ obj s.core Key.refPort ≠ p)
      ∧ (count = own))
  ∧ (let s : State := (fa none [] 3 id [] id)
     let p : Nat := 3
     (Runs s)
      ∧ (p < 16)
      ∧ (pstate s.core p ≠ 3 ∨ almState s.core ≠ 4 ∧ almState s.core ≠ 5)) :=
  by refine ⟨?_, ?_, ?_, ?_⟩ <;> decide +kernel +zetaReduce

/-- Meets the hypotheses of `Goals.HoldsAndResumes`, clause by clause. -/
theorem meets_HoldsAndResumes :
    (let s : State := (fa none [] 4 id [] id)
     let hs : HoldState := s.core.alm.hold
     let p : Nat := 3
     let b : Nat := 7
     (Runs s)
      ∧ (p < 16)
      ∧ (pstate s.core p = 3)
      ∧ (running s.core = true)
      ∧ (b ∉ hs.notices))
  ∧ (let s : State := (fa none [] 2 id [] id)
     let hs : HoldState := s.core.alm.hold
     let p : Nat := 3
     let b : Nat := 7
     (Runs s)
      ∧ (p < 16)
      ∧ (b ∈ hs.notices ∨ running s.core = false))
  ∧ (let s : State := (fa none [] 4 id [] id)
     let hs : HoldState := s.core.alm.hold
     let m : Nat := 6
     let b : Nat := 5
     (Runs s)
      ∧ (running s.core = true)
      ∧ ((m, b) ∉ hs.ready))
  ∧ (let s : State := (fa none [] 5 (h5 [(0, 5), (6, 5)] none false) [] id)
     let hs : HoldState := s.core.alm.hold
     let m : Nat := 6
     let b : Nat := 5
     (Runs s)
      ∧ ((m, b) ∈ hs.ready))
  ∧ (let s : State := (fa none [] 5 (h5 [(0, 5), (6, 5)] none false) [] id)
     let hs : HoldState := s.core.alm.hold
     let b : Nat := 5
     (Runs s)
      ∧ (hs.heldAt = some b)
      ∧ (hs.resume = none))
  ∧ (let s : State := (fa none [] 5 (h5 [(0, 5), (6, 5)] none false) [] id)
     let hs : HoldState := s.core.alm.hold
     let b : Nat := 6
     (Runs s)
      ∧ (hs.heldAt ≠ some b ∨ hs.resume ≠ none))
  ∧ (let s : State := (fa none [] 5 (h5 [(0, 5), (6, 5)] (some 15000) false) [(Key.uptimeTicks, 150)] id)
     let hs : HoldState := s.core.alm.hold
     let b : Nat := 5
     let r : Nat := 15000
     (Runs s)
      ∧ (hs.heldAt = some b)
      ∧ (hs.resume = some r)
      ∧ (s.core.alm.voted = false)
      ∧ (Goals.noStop s b))
  ∧ (let s : State := (fa none [] 5 (h5 [(0, 5), (6, 5)] none false) [(Key.uptimeTicks, 150)] id)
     let hs : HoldState := s.core.alm.hold
     (Runs s)
      ∧ (hs.heldAt = none ∨ hs.resume = none))
  ∧ (let s : State := (fa none [] 4 id [(Key.uptimeTicks, 150)] id)
     let hs : HoldState := s.core.alm.hold
     (Runs s)
      ∧ (hs.heldAt = none)) :=
  by refine ⟨?_, ?_, ?_, ?_, ?_, ?_, ?_, ?_, ?_⟩ <;> decide +kernel +zetaReduce

/-- Meets the hypotheses of `Goals.HoldsTimeOut`, clause by clause. -/
theorem meets_HoldsTimeOut :
    (let s : State := (fa none [] 5 (h5 [(0, 5)] none false) [(Key.uptimeTicks, 150)] id)
     let b : Nat := 5
     let hs : HoldState := s.core.alm.hold
     (Runs s)
      ∧ (hs.heldAt = some b)
      ∧ (hs.timedOut = false)
      ∧ (hs.resume = none)
      ∧ ((ownMod s.core, b) ∈ hs.ready))
  ∧ (let s : State := (fa none [] 5 (fun a => { h5 [] none false a with segs := [(3, 5)] }) [(Key.uptimeTicks, 150)] id)
     let b : Nat := 5
     let hs : HoldState := s.core.alm.hold
     (Runs s)
      ∧ (hs.heldAt = some b)
      ∧ (hs.timedOut = false)
      ∧ (hs.resume = none)
      ∧ ((ownMod s.core, b) ∉ hs.ready)
      ∧ (awaitedFlows s.core b = [])
      ∧ (awaitedSessions s.core b = []))
  ∧ (let s : State := (fa none [gd] 5 (h5 [] none false) [(Key.uptimeTicks, 150)] gm)
     let b : Nat := 5
     let hs : HoldState := s.core.alm.hold
     (Runs s)
      ∧ (hs.heldAt = some b)
      ∧ (hs.timedOut = false)
      ∧ (hs.resume = none)
      ∧ ((ownMod s.core, b) ∉ hs.ready)
      ∧ (awaitedFlows s.core b ≠ [])
      ∧ (awaitedSessions s.core b = []))
  ∧ (let s : State := (fa none [gd] 5 (h5 [] none true) [(Key.uptimeTicks, 150)] gm)
     let b : Nat := 5
     let hs : HoldState := s.core.alm.hold
     (Runs s)
      ∧ (hs.heldAt = none ∨ hs.heldAt = some b ∧ (hs.timedOut = true ∨ hs.resume ≠ none))) :=
  by refine ⟨?_, ?_, ?_, ?_⟩ <;> decide +kernel +zetaReduce

/-- Meets the hypotheses of `Goals.AuditsSampleTheArray`, clause by clause. -/
theorem meets_AuditsSampleTheArray :
    (let s : State := (au 1 1 [(4, [[0x40000000]])] 4)
     let g : Nat := 0
     let m : Nat := 4
     let deferred : Bool := false
     let n : Nat := auditNumber deferred m
     let kept : Tab (List (List Nat)) := (stn s.core g).arr.audits
     let y : List (List Nat) := [[0x40000000]]
     (Runs s)
      ∧ (g < 192)
      ∧ (m < 2 ^ 63)
      ∧ (running s.core = true)
      ∧ (obj s.core Key.auditEnable = 1)
      ∧ (tget kept n = some y))
  ∧ (let s : State := (au 1 1 [(4, one1)] 4)
     let g : Nat := 0
     let m : Nat := 4
     let deferred : Bool := false
     let n : Nat := auditNumber deferred m
     let kept : Tab (List (List Nat)) := (stn s.core g).arr.audits
     let y : List (List Nat) := one1
     (Runs s)
      ∧ (g < 192)
      ∧ (m < 2 ^ 63)
      ∧ (running s.core = true)
      ∧ (obj s.core Key.auditEnable = 1)
      ∧ (tget kept n = some y))
  ∧ (let s : State := (au 1 0 [(4, one1)] 4)
     let g : Nat := 0
     let m : Nat := 4
     let deferred : Bool := false
     let n : Nat := auditNumber deferred m
     let kept : Tab (List (List Nat)) := (stn s.core g).arr.audits
     let y : List (List Nat) := one1
     (Runs s)
      ∧ (g < 192)
      ∧ (m < 2 ^ 63)
      ∧ (running s.core = true)
      ∧ (obj s.core Key.auditEnable ≠ 1)
      ∧ (tget kept n = some y))
  ∧ (let s : State := (au 1 1 [(4, one1)] 4)
     let g : Nat := 0
     let m : Nat := 5
     let deferred : Bool := false
     let n : Nat := auditNumber deferred m
     let kept : Tab (List (List Nat)) := (stn s.core g).arr.audits
     (Runs s)
      ∧ (g < 192)
      ∧ (m < 2 ^ 63)
      ∧ (running s.core = false ∨ tget kept n = none)) :=
  by refine ⟨?_, ?_, ?_, ?_⟩ <;> decide +kernel +zetaReduce

end Sys2Proof.Meets19
end

