-- ==== Sys2Proof/Tests/Slice0.lean ====
section
/-! SUPPORT. Checks of the model against the spec's worked examples, with an ill-formed command for each check of
well-formedness, and witnesses for the statements about tables and records. -/

namespace Sys2Proof.Slice0
open Machine

set_option Elab.async false

set_option maxRecDepth 20000

/-- A BULK_OPEN of kind 0. -/
def b0 : BulkOpen := { kind := 0, segBytes := 0, index := 0, sub := 0, addr := 0, length := 0, sem := 0, delta := 0, zeros := false }

/-! ### Well-formedness -/

/-- A station beyond the 192nd is refused. -/
theorem test_wf_station : (Instr.mma 192).wellFormed = false ∧ (Instr.mma 191).wellFormed = true := by decide

/-- A field beyond the eighth is refused. -/
theorem test_wf_field : (Instr.updApply 8).wellFormed = false ∧ (Instr.updApply 7).wellFormed = true := by decide

/-- A port beyond the sixteenth is refused. -/
theorem test_wf_port : (Instr.trainingTimeout 16).wellFormed = false ∧ (Instr.trainingTimeout 15).wellFormed = true := by decide

/-- A request comes in on one of three Ethernet ports. -/
theorem test_wf_header_port : (Instr.start { hd with port := 3 }).wellFormed = false ∧ (Instr.start hd).wellFormed = true := by decide

/-- A SEQ has 32 bits. -/
theorem test_wf_header_seq : (Instr.stop { hd with seq := 2 ^ 32 }).wellFormed = false ∧ (Instr.stop hd).wellFormed = true := by decide

/-- A context number has 16 bits. -/
theorem test_wf_context : (Instr.close { hd with ctx := 65536 }).wellFormed = false := by decide

/-- A READ item's OFFSET has 32 bits. -/
theorem test_wf_read : (Instr.readDict hd [⟨0x0B00, 2, 2 ^ 32⟩]).wellFormed = false
    ∧ (Instr.readDict hd [⟨0x0B00, 2, 0⟩]).wellFormed = true := by decide

/-- A WRITE of an object with a row of its own is that row's command. -/
theorem test_wf_write : (Instr.writeDict hd [⟨Key.hbmGranule / 256, Key.hbmGranule % 256, 2, [1]⟩]).wellFormed = false := by decide

/-- A BULK_OPEN stands in the row of its KIND. -/
theorem test_wf_bulk : (Instr.bulkReadMem hd b0).wellFormed = false
    ∧ (Instr.bulkWriteMem hd b0).wellFormed = true := by decide

/-- An OPEN carries a key of 1,184 bytes. -/
theorem test_wf_open :
    (Instr.openSession 1 { udp := 50471, nonce := 0, hostNonce := 0, ek := [], pk := [], pkDigest := [], sig := [], sigOk := true, source := 0 }).wellFormed = false := by
  decide

/-- An evaluation reads 41 sensors. -/
theorem test_wf_power : (Instr.powerEvaluation 52000 0 (List.replicate 40 0)).wellFormed = false
    ∧ (Instr.powerEvaluation 52000 0 (List.replicate 41 0)).wellFormed = true := by decide

/-- No row has bits, so no word spells a command, and placing one changes nothing. -/
theorem test_no_word_spells (n w : Nat) : decodeTableWord n w = none ∧ State.reset.withFetchWord n w = State.reset := ⟨rfl, rfl⟩

/-! ### Formats (chapter 02, its worked examples) -/

/-- The master 0.75 less 2^(−26) is exact in W32 and rounds back to 0.75 in FP32. -/
theorem test_w32_update :
    (toW32 ((decW32 0x4F000000).add (.fin true 1 (-26)))).1 = 0x4EFFFFFF ∧ fp32.enc (decW32 0x4EFFFFFF) = 0x3F400000 := by decide +kernel

/-- 0.3 under exponent 8 becomes E4M3 0x6A, which descales to 0.3125. -/
theorem test_e4m3_convert :
    narrow 1 ((fp32.dec 0x3E99999A).scale 8) = (0x6A, false) ∧ fp32.enc ((decE4M3 0x6A).scale (-8)) = 0x3EA00000 := by decide +kernel

/-- 76 is a tie that goes to the even fraction; 0.0009 lies below half the smallest subnormal. -/
theorem test_e4m3_ties : narrow 1 (.fin false 76 0) = (0x6A, false) ∧ narrow 1 (fp32.dec 0x3A6BEDFA) = (0, false) := by decide +kernel

/-- The random bits of parameter 5 in the step with seed 0x0000_0003_0000_0001. -/
theorem test_sr_bits : srBits 0x0000000300000001 5 0 = 0xA301 := by decide +kernel

/-- The moment 0x3C23_5C29 rounds down with those bits and up with 0xA3D7. -/
theorem test_sr_write : (srWrite 0x3C235C29 0xA301).1 = 0x3C23 ∧ (srWrite 0x3C235C29 0xA3D7).1 = 0x3C24 := by decide +kernel

/-- An amax of BF16 0x4047 under margin 1 gives exponent 6; 0x3F67 gives 7. -/
theorem test_scale_choice : roundUpBf16 0x40466667 = 0x4047 ∧ scaleExp 1 1 0x4047 = 6 ∧ scaleExp 1 1 0x3F67 = 7 := by decide +kernel

/-! ### The array (chapter 03, its worked examples) -/

/-- The activations of the example's segment. -/
def actA : List Nat := [0x48, 0x3A, 0xB0, 0x10, 0x01] ++ List.replicate 11 0
/-- Its weights. -/
def actW : List Nat := [0x3C, 0x46, 0x35, 0x91, 0x38] ++ List.replicate 11 0x80

/-- E_max is 2 and the window is 20,417. -/
theorem test_segment_window :
    eMax (List.zipWith (product 1 1) actA actW) = some 2 ∧ window 13 6 2 (List.zipWith (product 1 1) actA actW) = 20417 := by decide +kernel

/-- The segment promotes to 0x3E1F_8200, and with 384.0 from segment 1 the column holds 0x43C0_13F0. -/
theorem test_segment_promotes :
    promote 1 1 4 2 (List.zipWith (product 1 1) actA actW) = 0x3E1F8200 ∧ fp32.add 0x3E1F8200 0x43C00000 = 0x43C013F0 := by decide +kernel

/-- Two gradients of 2^(−24) are kept by COMPENSATE and lost by ACCUMULATE. -/
theorem test_compensate :
    enterEntry .compensate 0x3F800000 0 0x33800000 = (0x3F800000, 0x33800000)
      ∧ enterEntry .compensate 0x3F800000 0x33800000 0x33800000 = (0x3F800000, 0x34000000)
      ∧ fp32.add 0x3F800000 0x34000000 = 0x3F800001 ∧ enterEntry .accumulate 0x3F800000 0 0x33800000 = (0x3F800000, 0) := by
  decide +kernel

/-! ### Memory and access (chapter 06, its worked examples) -/

/-- HBM offset 0x123_4567 with a granule of 4 KiB lies in pseudo-channel 560, of stack 16. -/
theorem test_hbm_placement : hbmPc (setObj State.reset.core Key.hbmGranule 12) 0x1234567 = 560 ∧ 560 % 32 = 16 := by decide +kernel

/-- The table entry of the example lets station F3.S17 write slice 5 of F2 and nothing outside it. -/
theorem test_access_entry :
    entryPermits 0xE00000FF0000800094000800097FFF00 0x0059 0x800094000 .w = true
      ∧ entryPermits 0xE00000FF0000800094000800097FFF00 0x0059 0x800098000 .w = false
      ∧ entryPermits 0xE00000FF0000800094000800097FFF00 0x1004 0x800094000 .r = false := by decide +kernel

/-! ### Semaphores and instructions (chapters 07 and 08, their worked examples) -/

/-- The watch message to host session 0x1004 about semaphore 0x2A3 of F2, read as four words. -/
theorem test_watch_message :
    let m : WatchMsg := { status := .ok, cause := 0, sem := 0x001C22A3, cookie := 0x7A01, noWatch := false, localOrigin := false, handle := 0x828, count := 1, thresh := 1, frame := 0x12C47 }
    elems 8 4 (watchBytes m) = [0x01000000001C22A3, 0x00007A0108280000, 0x0000000000100001, 0x0000000000012C47] := by decide +kernel

/-- The four words of the fragment name WAT BLOCK, TAK, JMP and MMA. -/
theorem test_instruction_words :
    [0x4900001000454701, 0x4000001000454700, 0x7830A00000000000, 0x09014C0000082000].map opOf
      = [some .watBlock, some .tak, some .jmp, some .mma] := by decide +kernel

/-- The fields of the example's MMA word. -/
theorem test_mma_fields :
    let w := 0x09014C0000082000
    [bits w 57 1, bits w 56 1, bits w 55 1, bits w 54 1, bits w 46 8, bits w 42 4, bits w 20 22, bits w 19 1, bits w 7 12]
      = [0, 1, 0, 0, 5, 3, 0, 1, 0x40] := by decide +kernel

/-- The taken JMP of the fragment goes to 0x140. -/
theorem test_jmp_taken :
    (match exec (.jmp 53) (at0 53 0x7830A00000000000 fun x => { x with seq := { x.seq with lastStatus := Status.taken.code } }) with
      | .next t => (stn t.core 53).seq.pc
      | _ => 0) = 0x140 := by decide +kernel

/-! ### Collectives (chapter 10, its worked examples) -/

/-- The contributions of A and B at E_ref −19. -/
theorem test_contributions :
    [0x3F400000, 0x3B800000, 0x80080000].map (fun p => (convElem (-19) 4 p).1) = [3 * 2 ^ 124, 2 ^ 118, -1]
      ∧ [0xBF000000, 0x3BC00000, 0x00080000].map (fun p => (convElem (-19) 4 p).1) = [-(2 ^ 125), 3 * 2 ^ 117, 0] := by decide +kernel

/-- 2.0 lies outside the window and would be observed with exponent 1. -/
theorem test_contribution_overflow : convElem (-19) 4 0x40000000 = (0, 1, some 1) := by decide +kernel

/-- The results of the three sums. -/
theorem test_results : [(2 ^ 124 : Int), 5 * 2 ^ 117, -1].map (fun x => (sumResult (-19) x).1) = [0x3E800000, 0x3C200000, 0x80800000] := by
  decide +kernel

/-- The multiplier is 3, and the contributions' checksums add to the checksum of the sums. -/
theorem test_checksums :
    csumK 0x0000000700000001 7 = 3 ∧ csum 3 [3 * 2 ^ 124, 2 ^ 118, -1] = 0x1200000000000009
      ∧ csum 3 [-(2 ^ 125), 3 * 2 ^ 117, 0] = 0x1AFFFFFFFFFFFFE8 ∧ csum 3 [2 ^ 124, 5 * 2 ^ 117, -1] = 0x0CFFFFFFFFFFFFF2 := by
  decide +kernel

/-! ### The host and the chip (chapters 13 and 14, their worked examples) -/

/-- Session 37 reads ALMANAC_STATE while the Almanac runs. -/
theorem test_read_almanac_state :
    elems 8 2 (readItem State.reset.fuse 37 (opened [137, 138] (on 4 []).core, []) ⟨0x0B00, 2, 0⟩).2 = [0x0001000200020B00, 4] := by decide +kernel

/-- A glycol loop at 40 °C and 3.0 L/min caps the module at 3,700 W. -/
theorem test_coolant_cap :
    inletCap (some 40000) = 4000000 ∧ flowCap 1 (some 3000) = 3720000 ∧ capOf (min 4000000 3720000) = 3700 ∧ voltageCapOf 52000 = 4500 := by
  decide +kernel

/-- At 2.5 L/min of water the flow cap is 3,600 W. -/
theorem test_flow_cap : flowCap 0 (some 2500) = 3600000 := by decide +kernel

/-! ### Witnesses for the statements about tables and records -/

/-- A semaphore table within its capacities, as `Obligations.CountsStayWithinCapacity` asks. -/
theorem meets_CountsStayWithinCapacity :
    ∀ s, (semOf State.reset.core 2 s).count ≤ (semOf State.reset.core 2 s).cap := fun _ => Nat.le_refl 0

/-- The formats and operands of `Obligations.SumConversion`: a finite value inside the window, one outside, and an infinity. -/
theorem meets_SumConversion :
    decTag 4 0x3F400000 = .fin false 0xC00000 (-24) ∧ decTag 4 0x40000000 = .fin false 0x800000 (-22) ∧ decTag 4 0x7F800000 = .inf false := by
  decide +kernel

/-- Patterns of every format that are no NaN, as `Obligations.FormatsRoundTrip` asks. -/
theorem meets_FormatsRoundTrip :
    (fp32.dec 0x00000001).isNan = false ∧ (bf16.dec 0xFF80).isNan = false ∧ (e5m2.dec 0x7B).isNan = false ∧ (decE4M3 0x7E).isNan = false := by
  decide +kernel

/-- Lists of one length for `Obligations.ChecksumsAddUp`. -/
theorem meets_ChecksumsAddUp : ([3 * 2 ^ 124, 2 ^ 118, -1] : List Int).length = ([-(2 ^ 125), 3 * 2 ^ 117, 0] : List Int).length := rfl

/-- A record with values of the example. -/
def rec0 : Record :=
  { csumIn := 0x0CFFFFFFFFFFFFF2, csumOut := 0x0CFFFFFFFFFFFFF2, eObs := some (-1), eMin := -19, eMax := -19, flags := 0, count := 2, rseq := 7, channel := 63, csumRx := 0 }

/-- The example's record has status OK; each clause of `Goals.AgreementIsOrderFree` has a record that meets it. -/
theorem meets_AgreementIsOrderFree :
    rec0.status .sum 2 = .ok ∧ bit { rec0 with flags := 32 }.flags 5 = true
      ∧ (bit rec0.flags 5 = false ∧ rec0.count ≠ 3) ∧ (bit { rec0 with flags := 1 }.flags 5 = false ∧ bit { rec0 with flags := 1 }.flags 0 = true)
      ∧ (rec0.rseq = { rec0 with count := 1 }.rseq ∧ rec0.channel = { rec0 with count := 1 }.channel) := by decide +kernel

/-- Values and a record within the bounds of `Goals.CollectivePayloads`, at their limits. -/
theorem meets_CollectivePayloads :
    (([-(2 ^ 143), 2 ^ 143 - 1] : List Int).length ≤ 28 ∧ ∀ v ∈ ([-(2 ^ 143), 2 ^ 143 - 1] : List Int), -(2 ^ 143 : Int) ≤ v ∧ v < 2 ^ 143)
      ∧ rec0.csumIn < csumP ∧ rec0.csumOut < csumP ∧ rec0.csumRx < csumP ∧ (∀ e, rec0.eObs = some e → -32768 < e ∧ e < 32768)
      ∧ -32768 ≤ rec0.eMin ∧ rec0.eMin < 32768 ∧ -32768 ≤ rec0.eMax ∧ rec0.eMax < 32768 ∧ rec0.flags < 2 ^ 16 ∧ rec0.count < 2 ^ 16
      ∧ rec0.rseq < 2 ^ 16 ∧ rec0.channel < 64 :=
  ⟨by decide +kernel, by decide +kernel, by decide +kernel, by decide +kernel, allSome (by decide +kernel), by decide +kernel,
    by decide +kernel, by decide +kernel, by decide +kernel, by decide +kernel, by decide +kernel, by decide +kernel, by decide +kernel⟩

/-- Events that enter the log, are suppressed, stop the Almanac or leave it, for the clauses of `Goals.EventLogKeepsTheNewest`. -/
theorem meets_EventLogKeepsTheNewest :
    (tgetD (on 4 []).core.ev.interval 0x0701 0 < 64)
      ∧ (64 ≤ tgetD ({ (on 4 []).core.ev with interval := [(0x0701, 64)] }).interval 0x0701 0)
      ∧ (running (on 4 []).core = true ∧ (on 4 []).core.alm.fault = none) ∧ running (on 2 []).core = false := by decide +kernel

end Sys2Proof.Slice0
end

namespace Sys2Proof.Machine

/-- Settles O8: every table of the reset state is empty, so each record read from it is the record after reset. -/
theorem resetState : Obligations.ResetState := by
  unfold Obligations.ResetState
  refine ⟨rfl, rfl, rfl, by decide +kernel, rfl, by decide +kernel, by decide +kernel, rfl, ?_, ?_, ?_⟩
  · intro g t st
    refine ⟨rfl, rfl, rfl, rfl, ?_, rfl, rfl⟩
    unfold tileOf; split <;> rfl
  · intro f k
    exact ⟨rfl, rfl, rfl⟩
  · intro p i hp
    refine ⟨?_, rfl⟩
    have : ∀ p < 16, pstate State.reset.core p = 0 := by decide +kernel
    exact this p hp
end Sys2Proof.Machine

namespace Sys2Proof.Machine

/-! ## Bookkeeping: what events, messages and the sync units leave alone -/

/-- The objects in which events, replies, refusals and the sync units keep count (R240, R315, R446, R449). -/
def bookkeepingKeys : List Nat :=
  [Key.powerLimitCount, Key.coolantLimitCount, Key.thermalTripCount, Key.leapBudgetCount, Key.slipFaultCount, Key.refLostCount,
   Key.holdoverDriftCount, Key.clockUnlockCount, Key.slotMissedCount, Key.slotCollisionCount, Key.linkDownCount, Key.linkRefusedCount,
   Key.conflictCount, Key.routeChangeCount, Key.partnerLostCount, Key.frameOverrunCount, Key.checksumMismatchCount,
   Key.windowOverflowCount, Key.reductionOrderCount, Key.permuteFailedCount, Key.mcastDetachCount, Key.addressFaultCount,
   Key.memUncorrectableCount, Key.streamStallCount, Key.streamLostCount, Key.formatMismatchCount, Key.ringShapeCount,
   Key.illegalInstructionCount, Key.segmentLateCount, Key.dfwLateCount, Key.updateNonfiniteCount, Key.aborts, Key.undecidedCount,
   Key.auditDivergeCount, Key.semUnderflowCount, Key.semOverflowCount, Key.faultStops, Key.gatedAccessCount,
   Key.eventNextSeq, Key.eventsOverwritten, Key.eventsSuppressed, Key.lostMessages, Key.syncOps, Key.takenCount, Key.watchBusy,
   Key.accessRefused, Key.lastSemFault, Key.holdState] ++ (List.range 13).map (0x0C0100 + ·)

theorem eventCounter_mem {code k : Nat} (h : eventCounter code = some k) : k ∈ bookkeepingKeys := by
  unfold eventCounter at h
  split at h <;> cases h <;> decide

theorem statusCounter_mem (s : Status) : 0x0C0100 + s.code ∈ bookkeepingKeys := by cases s <;> decide

/-- `c` with the parts of `d` that bookkeeping may change: objects, events, what leaves, messages on their way, contexts' queues, the
Vigil, the refusals, the sync units, the fault that asks for a stop, and the READY and RESUME notices of a hold. -/
def bookkeepingParts (c d : Core) : Core :=
  { c with dict := d.dict, ev := d.ev, host := { c.host with sessions := d.host.sessions, out := d.host.out, traffic := d.host.traffic },
           net := d.net, vigil := d.vigil, acc := { c.acc with lastRefusal := d.acc.lastRefusal }, fl := d.fl,
           fab := { c.fab with ctxs := d.fab.ctxs },
           alm := { c.alm with fault := d.alm.fault,
                               hold := { c.alm.hold with ready := d.alm.hold.ready, resume := d.alm.hold.resume } } }

/-- `d` is `c` after bookkeeping: only those parts changed, of the objects only the counters, of a field only its sync unit, of a
context only its queue and count; and what had left the module stays. -/
structure Noted (c d : Core) : Prop where
  parts : d = bookkeepingParts c d
  objs : ∀ k, k ∉ bookkeepingKeys → obj d k = obj c k
  ctxs : ∀ i, ∃ q n, ctxOf d i = { ctxOf c i with queue := q, bytesTx := n }
  out : c.host.out <+: d.host.out
  fields : ∀ f, ∃ u, fld d f = { fld c f with sync := u }

namespace Noted

variable {c d e : Core}

theorem refl (c : Core) : Noted c c := ⟨rfl, fun _ _ => rfl, fun _ => ⟨_, _, rfl⟩, List.prefix_rfl, fun _ => ⟨_, rfl⟩⟩

theorem trans (h : Noted c d) (k : Noted d e) : Noted c e where
  parts := k.parts.trans (by rw [h.parts]; rfl)
  objs j hj := (k.objs j hj).trans (h.objs j hj)
  ctxs i := by
    obtain ⟨q, n, h1⟩ := h.ctxs i
    obtain ⟨q', n', h2⟩ := k.ctxs i
    exact ⟨q', n', by rw [h2, h1]⟩
  out := h.out.trans k.out
  fields f := by
    obtain ⟨u, h1⟩ := h.fields f
    obtain ⟨u', h2⟩ := k.fields f
    exact ⟨u', by rw [h2, h1]⟩

theorem foldl {α : Type} {f : Core → α → Core} (h : ∀ c x, Noted c (f c x)) (l : List α) (c : Core) : Noted c (l.foldl f c) := by
  induction l generalizing c with
  | nil => exact refl c
  | cons x r ih => exact (h c x).trans (ih _)

theorem ite {p : Prop} [Decidable p] (h : Noted c d) (k : Noted c e) : Noted c (if p then d else e) := by split <;> assumption

end Noted

/-- Bookkeeping that raises no event. -/
structure Quiet (c d : Core) : Prop extends Noted c d where
  ev : d.ev = c.ev
  fault : d.alm.fault = c.alm.fault

namespace Quiet

variable {c d e : Core}

theorem refl (c : Core) : Quiet c c := ⟨Noted.refl c, rfl, rfl⟩

theorem trans (h : Quiet c d) (k : Quiet d e) : Quiet c e :=
  ⟨h.toNoted.trans k.toNoted, k.ev.trans h.ev, k.fault.trans h.fault⟩

theorem foldl {α : Type} {f : Core → α → Core} (h : ∀ c x, Quiet c (f c x)) (l : List α) (c : Core) : Quiet c (l.foldl f c) := by
  induction l generalizing c with
  | nil => exact refl c
  | cons x r ih => exact (h c x).trans (ih _)

end Quiet

/-! ### What bookkeeping leaves alone -/

namespace Noted

variable {c d : Core} (h : Noted c d)
include h

theorem st : d.st = c.st := (congrArg Core.st h.parts :)
theorem scale : d.scale = c.scale := (congrArg Core.scale h.parts :)
theorem clk : d.clk = c.clk := (congrArg Core.clk h.parts :)
theorem power : d.power = c.power := (congrArg Core.power h.parts :)
theorem boot : d.boot = c.boot := (congrArg Core.boot h.parts :)
theorem ports : d.fab.ports = c.fab.ports := congrArg (·.fab.ports) h.parts
theorem transit : d.fab.transit = c.fab.transit := congrArg (·.fab.transit) h.parts
theorem alm :
    d.alm = { c.alm with fault := d.alm.fault
                         hold := { c.alm.hold with ready := d.alm.hold.ready, resume := d.alm.hold.resume } } := (congrArg Core.alm h.parts :)
theorem image : d.alm.image = c.alm.image := congrArg (·.alm.image) h.parts
theorem heldAt : d.alm.hold.heldAt = c.alm.hold.heldAt := congrArg (·.alm.hold.heldAt) h.parts
theorem notices : d.alm.hold.notices = c.alm.hold.notices := congrArg (·.alm.hold.notices) h.parts
theorem since : d.alm.hold.since = c.alm.hold.since := congrArg (·.alm.hold.since) h.parts
theorem timedOut : d.alm.hold.timedOut = c.alm.hold.timedOut := congrArg (·.alm.hold.timedOut) h.parts

theorem stn (g : Nat) : stn d g = stn c g := by simp [Machine.stn, h.st]

theorem sent {l : List Nat} {n : Notice} (hs : ∀ p ∈ l, OutMsg.notice p n ∈ c.host.out) : ∀ p ∈ l, OutMsg.notice p n ∈ d.host.out :=
  fun p hp => h.out.subset (hs p hp)

end Noted

/-! ### Single changes -/

section
variable (c : Core)

theorem quiet_setObj {k : Nat} (v : Nat) (h : k ∈ bookkeepingKeys) : Quiet c (setObj c k v) :=
  ⟨⟨rfl, fun _ hj => obj_setObj_ne c v fun e => hj (e ▸ h), fun _ => ⟨_, _, rfl⟩, List.prefix_rfl, fun _ => ⟨_, rfl⟩⟩, rfl, rfl⟩

theorem quiet_addObj {k : Nat} (n : Nat) (h : k ∈ bookkeepingKeys) : Quiet c (addObj c k n) := quiet_setObj c _ h

theorem quiet_errStatus (s : Status) : Quiet c (errStatus c s) := by
  unfold errStatus
  split
  · exact Quiet.refl c
  · exact quiet_addObj c 1 (statusCounter_mem s)

theorem quiet_send (m : OutMsg) : Quiet c (send c m) := by
  refine ⟨⟨?_, fun _ _ => by simp [obj], fun i => ⟨(ctxOf c i).queue, (ctxOf c i).bytesTx, by simp [ctxOf]⟩, by simp,
    fun f => ⟨syncU c f, by simp [fld, syncU]⟩⟩, by simp, by simp⟩
  unfold send; simp only []; split <;> rfl

theorem quiet_floodOn (ps : List Nat) (n : Notice) : Quiet c (floodOn c ps n) := Quiet.foldl (fun _ _ => quiet_send _ _) ps c

theorem quiet_setSession (k : Nat) (x : Session) : Quiet c (setSession c k x) :=
  ⟨⟨rfl, fun _ _ => rfl, fun _ => ⟨_, _, rfl⟩, List.prefix_rfl, fun _ => ⟨_, rfl⟩⟩, rfl, rfl⟩

/-- A context's queue and count changed. -/
theorem quiet_setCtx (i : Nat) (q : List FlowPkt) (n : Nat) : Quiet c (setCtx c i { ctxOf c i with queue := q, bytesTx := n }) := by
  refine ⟨⟨rfl, fun _ _ => rfl, fun j => ?_, List.prefix_rfl, fun _ => ⟨_, rfl⟩⟩, rfl, rfl⟩
  by_cases hj : j = i
  · subst hj; exact ⟨q, n, ctxOf_setCtx ..⟩
  · exact ⟨(ctxOf c j).queue, (ctxOf c j).bytesTx, by simp [ctxOf, setCtx, tgetD_tset_ne _ _ _ hj]⟩

theorem sentOn_eq_setCtx (i n : Nat) : sentOn c i n = c ∨ sentOn c i n = setCtx c i { ctxOf c i with bytesTx := (ctxOf c i).bytesTx + n } := by
  unfold sentOn
  split
  · next x hx => right; simp [setCtx, ctxOf, tgetD, hx]
  · left; rfl

theorem quiet_sentOn (i n : Nat) : Quiet c (sentOn c i n) := by
  rcases sentOn_eq_setCtx c i n with h | h
  · rw [h]; exact Quiet.refl c
  · rw [h]; exact quiet_setCtx c i _ _

theorem quiet_sendNote (i n : Nat) (r : Resp) : Quiet c (sendNote c i n r) := by
  unfold sendNote
  split
  · exact (quiet_sentOn c _ _).trans (quiet_send _ _)
  · exact Quiet.refl c

theorem quiet_notify (i typ : Nat) (pl : Bytes) : Quiet c (notify c i typ pl) := by
  unfold notify
  split
  · exact Quiet.refl c
  · exact (quiet_setSession c _ _).trans (quiet_sendNote _ _ _ _)

theorem quiet_notifyOne (r : EvRec) (i : Nat) : Quiet c (notifyOne r c i) := by
  unfold notifyOne
  split
  · exact Quiet.refl c
  · split_ifs
    · exact Quiet.refl c
    · exact quiet_setSession c _ _
    · exact quiet_notify c _ _ _

theorem quiet_notifyEvent (r : EvRec) : Quiet c (notifyEvent c r) := Quiet.foldl (fun _ _ => quiet_notifyOne _ r _) _ c

/-! ### Events -/

theorem noted_ev (e : EventLog) : Noted c { c with ev := e } :=
  ⟨rfl, fun _ _ => rfl, fun _ => ⟨_, _, rfl⟩, List.prefix_rfl, fun _ => ⟨_, rfl⟩⟩

theorem noted_fault (q : Option (Nat × Nat × Nat)) : Noted c { c with alm := { c.alm with fault := q } } :=
  ⟨rfl, fun _ _ => rfl, fun _ => ⟨_, _, rfl⟩, List.prefix_rfl, fun _ => ⟨_, rfl⟩⟩

/-- An event's record enters the log: the counters of raises stay. -/
theorem logEvent_spec (r : EvRec) :
    Noted c (logEvent c r) ∧ (logEvent c r).ev.counts = c.ev.counts ∧ (logEvent c r).alm.fault = c.alm.fault := by
  unfold logEvent
  extract_lets full lost _ d e f
  have hd : Noted c d := noted_ev c _
  have he : Quiet d e := quiet_setObj d _ (by decide)
  have hf : Quiet e f := by
    unfold f; split
    · exact quiet_addObj e _ (by decide)
    · exact Quiet.refl e
  have h := (he.trans hf).trans (quiet_notifyEvent f r)
  exact ⟨hd.trans h.toNoted, by rw [h.ev], h.fault⟩

/-- What raising an event does (R446, R447): it is counted, and a FAULT of a run asks for a stop. -/
theorem raise_spec (code : Nat) (cls : EvClass) (src tag : Nat) (args : List Nat) :
    Noted c (raise c code cls src tag args)
      ∧ (raise c code cls src tag args).ev.counts = tset c.ev.counts code (min (tgetD c.ev.counts code 0 + 1) (2 ^ 32 - 1))
      ∧ (cls ≠ .fault → (raise c code cls src tag args).alm.fault = c.alm.fault) := by
  unfold raise
  extract_lets _ d e _ f
  have hd : Noted c d := noted_ev c _
  have he : Quiet d e := by
    unfold e; split
    · next k hk => exact quiet_addObj d 1 (eventCounter_mem hk)
    · exact Quiet.refl d
  have hf : Noted e f ∧ f.ev = e.ev ∧ (cls ≠ .fault → f.alm.fault = e.alm.fault) := by
    unfold f; split
    · next h => exact ⟨noted_fault e _, rfl, fun hc => by simp [hc] at h⟩
    · exact ⟨Noted.refl e, rfl, fun _ => rfl⟩
  obtain ⟨hf, hfe, hff⟩ := hf
  have hcounts : f.ev.counts = tset c.ev.counts code (min (tgetD c.ev.counts code 0 + 1) (2 ^ 32 - 1)) := by rw [hfe, he.ev]
  have hfault : cls ≠ .fault → f.alm.fault = c.alm.fault := fun hc => (hff hc).trans he.fault
  split
  · obtain ⟨hl, hlc, hlf⟩ := logEvent_spec f { code := code, cls := cls, seq := obj f Key.eventNextSeq, frame := frameNow f,
                                                   tick := obj f Key.uptimeTicks, src := src, tag := tag, args := args, read := false }
    exact ⟨((hd.trans he.toNoted).trans hf).trans hl, hlc.trans hcounts, fun hc => hlf.trans (hfault hc)⟩
  · have hq := quiet_addObj f (k := Key.eventsSuppressed) 1 (by decide)
    exact ⟨((hd.trans he.toNoted).trans hf).trans hq.toNoted, by rw [hq.ev]; exact hcounts, fun hc => hq.fault.trans (hfault hc)⟩

theorem noted_raise (code : Nat) (cls : EvClass) (src tag : Nat) (args : List Nat) : Noted c (raise c code cls src tag args) :=
  (raise_spec c code cls src tag args).1

theorem raise_counts (code : Nat) (cls : EvClass) (src tag : Nat) (args : List Nat) :
    (raise c code cls src tag args).ev.counts = tset c.ev.counts code (min (tgetD c.ev.counts code 0 + 1) (2 ^ 32 - 1)) :=
  (raise_spec c code cls src tag args).2.1

theorem raise_fault {cls : EvClass} (code src tag : Nat) (args : List Nat) (h : cls ≠ .fault) :
    (raise c code cls src tag args).alm.fault = c.alm.fault := (raise_spec c code cls src tag args).2.2 h

/-! ### What events leave alone -/

/-- `c` with the parts of `d` that an event may change: objects, the log, what leaves, contexts' counts, and the fault that asks for a
stop. -/
def eventParts (c d : Core) : Core :=
  { c with dict := d.dict, ev := d.ev, host := { c.host with sessions := d.host.sessions, out := d.host.out, traffic := d.host.traffic },
           fab := { c.fab with ctxs := d.fab.ctxs }, alm := { c.alm with fault := d.alm.fault } }

theorem eventParts_trans {c d e : Core} (h : d = eventParts c d) (k : e = eventParts d e) : e = eventParts c e :=
  k.trans (by rw [h]; rfl)

theorem sendNote_parts (i n : Nat) (r : Resp) : sendNote c i n r = eventParts c (sendNote c i n r) := by
  unfold sendNote
  split
  · have h : sentOn c i r.payload.length = eventParts c (sentOn c i r.payload.length) := by unfold sentOn; split <;> rfl
    exact eventParts_trans h (by unfold send; simp only []; split <;> rfl)
  · rfl

theorem notifyOne_parts (r : EvRec) (i : Nat) : notifyOne r c i = eventParts c (notifyOne r c i) := by
  unfold notifyOne notify
  split
  · rfl
  · split_ifs
    · rfl
    · rfl
    · split
      · rfl
      · exact eventParts_trans rfl (sendNote_parts _ _ _ _)

theorem notifyEvent_parts (r : EvRec) : notifyEvent c r = eventParts c (notifyEvent c r) := by
  unfold notifyEvent
  generalize c.host.sessions.map (fun p => p.1) = l
  induction l generalizing c with
  | nil => rfl
  | cons i l ih => exact eventParts_trans (notifyOne_parts c r i) (ih _)

theorem logEvent_parts (r : EvRec) : logEvent c r = eventParts c (logEvent c r) := by
  unfold logEvent
  exact eventParts_trans (by split <;> rfl) (notifyEvent_parts _ r)

theorem raise_parts (code : Nat) (cls : EvClass) (src tag : Nat) (args : List Nat) :
    raise c code cls src tag args = eventParts c (raise c code cls src tag args) := by
  unfold raise
  extract_lets _ d e _ f
  have he : e = eventParts c e := by unfold e; split <;> rfl
  have hf : f = eventParts c f := eventParts_trans he (by unfold f; split <;> rfl)
  split
  · exact eventParts_trans hf (logEvent_parts f _)
  · exact eventParts_trans hf rfl

theorem raise_fl (code : Nat) (cls : EvClass) (src tag : Nat) (args : List Nat) : (raise c code cls src tag args).fl = c.fl := by
  rw [raise_parts]; rfl

/-- An event that is no fault touches nothing of the Almanac (R447). -/
theorem raise_alm {cls : EvClass} (code src tag : Nat) (args : List Nat) (h : cls ≠ .fault) :
    (raise c code cls src tag args).alm = c.alm := by
  have hp : (raise c code cls src tag args).alm = { c.alm with fault := (raise c code cls src tag args).alm.fault } :=
    (congrArg Core.alm (raise_parts c code cls src tag args) :)
  rw [hp, raise_fault c code src tag args h]

/-! ### The counter of an event -/

theorem sendNote_dict (i n : Nat) (r : Resp) : (sendNote c i n r).dict = c.dict := by
  unfold sendNote
  split
  · rw [send_dict, sentOn]; split <;> rfl
  · rfl

theorem notifyOne_dict (r : EvRec) (i : Nat) : (notifyOne r c i).dict = c.dict := by
  unfold notifyOne notify
  split
  · rfl
  · split_ifs
    · rfl
    · rfl
    · split
      · rfl
      · rw [sendNote_dict, setSession_dict]

theorem notifyEvent_dict (r : EvRec) : (notifyEvent c r).dict = c.dict := by
  unfold notifyEvent
  generalize c.host.sessions.map (fun p => p.1) = l
  induction l generalizing c with
  | nil => rfl
  | cons i l ih => exact (ih _).trans (notifyOne_dict c r i)

/-- The objects of the log itself (R447, R501). -/
def logKeys : List Nat := [Key.eventNextSeq, Key.eventsOverwritten, Key.eventsSuppressed]

theorem obj_logEvent (r : EvRec) {k : Nat} (h : k ∉ logKeys) : obj (logEvent c r) k = obj c k := by
  simp only [logKeys, List.mem_cons, List.not_mem_nil, or_false, not_or] at h
  obtain ⟨h1, h2, -⟩ := h
  have hn (d : Core) : obj (notifyEvent d r) k = obj d k := by rw [obj, notifyEvent_dict]; rfl
  simp only [logEvent, hn]
  split
  · rw [obj_addObj_ne _ _ h2, obj_setObj_ne _ _ h1]; rfl
  · rw [obj_setObj_ne _ _ h1]; rfl

/-- The counter object of an event counts its raise (R432, R449). -/
theorem obj_raise_counter {code k : Nat} (cls : EvClass) (src tag : Nat) (args : List Nat) (hk : eventCounter code = some k)
    (h : k ∉ logKeys) : obj (raise c code cls src tag args) k = min (obj c k + 1) (objMax k) := by
  have h3 : k ≠ Key.eventsSuppressed := fun e => h (by simp [logKeys, e])
  unfold raise
  extract_lets _ d e _ f
  have he : obj e k = min (obj c k + 1) (objMax k) := by
    have : e = addObj d k 1 := by simp only [e, hk]
    rw [this, obj_addObj]; rfl
  have hf : obj f k = obj e k := by unfold f; split <;> rfl
  split
  · rw [obj_logEvent _ _ h, hf, he]
  · rw [obj_addObj_ne _ _ h3, hf, he]

end

end Sys2Proof.Machine

namespace Sys2Proof.Machine

/-! ## Bookkeeping: the sync units, the hold protocol and refusals -/

section
variable (c : Core)

theorem quiet_setSync (f : Nat) (u : SyncUnit) : Quiet c (setSync c f u) := by
  refine ⟨⟨rfl, fun _ _ => rfl, fun _ => ⟨_, _, rfl⟩, List.prefix_rfl, fun k => ?_⟩, rfl, rfl⟩
  by_cases h : k = f
  · subst h; exact ⟨u, by simp [setSync]⟩
  · exact ⟨syncU c k, by simp [setSync, fld_setFld_ne _ _ h, syncU]⟩

theorem quiet_net (l : List NetMsg) : Quiet c { c with net := l } :=
  ⟨⟨rfl, fun _ _ => rfl, fun _ => ⟨_, _, rfl⟩, List.prefix_rfl, fun _ => ⟨_, rfl⟩⟩, rfl, rfl⟩

theorem quiet_vigil (v : Vigil) : Quiet c { c with vigil := v } :=
  ⟨⟨rfl, fun _ _ => rfl, fun _ => ⟨_, _, rfl⟩, List.prefix_rfl, fun _ => ⟨_, rfl⟩⟩, rfl, rfl⟩

theorem quiet_readyResume (l : List (Nat × Nat)) (r : Option Nat) :
    Quiet c (modHold c fun h => { h with ready := l, resume := r }) :=
  ⟨⟨rfl, fun _ _ => rfl, fun _ => ⟨_, _, rfl⟩, List.prefix_rfl, fun _ => ⟨_, rfl⟩⟩, rfl, rfl⟩

theorem quiet_enqueue (i typ issuer tag addr status op : Nat) (pl : Bytes) (cause : Cause) :
    Quiet c (enqueue c i typ issuer tag addr status op pl cause) := quiet_setCtx c i _ _

theorem quiet_sendWatch (dest slot : Nat) (m : WatchMsg) : Quiet c (sendWatch c dest slot m) := by
  unfold sendWatch
  extract_lets d
  have hd : Quiet c d := by
    unfold d; split
    · exact quiet_addObj c 1 (by decide)
    · exact Quiet.refl c
  split
  · split
    · exact hd.trans (quiet_enqueue ..)
    · exact hd
  · exact hd.trans (quiet_net _ _)

theorem quiet_vigilPass (f s m : Nat) : Quiet c (vigilPass c f s m) := by
  unfold vigilPass
  split
  · split
    · exact Quiet.refl c
    · exact quiet_vigil c _
  · exact Quiet.refl c

theorem quiet_vigilSig (f s m : Nat) : Quiet c (vigilSig c f s m) := by
  unfold vigilSig
  split
  · exact quiet_vigil c _
  · exact Quiet.refl c

theorem quiet_evalWatches (f s : Nat) : Quiet c (evalWatches c f s) := by
  unfold evalWatches
  exact ((quiet_setSync c f _).trans (Quiet.foldl (fun d p => (quiet_sendWatch d _ _ _).trans (quiet_vigilPass _ _ _ _)) _ _)).trans
    (Quiet.foldl (fun d x => quiet_sendWatch d _ _ _) _ _)

theorem quiet_evalGates (f s fuel : Nat) : Quiet c (evalGates c f s fuel) := by
  induction fuel generalizing c with
  | zero => exact Quiet.refl c
  | succ k ih =>
    unfold evalGates
    split
    · exact Quiet.refl c
    · exact (((quiet_setSync c f _).trans (quiet_setSync _ f _)).trans (quiet_evalWatches _ f s)).trans (ih _)

theorem quiet_resumeCheck : Quiet c (resumeCheck c) := by
  unfold resumeCheck
  split
  · exact Quiet.refl c
  · split
    · exact ((quiet_readyResume c c.alm.hold.ready _).trans (quiet_setObj _ _ (by decide))).trans (quiet_floodOn _ _ _)
    · exact Quiet.refl c

theorem quiet_readyCheck : Quiet c (readyCheck c) := by
  unfold readyCheck
  split
  · exact Quiet.refl c
  · split
    · exact Quiet.refl c
    · exact ((quiet_readyResume c _ c.alm.hold.resume).trans (quiet_floodOn _ _ _)).trans (quiet_resumeCheck _)

theorem quiet_evalSem (f s : Nat) : Quiet c (evalSem c f s) :=
  ((quiet_evalWatches c f s).trans (quiet_evalGates _ f s _)).trans (quiet_readyCheck _)

theorem quiet_poison (f s cause : Nat) : Quiet c (poison c f s cause) := by
  unfold poison
  exact (((quiet_setSync c f _).trans (quiet_setSync _ f _)).trans (Quiet.foldl (fun d _ => quiet_sendWatch d _ _ _) _ _)).trans
    (Quiet.foldl (fun d _ => quiet_sendWatch d _ _ _) _ _)

theorem quiet_holdOp (f : Nat) (op : SyncOp) : Quiet c (holdOp c f op) := quiet_setSync c f _

theorem quiet_applyPoisons (f fuel : Nat) : Quiet c (applyPoisons c f fuel) := by
  induction fuel generalizing c with
  | zero => exact Quiet.refl c
  | succ k ih =>
    unfold applyPoisons
    split
    · split
      · exact ((quiet_setSync c f _).trans (quiet_poison _ f _ _)).trans (ih _)
      · exact Quiet.refl c
    · exact Quiet.refl c

theorem quiet_holdPoison (f s issuer cause : Nat) : Quiet c (holdPoison c f s issuer cause) :=
  (quiet_holdOp c f _).trans (quiet_applyPoisons _ f _)

theorem quiet_countOp (f : Nat) : Quiet c (countOp c f) := (quiet_setSync c f _).trans (quiet_addObj _ 1 (by decide))

theorem quiet_judgeGate (f s n : Nat) : Quiet c (judgeGate c f s n) := by
  unfold judgeGate
  extract_lets d x
  split
  · exact ((quiet_countOp c f).trans (quiet_setSync _ f _)).trans (quiet_evalSem _ f s)
  · exact (quiet_countOp c f).trans (quiet_setSync _ f _)

/-! ### What the hold protocol's notices leave alone -/

/-- `c` with what leaves the module, the objects, and the READY and RESUME notices of `d`. -/
def noticeParts (c d : Core) : Core :=
  { c with dict := d.dict, host := { c.host with out := d.host.out, traffic := d.host.traffic },
           alm := { c.alm with hold := { c.alm.hold with ready := d.alm.hold.ready, resume := d.alm.hold.resume } } }

theorem noticeParts_trans {c d e : Core} (h : d = noticeParts c d) (k : e = noticeParts d e) : e = noticeParts c e :=
  k.trans (by rw [h]; rfl)

theorem send_parts (m : OutMsg) : send c m = noticeParts c (send c m) := by unfold send; simp only []; split <;> rfl

theorem floodOn_parts (ps : List Nat) (n : Notice) : floodOn c ps n = noticeParts c (floodOn c ps n) := by
  induction ps generalizing c with
  | nil => rfl
  | cons p r ih => exact noticeParts_trans (send_parts c _) (ih _)

theorem resumeCheck_parts : resumeCheck c = noticeParts c (resumeCheck c) := by
  unfold resumeCheck
  split
  · rfl
  · split
    · exact noticeParts_trans rfl (floodOn_parts _ _ _)
    · rfl

theorem readyCheck_parts : readyCheck c = noticeParts c (readyCheck c) := by
  unfold readyCheck
  split
  · rfl
  · split
    · rfl
    · exact noticeParts_trans (noticeParts_trans rfl (floodOn_parts _ _ _)) (resumeCheck_parts _)

theorem readyCheck_fl : (readyCheck c).fl = c.fl := by rw [readyCheck_parts]; rfl
theorem readyCheck_fab : (readyCheck c).fab = c.fab := by rw [readyCheck_parts]; rfl

@[simp] theorem floodOn_dict (ps : List Nat) (n : Notice) : (floodOn c ps n).dict = c.dict := by
  induction ps generalizing c with
  | nil => rfl
  | cons p r ih => exact (ih _).trans (send_dict c _)

@[simp] theorem floodOn_alm (ps : List Nat) (n : Notice) : (floodOn c ps n).alm = c.alm := by
  induction ps generalizing c with
  | nil => rfl
  | cons p r ih => exact (ih _).trans (send_alm c _)

@[simp] theorem floodOn_out (ps : List Nat) (n : Notice) :
    (floodOn c ps n).host.out = c.host.out ++ ps.map fun p => OutMsg.notice p n := by
  induction ps generalizing c with
  | nil => simp [floodOn]
  | cons p r ih =>
    have h : floodOn c (p :: r) n = floodOn (send c (.notice p n)) r n := rfl
    simp [h, ih]

/-- A notice flooded on some ports has left on each of them. -/
theorem floodOn_sent (ps : List Nat) (n : Notice) : ∀ p ∈ ps, OutMsg.notice p n ∈ (floodOn c ps n).host.out := by
  intro p hp
  rw [floodOn_out]
  exact List.mem_append_right _ (List.mem_map_of_mem (f := fun p => OutMsg.notice p n) hp)

/-! ### Operations that may raise an event -/

theorem noted_lastRefusal (r : Option (Nat × Nat × Nat × Nat)) : Noted c { c with acc := { c.acc with lastRefusal := r } } :=
  ⟨rfl, fun _ _ => rfl, fun _ => ⟨_, _, rfl⟩, List.prefix_rfl, fun _ => ⟨_, rfl⟩⟩

theorem noted_refuse (m target off : Nat) (rt : Right) (tag : Nat) : Noted c (refuse c m target off rt tag) := by
  unfold refuse
  exact (((noted_raise c _ _ _ _ _).trans (quiet_addObj _ 1 (by decide)).toNoted).trans (noted_lastRefusal _ _)).trans
    (quiet_errStatus _ _).toNoted

theorem noted_semFault (f : Nat) (op : SyncOp) (kind : Nat) : Noted c (semFault c f op kind) := by
  unfold semFault
  exact ((quiet_setSync c f _).trans (quiet_setObj _ _ (by decide))).toNoted.trans (noted_raise _ _ _ _ _ _)

theorem quiet_applyTak (f s n issuer : Nat) : Quiet c (applyTak c f s n issuer).1 := by
  unfold applyTak
  extract_lets x
  split
  · exact quiet_addObj c 1 (by decide)
  · exact ((quiet_setSync c f _).trans (quiet_vigilPass _ _ _ _)).trans (quiet_evalSem _ f s)

theorem quiet_applyWat (f : Nat) (op : SyncOp) : Quiet c (applyWat c f op).1 := by
  unfold applyWat
  split
  · exact quiet_addObj c 1 (by decide)
  · exact (quiet_setSync c f _).trans (quiet_evalSem _ f _)

theorem quiet_sig (f : Nat) (op : SyncOp) (x : Sem) :
    Quiet c (evalSem (vigilSig (setSem c f op.sem x) f op.sem op.issuer) f op.sem) :=
  ((quiet_setSync c f _).trans (quiet_vigilSig _ _ _ _)).trans (quiet_evalSem _ f _)

theorem noted_applyPermitted (f : Nat) (op : SyncOp) : Noted c (applyPermitted c f op).1 := by
  unfold applyPermitted
  extract_lets x bound
  split; · exact Noted.refl c
  split; · exact Noted.refl c
  split; · exact Noted.refl c
  split; · exact Noted.ite (quiet_sendWatch c _ _ _).toNoted (Noted.refl c)
  split
  · split
    · exact noted_semFault c f op 2
    · exact (quiet_sig c f op _).toNoted
  · split
    · exact noted_semFault c f op 1
    · exact (quiet_sig c f op _).toNoted
  · exact (quiet_applyTak c f _ _ _).toNoted
  · exact (quiet_applyWat c f op).toNoted
  · exact Noted.refl c
  · exact Noted.refl c

theorem noted_applyOp (f : Nat) (op : SyncOp) : Noted c (applyOp c f op).1 := by
  unfold applyOp
  extract_lets d r
  have hd : Noted c d := (quiet_countOp c f).toNoted
  split
  · exact (hd.trans (noted_applyPermitted d f op)).trans (quiet_errStatus _ _).toNoted
  · exact hd.trans (noted_refuse d _ _ _ _ _)

end

end Sys2Proof.Machine

namespace Sys2Proof.Machine

/-! ## Tables changed record by record, and the passing of ticks -/

section
variable {α : Type}

theorem tget_map (f : α → α) (t : Tab α) (k : Nat) : tget (t.map fun p => (p.1, f p.2)) k = (tget t k).map f := by
  induction t with
  | nil => rfl
  | cons p r ih =>
    obtain ⟨j, x⟩ := p
    by_cases h : j = k
    · simp [tget, h]
    · simp [tget, h, ih]

theorem tgetD_map {f : α → α} {d : α} (t : Tab α) (k : Nat) (h : f d = d) :
    tgetD (t.map fun p => (p.1, f p.2)) k d = f (tgetD t k d) := by
  rw [tgetD, tget_map, tgetD]
  cases tget t k <;> simp [h]

theorem tgetD_tmap {f : α → α} {d : α} (t : Tab α) (k : Nat) (h : f d = d) : tgetD (tmap f t) k d = f (tgetD t k d) :=
  tgetD_map t k h

end

/-- The objects that time moves (R275, R307, R444). -/
def tickKeys : List Nat := [Key.seqWaitCycles, Key.tileWaitCycles, Key.uptimeTicks, Key.heldTicks, Key.domainTick]

section
variable (c : Core) (n : Nat)

/-- Ticks that pass touch stations, those objects, and the memory errors to come. -/
theorem passTicks_parts : passTicks n c = { c with st := c.st.map fun p => (p.1, tickStation (n * obj c Key.opMult) p.2)
                                                   dict := (passTicks n c).dict
                                                   ecc := (passTicks n c).ecc
                                                   freeCtr := c.freeCtr + 1 } := by
  cases h : c.alm.hold.heldAt <;> simp [passTicks, newErrors, h] <;> rfl

@[simp] theorem passTicks_ev : (passTicks n c).ev = c.ev := by rw [passTicks_parts]
@[simp] theorem passTicks_alm : (passTicks n c).alm = c.alm := by rw [passTicks_parts]
@[simp] theorem passTicks_fl : (passTicks n c).fl = c.fl := by rw [passTicks_parts]
@[simp] theorem passTicks_scale : (passTicks n c).scale = c.scale := by rw [passTicks_parts]
@[simp] theorem passTicks_fab : (passTicks n c).fab = c.fab := by rw [passTicks_parts]
@[simp] theorem passTicks_host : (passTicks n c).host = c.host := by rw [passTicks_parts]
@[simp] theorem passTicks_power : (passTicks n c).power = c.power := by rw [passTicks_parts]
theorem passTicks_st : (passTicks n c).st = c.st.map fun p => (p.1, tickStation (n * obj c Key.opMult) p.2) := by rw [passTicks_parts]

theorem obj_passTicks {k : Nat} (h : k ∉ tickKeys) : obj (passTicks n c) k = obj c k := by
  simp only [tickKeys, List.mem_cons, List.not_mem_nil, or_false, not_or] at h
  obtain ⟨h1, h2, h3, h4, h5⟩ := h
  have base : obj { newErrors c with st := c.st.map fun p => (p.1, tickStation (n * obj c Key.opMult) p.2) } k = obj c k := rfl
  simp only [passTicks]
  split
  · rw [obj_addObj_ne _ _ h4, obj_addObj_ne _ _ h3, obj_addObj_ne _ _ h2, obj_addObj_ne _ _ h1, base]
  · rw [obj_setObj_ne _ _ h5, obj_addObj_ne _ _ h3, obj_addObj_ne _ _ h2, obj_addObj_ne _ _ h1, base]

/-- The count of a domain that is held stands; else it advances (R307, R311). -/
theorem domainTick_passTicks : obj (passTicks n c) Key.domainTick
    = if c.alm.hold.heldAt.isSome then obj c Key.domainTick else (obj c Key.domainTick + n) % 2 ^ 64 := by
  have base : obj { newErrors c with st := c.st.map fun p => (p.1, tickStation (n * obj c Key.opMult) p.2) } Key.domainTick
    = obj c Key.domainTick := rfl
  simp only [passTicks]
  split
  · next h =>
    rw [if_pos (by simpa [newErrors] using h), obj_addObj_ne _ _ (by decide), obj_addObj_ne _ _ (by decide), obj_addObj_ne _ _ (by decide),
      obj_addObj_ne _ _ (by decide), base]
  · next h =>
    rw [if_neg (by simpa [newErrors] using h), obj_setObj, obj_addObj_ne _ _ (by decide), obj_addObj_ne _ _ (by decide),
      obj_addObj_ne _ _ (by decide), base]

theorem stn_passTicks (g : Nat) : stn (passTicks n c) g = tickStation (n * obj c Key.opMult) (stn c g) := by
  rw [stn, passTicks_st, stn]
  exact tgetD_map _ _ (by simp [tickStation, Station.reset, Seq.reset])

/-- The count reaches the tick that a rule places an event at, where that lies ahead (R19). -/
theorem domainTick_reachTick {t : Nat} (hh : c.alm.hold.heldAt = none) (h1 : obj c Key.domainTick ≤ t) (h2 : t < 2 ^ 64) :
    obj (reachTick c t) Key.domainTick = t := by
  rw [reachTick, domainTick_passTicks, hh, if_neg (by simp), Nat.add_sub_cancel' h1, Nat.mod_eq_of_lt h2]

/-- Time moves of a station nothing but its sequencer. -/
theorem tickStation_seq (cycles : Nat) (x : Station) : tickStation cycles x = { x with seq := (tickStation cycles x).seq } := by
  unfold tickStation
  extract_lets q w
  split_ifs <;> rfl

end

end Sys2Proof.Machine

namespace Sys2Proof.Machine

/-! ## Segments (O17) -/

theorem dropSeg_eq_eraseP (l : List (Nat × Nat)) (g : Nat) : dropSeg l g = l.eraseP fun p => p.1 = g := by
  induction l with
  | nil => rfl
  | cons p r ih =>
    by_cases h : p.1 = g
    · simp [dropSeg, h]
    · simp [dropSeg, h, ih]

/-- A station's record after an issue that touched no other. -/
theorem stn_issueAs_self (c : Core) (g : Nat) (x : Station) : stn (issueAs c g x) g = { x with seq := issuedSeq x.seq } := by
  simp [issueAs]

theorem stn_issueAs_ne (c : Core) {g k : Nat} (x : Station) (h : k ≠ g) : stn (issueAs c g x) k = stn c k := by
  simp [issueAs, stn_setStn_ne _ _ h]

@[simp] theorem stn_modSeq_self (c : Core) (g : Nat) (f : Seq → Seq) : stn (modSeq c g f) g = { stn c g with seq := f (stn c g).seq } := by
  simp [modSeq]

theorem stn_modSeq_ne (c : Core) {g k : Nat} (f : Seq → Seq) (h : k ≠ g) : stn (modSeq c g f) k = stn c k := stn_setStn_ne c _ h

/-- The sequencer that an END leaves (R243): IDLE, or in the segment of the pending start. -/
def endedSeq (q : Seq) : Seq :=
  match q.pendingStart with
  | some e => { q with state := .running, waitCause := 0, pc := e % 8192, pendingStart := none, hold := .free }
  | none => { q with state := .idle, waitCause := 0 }

theorem endedSeq_some {q : Seq} {e : Nat} (h : q.pendingStart = some e) :
    endedSeq q = { q with state := .running, waitCause := 0, pc := e % 8192, pendingStart := none, hold := .free } := by
  simp only [endedSeq, h]

theorem endedSeq_none {q : Seq} (h : q.pendingStart = none) : endedSeq q = { q with state := .idle, waitCause := 0 } := by
  simp only [endedSeq, h]

/-- END is an issue, the segment no longer owed, the sequencer's next state, and READY if that was what a hold waited for. -/
theorem exec_endSeg {s : State} {g w : Nat} (h : AtWord s g w .endSeg) :
    ∃ d, exec (.endSeg g) s = .next (withCore s (readyCheck (modSeq d g endedSeq))) ∧ d.st = (issueAs s.core g (stn s.core g)).st
      ∧ d.fl = s.core.fl ∧ d.alm.segs = s.core.alm.segs.eraseP fun p => p.1 = g := by
  let c := issueAs s.core g (stn s.core g)
  have hfl : c.fl = s.core.fl := by simp [c, issueAs]
  have hsegs : c.alm.segs = s.core.alm.segs := by simp [c, issueAs]
  refine ⟨{ c with alm := { c.alm with segs := c.alm.segs.eraseP fun p => p.1 = g } }, ?_, rfl, hfl, by rw [hsegs]⟩
  have he : exec (.endSeg g) s = execEndSeg g s := rfl
  rw [he, execEndSeg, onCoreMem_atWord _ h, withCore]
  simp only [atPc_of_atWord h, issued_eq, dropSeg_eq_eraseP]
  congr 2
  generalize ({ issueAs s.core g (stn s.core g) with alm := _ } : Core) = d
  split
  · next e hp => simp only [beginSegment, modSeq, endedSeq_some hp]
  · next hp => simp only [modSeq, endedSeq_none hp]

theorem endOfSegment : Goals.EndOfSegment := by
  intro s g w h x
  obtain ⟨d, he, hst, hfl, hsegs⟩ := exec_endSeg h
  have hfree : x.seq.hold = .free := h.2.2.2.1
  have q := quiet_readyCheck (modSeq d g endedSeq)
  have hd (k : Nat) : stn d k = stn (issueAs s.core g x) k := by simp only [stn, hst]; rfl
  have hx : stn (readyCheck (modSeq d g endedSeq)) g = { x with seq := endedSeq (issuedSeq x.seq) } := by
    rw [q.stn, stn_modSeq_self, hd, stn_issueAs_self]
  refine ⟨_, he, fun hp => hx.trans ?_, fun e hp => hx.trans ?_, ?_, fun k hk => ?_, rfl, ?_⟩
  · rw [endedSeq_none (q := issuedSeq x.seq) hp]; rfl
  · rw [endedSeq_some (q := issuedSeq x.seq) hp]; simp [issuedSeq, hfree]
  · exact (congrArg (·.segs) q.alm).trans hsegs
  · exact (q.stn k).trans ((stn_modSeq_ne d _ hk).trans ((hd k).trans (stn_issueAs_ne s.core x hk)))
  · exact (readyCheck_fl _).trans hfl

/-! ### Start points (R243, R353) -/

/-- A segment owes its END at a boundary (R369). -/
def oweSeg (c : Core) (g due : Nat) : Core := { c with alm := { c.alm with segs := c.alm.segs ++ [(g, due)] } }

/-- What reaching a start point does to a sequencer (R243): the branches of `execSegmentStart`. -/
def reachStart (c : Core) (g entry due : Nat) : Core :=
  match (stn c g).seq.state with
  | .idle => beginSegment (oweSeg c g due) g entry
  | .stopped => c
  | .faulted => c
  | _ =>
    if (stn c g).seq.pendingStart.isSome then faultSeq (raise c 0x0805 .fault g 0 [g, entry]) g (stn c g).seq.pc 6
    else raise (modSeq (oweSeg c g due) g fun q => { q with pendingStart := some entry, late := true }) 0x0804 .report g 0 [g, entry]

/-- The core at a start point: its tick reached, the point taken. -/
def atStart (c : Core) (g : Nat) (p : SegEntry) : Core :=
  let d := reachTick c (startTick c p)
  { d with alm := { d.alm with starts := d.alm.starts ++ [(g, p.offset)] } }

theorem exec_segmentStart {s : State} {g e : Nat} {p : SegEntry} (hr : Runs s) (hg : g < 192) (ha : almState s.core = 4)
    (hp : firstPoint (startPoints s.core g e) = some p) :
    exec (.segmentStart g e) s
      = .next (withCore s (reachStart (atStart s.core g p) g e (obj (atStart s.core g p) Key.frameCount + p.close + 1))) := by
  have he : exec (.segmentStart g e) s = execSegmentStart g e s := rfl
  rw [he, execSegmentStart, inRange_lt hg, onCore_powered _ (runs_powered hr), withCore]
  simp only [ha, ne_eq, not_true_eq_false, if_false, hp]
  congr 2

section
variable {c : Core} {g entry due : Nat}

theorem reachStart_idle (h : (stn c g).seq.state = .idle) : reachStart c g entry due = beginSegment (oweSeg c g due) g entry := by
  simp [reachStart, h]

theorem reachStart_late (h : (stn c g).seq.state = .running ∨ (stn c g).seq.state = .waiting) (hp : (stn c g).seq.pendingStart = none) :
    reachStart c g entry due
      = raise (modSeq (oweSeg c g due) g fun q => { q with pendingStart := some entry, late := true }) 0x0804 .report g 0 [g, entry] := by
  rcases h with h | h <;> simp [reachStart, h, hp]

theorem reachStart_overrun (h : (stn c g).seq.state = .running ∨ (stn c g).seq.state = .waiting)
    (hp : (stn c g).seq.pendingStart.isSome = true) :
    reachStart c g entry due = faultSeq (raise c 0x0805 .fault g 0 [g, entry]) g (stn c g).seq.pc 6 := by
  rcases h with h | h <;> simp [reachStart, h, hp]

theorem reachStart_dead (h : (stn c g).seq.state = .faulted ∨ (stn c g).seq.state = .stopped) : reachStart c g entry due = c := by
  rcases h with h | h <;> simp [reachStart, h]

/-- A sequencer that is not FAULTED enters FAULTED at its instruction (R245); no other station, nor the starts of the frame. -/
theorem faultSeq_spec {d : Core} (kind : Nat) (h : (stn d g).seq.state ≠ .faulted) :
    let t := faultSeq d g (stn d g).seq.pc kind
    stn t g = { stn d g with seq := faultedSeq (stn d g).seq kind } ∧ (∀ k, k ≠ g → stn t k = stn d k) ∧ t.alm.starts = d.alm.starts
      ∧ t.fl = d.fl ∧ t.alm.stationFault = (g, kind, (stn d g).seq.pc) ∧ ∀ k, k ≠ Key.stationFaults → obj t k = obj d k := by
  simp only [faultSeq, h, if_false]
  exact ⟨stn_setStn d g _, fun k hk => stn_setStn_ne d _ hk, rfl, rfl, rfl, fun k hk => obj_addObj_ne _ _ hk⟩

/-- A start point's rule touches one station, and takes no start point back. -/
theorem reachStart_frame : (reachStart c g entry due).alm.starts = c.alm.starts
    ∧ ∀ k, k ≠ g → stn (reachStart c g entry due) k = stn c k := by
  cases hs : (stn c g).seq.state
  case idle => rw [reachStart_idle hs]; exact ⟨rfl, fun k hk => stn_modSeq_ne _ _ hk⟩
  case stopped => rw [reachStart_dead (.inr hs)]; exact ⟨rfl, fun _ _ => rfl⟩
  case faulted => rw [reachStart_dead (.inl hs)]; exact ⟨rfl, fun _ _ => rfl⟩
  all_goals
    cases hp : (stn c g).seq.pendingStart with
    | none =>
      rw [reachStart_late (by simp [hs]) hp]
      have n := noted_raise (modSeq (oweSeg c g due) g fun q => { q with pendingStart := some entry, late := true }) 0x0804 .report g 0 [g, entry]
      exact ⟨congrArg (·.starts) n.alm, fun k hk => (n.stn k).trans (stn_modSeq_ne _ _ hk)⟩
    | some _ =>
      rw [reachStart_overrun (by simp [hs]) (by simp [hp])]
      have n := noted_raise c 0x0805 .fault g 0 [g, entry]
      obtain ⟨-, hk, hst, -⟩ := faultSeq_spec (g := g) (d := raise c 0x0805 .fault g 0 [g, entry]) 6 (by rw [n.stn, hs]; decide)
      rw [n.stn] at hk hst
      exact ⟨hst.trans (congrArg (·.starts) n.alm), fun k h => (hk k h).trans (n.stn k)⟩

end

theorem obj_atStart (c : Core) (g : Nat) (p : SegEntry) {k : Nat} (h : k ∉ tickKeys) : obj (atStart c g p) k = obj c k :=
  obj_passTicks c _ h

theorem segmentStartPoints : Goals.SegmentStartPoints := by
  intro s g e hr hg ha
  constructor
  · intro h0
    have he : exec (.segmentStart g e) s = execSegmentStart g e s := rfl
    rw [he, execSegmentStart, inRange_lt hg, onCore_powered _ (runs_powered hr)]
    simp [h0, firstPoint]
  intro p hp r q
  refine ⟨_, exec_segmentStart hr hg ha hp, ?_⟩
  generalize obj (atStart s.core g p) Key.frameCount + p.close + 1 = due
  have hst : ∀ k, stn (atStart s.core g p) k = stn r.core k := fun _ => rfl
  have hdict : (atStart s.core g p).dict = r.core.dict := rfl
  have hstarts : (atStart s.core g p).alm.starts = s.core.alm.starts ++ [(g, p.offset)] := by simp [atStart, reachTick]
  have hcount := obj_atStart s.core g p (k := Key.segmentLateCount) (by decide)
  have hq : (stn (atStart s.core g p) g).seq = q := congrArg (·.seq) (hst g)
  generalize atStart s.core g p = c at *
  obtain ⟨hs, hk⟩ := reachStart_frame (c := c) (g := g) (entry := e) (due := due)
  refine ⟨hs.trans hstarts, fun k h => (hk k h).trans (hst k), rfl, fun hi => ?_, fun hb hn => ?_, fun hb hn => ?_, fun hb => ?_⟩
  · rw [withCore, reachStart_idle (hq ▸ hi), ← hq]
    exact ⟨congrArg (·.seq) (stn_modSeq_self (oweSeg c g due) g _), hdict⟩
  · rw [withCore, reachStart_late (hq ▸ hb) (hq ▸ hn), ← hq, ← hcount]
    have n := noted_raise (modSeq (oweSeg c g due) g fun q => { q with pendingStart := some e, late := true }) 0x0804 .report g 0 [g, e]
    refine ⟨congrArg (·.seq) ((n.stn g).trans (stn_modSeq_self (oweSeg c g due) g _)), ?_⟩
    rw [obj_raise_counter (k := Key.segmentLateCount) _ _ _ _ _ rfl (by decide)]
    rfl
  · rw [withCore, reachStart_overrun (hq ▸ hb) (hq ▸ hn), ← hq]
    have n := noted_raise c 0x0805 .fault g 0 [g, e]
    have hf : (stn c g).seq.state ≠ .faulted := by rw [hq]; rcases hb with h | h <;> rw [h] <;> decide
    obtain ⟨h1, -⟩ := faultSeq_spec (g := g) (d := raise c 0x0805 .fault g 0 [g, e]) 6 (by rwa [n.stn])
    rw [n.stn] at h1
    exact congrArg (·.seq) h1
  · rw [withCore, reachStart_dead (hq ▸ hb)]
    exact ⟨hst g, hdict⟩

/-! ### Illegal words, LYR and submissions -/

theorem illegalInstructionFaults : Goals.IllegalInstructionFaults := by
  intro s g hr hg x w hs hh hw
  have he : exec (.illegalInstruction g) s = execIllegalInstruction g s := rfl
  have hready : ready s.mem s.core g = some w := by
    unfold ready
    rcases hs with h | h <;> simp only [x] at h hh <;> simp [h, hh, w, x]
  have hbad : ¬((opOf w).isSome ∧ issueOk s.core g w) := by rcases hw with h | h <;> simp [h]
  have n := noted_raise s.core 0x0803 .fault g 0 [g, x.seq.pc]
  have hx : stn (raise s.core 0x0803 .fault g 0 [g, x.seq.pc]) g = x := n.stn g
  have hf : x.seq.state ≠ .faulted := by rcases hs with h | h <;> rw [h] <;> decide
  obtain ⟨h1, h2, -, h4, h5, h6⟩ := faultSeq_spec (d := raise s.core 0x0803 .fault g 0 [g, x.seq.pc]) (g := g) 1 (by rwa [hx])
  rw [hx] at h1 h2 h4 h5 h6
  have h4 := h4.trans (raise_fl ..)
  have h6 := h6 Key.illegalInstructionCount (by decide)
  rw [obj_raise_counter (k := Key.illegalInstructionCount) _ _ _ _ _ rfl (by decide)] at h6
  have hexec : exec (.illegalInstruction g) s = .next (withCore s (illegal s.core g)) := by
    rw [he, execIllegalInstruction, inRange_lt hg, onCoreMem_powered _ (runs_powered hr), withCore]
    simp only [hready, hbad, if_false]
  have ht : illegal s.core g = faultSeq (raise s.core 0x0803 .fault g 0 [g, x.seq.pc]) g x.seq.pc 1 := rfl
  rw [← ht] at h1 h2 h4 h5 h6
  generalize illegal s.core g = c at *
  exact ⟨withCore s c, hexec, h1, fun k hk => (h2 k hk).trans (n.stn k), rfl, h4, h5, h6⟩

/-- The station's record written again after an issue. -/
theorem setStn_issueAs (c : Core) (g : Nat) (x y : Station) :
    setStn (issueAs c g x) g y = addObj (setStn (waited c x.seq.left) g y) Key.instrIssued 1 := by
  have h (d : Core) : setStn (addObj d Key.instrIssued 1) g y = addObj (setStn d g y) Key.instrIssued 1 := rfl
  rw [issueAs, h, setStn_setStn]

theorem lyrHoldsUntilQuiet : Goals.LyrHoldsUntilQuiet := by
  intro s g w x
  refine ⟨fun h => ?_, fun hr hg hl => ⟨fun hm ht => ?_, fun hm => ?_⟩⟩
  · have he : exec (.lyr g) s = execLyr g s := rfl
    rw [he, execLyr, onCoreMem_atWord _ h]
    simp only [atPc_of_atWord h, issued_eq, withCore, holdSeq, modSeq, stn_issueAs_self]
    rw [setStn_issueAs]
  · have he : exec (.lyrRelease g) s = execLyrRelease g s := rfl
    have h0 := ht x.arr.tile0 (by simp)
    have h1 := ht x.arr.tile1 (by simp)
    have hq : lyrQuiet s.core g = true := by simp [lyrQuiet, x] at h0 h1 hm ⊢; simp [h0, h1, hm]
    rw [he, execLyrRelease, inRange_lt hg, onCore_powered _ (runs_powered hr), if_pos ⟨hl, hq⟩]
    rfl
  · have he : exec (.lyrRelease g) s = execLyrRelease g s := rfl
    have hq : lyrQuiet s.core g = false := by
      have : x.arr.mva.isNone = false := by simpa using hm
      simp only [x] at this
      simp [lyrQuiet, this]
    rw [he, execLyrRelease, inRange_lt hg, onCore_powered _ (runs_powered hr), if_neg (by simp [hq])]

/-- An issue changes of a core that differs in its fields alone the same parts. -/
theorem issued_setFld (c : Core) (g f : Nat) (y : Field) : issued (setFld c f y) g = issueAs (setFld c f y) g (stn c g) := by
  rw [issued_eq]; rfl

theorem submissionsJoinTheirQueue : Goals.SubmissionsJoinTheirQueue := by
  intro s g w x y
  constructor
  · intro h hg
    have he : exec (.red g) s = execRed g s := rfl
    rw [he, execRed, onCoreMem_atWord _ h, withCore]
    simp only [atPc_of_atWord h, hg, issued_setFld, Bool.false_eq_true, if_false]
    by_cases hq : y.red.queue.length < 16
    · rw [if_neg (by simpa [y] using hq), if_pos hq]
    · rw [if_pos (by simpa [y] using hq), if_neg hq]; rfl
  · intro h hg
    have he : exec (.upd g) s = execUpd g s := rfl
    rw [he, execUpd, onCoreMem_atWord _ h, withCore]
    simp only [atPc_of_atWord h, hg, issued_setFld, Bool.false_eq_true, if_false]
    by_cases hq : y.upd.queue.length < 16
    · rw [if_neg (by simpa [y] using hq), if_pos hq]; rfl
    · rw [if_pos (by simpa [y] using hq), if_neg hq]; rfl

/-- Settles O17: each part follows from the equation of its command and the frame of the operations it ends in. -/
theorem segments : Obligations.Segments :=
  ⟨endOfSegment, segmentStartPoints, illegalInstructionFaults, lyrHoldsUntilQuiet, submissionsJoinTheirQueue⟩

end Sys2Proof.Machine

namespace Sys2Proof.Machine

/-! ## Writes of an object with a rule of its own: what a host's request leaves around the rule (R421, R428) -/

/-- `c` with what a response changes: the session's kept responses, what leaves, the context's count. -/
def replyParts (c d : Core) : Core :=
  { c with host := { c.host with sessions := d.host.sessions, out := d.host.out, traffic := d.host.traffic },
           fab := { c.fab with ctxs := d.fab.ctxs } }

/-- The objects in which the Ethernet ports count their frames (R445). -/
def rxKeys : List Nat := [Key.port 0 10, Key.port 1 10, Key.port 2 10]

section
variable (c : Core)

theorem sentOn_reply (i n : Nat) : sentOn c i n = replyParts c (sentOn c i n) := by unfold sentOn; split <;> rfl

theorem send_reply (m : OutMsg) : send c m = replyParts c (send c m) := by unfold send; simp only []; split <;> rfl

theorem replyParts_trans {c d e : Core} (h : d = replyParts c d) (k : e = replyParts d e) : e = replyParts c e :=
  k.trans (by rw [h]; rfl)

theorem respondKey_reply (key : Bytes) (h : Hdr) (r : Resp) : respondKey c key h r = replyParts c (respondKey c key h r) :=
  replyParts_trans (sentOn_reply c _ _) (send_reply _ _)

theorem respondKey_last (key : Bytes) (h : Hdr) (r : Resp) :
    (respondKey c key h r).host.out.getLast? = some (.bamcen h.port h.source h.ctx h.seq r (tagOf key h.ctx 1 h.seq r)) := by
  simp [respondKey]

end

section
variable {s : State} {h : Hdr} {x : Session} {key : Nat}

theorem obj_received {k : Nat} (hp : h.port < 3) (hk : k ∉ rxKeys) : obj (Goals.received s h x) k = obj s.core k := by
  have : k ≠ Key.port h.port 10 := by
    rintro rfl
    have : h.port = 0 ∨ h.port = 1 ∨ h.port = 2 := by omega
    rcases this with e | e | e <;> simp [rxKeys, e] at hk
  exact obj_addObj_ne s.core 1 this

@[simp] theorem received_alm : (Goals.received s h x).alm = s.core.alm := rfl
@[simp] theorem received_st : (Goals.received s h x).st = s.core.st := rfl
@[simp] theorem received_fl : (Goals.received s h x).fl = s.core.fl := rfl
@[simp] theorem received_acc : (Goals.received s h x).acc = s.core.acc := rfl
@[simp] theorem received_ev : (Goals.received s h x).ev = s.core.ev := rfl
@[simp] theorem received_scale : (Goals.received s h x).scale = s.core.scale := rfl
@[simp] theorem received_boot : (Goals.received s h x).boot = s.core.boot := rfl
@[simp] theorem received_ports : (Goals.received s h x).fab.ports = s.core.fab.ports := rfl

/-- The gate of the dictionary asks nothing that the arrival of the request changes. -/
theorem dictGate_received (rt : Right) : dictGate (Goals.received s h x) h.ctx key rt = dictGate s.core h.ctx key rt := rfl

/-- A new write of an object that the dictionary permits: the object's rule decides over the core as the request's arrival left it, its
status is counted, and the response leaves last. -/
theorem writeItemM_spec (hw : Goals.writes s h x key) (f : Fuses → Memory → Core → Fuses × Core × Memory × Status) :
    let r := f s.fuse s.mem (Goals.received s h x)
    ∃ d, writeItemM key h f noMore s = .next { s with fuse := r.1, mem := r.2.2.1, core := replyParts (errStatus r.2.1 r.2.2.2) d }
      ∧ d.host.out.getLast? = some (.bamcen h.port h.source h.ctx h.seq
          { typ := 0x21, status := 0, payload := itemHead key r.2.2.2 (objType key) 0 }
          (tagOf x.key h.ctx 1 h.seq { typ := 0x21, status := 0, payload := itemHead key r.2.2.2 (objType key) 0 })) := by
  obtain ⟨⟨hr, hp, hu, hs, ht, h1, h2⟩, hg⟩ := hw
  intro r
  let resp : Resp := { typ := 0x21, status := 0, payload := itemHead key r.2.2.2 (objType key) 0 }
  let e := errStatus r.2.1 r.2.2.2
  let k := match sessionOf e h.ctx with
    | some y => setSession e h.ctx (keepResp y h.seq (some resp))
    | none => e
  have hk : k = replyParts e k := by unfold k; split <;> rfl
  have hsess : sessionOf (countRx s.core h.port) h.ctx = some x := hs
  refine ⟨respondKey k x.key h resp, ?_, respondKey_last k x.key h resp⟩
  rw [← replyParts_trans hk (respondKey_reply k x.key h resp)]
  have hudp : h.udp = udpPort 0x21 := hu
  have hup : obj (countRx s.core h.port) Key.uptimeTicks = obj s.core Key.uptimeTicks :=
    obj_addObj_ne s.core 1 (by simp only [Key.uptimeTicks, Key.port]; omega)
  have hrec : setSession (hearCtx (countRx s.core h.port) h) h.ctx
      { x with heard := obj (countRx s.core h.port) Key.uptimeTicks, port := h.port, source := h.source, h := h.seq }
        = Goals.received s h x := by rw [hup]; rfl
  have hgate : dictGate (Goals.received s h x) h.ctx key .w = .ok := (dictGate_received .w).trans hg
  unfold writeItemM handle request
  rw [inRange_lt hp, if_pos (runs_powered hr), if_pos hudp]
  simp only [hsess, ht, Bool.not_true, Bool.false_eq_true, if_false, if_pos (And.intro h1 h2), hrec]
  unfold carryOut noMore
  simp only [hgate, if_true, Bool.false_eq_true, if_false]
  rfl

/-- A write whose rule leaves the fuses alone: what holds of the core that the rule and the status's counter leave, and of no part that
a response changes, holds after the command. -/
theorem writeItemM_nextWith (hw : Goals.writes s h x key) {f : Fuses → Memory → Core → Fuses × Core × Memory × Status} {e : Core} {m : Memory}
    {st : Status} (hf : f s.fuse s.mem (Goals.received s h x) = (s.fuse, e, m, st)) {P : State → Prop}
    (hP : ∀ d, Goals.wrote { s with mem := m, core := replyParts (errStatus e st) d } h x key st →
      P { s with mem := m, core := replyParts (errStatus e st) d }) :
    NextWith (writeItemM key h f noMore s) P := by
  obtain ⟨d, he, hd⟩ := writeItemM_spec hw f
  simp only [hf] at he hd
  exact ⟨_, he, hP d hd⟩

theorem writeItem_nextWith (hw : Goals.writes s h x key) {f : WriteRule} {e : Core} {st : Status}
    (hf : f s.fuse s.mem (Goals.received s h x) = (e, st)) {P : State → Prop}
    (hP : ∀ d, Goals.wrote (withCore s (replyParts (errStatus e st) d)) h x key st → P (withCore s (replyParts (errStatus e st) d))) :
    NextWith (writeItem key h f s) P :=
  writeItemM_nextWith hw (f := fun fu mem c => let r := f fu mem c; (fu, r.1, mem, r.2)) (by simp only [hf]) hP

theorem obj_errStatus (c : Core) (st : Status) {k : Nat} (hk : k ∉ bookkeepingKeys) : obj (errStatus c st) k = obj c k :=
  (quiet_errStatus c st).objs k hk

theorem errStatus_parts (c : Core) (st : Status) : errStatus c st = { c with dict := (errStatus c st).dict } := by
  unfold errStatus; split <;> rfl

@[simp] theorem errStatus_ok (c : Core) : errStatus c .ok = c := rfl
@[simp] theorem errStatus_alm (c : Core) (st : Status) : (errStatus c st).alm = c.alm := by rw [errStatus_parts]
@[simp] theorem errStatus_st (c : Core) (st : Status) : (errStatus c st).st = c.st := by rw [errStatus_parts]
@[simp] theorem errStatus_fl (c : Core) (st : Status) : (errStatus c st).fl = c.fl := by rw [errStatus_parts]
@[simp] theorem errStatus_acc (c : Core) (st : Status) : (errStatus c st).acc = c.acc := by rw [errStatus_parts]
@[simp] theorem errStatus_boot (c : Core) (st : Status) : (errStatus c st).boot = c.boot := by rw [errStatus_parts]
@[simp] theorem errStatus_fab (c : Core) (st : Status) : (errStatus c st).fab = c.fab := by rw [errStatus_parts]

@[simp] theorem obj_replyParts (c d : Core) (k : Nat) : obj (replyParts c d) k = obj c k := rfl
@[simp] theorem replyParts_alm (c d : Core) : (replyParts c d).alm = c.alm := rfl
@[simp] theorem replyParts_st (c d : Core) : (replyParts c d).st = c.st := rfl
@[simp] theorem replyParts_fl (c d : Core) : (replyParts c d).fl = c.fl := rfl
@[simp] theorem replyParts_acc (c d : Core) : (replyParts c d).acc = c.acc := rfl
@[simp] theorem replyParts_ev (c d : Core) : (replyParts c d).ev = c.ev := rfl
@[simp] theorem replyParts_scale (c d : Core) : (replyParts c d).scale = c.scale := rfl
@[simp] theorem replyParts_boot (c d : Core) : (replyParts c d).boot = c.boot := rfl
@[simp] theorem replyParts_ports (c d : Core) : (replyParts c d).fab.ports = c.fab.ports := rfl

/-- A rule that refuses and records nothing changes nothing beside the session and the counters (R428). -/
theorem writeItemM_refused (hw : Goals.writes s h x key) {f : Fuses → Memory → Core → Fuses × Core × Memory × Status} {st : Status}
    (hf : f s.fuse s.mem (Goals.received s h x) = (s.fuse, Goals.received s h x, s.mem, st)) (h1 : key ∉ bookkeepingKeys) (h2 : key ∉ rxKeys) :
    NextWith (writeItemM key h f noMore s) fun t => Goals.refusedWrite s t h x key st := by
  refine writeItemM_nextWith hw hf fun d hd => ⟨hd, ?_, rfl, rfl, ?_, ?_, ?_, ?_, ?_, ?_⟩
  · exact (obj_errStatus _ st h1).trans (obj_received hw.1.2.1 h2)
  all_goals simp

theorem writeItem_refused (hw : Goals.writes s h x key) {f : WriteRule} {st : Status}
    (hf : f s.fuse s.mem (Goals.received s h x) = (Goals.received s h x, st)) (h1 : key ∉ bookkeepingKeys) (h2 : key ∉ rxKeys) :
    NextWith (writeItem key h f s) fun t => Goals.refusedWrite s t h x key st :=
  writeItemM_refused hw (f := fun fu mem c => let r := f fu mem c; (fu, r.1, mem, r.2)) (by simp only [hf]) h1 h2

end

end Sys2Proof.Machine

namespace Sys2Proof.Machine

/-! ## Records replaced one after the other -/

section
variable {α β : Type}

theorem tget_foldl_tset_of_not_mem (key : β → Nat) (val : β → α) (l : List β) (t : Tab α) {k : Nat} (h : ∀ d ∈ l, key d ≠ k) :
    tget (l.foldl (fun t d => tset t (key d) (val d)) t) k = tget t k := by
  induction l generalizing t with
  | nil => rfl
  | cons d r ih =>
    rw [List.foldl_cons, ih _ fun e he => h e (List.mem_cons_of_mem _ he)]
    exact tget_tset_ne t _ fun e => h d List.mem_cons_self e.symm

/-- A record that alone is put under its number is what the table holds there. -/
theorem tget_foldl_tset_of_mem (key : β → Nat) (val : β → α) (l : List β) (t : Tab α) {d : β} (hd : d ∈ l)
    (hu : ∀ e ∈ l, key e = key d → e = d) : tget (l.foldl (fun t d => tset t (key d) (val d)) t) (key d) = some (val d) := by
  induction l generalizing t with
  | nil => cases hd
  | cons e r ih =>
    rw [List.foldl_cons]
    by_cases hr : d ∈ r
    · exact ih _ hr fun x hx => hu x (List.mem_cons_of_mem _ hx)
    · obtain rfl : d = e := (List.mem_cons.1 hd).resolve_right hr
      rw [tget_foldl_tset_of_not_mem key val r _ fun x hx hk => hr (hu x (List.mem_cons_of_mem _ hx) hk ▸ hx), tget_tset_self]

end

/-- Fields of a list replaced one after the other, each by a function of itself. -/
def mapFields (F : Nat → Field → Field) (l : List Nat) (c : Core) : Core := l.foldl (fun c f => setFld c f (F f (fld c f))) c

/-- Stations of a list replaced one after the other, each by a function of itself. -/
def mapStations (F : Nat → Station → Station) (l : List Nat) (c : Core) : Core := l.foldl (fun c g => setStn c g (F g (stn c g))) c

section
variable (c : Core)

theorem mapFields_cons (F : Nat → Field → Field) (f : Nat) (l : List Nat) :
    mapFields F (f :: l) c = mapFields F l (setFld c f (F f (fld c f))) := by rw [mapFields, List.foldl_cons, mapFields]

theorem mapStations_cons (F : Nat → Station → Station) (g : Nat) (l : List Nat) :
    mapStations F (g :: l) c = mapStations F l (setStn c g (F g (stn c g))) := by rw [mapStations, List.foldl_cons, mapStations]

theorem mapFields_parts (F : Nat → Field → Field) (l : List Nat) : mapFields F l c = { c with fl := (mapFields F l c).fl } := by
  induction l generalizing c with
  | nil => rfl
  | cons f r ih => exact ih (setFld c f (F f (fld c f)))

theorem mapStations_parts (F : Nat → Station → Station) (l : List Nat) : mapStations F l c = { c with st := (mapStations F l c).st } := by
  induction l generalizing c with
  | nil => rfl
  | cons g r ih => exact ih (setStn c g (F g (stn c g)))

theorem fld_mapFields_of_not_mem (F : Nat → Field → Field) {l : List Nat} {f : Nat} (h : f ∉ l) : fld (mapFields F l c) f = fld c f := by
  induction l generalizing c with
  | nil => rfl
  | cons k r ih =>
    rw [List.mem_cons, not_or] at h
    exact (ih (setFld c k _) h.2).trans (fld_setFld_ne c _ h.1)

theorem stn_mapStations_of_not_mem (F : Nat → Station → Station) {l : List Nat} {g : Nat} (h : g ∉ l) :
    stn (mapStations F l c) g = stn c g := by
  induction l generalizing c with
  | nil => rfl
  | cons k r ih =>
    rw [List.mem_cons, not_or] at h
    exact (ih (setStn c k _) h.2).trans (stn_setStn_ne c _ h.1)

theorem fld_mapFields_of_mem (F : Nat → Field → Field) {l : List Nat} (hl : l.Nodup) {f : Nat} (h : f ∈ l) :
    fld (mapFields F l c) f = F f (fld c f) := by
  induction l generalizing c with
  | nil => cases h
  | cons k r ih =>
    obtain ⟨hk, hr⟩ := List.nodup_cons.1 hl
    by_cases hf : f = k
    · subst hf
      exact (fld_mapFields_of_not_mem (setFld c f _) F hk).trans (fld_setFld c f _)
    · rw [← fld_setFld_ne c (F k (fld c k)) hf]
      exact ih (setFld c k _) hr ((List.mem_cons.1 h).resolve_left hf)

theorem stn_mapStations_of_mem (F : Nat → Station → Station) {l : List Nat} (hl : l.Nodup) {g : Nat} (h : g ∈ l) :
    stn (mapStations F l c) g = F g (stn c g) := by
  induction l generalizing c with
  | nil => cases h
  | cons k r ih =>
    obtain ⟨hk, hr⟩ := List.nodup_cons.1 hl
    by_cases hg : g = k
    · subst hg
      exact (stn_mapStations_of_not_mem (setStn c g _) F hk).trans (stn_setStn c g _)
    · rw [← stn_setStn_ne c (F k (stn c k)) hg]
      exact ih (setStn c k _) hr ((List.mem_cons.1 h).resolve_left hg)

/-- What a change of every field leaves of each, where the change does. -/
theorem fld_mapFields_keep {α : Type} (p : Field → α) {F : Nat → Field → Field} (hF : ∀ f x, p (F f x) = p x) (l : List Nat) (f : Nat) :
    p (fld (mapFields F l c) f) = p (fld c f) := by
  induction l generalizing c with
  | nil => rfl
  | cons k r ih =>
    refine (ih (setFld c k (F k (fld c k)))).trans ?_
    by_cases hf : f = k
    · subst hf; rw [fld_setFld, hF]
    · rw [fld_setFld_ne c _ hf]

end

end Sys2Proof.Machine

namespace Sys2Proof.Machine

/-! ## Generators, and the slot grid: what a boundary's bookkeeping leaves alone -/

/-- The objects of the operating point (R391, R413, R458). -/
def clockKeys : List Nat := [Key.opMult, Key.opChanges, Key.targetMult]

/-- `d` is `c` after work of the clock system: only the generators, the clocks' record and the operating point's objects changed. -/
structure Clocked (c d : Core) : Prop where
  parts : d = { c with dict := d.dict, fl := d.fl, clk := d.clk, power := { c.power with sinceChange := d.power.sinceChange } }
  objs : ∀ k, k ∉ clockKeys → obj d k = obj c k
  fields : ∀ f, ∃ g, fld d f = { fld c f with gen := g }

namespace Clocked

variable {c d e : Core}

theorem refl (c : Core) : Clocked c c := ⟨rfl, fun _ _ => rfl, fun _ => ⟨_, rfl⟩⟩

theorem trans (h : Clocked c d) (k : Clocked d e) : Clocked c e where
  parts := k.parts.trans (by rw [h.parts])
  objs j hj := (k.objs j hj).trans (h.objs j hj)
  fields f := by
    obtain ⟨g, h1⟩ := h.fields f
    obtain ⟨g', h2⟩ := k.fields f
    exact ⟨g', by rw [h2, h1]⟩

theorem foldl {α : Type} {f : Core → α → Core} (h : ∀ c x, Clocked c (f c x)) (l : List α) (c : Core) : Clocked c (l.foldl f c) := by
  induction l generalizing c with
  | nil => exact refl c
  | cons x r ih => exact (h c x).trans (ih _)

variable (h : Clocked c d)
include h

theorem st : d.st = c.st := (congrArg Core.st h.parts :)
theorem alm : d.alm = c.alm := (congrArg Core.alm h.parts :)
theorem ev : d.ev = c.ev := (congrArg Core.ev h.parts :)
theorem scale : d.scale = c.scale := (congrArg Core.scale h.parts :)
theorem fab : d.fab = c.fab := (congrArg Core.fab h.parts :)
theorem host : d.host = c.host := (congrArg Core.host h.parts :)
theorem power : d.power = { c.power with sinceChange := d.power.sinceChange } := (congrArg Core.power h.parts :)
theorem syncU (f : Nat) : syncU d f = syncU c f := by
  obtain ⟨g, hg⟩ := h.fields f
  rw [Machine.syncU, hg, Machine.syncU]
theorem stn (g : Nat) : stn d g = stn c g := by rw [Machine.stn, h.st, Machine.stn]

end Clocked

section
variable (c : Core)

theorem clocked_setGen (f : Nat) (g : Gen) : Clocked c (setGen c f g) := by
  refine ⟨rfl, fun _ _ => rfl, fun k => ?_⟩
  by_cases h : k = f
  · subst h; exact ⟨g, fld_setFld c k _⟩
  · exact ⟨(fld c k).gen, fld_setFld_ne c _ h⟩

theorem clocked_modClk (f : Clocks → Clocks) : Clocked c (modClk c f) := ⟨rfl, fun _ _ => rfl, fun _ => ⟨_, rfl⟩⟩

theorem clocked_setObj {k : Nat} (v : Nat) (h : k ∈ clockKeys) : Clocked c (setObj c k v) :=
  ⟨rfl, fun _ hj => obj_setObj_ne c v fun e => hj (e ▸ h), fun _ => ⟨_, rfl⟩⟩

theorem clocked_recentre : Clocked c (recentre c) := Clocked.foldl (fun _ _ => clocked_setGen _ _ _) _ c

theorem clocked_queueOp (q : OpQueued) : Clocked c (queueOp c q) :=
  (clocked_modClk c _).trans (Clocked.foldl (fun _ _ => clocked_setGen _ _ _) _ _)

theorem clocked_requestOp (mult origin : Nat) : Clocked c (requestOp c mult origin) := by
  unfold requestOp
  split
  · split
    · exact Clocked.refl c
    · exact (clocked_modClk c _).trans (Clocked.foldl (fun _ _ => clocked_setGen _ _ _) _ _)
  · extract_lets at4
    split
    · exact clocked_queueOp c _
    · split
      · exact clocked_queueOp c _
      · exact Clocked.refl c

theorem clocked_takeOp (mult origin : Nat) : Clocked c (takeOp c mult origin) := by
  unfold takeOp
  extract_lets d e _ f
  have hd : Clocked c d := (clocked_setObj c mult (by decide)).trans (clocked_setObj _ _ (by decide))
  have he : Clocked d e := by
    unfold e; split
    · exact clocked_setObj d mult (by decide)
    · exact Clocked.refl d
  have hf : Clocked e f := ⟨rfl, fun _ _ => rfl, fun _ => ⟨_, rfl⟩⟩
  exact ((hd.trans he).trans hf).trans ((Clocked.foldl (fun _ _ => clocked_setGen _ _ _) _ f).trans (clocked_recentre _))

theorem clocked_takeQueued (b : Nat) : Clocked c (takeQueued c b) := by
  unfold takeQueued
  split
  · exact Clocked.refl c
  · split
    · exact (clocked_takeOp c _ _).trans (clocked_modClk _ _)
    · exact Clocked.refl c

theorem clocked_foldl_fst {F : Core × Bool → Nat → Core × Bool} (h : ∀ a f, Clocked a.1 (F a f).1) (l : List Nat) (a : Core × Bool) :
    Clocked a.1 (l.foldl F a).1 := by
  induction l generalizing a with
  | nil => exact Clocked.refl _
  | cons f l ih => exact (h a f).trans (ih _)

theorem clocked_closeLeaps : Clocked c (closeLeaps c) := by
  unfold closeLeaps
  extract_lets half judge r m
  have hr : Clocked c r.1 := clocked_foldl_fst (fun a _ => clocked_setGen a.1 _ _) _ (c, false)
  split
  · exact hr.trans (clocked_requestOp r.1 _ _)
  · exact hr

/-! ### Ports that are UP -/

section
variable {c} {d : Core}

theorem pstate_congr {p : Nat} (ho : obj d Key.portEnable = obj c Key.portEnable) (hp : (portOf d p).pstate = (portOf c p).pstate) :
    pstate d p = pstate c p := by rw [pstate, ho, hp, pstate]

theorem upPorts_congr (ho : ∀ k ∈ [Key.portEnable, Key.portJoin], obj d k = obj c k)
    (hp : ∀ p, (portOf d p).pstate = (portOf c p).pstate) : upPorts d = upPorts c := by
  have h (p : Nat) : pstate d p = pstate c p := pstate_congr (ho _ (by simp)) (hp p)
  simp only [upPorts, h, joined, ho Key.portJoin (by simp)]

theorem jobPorts_congr (ho : ∀ k ∈ [Key.portEnable, Key.portJoin], obj d k = obj c k) (hi : d.alm.image = c.alm.image)
    (hp : ∀ p, ∃ u, portOf d p = { portOf c p with used := u }) : jobPorts d = jobPorts c := by
  have hs (p : Nat) : (portOf d p).pstate = (portOf c p).pstate := by obtain ⟨u, h⟩ := hp p; rw [h]
  have hv (p : Nat) : (portOf d p).peerValid = (portOf c p).peerValid := by obtain ⟨u, h⟩ := hp p; rw [h]
  have hm (p : Nat) : (portOf d p).peerMod = (portOf c p).peerMod := by obtain ⟨u, h⟩ := hp p; rw [h]
  simp only [jobPorts, upPorts_congr ho hs, hv, hm, inJob, hi]

end

/-! ### The slot grid (R281, R297) -/

/-- `d` is `c` after packets in transit were judged: only what is sent in the slots, what waits and what leaves changed. -/
structure Forwarded (c d : Core) : Prop where
  parts : d = { c with fab := { c.fab with ports := d.fab.ports, transit := d.fab.transit },
                       host := { c.host with out := d.host.out, traffic := d.host.traffic } }
  ports : ∀ p, ∃ u, portOf d p = { portOf c p with used := u }
  out : c.host.out <+: d.host.out

theorem Forwarded.refl (c : Core) : Forwarded c c := ⟨rfl, fun _ => ⟨_, rfl⟩, List.prefix_rfl⟩

theorem Forwarded.trans {c d e : Core} (h : Forwarded c d) (k : Forwarded d e) : Forwarded c e where
  parts := k.parts.trans (by rw [h.parts])
  ports p := by
    obtain ⟨u, h1⟩ := h.ports p
    obtain ⟨u', h2⟩ := k.ports p
    exact ⟨u', by rw [h2, h1]⟩
  out := h.out.trans k.out

theorem forwarded_useSlot (p j n : Nat) : Forwarded c (useSlot c p j n) := by
  refine ⟨rfl, fun k => ?_, List.prefix_rfl⟩
  by_cases h : k = p
  · subst h; exact ⟨_, by simp [useSlot, portOf]; rfl⟩
  · exact ⟨(portOf c k).used, by simp [useSlot, portOf, tgetD_tset_ne _ _ _ h]⟩

theorem forwarded_send (m : OutMsg) : Forwarded c (send c m) := by
  refine ⟨?_, fun k => ⟨(portOf c k).used, by simp [portOf]⟩, by simp⟩
  unfold send; simp only []; split <;> rfl

theorem forwarded_transit (l : List (Nat × Packet)) : Forwarded c { c with fab := { c.fab with transit := l } } :=
  ⟨rfl, fun _ => ⟨_, rfl⟩, List.prefix_rfl⟩

theorem forwarded_passOn (after : Nat) (e : Nat × Packet) : Forwarded c (passOn after c e) := by
  unfold passOn
  extract_lets wait
  split
  · exact forwarded_transit c _
  · split
    · exact (forwarded_useSlot c _ _ _).trans (forwarded_send _ _)
    · exact forwarded_transit c _

theorem forwarded_drainTransit : Forwarded c (drainTransit c) := by
  have h (l : List (Nat × Packet)) (d : Core) : Forwarded d (l.foldl (passOn 0) d) := by
    induction l generalizing d with
    | nil => exact Forwarded.refl d
    | cons e l ih => exact (forwarded_passOn d 0 e).trans (ih _)
  exact (forwarded_transit c []).trans (h _ _)

/-- Nothing waits: nothing goes on. -/
theorem drainTransit_of_nil (h : c.fab.transit = []) : drainTransit c = c := by
  unfold drainTransit
  rw [h, List.foldl_nil, ← h]

/-- The core at the start of a new pass of the slot grid, before what waits in transit goes on. -/
def clearGrid (c : Core) : Core :=
  { c with fab := { c.fab with ctxs := c.fab.ctxs.map (fun p => (p.1, { p.2 with missed := false })),
                               ports := c.fab.ports.map (fun p => (p.1, { p.2 with used := [] })) } }

theorem newGrid_eq : newGrid c = drainTransit (clearGrid c) := rfl

theorem portOf_clearGrid (p : Nat) : portOf (clearGrid c) p = { portOf c p with used := [] } :=
  tgetD_map (f := fun x : Port => { x with used := [] }) c.fab.ports p rfl

theorem ctxOf_clearGrid (i : Nat) : ctxOf (clearGrid c) i = { ctxOf c i with missed := false } :=
  tgetD_map (f := fun x : Ctx => { x with missed := false }) c.fab.ctxs i rfl

/-- `d` is `c` with a new pass of the slot grid begun. -/
structure Gridded (c d : Core) : Prop where
  parts : d = { c with fab := { c.fab with ctxs := d.fab.ctxs, ports := d.fab.ports, transit := d.fab.transit },
                       host := { c.host with out := d.host.out, traffic := d.host.traffic } }
  ports : ∀ p, ∃ u, portOf d p = { portOf c p with used := u }
  ctxs : ∀ i, ctxOf d i = { ctxOf c i with missed := false }
  out : ∃ l, d.host.out = c.host.out ++ l ∧ (c.fab.transit = [] → l = [])
  used : c.fab.transit = [] → ∀ p, (portOf d p).used = []

theorem gridded_newGrid : Gridded c (newGrid c) := by
  have h := forwarded_drainTransit (clearGrid c)
  have hc : (drainTransit (clearGrid c)).fab.ctxs = (clearGrid c).fab.ctxs := congrArg (·.fab.ctxs) h.parts
  rw [newGrid_eq]
  refine ⟨h.parts.trans (by rw [hc]; rfl), fun p => ?_, fun i => ?_, ?_, fun ht p => ?_⟩
  · obtain ⟨u, hu⟩ := h.ports p
    exact ⟨u, by rw [hu, portOf_clearGrid]⟩
  · rw [ctxOf, hc]
    exact ctxOf_clearGrid c i
  · obtain ⟨l, hl⟩ := h.out
    refine ⟨l, hl.symm, fun ht => ?_⟩
    rw [drainTransit_of_nil (clearGrid c) ht] at hl
    exact List.append_right_eq_self.1 hl
  · rw [drainTransit_of_nil (clearGrid c) ht, portOf_clearGrid]

end

end Sys2Proof.Machine

namespace Sys2Proof.Machine

/-! ## LOAD (O57) -/

/-- The objects of a number list keep what they hold under every setting of others. -/
theorem obj_setObjs_of_not_mem (c : Core) (l : List (Nat × Nat)) {k : Nat} (h : ∀ p ∈ l, p.1 ≠ k) : obj (setObjs c l) k = obj c k := by
  induction l generalizing c with
  | nil => rfl
  | cons p r ih =>
    have hp := h p List.mem_cons_self
    exact (ih (setObj c p.1 p.2) fun q hq => h q (List.mem_cons_of_mem _ hq)).trans (obj_setObj_ne c _ hp.symm)

/-- An object set once has that value. -/
theorem obj_setObjs_of_mem (c : Core) {l : List (Nat × Nat)} (hl : (l.map (·.1)).Nodup) {k v : Nat} (h : (k, v) ∈ l) :
    obj (setObjs c l) k = v := by
  induction l generalizing c with
  | nil => cases h
  | cons p r ih =>
    rw [List.map_cons, List.nodup_cons] at hl
    rcases List.mem_cons.1 h with rfl | hr
    · refine (obj_setObjs_of_not_mem (setObj c k v) r fun q hq e => hl.1 ?_).trans (obj_setObj c k v)
      exact List.mem_map.2 ⟨q, hq, e⟩
    · exact ih (setObj c p.1 p.2) hl.2 hr

theorem setObjs_parts (c : Core) (l : List (Nat × Nat)) : setObjs c l = { c with dict := (setObjs c l).dict } := by
  induction l generalizing c with
  | nil => rfl
  | cons p r ih => exact ih (setObj c p.1 p.2)

/-! ### Instruction memory -/

theorem mread_filter (m : Memory) (p : Nat → Bool) (a : Nat) : mread (m.filter fun x => p x.1) a = if p a then mread m a else 0 := by
  induction m with
  | nil => simp [mread]
  | cons x r ih =>
    obtain ⟨b, v⟩ := x
    by_cases hb : p b <;> by_cases ha : b = a
    · subst ha; simp [mread, hb]
    · simp [mread, hb, ha, ih]
    · subst ha; simp [hb, ih]
    · simp [mread, hb, ha, ih]

/-- A byte just written reads back. -/
theorem mread_mwriteN_mem {m : Memory} (hm : memWf m = true) (bs : Bytes) (a : Nat) {i : Nat} (hi : i < bs.length) :
    mread (mwriteN m a bs) (a + i) = bs[i] := by
  induction bs generalizing m a i with
  | nil => cases hi
  | cons b r ih =>
    cases i with
    | zero =>
      exact (mread_mwriteN_ne _ r (.inl (Nat.lt_add_one a))).trans (mread_mwrite_self m a b hm)
    | succ k =>
      have h := ih (mwrite_memWf a b hm) (a + 1) (i := k) (Nat.lt_of_succ_lt_succ hi)
      rw [mwriteN, show a + (k + 1) = a + 1 + k by omega, h]
      rfl

/-- Bytes written read back as a range. -/
theorem mreadN_mwriteN {m : Memory} (hm : memWf m = true) (bs : Bytes) (a o n : Nat) (h : o + n ≤ bs.length) :
    mreadN (mwriteN m a bs) (a + o) n = (bs.drop o).take n := by
  refine List.ext_getElem (by simp [mreadN]; omega) fun i h1 h2 => ?_
  have hi : i < n := by simpa [mreadN] using h1
  simp only [mreadN, List.getElem_map, List.getElem_range, List.getElem_take, List.getElem_drop, Nat.add_assoc]
  exact mread_mwriteN_mem hm bs a (by omega)

@[simp] theorem length_leBytes (n v : Nat) : (leBytes n v).length = n := by
  induction n generalizing v with
  | zero => rfl
  | succ k ih => simp [leBytes, ih]

theorem leNat_leBytes (n v : Nat) : leNat (leBytes n v) = v % 256 ^ n := by
  induction n generalizing v with
  | zero => simp [leBytes, leNat, Nat.mod_one]
  | succ k ih =>
    rw [leBytes, leNat, ih, BitVec.toNat_ofNat, show (2 : Nat) ^ 8 = 256 from rfl, Nat.pow_succ', Nat.mod_mul]

/-- The bytes of a word among those of a list of words. -/
theorem take_drop_leBytes (ws : List Nat) {i w : Nat} (h : ws[i]? = some w) :
    ((ws.flatMap (leBytes 8)).drop (8 * i)).take 8 = leBytes 8 w := by
  induction ws generalizing i with
  | nil => simp at h
  | cons x r ih =>
    cases i with
    | zero =>
      obtain rfl : x = w := by simpa using h
      simp
    | succ k =>
      rw [List.flatMap_cons, show 8 * (k + 1) = 8 + 8 * k by omega, ← List.drop_drop]
      have : ((leBytes 8 x ++ r.flatMap (leBytes 8)).drop 8) = r.flatMap (leBytes 8) := by simp
      rw [this]
      exact ih (by simpa using h)

theorem length_flatMap_leBytes (ws : List Nat) : (ws.flatMap (leBytes 8)).length = 8 * ws.length := by
  induction ws with
  | nil => rfl
  | cons x r ih => rw [List.flatMap_cons, List.length_append, ih, length_leBytes, List.length_cons]; omega

/-- A code region installed: its words stand at their addresses, and every other byte is as it was (R353). -/
theorem imemWord_installRegion {m : Memory} (hm : memWf m = true) (r : CodeRegion) {i w : Nat} (hw : r.words[i]? = some w)
    (h64 : w < 2 ^ 64) : imemWord (installRegion m r) r.station (r.start + i) = w := by
  have hi : i < r.words.length := (List.getElem?_eq_some_iff.1 hw).1
  rw [imemWord, mnum, installRegion, show ctlBase r.station + 8 * (r.start + i) = ctlBase r.station + 8 * r.start + 8 * i by omega,
    mreadN_mwriteN hm _ _ _ _ (by rw [length_flatMap_leBytes]; omega), take_drop_leBytes _ hw, leNat_leBytes]
  exact Nat.mod_eq_of_lt h64

theorem mread_installRegion (m : Memory) (r : CodeRegion) {a : Nat}
    (h : a < ctlBase r.station + 8 * r.start ∨ ctlBase r.station + 8 * (r.start + r.words.length) ≤ a) :
    mread (installRegion m r) a = mread m a :=
  mread_mwriteN_ne m _ (by rw [length_flatMap_leBytes]; omega)

/-! ### The rule, and the end of the check -/

theorem emptyOrStopped_congr {c d : Core} (h : almState d = almState c) : emptyOrStopped d = emptyOrStopped c := by
  simp [emptyOrStopped, h]

theorem loadTaken {s : State} {h : Hdr} {x : Session} (k : Container) (hw : Goals.writes s h x Key.almanacCmd)
    (hr : s.fuse.lc = 2 ∧ emptyOrStopped s.core = true ∧ obj s.core Key.hbmWiping ≠ 1) :
    NextWith (exec (.loadImage h k) s) fun t => Goals.wrote t h x Key.almanacCmd .ok ∧ almState t.core = 1
      ∧ t.core.alm = { s.core.alm with checking := some k, before := almState s.core } ∧ t.mem = s.mem := by
  obtain ⟨h1, h2, h3⟩ := hr
  have ha : almState (Goals.received s h x) = almState s.core := obj_received hw.1.2.1 (by decide)
  have hb : obj (Goals.received s h x) Key.hbmWiping = obj s.core Key.hbmWiping := obj_received hw.1.2.1 (by decide)
  refine writeItem_nextWith hw (f := loadRule k) (e := modAlm (setAlm (Goals.received s h x) 1) fun a =>
    { a with checking := some k, before := almState s.core }) (st := .ok) ?_ fun d hd => ⟨hd, ?_, rfl, rfl⟩
  · simp [loadRule, h1, emptyOrStopped_congr ha, h2, hb, h3, ha]
  · exact obj_setObj (Goals.received s h x) Key.almanacState 1

theorem loadRefused {s : State} {h : Hdr} {x : Session} (k : Container) (hw : Goals.writes s h x Key.almanacCmd)
    (hr : ¬(s.fuse.lc = 2 ∧ emptyOrStopped s.core = true ∧ obj s.core Key.hbmWiping ≠ 1)) :
    NextWith (exec (.loadImage h k) s) fun t => Goals.wrote t h x Key.almanacCmd .state ∧ almState t.core = almState s.core
      ∧ obj t.core Key.loadStatus = Status.state.code ∧ t.core.alm = { s.core.alm with checkReport := [1] } ∧ t.mem = s.mem := by
  have ha : almState (Goals.received s h x) = almState s.core := obj_received hw.1.2.1 (by decide)
  have hb : obj (Goals.received s h x) Key.hbmWiping = obj s.core Key.hbmWiping := obj_received hw.1.2.1 (by decide)
  refine writeItem_nextWith hw (f := loadRule k) (e := modAlm (setObj (Goals.received s h x) Key.loadStatus Status.state.code) fun a =>
    { a with checkReport := [1] }) (st := .state) ?_ fun d hd => ⟨hd, ?_, ?_, ?_, rfl⟩
  · have : s.fuse.lc ≠ 2 ∨ (!emptyOrStopped s.core) = true ∨ obj s.core Key.hbmWiping = 1 := by
      by_contra hc
      simp only [not_or, Decidable.not_not, Bool.not_eq_true', Bool.not_eq_false] at hc
      exact hr hc
    simp only [loadRule, emptyOrStopped_congr ha, hb]
    rw [if_pos this]
  · exact (obj_errStatus _ _ (by decide)).trans ((obj_setObj_ne (Goals.received s h x) _ (by decide)).trans ha)
  · exact (obj_errStatus _ _ (by decide)).trans (obj_setObj (Goals.received s h x) _ _)
  · exact errStatus_alm _ _

section
variable {s : State} {k : Container} (hr : Runs s) (hk : s.core.alm.checking = some k) (ha : almState s.core = 1)
include hr hk ha

theorem exec_loadCheckDone_of_fault {r : Status × List Nat} (hf : loadFault s.fuse s.core k = some r) :
    exec .loadCheckDone s = .next { s with core := modAlm (errStatus (setObj (setAlm s.core s.core.alm.before) Key.loadStatus r.1.code) r.1) fun a =>
      { a with checking := none, checkReport := r.2 } } := by
  have he : exec .loadCheckDone s = execLoadCheckDone s := rfl
  rw [he, execLoadCheckDone, if_pos (runs_powered hr)]
  simp only [hk, ha, hf, ne_eq, not_true_eq_false, if_false]

theorem exec_loadCheckDone_of_none (hf : loadFault s.fuse s.core k = none) :
    exec .loadCheckDone s = .next { s with core := (installImage k s.mem s.core).1, mem := (installImage k s.mem s.core).2 } := by
  have he : exec .loadCheckDone s = execLoadCheckDone s := rfl
  rw [he, execLoadCheckDone, if_pos (runs_powered hr)]
  simp only [hk, ha, hf, ne_eq, not_true_eq_false, if_false]

end

theorem loadFails {s : State} {k : Container} {st : Status} {rep : List Nat} (hr : Runs s) (hk : s.core.alm.checking = some k)
    (ha : almState s.core = 1) (hf : loadFault s.fuse s.core k = some (st, rep)) :
    NextWith (exec .loadCheckDone s) fun t => almState t.core = s.core.alm.before ∧ obj t.core Key.loadStatus = st.code ∧ t.mem = s.mem
      ∧ t.core.alm = { s.core.alm with checking := none, checkReport := rep } := by
  refine ⟨_, exec_loadCheckDone_of_fault hr hk ha hf, ?_⟩
  refine ⟨?_, ?_, rfl, ?_⟩
  · exact (obj_errStatus _ _ (by decide)).trans ((obj_setObj_ne _ _ (by decide)).trans (obj_setObj s.core _ _))
  · exact (obj_errStatus _ _ (by decide)).trans (obj_setObj _ _ _)
  · rw [modAlm, errStatus_alm]; rfl

/-- The core with an image in place, before its numbers show. -/
def imageInstalled (k : Container) (c : Core) : Core :=
  let im := { k.image with widths := imageWidths k }
  modAlm { c with recv := im.recvSets.foldl (fun t r => tset t r.1 r.2) [] } fun a =>
    { a with image := some im, checking := none, digests := (imageDigest c.host.loadBuf k, almanacDigest c.host.loadBuf k, c.alm.digests.2.2),
             checkReport := [] }

theorem installImage_fst (k : Container) (m : Memory) (c : Core) : (installImage k m c).1 = setAlm (setObjs (imageInstalled k c)
    ((Key.loadStatus, 0) :: imageObjects k { k.image with widths := imageWidths k })) 2 := rfl

theorem loadInstalls {s : State} {k : Container} (hr : Runs s) (hk : s.core.alm.checking = some k)
    (ha : almState s.core = 1) (hf : loadFault s.fuse s.core k = none) :
    NextWith (exec .loadCheckDone s) fun t =>
      almState t.core = 2 ∧ obj t.core Key.loadStatus = 0 ∧ t.core.alm.checking = none
      ∧ t.core.alm.image = some { k.image with widths := imageWidths k }
      ∧ obj t.core Key.frameTicks = k.image.frameTicks ∧ obj t.core Key.imageProfile = k.profile ∧ obj t.core Key.auditK = k.image.auditK
      ∧ obj t.core Key.multRange = k.image.mMin + 256 * k.image.mMax ∧ t.core.st = s.core.st ∧ t.core.fl = s.core.fl
      ∧ (k.image.code = [] → ∀ a, mread t.mem a = if inImem a then 0 else mread s.mem a)
      ∧ (∀ r, k.image.code = [r] → MemoryInv s → r.station < 192 → r.start + r.words.length ≤ 8192 → (∀ w ∈ r.words, w < 2 ^ 64) →
          (∀ i w, r.words[i]? = some w → imemWord t.mem r.station (r.start + i) = w)
          ∧ ∀ a, a < ctlBase r.station + 8 * r.start ∨ ctlBase r.station + 8 * (r.start + r.words.length) ≤ a →
              mread t.mem a = if inImem a then 0 else mread s.mem a) := by
  refine ⟨_, exec_loadCheckDone_of_none hr hk ha hf, ?_⟩
  have hmem (a : Nat) : mread (s.mem.filter fun p => !inImem p.1) a = if inImem a then 0 else mread s.mem a := by
    rw [mread_filter s.mem (fun a => !inImem a) a]
    cases inImem a <;> rfl
  have hobj {q v : Nat} (hq : q ≠ Key.almanacState)
      (hv : (q, v) ∈ (Key.loadStatus, 0) :: imageObjects k { k.image with widths := imageWidths k }) :
      obj (installImage k s.mem s.core).1 q = v := by
    rw [installImage_fst, setAlm, obj_setObj_ne _ _ hq]
    exact obj_setObjs_of_mem _ (by simp only [imageObjects, List.map_cons, List.map_nil]; decide) hv
  refine ⟨obj_setObj _ _ _, hobj (by decide) (by simp [imageObjects]), rfl, rfl, hobj (by decide) (by simp [imageObjects]),
    hobj (by decide) (by simp [imageObjects]), hobj (by decide) (by simp [imageObjects]), hobj (by decide) (by simp [imageObjects]),
    rfl, rfl, fun hc a => ?_, fun r hc hm hst hlen hwords => ⟨fun i w hiw => ?_, fun a hout => ?_⟩⟩
  · rw [installImage, installCode, hc]; exact hmem a
  · rw [installImage, installCode, hc]
    exact imemWord_installRegion (filter_memWf _ hm) r hiw (hwords w (List.mem_of_getElem? hiw))
  · rw [installImage, installCode, hc]
    exact (mread_installRegion _ r hout).trans (hmem a)

theorem loadChecksThenInstalls : Goals.LoadChecksThenInstalls := by
  intro s k
  refine ⟨fun h x hw => ⟨loadTaken k hw, loadRefused k hw⟩, fun hr hk ha => ⟨fun st rep hf => loadFails hr hk ha hf, loadInstalls hr hk ha⟩, ?_⟩
  intro hn
  have he : exec .loadCheckDone s = execLoadCheckDone s := rfl
  rw [he, execLoadCheckDone]
  split
  · split
    · rfl
    · next k hk =>
      rw [if_pos (hn.resolve_left (by simp [hk]))]
  · rfl

end Sys2Proof.Machine

namespace Sys2Proof.Machine

/-! ## START (O57) -/

/-- A field as START leaves it (R215, R225, R239): what `startField` puts in its place. -/
def startedField (im : Image) (c : Core) (f : Nat) (y : Field) : Field :=
  { y with
    sync := { y.sync with sems := (im.sems.filter fun d => d.field = f).foldl (fun t d => tset t d.num (startSem c d)) [], watches := [],
                          waits := [], watchRes := ((im.watchRes.find? fun p => p.1 = f).map fun p => p.2).getD 0, gates := [], ops := 0 },
    upd := { y.upd with queue := [] }, red := { queue := [], elements := 0, channels := [], status := [] } }

/-- A station as START leaves it (R244, R251, R256): what `startStation` puts in its place. -/
def startedStation (im : Image) (g : Nat) (s : Station) : Station :=
  let untag := fun (p : Plane) => { p with tag := none }
  { s with seq := { Seq.reset with state := .idle }, ba := [], bi := [], lc := [], vr := [], fq := [], watches := [],
           desc := startDesc im g, openX := [], lostX := [], idleX := none,
           arr := { s.arr with plane0 := untag s.arr.plane0, plane1 := untag s.arr.plane1, seqMma := 0, dfwMma := 0, audits := [] } }

/-- Fields and stations as START leaves them, the crossings aligned. -/
def startedCore (im : Image) (c : Core) : Core :=
  mapStations (startedStation im) (List.range 192) (mapFields (startedField im c) (List.range 8) (realign c))

theorem startSem_congr {c d : Core} (h : obj d Key.slotBindings = obj c Key.slotBindings) (e : SemDecl) : startSem d e = startSem c e := by
  simp [startSem, bindingOf, h]

theorem startedField_congr (im : Image) {c d : Core} (h : obj d Key.slotBindings = obj c Key.slotBindings) :
    startedField im d = startedField im c := by
  funext f y
  simp only [startedField, startSem_congr h]

theorem foldl_startField (im : Image) (l : List Nat) (c d : Core) (h : obj d Key.slotBindings = obj c Key.slotBindings) :
    l.foldl (startField im) d = mapFields (startedField im c) l d := by
  induction l generalizing d with
  | nil => rw [mapFields, List.foldl_nil, List.foldl_nil]
  | cons f l ih =>
    have hf : startField im d f = setFld d f (startedField im d f (fld d f)) := rfl
    rw [List.foldl_cons, mapFields_cons, hf, startedField_congr im h]
    exact ih _ (by simpa only [obj, setFld_dict] using h)

theorem foldl_startStation (im : Image) (l : List Nat) (c : Core) : l.foldl (startStation im) c = mapStations (startedStation im) l c := by
  induction l generalizing c with
  | nil => rfl
  | cons g l ih =>
    have hg : startStation im c g = setStn c g (startedStation im g (stn c g)) := rfl
    rw [List.foldl_cons, mapStations_cons, hg]
    exact ih _

theorem foldl_startFlow_parts (fu : Fuses) (l : List FlowDecl) (c : Core) :
    let d := l.foldl (startFlow fu) c
    d = { c with fab := { c.fab with ctxs := d.fab.ctxs }, freeCtr := d.freeCtr } := by
  induction l generalizing c with
  | nil => rfl
  | cons f l ih =>
    have hf : startFlow fu c f = { c with fab := { c.fab with ctxs := (startFlow fu c f).fab.ctxs }, freeCtr := (startFlow fu c f).freeCtr } := by
      unfold startFlow
      split
      · rfl
      · split <;> rfl
    have h := ih (startFlow fu c f)
    rw [List.foldl_cons]
    generalize l.foldl (startFlow fu) (startFlow fu c f) = e at *
    generalize startFlow fu c f = d at *
    rw [hf] at h
    exact h

theorem foldl_access_parts (w : AccWriter) (l : List (Nat × Nat)) (c : Core) :
    let d := l.foldl (fun c e => { c with acc := { c.acc with entries := tset c.acc.entries e.1 { value := e.2, writer := w } } }) c
    d = { c with acc := d.acc } := by
  induction l generalizing c with
  | nil => rfl
  | cons e l ih => exact ih _

theorem noteCtxs_parts (c : Core) : noteCtxs c = { c with dict := (noteCtxs c).dict } := rfl

theorem obj_noteCtxs (c : Core) {k : Nat} (h1 : k ≠ Key.ctxUsed) (h2 : k ≠ Key.ctxHigh) : obj (noteCtxs c) k = obj c k :=
  (obj_setObj_ne (setObj c Key.ctxUsed (usedCtxs c)) _ h2).trans (obj_setObj_ne c _ h1)

theorem noteFlows_spec (fu : Fuses) (l : List FlowDecl) (c : Core) :
    let d := noteCtxs (l.foldl (startFlow fu) c)
    d = { c with dict := d.dict, fab := { c.fab with ctxs := d.fab.ctxs }, freeCtr := d.freeCtr }
      ∧ ∀ k, k ≠ Key.ctxUsed → k ≠ Key.ctxHigh → obj d k = obj c k := by
  have h := foldl_startFlow_parts fu l c
  generalize l.foldl (startFlow fu) c = e at *
  refine ⟨?_, fun k h1 h2 => ?_⟩
  · rw [noteCtxs_parts, h]
  · rw [obj_noteCtxs e h1 h2, h]; rfl

/-- `e` has the parts of an Almanac that START has armed from `c`. -/
structure Armed (im : Image) (c e : Core) : Prop where
  st : e.st = (startedCore im c).st
  fl : e.fl = (startedCore im c).fl
  scale : e.scale = im.scales.foldl (fun t d => tset t d.entry (startScale d)) []
  slips : e.clk.slips = []
  transit : e.fab.transit = []
  zeroTick : e.alm.zeroTick = obj c Key.startTick
  hold : e.alm.hold = HoldState.reset
  lost : e.alm.lost = []
  starts : e.alm.starts = []

theorem Armed.of_parts {im : Image} {c e d : Core} (h : Armed im c e) (hd : d = { e with dict := d.dict, power := d.power }) : Armed im c d := by
  obtain ⟨h1, h2, h3, h4, h5, h6, h7, h8, h9⟩ := h
  rw [hd]
  exact ⟨h1, h2, h3, h4, h5, h6, h7, h8, h9⟩

/-- The Almanac's parts that START sets, and its objects. -/
theorem startEffects_spec (fu : Fuses) (c : Core) (im : Image) :
    let d := startEffects fu c im
    Armed im c d ∧ d.power.faultN = false ∧ ∀ k v, (k, v) ∈ startObjects c im → obj d k = v := by
  unfold startEffects
  extract_lets pending tick0 dig c1 c2 sc sl c3 _ c4 c5 c6 c7 _ d
  have h1 : c1 = mapFields (startedField im c) (List.range 8) (realign c) := foldl_startField im _ c (realign c) rfl
  have h2 : c2 = startedCore im c := by rw [startedCore, ← h1, ← foldl_startStation]
  have h2p : c2 = { realign c with st := c2.st, fl := c2.fl } := by
    rw [h2, startedCore, mapStations_parts, mapFields_parts]
  clear_value c2
  obtain ⟨h4, h4o⟩ := noteFlows_spec fu im.flows { c3 with fab := { c3.fab with transit := [] } }
  have h5 : c5 = { c4 with acc := c5.acc } := foldl_access_parts .start _ c4
  change c4 = _ at h4
  have hst : c4.st = c2.st := (congrArg Core.st h4 :)
  have hfl : c4.fl = c2.fl := (congrArg Core.fl h4 :)
  change ∀ k, _ → _ → obj c4 k = obj c2 k at h4o
  have h6 : Armed im c c6 := by
    refine ⟨?_, ?_, ?_, ?_, ?_, rfl, rfl, rfl, rfl⟩
    all_goals clear_value c5 c4
    · exact (congrArg Core.st h5 :).trans (hst.trans (congrArg Core.st h2))
    · exact (congrArg Core.fl h5 :).trans (hfl.trans (congrArg Core.fl h2))
    · exact (congrArg Core.scale h5 :).trans (congrArg Core.scale h4 :)
    · exact (congrArg (·.clk.slips) h5 :).trans ((congrArg (·.clk.slips) h4 :).trans (congrArg (·.clk.slips) h2p))
    · exact (congrArg (·.fab.transit) h5 :).trans (congrArg (·.fab.transit) h4 :)
  have ho (k : Nat) (u1 : k ≠ Key.ctxUsed) (u2 : k ≠ Key.ctxHigh) : obj c6 k = obj c k := by
    clear_value c5 c4
    exact (congrArg (fun d : Core => obj d k) h5 :).trans ((h4o k u1 u2).trans (congrArg (fun d : Core => obj d k) h2p :))
  have h7 : startObjects c6 im = startObjects c im := by
    simp only [startObjects, ho Key.startStep (by decide) (by decide), ho Key.commitState (by decide) (by decide)]
  clear_value c6
  have hd : d = { c7 with power := d.power } := rfl
  have h8 : c7 = { c6 with dict := c7.dict } := setObjs_parts c6 _
  have h9 {k v : Nat} (hk : (k, v) ∈ startObjects c6 im) : obj c7 k = v :=
    obj_setObjs_of_mem c6 (by simp only [startObjects, List.map_cons, List.map_nil]; decide) hk
  refine ⟨h6.of_parts ?_, rfl, fun k v hk => ?_⟩
  · clear_value d c7
    rw [hd, h8]
  · rw [← h7] at hk
    have := h9 hk
    clear_value d c7
    rwa [hd]

/-! ### What START leaves in stations, fields and crossings -/

section
variable {im : Image} {c e : Core} (h : Armed im c e)
include h

theorem Armed.stn {g : Nat} (hg : g < 192) : Machine.stn e g = startedStation im g (Machine.stn c g) := by
  have hm (d : Core) : Machine.stn (mapFields (startedField im c) (List.range 8) d) g = Machine.stn d g := by
    rw [Machine.stn, mapFields_parts, Machine.stn]
  rw [Machine.stn, h.st]
  exact (stn_mapStations_of_mem _ _ List.nodup_range (List.mem_range.2 hg)).trans (congrArg _ (hm (realign c)))

theorem Armed.fld_eq (f : Nat) : fld e f = fld (mapFields (startedField im c) (List.range 8) (realign c)) f := by
  rw [fld, h.fl, startedCore, mapStations_parts, fld]

/-- Every declared semaphore at its declared value (R215). -/
theorem Armed.semOf_of_mem {d : SemDecl} (hd : d ∈ im.sems) (hf : d.field < 8)
    (hu : ∀ x ∈ im.sems, x.field = d.field → x.num = d.num → x = d) : semOf e d.field d.num = startSem c d := by
  rw [semOf, syncU, h.fld_eq, fld_mapFields_of_mem _ _ List.nodup_range (List.mem_range.2 hf), tgetD]
  have : tget ((im.sems.filter fun x => x.field = d.field).foldl (fun t d => tset t d.num (startSem c d)) []) d.num = some (startSem c d) :=
    tget_foldl_tset_of_mem (·.num) (startSem c) _ [] (by simp [hd]) fun x hx hn => by
      rw [List.mem_filter, decide_eq_true_eq] at hx
      exact hu x hx.1 hx.2 hn
  rw [startedField, this]; rfl

theorem Armed.semOf_of_not_mem {f k : Nat} (hf : f < 8) (hu : ∀ d ∈ im.sems, ¬(d.field = f ∧ d.num = k)) : (semOf e f k).valid = false := by
  rw [semOf, syncU, h.fld_eq, fld_mapFields_of_mem _ _ List.nodup_range (List.mem_range.2 hf), tgetD]
  have : tget ((im.sems.filter fun x => x.field = f).foldl (fun t d => tset t d.num (startSem c d)) []) k = none :=
    tget_foldl_tset_of_not_mem (·.num) (startSem c) _ [] fun x hx hn => by
      rw [List.mem_filter, decide_eq_true_eq] at hx
      exact hu x hx.1 ⟨hx.2, hn⟩
  rw [startedField, this]; rfl

/-- Every crossing is aligned (R401). -/
theorem Armed.skewOf (a b : Nat) : skewOf e a b = 0 := by
  have hc : (fld (realign c) a).gen.skew = [] := by
    have := tgetD_tmap (f := fun y : Field => { y with gen := { y.gen with skew := [], occ := [] } }) c.fl a (d := Field.reset) rfl
    exact congrArg (·.gen.skew) this
  have hk := fld_mapFields_keep (realign c) (fun y => y.gen.skew) (F := startedField im c) (fun _ _ => rfl) (List.range 8) a
  rw [Machine.skewOf, h.fld_eq, hk, hc]; rfl

end

/-! ### The refusals of START -/

/-- What the rules of START may come to: nothing refuses, and the core is as it was; a rule refuses and records nothing; contexts are
short, which is counted; or a route's link fails, which is recorded (R299). -/
def StartVerdict (c : Core) (r : Core × Status) : Prop :=
  r = (c, .ok) ∨ (∃ st, st ≠ .ok ∧ r = (c, st)) ∨ r = (addObj c Key.noctxCount 1, .noctx)
    ∨ ∃ q, r = ({ c with fab := { c.fab with routeCheck := q } }, .state)

theorem StartVerdict.ite {c : Core} {p : Prop} [Decidable p] {r r' : Core × Status} (h : StartVerdict c r) (h' : StartVerdict c r') :
    StartVerdict c (if p then r else r') := by by_cases hp : p <;> simpa only [hp, if_true, if_false]

theorem StartVerdict.refused (c : Core) {st : Status} (h : st ≠ .ok) : StartVerdict c (c, st) := .inr (.inl ⟨st, h, rfl⟩)

theorem startRefusal_verdict (c : Core) (im : Image) : StartVerdict c (startRefusal c im) := by
  have hstate : StartVerdict c (c, .state) := .refused c nofun
  have hroute : StartVerdict c (match routeFault c im with
      | some r => ({ c with fab := { c.fab with routeCheck := r } }, .state)
      | none => if entryTaken c im then (c, .state) else (c, .ok)) := by
    cases routeFault c im with
    | some r => exact .inr (.inr (.inr ⟨r, rfl⟩))
    | none => exact hstate.ite (.inl rfl)
  have hrange : StartVerdict c (c, .range) := .refused c nofun
  exact hstate.ite (hrange.ite (hstate.ite (hstate.ite (hstate.ite (hstate.ite (hstate.ite
    (StartVerdict.ite (.inr (.inr (.inl rfl))) hroute)))))))

theorem startRefusal_ok {c : Core} {im : Image} (h : (startRefusal c im).2 = .ok) : startRefusal c im = (c, .ok) := by
  obtain e | ⟨st, hst, e⟩ | e | ⟨r, e⟩ := startRefusal_verdict c im
  · exact e
  · exact absurd (by rw [e] at h; exact h) hst
  · rw [e] at h; cases h
  · rw [e] at h; cases h

/-- What a refused START records touches no part of an Almanac. -/
theorem startRefusal_keeps (c : Core) (im : Image) :
    let d := (startRefusal c im).1
    d.alm = c.alm ∧ d.st = c.st ∧ d.fl = c.fl ∧ almState d = almState c := by
  obtain e | ⟨st, -, e⟩ | e | ⟨r, e⟩ := startRefusal_verdict c im
  · rw [e]; exact ⟨rfl, rfl, rfl, rfl⟩
  · rw [e]; exact ⟨rfl, rfl, rfl, rfl⟩
  · rw [e]; exact ⟨rfl, rfl, rfl, obj_addObj_ne c 1 (by decide)⟩
  · rw [e]; exact ⟨rfl, rfl, rfl, rfl⟩

/-! ### The statement -/

section
variable {s : State} {h : Hdr} {x : Session} {im : Image}

theorem startRule_of_image (fu : Fuses) (m : Memory) {c : Core} (hi : c.alm.image = some im) :
    startRule fu m c = if (startRefusal c im).2 = .ok then (startEffects fu (startRefusal c im).1 im, .ok) else startRefusal c im := by
  rw [startRule, hi]

theorem startRule_state (fu : Fuses) (m : Memory) {c : Core} (h : c.alm.image = none ∨ (almState c ≠ 2 ∧ almState c ≠ 6)) :
    startRule fu m c = (c, .state) := by
  cases hi : c.alm.image with
  | none => rw [startRule, hi]
  | some im =>
    have : startRefusal c im = (c, .state) := if_pos (h.resolve_left (by simp [hi]))
    rw [startRule_of_image fu m hi, this, if_neg nofun]

theorem startRule_range (fu : Fuses) (m : Memory) {c : Core} (hi : c.alm.image = some im) (h : almState c = 2 ∨ almState c = 6)
    (ht : obj c Key.startTick < obj c Key.domainTick + 2 * im.frameTicks ∨ obj c Key.domainTick + 100000000 < obj c Key.startTick) :
    startRule fu m c = (c, .range) := by
  have : startRefusal c im = (c, .range) := (if_neg (by omega)).trans (if_pos ht)
  rw [startRule_of_image fu m hi, this, if_neg (by nofun)]

/-- An accepted START, as its rule leaves the core. -/
theorem exec_start_ok (hw : Goals.writes s h x Key.almanacCmd) (hi : s.core.alm.image = some im)
    (hok : (startRefusal (Goals.received s h x) im).2 = .ok) {P : State → Prop}
    (hP : ∀ d r, Armed im (Goals.received s h x) d → d.power.faultN = false →
      (∀ k v, (k, v) ∈ startObjects (Goals.received s h x) im → obj d k = v) →
      Goals.wrote (withCore s (replyParts d r)) h x Key.almanacCmd .ok → P (withCore s (replyParts d r))) :
    NextWith (exec (.start h) s) P := by
  have hr : (Goals.received s h x).alm.image = some im := hi
  have hrule : startRule s.fuse s.mem (Goals.received s h x) = (startEffects s.fuse (Goals.received s h x) im, .ok) := by
    rw [startRule_of_image s.fuse s.mem hr, if_pos hok, startRefusal_ok hok]
  obtain ⟨ha, hf, ho⟩ := startEffects_spec s.fuse (Goals.received s h x) im
  exact writeItem_nextWith hw hrule fun r hd => hP _ r ha hf ho hd

end

theorem startArmsTheAlmanac : Goals.StartArmsTheAlmanac := by
  intro s h x hw
  have hobj {k : Nat} (hk : k ∉ rxKeys) : obj (Goals.received s h x) k = obj s.core k := obj_received hw.1.2.1 hk
  refine ⟨fun im hi => ⟨fun hok => ?_, fun hno => ?_⟩, fun hno => ?_, fun im hi hs ht => ?_⟩
  · refine exec_start_ok hw hi hok fun d r ha hf ho hwr => ?_
    simp only [startObjects, hobj (k := Key.startStep) (by decide), hobj (k := Key.commitState) (by decide)] at ho
    have hz := ha.zeroTick.trans (hobj (by decide))
    have hsem (e : SemDecl) := startSem_congr (hobj (k := Key.slotBindings) (by decide)) e
    refine ⟨hwr, ho _ _ (by simp), hz, ho _ _ (by simp), ho _ _ (by simp), ho _ _ (by simp), ho _ _ (by simp), ho _ _ (by simp), ha.hold,
      ho _ _ (by simp), ha.lost, ha.starts, ha.transit, ha.slips, ha.skewOf, ho _ _ (by simp), hf, rfl, fun g hg => ?_, fun e he hl hu => ?_,
      fun f k hl hu => ha.semOf_of_not_mem hl hu, fun e he hu => ?_⟩
    · rw [show stn (withCore s (replyParts d r)).core g = startedStation im g (stn s.core g) from ha.stn hg]
      refine ⟨rfl, rfl, rfl, rfl, rfl, fun e he hl hu => ?_⟩
      exact tget_foldl_tset_of_mem DescDecl.entry DescDecl.value _ [] (by simp [he, hl]) fun y hy hn => by
        rw [List.mem_filter, decide_eq_true_eq] at hy
        exact hu y hy.1 hy.2 hn
    · exact (ha.semOf_of_mem he hl hu).trans (hsem e)
    · exact ha.scale ▸ tget_foldl_tset_of_mem (·.entry) startScale _ [] he hu
  · have hr : (Goals.received s h x).alm.image = some im := hi
    have hrule := startRule_of_image s.fuse s.mem hr
    rw [if_neg hno] at hrule
    obtain ⟨h1, h2, h3, h4⟩ := startRefusal_keeps (Goals.received s h x) im
    have ha' : almState (Goals.received s h x) = almState s.core := hobj (by decide)
    refine writeItem_nextWith hw hrule fun d hd => ⟨hd, ?_, ?_, ?_, ?_, rfl⟩
    · exact (obj_errStatus _ _ (by decide)).trans (h4.trans ha')
    · exact (errStatus_alm _ _).trans h1
    · exact (errStatus_st _ _).trans h2
    · exact (errStatus_fl _ _).trans h3
  · have hr : (Goals.received s h x).alm.image = none ∨ (almState (Goals.received s h x) ≠ 2 ∧ almState (Goals.received s h x) ≠ 6) := by
      rw [almState, hobj (by decide)]
      exact hno
    exact writeItem_refused hw (startRule_state s.fuse s.mem hr) (by decide) (by decide)
  · have hr : (Goals.received s h x).alm.image = some im := hi
    refine writeItem_refused hw (startRule_range s.fuse s.mem hr ?_ ?_) (by decide) (by decide)
    · rw [almState, hobj (by decide)]
      exact hs
    · rw [hobj (by decide), hobj (by decide)]
      exact ht

end Sys2Proof.Machine

namespace Sys2Proof.Machine

/-! ## STOP and UNLOAD (O57) -/

/-- The end of the step cycle is the first boundary after the present frame that lies whole cycles behind the prologue (R370). -/
theorem cycleEnd_spec (im : Image) (f : Nat) (hn : 0 < im.cycle.length) :
    f < cycleEnd im f ∧ im.prologue.length < cycleEnd im f ∧ im.cycle.length ∣ cycleEnd im f - im.prologue.length
      ∧ cycleEnd im f ≤ max (f + 1) (im.prologue.length + 1) + (im.cycle.length - 1) := by
  have hmax : max 1 im.cycle.length = im.cycle.length := Nat.max_eq_right hn
  simp only [cycleEnd, hmax]
  generalize im.cycle.length = n at *
  generalize im.prologue.length = p
  have hd := Nat.div_add_mod (f - p) n
  have hm := Nat.mod_lt (f - p) hn
  have he : ((f - p) / n + 1) * n = n * ((f - p) / n) + n := by ring
  split
  · exact ⟨by omega, by omega, by simp, by omega⟩
  · refine ⟨by omega, by omega, ?_, by omega⟩
    rw [Nat.add_sub_cancel_left]
    exact ⟨_, Nat.mul_comm _ _⟩

section
variable {s : State} {h : Hdr} {x : Session} {im : Image}

theorem running_congr {c d : Core} (h : almState d = almState c) : running d = running c := by simp [running, h]

theorem stopRule_of_image (fu : Fuses) (m : Memory) {c : Core} (hi : c.alm.image = some im) (hr : running c = true) :
    stopRule fu m c =
      let f := obj c Key.frameCount
      let v := obj c Key.stopAt
      let at' := fun (b : Nat) => (modAlm c fun a => { a with stopAt := some b }, Status.ok)
      if v = 0 then at' (f + 1) else if v = 2 ^ 64 - 1 then at' (cycleEnd im f) else if v < f then (c, .range) else at' (v + 1) := by
  rw [stopRule, hi]
  simp only [hr, Bool.not_true, Bool.false_eq_true, if_false]

/-- A STOP that is taken names a boundary. -/
theorem stopTaken (hw : Goals.writes s h x Key.almanacCmd) {b : Nat}
    (hs : stopRule s.fuse s.mem (Goals.received s h x) = (modAlm (Goals.received s h x) fun a => { a with stopAt := some b }, .ok)) :
    NextWith (exec (.stop h) s) fun t =>
      Goals.wrote t h x Key.almanacCmd .ok ∧ t.core.alm = { s.core.alm with stopAt := some b } ∧ almState t.core = almState s.core ∧ t.mem = s.mem :=
  writeItem_nextWith hw hs fun _ hd => ⟨hd, rfl, obj_received (x := x) hw.1.2.1 (by decide), rfl⟩

/-- The objects in which an image's numbers show, cleared at UNLOAD. -/
def unloadedObjects : List (Nat × Nat) :=
  [Key.frameTicks, Key.multRange, Key.leapReserve, Key.imageProfile, Key.wcDelta, Key.auditK, Key.retainedLayers, Key.maskBase,
   Key.scaleEntriesUsed].map fun k => (k, 0)

/-- The core as an UNLOAD that is taken leaves it. -/
def unloadedCore (c : Core) : Core :=
  let d := setObjs c unloadedObjects
  setAlm (modAlm { d with scale := [], scaleAt := [] } fun a => { a with image := none, digests := ([], [], a.digests.2.2) }) 0

theorem unloadRule_ok (fu : Fuses) (m : Memory) {c : Core} (h : almState c = 2 ∨ almState c = 6) :
    unloadRule fu m c = (unloadedCore c, .ok) := if_neg (by omega)

theorem obj_unloadedCore (c : Core) {k : Nat} (hk : (k, 0) ∈ unloadedObjects) (hn : k ≠ Key.almanacState) : obj (unloadedCore c) k = 0 :=
  (obj_setObj_ne _ 0 hn).trans (obj_setObjs_of_mem c (l := unloadedObjects) (by decide) hk)

theorem almState_unloadedCore (c : Core) : almState (unloadedCore c) = 0 := by
  rw [unloadedCore]
  exact obj_setObj _ Key.almanacState 0

theorem st_unloadedCore (c : Core) : (unloadedCore c).st = c.st := by
  have : (setObjs c unloadedObjects).st = c.st := by rw [setObjs_parts]
  exact this

end

theorem stopAndUnload : Goals.StopAndUnload := by
  intro s h x hw
  have hobj {k : Nat} (hk : k ∉ rxKeys) : obj (Goals.received s h x) k = obj s.core k := obj_received hw.1.2.1 hk
  have hst : almState (Goals.received s h x) = almState s.core := hobj (by decide)
  refine ⟨fun im hi => ?_, fun ha => ?_, fun h2 h6 => ?_⟩
  · have hi' : (Goals.received s h x).alm.image = some im := hi
    intro v f p n set
    have hv : obj (Goals.received s h x) Key.stopAt = v := hobj (by decide)
    have hf : obj (Goals.received s h x) Key.frameCount = f := hobj (by decide)
    refine ⟨fun hr => ?_, fun hr => ?_⟩
    · have hrule := stopRule_of_image s.fuse s.mem hi' ((running_congr hst).trans hr)
      simp only [hv, hf] at hrule
      refine ⟨fun h0 => ?_, fun h0 h1 hle => ?_, fun h0 h1 hlt => ?_, fun h1 hn => ⟨cycleEnd im f, ?_, cycleEnd_spec im f hn⟩⟩
      · rw [if_pos h0] at hrule
        exact stopTaken hw hrule
      · rw [if_neg h0, if_neg h1, if_neg (Nat.not_lt.2 hle)] at hrule
        exact stopTaken hw hrule
      · rw [if_neg h0, if_neg h1, if_pos hlt] at hrule
        exact writeItem_refused hw hrule (by decide) (by decide)
      · rw [if_neg (by omega), if_pos h1] at hrule
        exact stopTaken hw hrule
    · have hrule : stopRule s.fuse s.mem (Goals.received s h x) = (Goals.received s h x, .state) := by
        rw [stopRule, hi']
        simp [running_congr hst, hr]
      exact writeItem_refused hw hrule (by decide) (by decide)
  · have hrule := unloadRule_ok s.fuse s.mem (c := Goals.received s h x) (by rwa [hst])
    have hst := almState_unloadedCore (Goals.received s h x)
    have hz {k : Nat} (hk : (k, 0) ∈ unloadedObjects) (hn : k ≠ Key.almanacState) : obj (unloadedCore (Goals.received s h x)) k = 0 :=
      obj_unloadedCore _ hk hn
    have himg : (unloadedCore (Goals.received s h x)).alm.image = none := rfl
    have hsc : (unloadedCore (Goals.received s h x)).scale = [] := rfl
    have hstn : (unloadedCore (Goals.received s h x)).st = s.core.st := st_unloadedCore _
    generalize unloadedCore (Goals.received s h x) = c at *
    exact writeItem_nextWith hw hrule fun _ hd =>
      ⟨hd, hst, himg, hz (by decide) (by decide), hz (by decide) (by decide), hsc, hz (by decide) (by decide), rfl, hstn⟩
  · have hrule : unloadRule s.fuse s.mem (Goals.received s h x) = (Goals.received s h x, .state) := if_pos (by rw [hst]; exact ⟨h2, h6⟩)
    exact writeItem_refused hw hrule (by decide) (by decide)

end Sys2Proof.Machine

namespace Sys2Proof.Machine

/-! ## Frame zero (O57) -/

/-- The core at the start of frame 0, before its markers leave. -/
def zeroCore (c : Core) : Core :=
  { newGrid (recentre (setAlm (reachTick c c.alm.zeroTick) 4)) with
    ev := { (newGrid (recentre (setAlm (reachTick c c.alm.zeroTick) 4))).ev with interval := [] } }

section
variable (c : Core)

theorem Gridded.dict {c d : Core} (h : Gridded c d) : d.dict = c.dict := (congrArg Core.dict h.parts :)
theorem Gridded.alm {c d : Core} (h : Gridded c d) : d.alm = c.alm := (congrArg Core.alm h.parts :)
theorem Gridded.obj {c d : Core} (h : Gridded c d) (k : Nat) : obj d k = obj c k := by rw [Machine.obj, h.dict, Machine.obj]

/-- What time's passing and the clocks leave of the dictionary. -/
theorem obj_zeroCore {k : Nat} (h1 : k ∉ tickKeys) (h2 : k ∉ clockKeys) (h3 : k ≠ Key.almanacState) : obj (zeroCore c) k = obj c k := by
  have hg := (gridded_newGrid (recentre (setAlm (reachTick c c.alm.zeroTick) 4))).obj k
  have hc := (clocked_recentre (setAlm (reachTick c c.alm.zeroTick) 4)).objs k h2
  exact hg.trans (hc.trans ((obj_setObj_ne _ 4 h3).trans (obj_passTicks _ _ h1)))

theorem almState_zeroCore : almState (zeroCore c) = 4 := by
  have hg := (gridded_newGrid (recentre (setAlm (reachTick c c.alm.zeroTick) 4))).obj Key.almanacState
  have hc := (clocked_recentre (setAlm (reachTick c c.alm.zeroTick) 4)).objs Key.almanacState (by decide)
  exact hg.trans (hc.trans (obj_setObj _ _ 4))

theorem domainTick_zeroCore (hh : c.alm.hold.heldAt = none) (h1 : obj c Key.domainTick ≤ c.alm.zeroTick) (h2 : c.alm.zeroTick < 2 ^ 64) :
    obj (zeroCore c) Key.domainTick = c.alm.zeroTick := by
  have hg := (gridded_newGrid (recentre (setAlm (reachTick c c.alm.zeroTick) 4))).obj Key.domainTick
  have hc := (clocked_recentre (setAlm (reachTick c c.alm.zeroTick) 4)).objs Key.domainTick (by decide)
  exact hg.trans (hc.trans ((obj_setObj_ne _ 4 (by decide)).trans (domainTick_reachTick _ hh h1 h2)))

theorem alm_zeroCore : (zeroCore c).alm = c.alm := by
  have hg := (gridded_newGrid (recentre (setAlm (reachTick c c.alm.zeroTick) 4))).alm
  have hc := (clocked_recentre (setAlm (reachTick c c.alm.zeroTick) 4)).alm
  exact hg.trans (hc.trans (passTicks_alm _ _))

theorem fab_recentred : (recentre (setAlm (reachTick c c.alm.zeroTick) 4)).fab = c.fab :=
  (clocked_recentre _).fab.trans (passTicks_fab c _)

theorem upPorts_zeroCore : upPorts (zeroCore c) = upPorts c := by
  refine upPorts_congr (fun k hk => ?_) fun p => ?_
  · rw [List.mem_cons, List.mem_singleton] at hk
    rcases hk with rfl | rfl
    · exact obj_zeroCore c (by decide) (by decide) (by decide)
    · exact obj_zeroCore c (by decide) (by decide) (by decide)
  · obtain ⟨u, hu⟩ := (gridded_newGrid (recentre (setAlm (reachTick c c.alm.zeroTick) 4))).ports p
    have hp : portOf (recentre (setAlm (reachTick c c.alm.zeroTick) 4)) p = portOf c p := by rw [portOf, fab_recentred, portOf]
    rw [hp] at hu
    exact (congrArg Port.pstate hu :)

theorem out_zeroCore : ∃ l, (zeroCore c).host.out = c.host.out ++ l ∧ (c.fab.transit = [] → l = []) := by
  obtain ⟨l, hl, hn⟩ := (gridded_newGrid (recentre (setAlm (reachTick c c.alm.zeroTick) 4))).out
  have hh : (recentre (setAlm (reachTick c c.alm.zeroTick) 4)).host = c.host := (clocked_recentre _).host.trans (passTicks_host c _)
  rw [fab_recentred] at hn
  rw [hh] at hl
  exact ⟨l, hl, hn⟩

end

theorem frameZeroBegins : Goals.FrameZeroBegins := by
  intro s hr
  have he : exec .frameZero s = execFrameZero s := rfl
  refine ⟨fun ha hs hh => ?_, fun hn => ?_⟩
  · rw [he, execFrameZero, onCore_powered _ (runs_powered hr), if_neg (by simp [ha, hs])]
    change NextWith (.next { s with core := floodOn (zeroCore s.core) (upPorts (zeroCore s.core)) (.marker 0 false) }) _
    obtain ⟨l, hl, hl0⟩ := out_zeroCore s.core
    refine ⟨_, rfl, ?_, ?_, rfl, ?_, ⟨l, ?_, hl0⟩, fun h1 h2 => ?_⟩
    · rw [almState, obj, floodOn_dict]; exact almState_zeroCore s.core
    · rw [obj, floodOn_dict]; exact obj_zeroCore s.core (by decide) (by decide) (by decide)
    · rw [floodOn_alm]; exact alm_zeroCore s.core
    · rw [floodOn_out, hl, upPorts_zeroCore]
    · rw [obj, floodOn_dict]; exact domainTick_zeroCore s.core hh h1 h2
  · rw [he, execFrameZero, onCore_powered _ (runs_powered hr), if_pos hn]

end Sys2Proof.Machine

namespace Sys2Proof.Machine

/-! ## Commits and aborts (R131, R164, R165) -/

/-- Of a station, only the array, the ring and the deferred-W entries changed; no entry came. -/
def Discarding (x y : Station) : Prop :=
  ∃ a r e, y = { x with arr := a, ring := r, dfw := { x.dfw with entries := e } } ∧ (x.dfw.entries = [] → e = [])

theorem Discarding.refl (x : Station) : Discarding x x := ⟨x.arr, x.ring, x.dfw.entries, rfl, id⟩

theorem Discarding.trans {x y z : Station} (h : Discarding x y) (k : Discarding y z) : Discarding x z := by
  obtain ⟨a, r, e, rfl, he⟩ := h
  obtain ⟨a', r', e', rfl, he'⟩ := k
  exact ⟨a', r', e', rfl, fun h0 => he' (he h0)⟩

theorem Discarding.entries {x y : Station} (h : Discarding x y) (hx : x.dfw.entries = []) : y.dfw.entries = [] := by
  obtain ⟨a, r, e, rfl, he⟩ := h
  exact he hx

/-- `d` is `c` with deferred-W entries discarded: only stations changed, each so. -/
structure Discarded (c d : Core) : Prop where
  parts : d = { c with st := d.st }
  stns : ∀ g, Discarding (stn c g) (stn d g)

namespace Discarded

variable {c d e : Core}

theorem refl (c : Core) : Discarded c c := ⟨rfl, fun _ => Discarding.refl _⟩

theorem trans (h : Discarded c d) (k : Discarded d e) : Discarded c e :=
  ⟨k.parts.trans (by rw [h.parts]), fun g => (h.stns g).trans (k.stns g)⟩

theorem setStn (c : Core) (g : Nat) {x : Station} (h : Discarding (stn c g) x) : Discarded c (Machine.setStn c g x) := by
  refine ⟨rfl, fun k => ?_⟩
  by_cases hk : k = g
  · subst hk; rwa [stn_setStn]
  · rw [stn_setStn_ne c x hk]; exact Discarding.refl _

theorem setTile (c : Core) (g t : Nat) (x : Tile) : Discarded c (Machine.setTile c g t x) :=
  setStn c g ⟨_, (stn c g).ring, (stn c g).dfw.entries, rfl, id⟩

theorem freeDfwTile (c : Core) (g t : Nat) : Discarded c (Machine.freeDfwTile c g t) := by
  unfold Machine.freeDfwTile
  split
  · split
    · exact setTile c g t _
    · exact refl c
  · exact refl c

theorem admitRows (c : Core) (g n : Nat) : Discarded c (Machine.admitRows c g n) := by
  induction n generalizing c with
  | zero => exact refl c
  | succ n ih =>
    unfold Machine.admitRows
    split
    · exact refl c
    · split
      · extract_lets x d
        have hd : Discarded c d := setTile c g _ _
        have hr (r : RingPorts) : Discarded d (Machine.setStn d g { stn d g with ring := r }) :=
          setStn d g ⟨(stn d g).arr, r, (stn d g).dfw.entries, rfl, id⟩
        exact hd.trans ((hr _).trans (ih _))
      · exact refl c

theorem dropDfw (c : Core) (g : Nat) : Discarded c (Machine.dropDfw c g) ∧ (stn (Machine.dropDfw c g) g).dfw.entries = [] := by
  have h0 : Discarded c (modDfw c g fun q => { q with entries := [] }) := setStn c g ⟨(stn c g).arr, (stn c g).ring, [], rfl, fun _ => rfl⟩
  have hg : (stn (modDfw c g fun q => { q with entries := [] }) g).dfw.entries = [] := by rw [modDfw, stn_setStn]
  have h1 := ((freeDfwTile (modDfw c g fun q => { q with entries := [] }) g 0).trans (freeDfwTile _ g 1)).trans (admitRows _ g 16)
  exact ⟨h0.trans h1, (h1.stns g).entries hg⟩

theorem foldl_dropDfw (l : List Nat) (c : Core) :
    Discarded c (l.foldl Machine.dropDfw c) ∧ ∀ g ∈ l, (stn (l.foldl Machine.dropDfw c) g).dfw.entries = [] := by
  induction l generalizing c with
  | nil => exact ⟨refl c, fun _ h => nomatch h⟩
  | cons k l ih =>
    obtain ⟨h1, h2⟩ := dropDfw c k
    obtain ⟨h3, h4⟩ := ih (Machine.dropDfw c k)
    refine ⟨h1.trans h3, fun g hg => ?_⟩
    rcases List.mem_cons.1 hg with rfl | hr
    · exact (h3.stns _).entries h2
    · exact h4 g hr

end Discarded

theorem tget_eq_none_of_not_mem {α : Type} (t : Tab α) {k : Nat} (h : k ∉ t.map fun p => p.1) : tget t k = none := by
  induction t with
  | nil => rfl
  | cons p r ih =>
    rw [List.map_cons, List.mem_cons, not_or] at h
    rw [tget, if_neg (Ne.symm h.1), ih h.2]

theorem stn_of_not_mem {c : Core} {g : Nat} (h : g ∉ c.st.map fun p => p.1) : stn c g = Station.reset := by
  rw [stn, tgetD, tget_eq_none_of_not_mem c.st h]; rfl

theorem discarded_discardDfw (c : Core) : Discarded c (discardDfw c) := (Discarded.foldl_dropDfw _ c).1

theorem entries_discardDfw (c : Core) (g : Nat) : (stn (discardDfw c) g).dfw.entries = [] := by
  obtain ⟨h1, h2⟩ := Discarded.foldl_dropDfw (c.st.map fun p => p.1) c
  by_cases hg : g ∈ c.st.map fun p => p.1
  · exact h2 g hg
  · exact (h1.stns g).entries (by rw [stn_of_not_mem hg]; rfl)

/-! ### What COMMIT and ABORT change -/

section
variable (c : Core)

theorem foldl_slots {α : Type} {f : Core → α → Core} (hf : ∀ c x, f c x = { c with slots := (f c x).slots }) (l : List α) :
    l.foldl f c = { c with slots := (l.foldl f c).slots } := by
  induction l generalizing c with
  | nil => rfl
  | cons x l ih =>
    have h := ih (f c x)
    rw [List.foldl_cons]
    generalize l.foldl f (f c x) = e at *
    rw [hf] at h
    exact h

theorem updateSlots_parts (b : Bool) : updateSlots c b = { c with slots := (updateSlots c b).slots } := by
  unfold updateSlots
  split
  · rfl
  · refine foldl_slots c (fun c r => ?_) _
    split
    · rfl
    · dsimp only
      split <;> rfl

/-- A field without the clip factors of a step. -/
def unclipped (step : Nat) (y : Field) : Field := { y with upd := { y.upd with clips := y.upd.clips.filter fun p => p.2.1 ≠ step } }

theorem dropClips_eq (step : Nat) : dropClips c step = mapFields (fun _ => unclipped step) (List.range 8) c := rfl

theorem dropClips_parts (step : Nat) : dropClips c step = { c with fl := (dropClips c step).fl } := by
  rw [dropClips_eq, mapFields_parts]

/-! ### ABORT -/

/-- What an ABORT leaves: scales without pending values, no deferred-W entry, the event counted, and what stops and holds turn on as it
was. -/
structure Aborted (c d : Core) : Prop where
  scale : d.scale = tmap clearPending c.scale
  counts : d.ev.counts = tset c.ev.counts 0x0808 (min (tgetD c.ev.counts 0x0808 0 + 1) (2 ^ 32 - 1))
  objs : ∀ k, k ∉ bookkeepingKeys → obj d k = obj c k
  entries : ∀ g, (stn d g).dfw.entries = []
  alm : d.alm = { (newExecution c).alm with cycleCommitted := false }

theorem aborted_abortStep (reason : Nat) : Aborted c (abortStep c reason) := by
  unfold abortStep
  extract_lets c1 c2 c3 c4
  have h1 : Noted c c1 := noted_raise c _ _ _ _ _
  have h1c : c1.ev.counts = tset c.ev.counts 0x0808 (min (tgetD c.ev.counts 0x0808 0 + 1) (2 ^ 32 - 1)) := raise_counts c _ _ _ _ _
  have h1a : c1.alm = c.alm := raise_alm c _ _ _ _ nofun
  have h2 : c2 = { c1 with slots := c2.slots } := by
    unfold c2; split
    · exact updateSlots_parts c1 false
    · rfl
  have hd := (discarded_discardDfw { c2 with scale := tmap clearPending c2.scale }).parts
  have he := entries_discardDfw { c2 with scale := tmap clearPending c2.scale }
  have hp := dropClips_parts (discardDfw { c2 with scale := tmap clearPending c2.scale }) (obj c2 Key.stepNumber)
  have h3 : c3 = { c2 with scale := tmap clearPending c2.scale, st := c3.st, fl := c3.fl } := by
    unfold c3
    rw [hp, hd]
  have h3e (g : Nat) : (stn c3 g).dfw.entries = [] := by
    rw [← he g, stn, stn]
    unfold c3
    rw [hp]
  clear_value c1 c2 c3
  refine ⟨?_, ?_, fun k hk => ?_, fun g => ?_, ?_⟩
  · have : c4.scale = tmap clearPending c.scale := by
      rw [show c4.scale = c3.scale from rfl, h3, h2, h1.scale]
    exact this
  · have : c4.ev = c1.ev := by rw [show c4.ev = c3.ev from rfl, h3, h2]
    exact (congrArg EventLog.counts this).trans h1c
  · have : obj c4 k = obj c1 k := by rw [show obj c4 k = obj c3 k from rfl, h3, h2]; rfl
    exact this.trans (h1.objs k hk)
  · have := tgetD_tmap (f := clearDfw) c3.st g (d := Station.reset) rfl
    exact (congrArg (·.dfw.entries) this).trans (h3e g)
  · have : c4.alm = c.alm := by rw [show c4.alm = c3.alm from rfl, h3, h2, h1a]
    simp only [newExecution, modAlm, this]

/-! ### What ABORT leaves in memory (R168) -/

theorem mread_foldl_mwriteN (f : Nat → Nat → Byte) (l : List (Nat × Nat)) (m : Memory) {a : Nat} (h : ∀ p ∈ l, a < p.1 ∨ p.1 + p.2 ≤ a) :
    mread (l.foldl (fun m p => mwriteN m p.1 ((List.range p.2).map (f p.1))) m) a = mread m a := by
  induction l generalizing m with
  | nil => rfl
  | cons p l ih =>
    rw [List.foldl_cons, ih _ fun q hq => h q (List.mem_cons_of_mem _ hq)]
    exact mread_mwriteN_ne m _ (by simpa using h p List.mem_cons_self)

/-- Only the idle working copies change (R143). -/
theorem mread_idleLost (mem : Memory) {a : Nat} (h : ∀ p ∈ idleBuffers c, a < p.1 ∨ p.1 + p.2 ≤ a) :
    mread (idleLost mem c).2 a = mread mem a :=
  mread_foldl_mwriteN (fun b i => Config.undefinedByte c.freeCtr (b + i)) (idleBuffers c) mem h

end

end Sys2Proof.Machine

namespace Sys2Proof.Machine

/-! ## RESOLVE (O57) -/

section
variable {s : State} {h : Hdr} {x : Session}

/-- A double-buffered entry's buffers change over (R167). -/
def flipActive (x : ScaleEntry) : ScaleEntry := { x with active := if x.dbuf then !x.active else x.active }

/-- The core as a COMMIT written to RESOLVE leaves it. -/
def resolvedCommit (c : Core) : Core :=
  let d := setObj (addObj { c with scale := tmap flipActive c.scale } Key.commits 1) Key.stepNumber ((obj c Key.stepNumber + 1) % 2 ^ 32)
  setObj d Key.commitState 4

theorem resolveCommitRule_ok (fu : Fuses) (m : Memory) {c : Core} (hc : obj c Key.commitState = 3) :
    resolveCommitRule fu m c = (resolvedCommit c, .ok) := if_neg (not_not.2 hc)

theorem resolvedCommit_spec (c : Core) :
    let d := resolvedCommit c
    obj d Key.commitState = 4 ∧ obj d Key.stepNumber = (obj c Key.stepNumber + 1) % 2 ^ 32
      ∧ obj d Key.commits = min (obj c Key.commits + 1) (objMax Key.commits) ∧ d.st = c.st
      ∧ ∀ k, tget d.scale k = (tget c.scale k).map fun e => if e.dbuf then { e with active := !e.active } else e := by
  refine ⟨obj_setObj _ _ _, ?_, ?_, rfl, fun k => ?_⟩
  · exact (obj_setObj_ne _ _ (by decide)).trans (obj_setObj _ _ _)
  · refine (obj_setObj_ne _ _ (by decide)).trans ((obj_setObj_ne _ _ (by decide)).trans ?_)
    exact obj_setObj _ _ _
  · refine (tget_map flipActive c.scale k).trans (congrArg (fun f => (tget c.scale k).map f) (funext fun e => ?_))
    by_cases hb : e.dbuf = true
    · rw [if_pos hb, flipActive, if_pos hb]
    · rw [if_neg hb, flipActive, if_neg hb]

theorem resolveCommitted (hw : Goals.writes s h x Key.resolve) (hc : obj s.core Key.commitState = 3) :
    NextWith (exec (.resolveCommit h) s) fun t =>
        Goals.wrote t h x Key.resolve .ok ∧ obj t.core Key.commitState = 4
        ∧ obj t.core Key.stepNumber = (obj s.core Key.stepNumber + 1) % 2 ^ 32
        ∧ obj t.core Key.commits = min (obj s.core Key.commits + 1) (objMax Key.commits) ∧ t.mem = s.mem ∧ t.core.st = s.core.st
        ∧ ∀ k, tget t.core.scale k = (tget s.core.scale k).map fun e => if e.dbuf then { e with active := !e.active } else e := by
  have hobj {k : Nat} (hk : k ∉ rxKeys) : obj (Goals.received s h x) k = obj s.core k := obj_received hw.1.2.1 hk
  have hrule := resolveCommitRule_ok s.fuse s.mem (c := Goals.received s h x) ((hobj (by decide)).trans hc)
  obtain ⟨h1, h2, h3, h4, h5⟩ := resolvedCommit_spec (Goals.received s h x)
  rw [hobj (by decide)] at h2 h3
  generalize resolvedCommit (Goals.received s h x) = c at *
  exact writeItem_nextWith hw hrule fun _ hd => ⟨hd, h1, h2, h3, rfl, h4, h5⟩

theorem idleBuffers_received (hp : h.port < 3) : idleBuffers (Goals.received s h x) = idleBuffers s.core := by
  rw [idleBuffers, obj_received hp (by decide)]; rfl

theorem resolveAborted (hw : Goals.writes s h x Key.resolve) (hc : obj s.core Key.commitState = 3) :
    NextWith (exec (.resolveAbort h) s) fun t =>
        Goals.wrote t h x Key.resolve .ok ∧ obj t.core Key.commitState = 0 ∧ obj t.core Key.stepNumber = obj s.core Key.stepNumber
        ∧ obj t.core Key.commits = obj s.core Key.commits ∧ Goals.raised s t 0x0808 ∧ Goals.outsideIdle s t
        ∧ ∀ k, tget t.core.scale k = (tget s.core.scale k).map fun e => { e with pend := [], nan := [], satRaised := false, amax := none } := by
  have hobj {k : Nat} (hk : k ∉ rxKeys) : obj (Goals.received s h x) k = obj s.core k := obj_received hw.1.2.1 hk
  have hidle := idleBuffers_received (s := s) (x := x) hw.1.2.1
  have hmem (a : Nat) := mread_idleLost (Goals.received s h x) s.mem (a := a)
  rw [hidle] at hmem
  have ha := aborted_abortStep (idleLost s.mem (Goals.received s h x)).1 (obj (Goals.received s h x) Key.voteReason)
  have ho (k : Nat) (h1 : k ∉ bookkeepingKeys) (h2 : k ∉ rxKeys) := (ha.objs k h1).trans (hobj h2)
  refine writeItemM_nextWith hw (f := fun fu mem c => let r := resolveAbortRule mem c; (fu, r.1, r.2.1, r.2.2))
    (e := setObj (abortStep (idleLost s.mem (Goals.received s h x)).1 (obj (Goals.received s h x) Key.voteReason)) Key.commitState 0)
    (m := (idleLost s.mem (Goals.received s h x)).2) (st := .ok) ?_ fun d hd => ⟨hd, ?_, ?_, ?_, ?_, fun a hout => hmem a hout, fun k => ?_⟩
  · simp only [resolveAbortRule, if_neg (not_not.2 ((hobj (by decide)).trans hc))]
  all_goals generalize abortStep (idleLost s.mem (Goals.received s h x)).1 (obj (Goals.received s h x) Key.voteReason) = e at *
  · exact obj_setObj e _ 0
  · exact (obj_setObj_ne e 0 (by decide)).trans (ho _ (by decide) (by decide))
  · exact (obj_setObj_ne e 0 (by decide)).trans (ho _ (by decide) (by decide))
  · have hcnt : tgetD e.ev.counts 0x0808 0 = min (tgetD s.core.ev.counts 0x0808 0 + 1) (2 ^ 32 - 1) := by
      rw [ha.counts, tgetD_tset_self]; rfl
    exact hcnt
  · have hsc : tget e.scale k = (tget s.core.scale k).map clearPending := by
      rw [ha.scale, tmap, tget_map]; rfl
    exact hsc

end

theorem resolveSettlesTheStep : Goals.ResolveSettlesTheStep := by
  intro s h x hw step
  refine ⟨fun hc => ⟨resolveCommitted hw hc, resolveAborted hw hc⟩, fun hc i hi => ?_⟩
  have hc' : obj (Goals.received s h x) Key.commitState ≠ 3 := by rwa [obj_received hw.1.2.1 (by decide)]
  rw [List.mem_cons, List.mem_singleton] at hi
  rcases hi with rfl | rfl
  · exact writeItem_refused hw (f := resolveCommitRule) (if_pos hc') (by decide) (by decide)
  · exact writeItemM_refused hw (f := fun fu mem c => let r := resolveAbortRule mem c; (fu, r.1, r.2.1, r.2.2))
      (by simp only [resolveAbortRule, if_pos hc']) (by decide) (by decide)

/-- Settles O57: LOAD, START, STOP, UNLOAD, frame zero and RESOLVE, each by the lemma on its rule. -/
theorem almanacCommands : Obligations.AlmanacCommands := by
  unfold Obligations.AlmanacCommands
  exact ⟨loadChecksThenInstalls, startArmsTheAlmanac, stopAndUnload, frameZeroBegins, resolveSettlesTheStep⟩

end Sys2Proof.Machine

namespace Sys2Proof.Machine

/-! ## The stop (R371, R372) -/

section
variable (c : Core)

/-! ### Stations -/

theorem stopStation_reset : stopStation Station.reset = Station.reset := rfl

/-- A stopped station: its sequencer STOPPED, its streams IDLE. -/
def Halted (x : Station) : Prop := x.seq.state = .stopped ∧ ∀ i, (strm x i).state = 0

theorem halted_stopStation (x : Station) : Halted (stopStation x) := by
  refine ⟨rfl, fun i => ?_⟩
  have := tgetD_tmap (f := fun y : Stream => { Stream.reset with lastArm := y.lastArm, rowsDone := y.rowsDone, faultCause := y.faultCause,
                                                                 faultAddr := y.faultAddr }) x.streams i (d := Stream.reset) rfl
  exact congrArg Stream.state this

theorem Discarding.halted {x y : Station} (h : Discarding x y) (hx : Halted x) : Halted y := by
  obtain ⟨a, r, e, rfl, -⟩ := h
  exact hx

/-! ### Sync units -/

theorem syncU_setSync_ne (u : SyncUnit) {f g : Nat} (h : g ≠ f) : syncU (setSync c f u) g = syncU c g := by
  rw [syncU, setSync, fld_setFld_ne c _ h, syncU]

theorem sendWatch_fl (dest slot : Nat) (m : WatchMsg) : (sendWatch c dest slot m).fl = c.fl := by
  unfold sendWatch
  extract_lets d
  have hd : d.fl = c.fl := by unfold d; split <;> rfl
  split
  · split
    · exact hd
    · exact hd
  · exact hd

theorem foldl_sendWatch_fl {α : Type} (f : Core → α → Core) (hf : ∀ c x, (f c x).fl = c.fl) (l : List α) : (l.foldl f c).fl = c.fl := by
  induction l generalizing c with
  | nil => rfl
  | cons x l ih => exact (ih _).trans (hf c x)

theorem syncU_poison_ne (f s cause : Nat) {g : Nat} (h : g ≠ f) : syncU (poison c f s cause) g = syncU c g := by
  unfold poison
  extract_lets x c1 hit due slots _ c2 c3
  have h1 : syncU c1 g = syncU c g := by unfold c1; rw [setSem, syncU_setSync_ne _ _ h]
  have h2 : syncU c2 g = syncU c1 g := by unfold c2; rw [syncU_setSync_ne _ _ h]
  have h3 : c3.fl = c2.fl := foldl_sendWatch_fl c2 _ (fun d p => sendWatch_fl d _ _ _) _
  have h4 := foldl_sendWatch_fl c3 (fun c y => sendWatch c y.unit 0 (slotMsg c f y .lost cause 0)) (fun d y => sendWatch_fl d _ _ _) slots
  rw [syncU, fld, h4, h3, ← fld, ← syncU, h2, h1]

theorem syncU_stopSync_ne {f g : Nat} (h : g ≠ f) : syncU (stopSync c f) g = syncU c g := by
  have hp (l : List (Nat × Sem)) (d : Core) : syncU (l.foldl (fun c p => poison c f p.1 4) d) g = syncU d g := by
    induction l generalizing d with
    | nil => rfl
    | cons p l ih => exact (ih _).trans (syncU_poison_ne d f p.1 4 h)
  unfold stopSync
  exact (syncU_setSync_ne _ _ h).trans (hp _ c)

theorem quiet_stopSync (f : Nat) : Quiet c (stopSync c f) := by
  unfold stopSync
  exact (Quiet.foldl (fun d _ => quiet_poison d f _ 4) _ c).trans (quiet_setSync _ f _)

theorem semOf_stopSync (f k : Nat) : (semOf (stopSync c f) f k).valid = false := by
  unfold stopSync
  extract_lets d invalid
  rw [semOf, syncU_setSync]
  have := tgetD_tmap (f := invalid) (syncU d f).sems k
    (d := { valid := false, poison := false, owner := 0, cap := 0, count := 0, cause := 0, pframe := 0 }) rfl
  exact congrArg Sem.valid this

theorem syncU_foldl_stopSync_of_not_mem {l : List Nat} {f : Nat} (h : f ∉ l) : syncU (l.foldl stopSync c) f = syncU c f := by
  induction l generalizing c with
  | nil => rfl
  | cons g l ih =>
    rw [List.mem_cons, not_or] at h
    exact (ih _ h.2).trans (syncU_stopSync_ne c h.1)

theorem semOf_foldl_stopSync {l : List Nat} {f : Nat} (k : Nat) (h : f ∈ l) : (semOf (l.foldl stopSync c) f k).valid = false := by
  induction l generalizing c with
  | nil => cases h
  | cons g l ih =>
    rw [List.foldl_cons]
    by_cases hl : f ∈ l
    · exact ih _ hl
    · obtain rfl : f = g := (List.mem_cons.1 h).resolve_right hl
      rw [semOf, syncU_foldl_stopSync_of_not_mem _ hl]
      exact semOf_stopSync c f k

/-! ### The fault that stops -/

theorem faultStopped_none (h : c.alm.fault = none) : faultStopped c = c := by rw [faultStopped, h]

/-- The stop that a fault asks for is recorded and raised (R372, R490). -/
structure FaultTaken (q : Nat × Nat × Nat) (c d : Core) : Prop where
  alm : d.alm = { c.alm with lastFault := q }
  power : d.power = { c.power with faultN := c.power.housekeeping }
  counts : d.ev.counts = tset c.ev.counts 0x0B01 (min (tgetD c.ev.counts 0x0B01 0 + 1) (2 ^ 32 - 1))
  scale : d.scale = c.scale
  st : d.st = c.st
  objs : ∀ k, k ∉ bookkeepingKeys → obj d k = obj c k

theorem faultStopped_some {q : Nat × Nat × Nat} (h : c.alm.fault = some q) :
    let d := raise (modAlm c fun a => { a with lastFault := q }) 0x0B01 .info mgmt 0 [q.1, q.2.1]
    faultStopped c = { d with power := { d.power with faultN := d.power.housekeeping } } := by rw [faultStopped, h]

theorem faultTaken {q : Nat × Nat × Nat} (h : c.alm.fault = some q) : FaultTaken q c (faultStopped c) := by
  have hn := noted_raise (modAlm c fun a => { a with lastFault := q }) 0x0B01 .info mgmt 0 [q.1, q.2.1]
  have ha := raise_alm (modAlm c fun a => { a with lastFault := q }) (cls := .info) 0x0B01 mgmt 0 [q.1, q.2.1] nofun
  have hc := raise_counts (modAlm c fun a => { a with lastFault := q }) 0x0B01 .info mgmt 0 [q.1, q.2.1]
  rw [faultStopped_some c h]
  generalize raise (modAlm c fun a => { a with lastFault := q }) 0x0B01 .info mgmt 0 [q.1, q.2.1] = d at *
  have hp : d.power = c.power := hn.power
  refine ⟨ha, ?_, hc, hn.scale, hn.st, hn.objs⟩
  rw [hp]

/-! ### The stop itself -/

/-- The objects that a stop sets, beside those that keep count. -/
def stopKeys : List Nat :=
  [Key.commitState, Key.almanacState, Key.stopCause, Key.holdLead, Key.holdState, Key.loopLength, Key.ctxUsed, Key.ctxHigh] ++ bookkeepingKeys

/-- The Almanac stopped with a cause, from the core that `faultStopped` left. -/
structure StoppedFrom (cause : Nat) (c d : Core) : Prop where
  almState : almState d = 6
  stopCause : obj d Key.stopCause = cause
  undecided : cause = 6 → obj d Key.commitState = 3
  counts : d.ev.counts = tset c.ev.counts 0x0B02 (min (tgetD c.ev.counts 0x0B02 0 + 1) (2 ^ 32 - 1))
  hold : d.alm.hold = HoldState.reset
  lastFault : d.alm.lastFault = c.alm.lastFault
  power : d.power = c.power
  halted : ∀ g, Halted (stn d g)
  entries : ∀ g, (stn d g).dfw.entries = []
  sems : ∀ f k, f < 8 → (semOf d f k).valid = false
  scale : d.scale = c.scale
  objs : ∀ k, k ∉ stopKeys → obj d k = obj c k

/-- A field whose update engine's queue is empty. -/
def noUpdates (y : Field) : Field := { y with upd := { y.upd with queue := [] } }

/-- The sync units as a stop leaves them, the deferred-W work of the stations and their programs ended. -/
def haltUnits (c : Core) : Core := (List.range 8).foldl stopSync (discardDfw { c with st := tmap stopStation c.st, merge := [] })

/-- The contexts and access entries as a stop leaves them. -/
def haltFlows (c : Core) : Core :=
  let d := noteCtxs { c with fab := { c.fab with ctxs := stopCtx c.fab.ctxs } }
  { d with acc := { d.acc with entries := d.acc.entries.filter fun p => p.2.writer ≠ .start } }

/-- The units of `c` halted. -/
structure UnitsHalted (c d : Core) : Prop where
  ev : d.ev = c.ev
  lastFault : d.alm.lastFault = c.alm.lastFault
  power : d.power = c.power
  halted : ∀ g, Halted (stn d g)
  entries : ∀ g, (stn d g).dfw.entries = []
  sems : ∀ f k, f < 8 → (semOf d f k).valid = false
  scale : d.scale = c.scale
  objs : ∀ k, k ∉ bookkeepingKeys → obj d k = obj c k

theorem unitsHalted_haltUnits : UnitsHalted c (haltUnits c) := by
  have hd := discarded_discardDfw { c with st := tmap stopStation c.st, merge := [] }
  have he := entries_discardDfw { c with st := tmap stopStation c.st, merge := [] }
  have hs (d : Core) (f k : Nat) (h : f < 8) := semOf_foldl_stopSync d k (List.mem_range.2 h)
  have hh (g : Nat) : Halted (stn { c with st := tmap stopStation c.st, merge := [] } g) := by
    have : stn { c with st := tmap stopStation c.st, merge := [] } g = stopStation (stn c g) := tgetD_tmap c.st g stopStation_reset
    rw [this]
    exact halted_stopStation _
  unfold haltUnits
  generalize discardDfw { c with st := tmap stopStation c.st, merge := [] } = d at *
  have hq : Quiet d ((List.range 8).foldl stopSync d) := Quiet.foldl (fun d f => quiet_stopSync d f) _ d
  have hs' := hs d
  generalize (List.range 8).foldl stopSync d = e at *
  obtain ⟨hp, hst⟩ := hd
  change d = { c with st := d.st, merge := [] } at hp
  exact {
    ev := hq.ev.trans (congrArg Core.ev hp :)
    lastFault := (congrArg Almanac.lastFault hq.alm :).trans (congrArg (·.alm.lastFault) hp :)
    power := hq.power.trans (congrArg Core.power hp :)
    halted := fun g => by rw [hq.stn]; exact (hst g).halted (hh g)
    entries := fun g => by rw [hq.stn]; exact he g
    sems := hs'
    scale := hq.scale.trans (congrArg Core.scale hp :)
    objs := fun k hk => (hq.objs k hk).trans (by rw [hp]; rfl) }

/-- The objects a stop sets. -/
def stopObjects (state cause : Nat) : List (Nat × Nat) :=
  [(Key.commitState, state), (Key.almanacState, 6), (Key.stopCause, cause), (Key.holdLead, 0), (Key.holdState, 0), (Key.loopLength, 0)]

/-- The Almanac's own record as a stop leaves it. -/
def haltAlm (a : Almanac) : Almanac :=
  { a with stopAt := none, mismatch := false, fault := none, hold := HoldState.reset, segs := [], starts := [], detached := [],
           voted := false, decided := false, applyStart := false }

/-- COMMIT_STATE at a stop (R371 step 7). -/
def stoppedCommit (c : Core) (cause : Nat) : Nat := if cause = 6 then 3 else if applyPending c then 4 else 0

theorem mapFields_noUpdates (l : List Nat) :
    l.foldl (fun c f => setFld c f { fld c f with upd := { (fld c f).upd with queue := [] } }) c = mapFields (fun _ => noUpdates) l c := rfl

theorem almanacStop_eq (cause : Nat) : almanacStop c cause =
    let d := setObjs (haltFlows (mapFields (fun _ => noUpdates) (List.range 8) (haltUnits (faultStopped c))))
      (stopObjects (stoppedCommit (faultStopped c) cause) cause)
    raise (modAlm d haltAlm) 0x0B02 .info mgmt 0 [cause] := by
  rw [← mapFields_noUpdates]
  rfl

theorem haltFlows_spec :
    haltFlows c = { c with dict := (haltFlows c).dict, fab := (haltFlows c).fab, acc := (haltFlows c).acc }
      ∧ ∀ k, k ≠ Key.ctxUsed → k ≠ Key.ctxHigh → obj (haltFlows c) k = obj c k :=
  ⟨rfl, fun _ h1 h2 => obj_noteCtxs _ h1 h2⟩

theorem stopObjects_key {state cause : Nat} {p : Nat × Nat} (h : p ∈ stopObjects state cause) : p.1 ∈ stopKeys := by
  have := List.mem_map_of_mem (f := Prod.fst) h
  simp only [stopObjects, List.map_cons, List.map_nil] at this
  exact List.mem_append_left _ (List.mem_append_left (bs := [Key.ctxUsed, Key.ctxHigh]) this)

theorem stoppedFrom_almanacStop (cause : Nat) : StoppedFrom cause (faultStopped c) (almanacStop c cause) := by
  rw [almanacStop_eq]
  have hu := unitsHalted_haltUnits (faultStopped c)
  have hstate : cause = 6 → stoppedCommit (faultStopped c) cause = 3 := fun h => if_pos h
  generalize stoppedCommit (faultStopped c) cause = state at *
  generalize haltUnits (faultStopped c) = d at *
  generalize faultStopped c = b at *
  have hm := mapFields_parts d (fun _ => noUpdates) (List.range 8)
  have hmu (f : Nat) : syncU (mapFields (fun _ => noUpdates) (List.range 8) d) f = syncU d f :=
    fld_mapFields_keep d (·.sync) (F := fun _ => noUpdates) (fun _ _ => rfl) _ f
  generalize mapFields (fun _ => noUpdates) (List.range 8) d = e at *
  obtain ⟨hf, hfo⟩ := haltFlows_spec e
  generalize haltFlows e = f at *
  have hp := setObjs_parts f (stopObjects state cause)
  have ho {k v : Nat} (h : (k, v) ∈ stopObjects state cause) : obj (setObjs f (stopObjects state cause)) k = v :=
    obj_setObjs_of_mem f (by simp only [stopObjects, List.map_cons, List.map_nil]; decide) h
  have ho' {k : Nat} (h : k ∉ stopKeys) : obj (setObjs f (stopObjects state cause)) k = obj f k :=
    obj_setObjs_of_not_mem f _ fun p hp e => h (e ▸ stopObjects_key hp)
  generalize setObjs f (stopObjects state cause) = g at *
  have hn := noted_raise (modAlm g haltAlm) 0x0B02 .info mgmt 0 [cause]
  have ha := raise_alm (modAlm g haltAlm) (cls := .info) 0x0B02 mgmt 0 [cause] nofun
  have hc := raise_counts (modAlm g haltAlm) 0x0B02 .info mgmt 0 [cause]
  have hfl := raise_fl (modAlm g haltAlm) 0x0B02 .info mgmt 0 [cause]
  generalize raise (modAlm g haltAlm) 0x0B02 .info mgmt 0 [cause] = r at *
  have hgd : g = { d with dict := g.dict, fl := e.fl, fab := f.fab, acc := f.acc } := by rw [hp, hf, hm]
  have hobj {k : Nat} (h : k ∉ bookkeepingKeys) : obj r k = obj g k := hn.objs k h
  have hst : r.st = d.st := hn.st.trans (congrArg Core.st hgd :)
  have hstn (k : Nat) : stn r k = stn d k := by rw [stn, hst, stn]
  have hsem (f k : Nat) : semOf r f k = semOf d f k := by
    have : r.fl = e.fl := hfl.trans (congrArg Core.fl hgd :)
    rw [semOf, syncU, fld, this, ← fld, ← syncU, hmu, semOf]
  have hev : g.ev = b.ev := (congrArg Core.ev hgd :).trans hu.ev
  exact {
    almState := (hobj (by decide)).trans (ho (by simp [stopObjects]))
    stopCause := (hobj (by decide)).trans (ho (by simp [stopObjects]))
    undecided := fun h => (hobj (by decide)).trans (ho (by simp [stopObjects, hstate h]))
    counts := hc.trans (by rw [← hev]; rfl)
    hold := congrArg Almanac.hold ha
    lastFault := (congrArg Almanac.lastFault ha).trans ((congrArg (·.alm.lastFault) hgd :).trans hu.lastFault)
    power := hn.power.trans ((congrArg Core.power hgd :).trans hu.power)
    halted := fun k => by rw [hstn]; exact hu.halted k
    entries := fun k => by rw [hstn]; exact hu.entries k
    sems := fun f k h => by rw [hsem]; exact hu.sems f k h
    scale := hn.scale.trans ((congrArg Core.scale hgd :).trans hu.scale)
    objs := fun k h => by
      obtain ⟨h1, h2⟩ := not_or.1 (mt List.mem_append.2 h)
      rw [hobj h2, ho' h, hfo k (by rintro rfl; exact h1 (by decide)) (by rintro rfl; exact h1 (by decide)), ← hu.objs k h2, hm]
      rfl }

end

end Sys2Proof.Machine

namespace Sys2Proof.Machine

/-! ## Boundaries: the end of a frame, the next frame, a hold (R19 to R22, R310, R311) -/

section
variable (c : Core)

/-- The objects that change when the end of a frame is reached: those of time, of the clocks, and the loop length. -/
def reachKeys : List Nat := Key.loopLength :: tickKeys ++ clockKeys

/-- `d` is `c` at the end of its frame, before what the boundary decides. -/
structure Reached (c d : Core) : Prop where
  alm : d.alm = c.alm
  ev : d.ev = c.ev
  scale : d.scale = c.scale
  fab : d.fab = c.fab
  host : d.host = c.host
  housekeeping : d.power.housekeeping = c.power.housekeeping
  syncU : ∀ f, syncU d f = syncU c f
  dfw : ∀ g, (stn d g).dfw = (stn c g).dfw
  objs : ∀ k, k ∉ reachKeys → obj d k = obj c k

theorem Reached.trans {c d e : Core} (h : Reached c d) (k : Reached d e) : Reached c e :=
  ⟨k.alm.trans h.alm, k.ev.trans h.ev, k.scale.trans h.scale, k.fab.trans h.fab, k.host.trans h.host, k.housekeeping.trans h.housekeeping,
   fun f => (k.syncU f).trans (h.syncU f), fun g => (k.dfw g).trans (h.dfw g), fun j hj => (k.objs j hj).trans (h.objs j hj)⟩

theorem Reached.portOf {c d : Core} (h : Reached c d) (p : Nat) : portOf d p = portOf c p := by rw [Machine.portOf, h.fab, Machine.portOf]

theorem Reached.upPorts {c d : Core} (h : Reached c d) : upPorts d = upPorts c := by
  refine upPorts_congr (fun k hk => h.objs k ?_) fun p => by rw [h.portOf]
  rw [List.mem_cons, List.mem_singleton] at hk
  rcases hk with rfl | rfl <;> decide

theorem Reached.jobPorts {c d : Core} (h : Reached c d) : jobPorts d = jobPorts c := by
  refine jobPorts_congr (fun k hk => h.objs k ?_) (by rw [h.alm]) fun p => ⟨(Machine.portOf c p).used, h.portOf p⟩
  rw [List.mem_cons, List.mem_singleton] at hk
  rcases hk with rfl | rfl <;> decide

theorem reached_passTicks (n : Nat) : Reached c (passTicks n c) where
  alm := passTicks_alm c n
  ev := passTicks_ev c n
  scale := passTicks_scale c n
  fab := passTicks_fab c n
  host := passTicks_host c n
  housekeeping := by rw [passTicks_power]
  syncU f := by rw [Machine.syncU, fld, passTicks_fl, Machine.syncU, fld]
  dfw g := by rw [stn_passTicks, tickStation_seq]
  objs k hk := obj_passTicks c n fun h => hk (List.mem_append_left _ (List.mem_cons_of_mem _ h))

theorem Clocked.reached {c d : Core} (h : Clocked c d) : Reached c d where
  alm := h.alm
  ev := h.ev
  scale := h.scale
  fab := h.fab
  host := h.host
  housekeeping := by rw [h.power]
  syncU := h.syncU
  dfw g := by rw [h.stn]
  objs k hk := h.objs k fun hc => hk (List.mem_append_right _ hc)

theorem loopChange_eq : loopChange c = c ∨ ∃ n, loopChange c = setObj c Key.loopLength n := by
  unfold loopChange
  split
  · exact .inr ⟨_, rfl⟩
  · exact .inl rfl

theorem reached_loopChange : Reached c (loopChange c) := by
  rcases loopChange_eq c with h | ⟨n, h⟩
  · rw [h]; exact ⟨rfl, rfl, rfl, rfl, rfl, rfl, fun _ => rfl, fun _ => rfl, fun _ _ => rfl⟩
  · rw [h]
    exact ⟨rfl, rfl, rfl, rfl, rfl, rfl, fun _ => rfl, fun _ => rfl, fun k hk => obj_setObj_ne c n (by rintro rfl; exact hk (by decide))⟩

/-- The core at boundary `b`, before what it decides. -/
def atEnd (b : Nat) : Core := loopChange (closeLeaps (reachTick c (boundaryTick c b)))

theorem reached_atEnd (b : Nat) : Reached c (atEnd c b) :=
  ((reached_passTicks c _).trans (clocked_closeLeaps _).reached).trans (reached_loopChange _)

theorem domainTick_atEnd {b : Nat} (hh : c.alm.hold.heldAt = none) (h1 : obj c Key.domainTick ≤ boundaryTick c b)
    (h2 : boundaryTick c b < 2 ^ 64) : obj (atEnd c b) Key.domainTick = boundaryTick c b := by
  have hl (d : Core) : obj (loopChange d) Key.domainTick = obj d Key.domainTick := by
    rcases loopChange_eq d with h | ⟨n, h⟩
    · rw [h]
    · rw [h, obj_setObj_ne _ _ (by decide)]
  rw [atEnd, hl, (clocked_closeLeaps _).objs _ (by decide), domainTick_reachTick c hh h1 h2]

theorem curTemplate_congr {c d : Core} (hi : d.alm.image = c.alm.image) (ho : obj d Key.frameCount = obj c Key.frameCount) :
    curTemplate d = curTemplate c := by rw [curTemplate, hi, ho, curTemplate]

/-! ### The next frame -/

theorem commitHeld_eq (old new : Nat) : commitHeld c old new = c ∨ commitHeld c old new = setObj c Key.commitState new := by
  unfold commitHeld
  split
  · exact .inr rfl
  · exact .inl rfl

theorem obj_commitHeld (old new : Nat) {k : Nat} (h : k ≠ Key.commitState) : obj (commitHeld c old new) k = obj c k := by
  rcases commitHeld_eq c old new with e | e
  · rw [e]
  · rw [e, obj_setObj_ne c new h]

theorem commitHeld_parts (old new : Nat) : commitHeld c old new = { c with dict := (commitHeld c old new).dict } := by
  rcases commitHeld_eq c old new with e | e
  · rw [e]
  · rw [e]; rfl

theorem newCycle_spec (b : Nat) : newCycle c b = { c with st := (newCycle c b).st } ∧ ∀ g, (stn (newCycle c b) g).dfw = (stn c g).dfw := by
  unfold newCycle
  split
  · exact ⟨rfl, fun _ => rfl⟩
  · dsimp only
    split
    · refine ⟨rfl, fun g => ?_⟩
      have := tgetD_tmap (f := fun s : Station => { s with arr := { s.arr with dfwMma := 0 } }) c.st g (d := Station.reset) rfl
      exact (congrArg Station.dfw this :)
    · exact ⟨rfl, fun _ => rfl⟩

/-- The objects that the start of a frame sets, beside those of the operating point. -/
def enterKeys : List Nat := [Key.frameCount, Key.almanacState, Key.commitState, Key.holdState] ++ clockKeys

/-- Frame `b` has begun. -/
structure Entered (b : Nat) (c d : Core) : Prop where
  almState : almState d = 4
  frameCount : obj d Key.frameCount = b
  holdState : obj d Key.holdState = b2n (c.alm.hold.notices.any fun n => decide (b < n))
  alm : d.alm = { c.alm with decided := false, voted := false, starts := []
                             hold := { c.alm.hold with heldAt := none, resume := none, timedOut := false } }
  counts : d.ev.counts = c.ev.counts
  scale : d.scale = c.scale
  dfw : ∀ g, (stn d g).dfw = (stn c g).dfw
  objs : ∀ k, k ∉ enterKeys → obj d k = obj c k
  out : ∃ l, d.host.out = c.host.out ++ l ++ (upPorts c).map (fun p => OutMsg.notice p (.marker b false)) ∧ (c.fab.transit = [] → l = [])
  used : c.fab.transit = [] → ∀ p, (portOf d p).used = []

/-- The core as frame `b` begins, before the slot grid. -/
def frameOpened (c : Core) (b : Nat) : Core :=
  let d := commitHeld (setAlm (setObj c Key.frameCount b) 4) 2 1
  modAlm { d with ev := { d.ev with interval := [] } } fun a =>
    { a with decided := false, voted := false, starts := [], hold := { a.hold with heldAt := none, resume := none, timedOut := false } }

theorem enterFrame_eq (b : Nat) : enterFrame c b =
    let d := takeQueued (newCycle (recentre (holdDecided (newGrid (frameOpened c b)))) b) b
    floodOn d (upPorts d) (.marker b false) := rfl

theorem frameOpened_parts (b : Nat) : frameOpened c b =
    { c with dict := (frameOpened c b).dict, alm := (frameOpened c b).alm, ev := { c.ev with interval := [] } } := by
  unfold frameOpened
  rw [commitHeld_parts]
  rfl

theorem obj_frameOpened (b : Nat) {k : Nat} (h1 : k ≠ Key.commitState) :
    obj (frameOpened c b) k = if k = Key.almanacState then 4 else if k = Key.frameCount then b else obj c k := by
  refine (obj_commitHeld (setAlm (setObj c Key.frameCount b) 4) 2 1 h1).trans ?_
  split
  · next h => rw [h]; exact obj_setObj _ _ _
  · next h =>
    refine (obj_setObj_ne (setObj c Key.frameCount b) 4 h).trans ?_
    split
    · next h' => rw [h']; exact obj_setObj _ _ _
    · next h' => exact obj_setObj_ne c b h'

theorem alm_frameOpened (b : Nat) : (frameOpened c b).alm =
    { c.alm with decided := false, voted := false, starts := []
                 hold := { c.alm.hold with heldAt := none, resume := none, timedOut := false } } := by
  unfold frameOpened
  rw [commitHeld_parts]
  rfl

/-- What follows the slot grid at the start of a frame: generators, the numbering of the array's work, a queued operating point. -/
theorem reached_frameClocks (b : Nat) :
    let d := takeQueued (newCycle (recentre c) b) b
    d.alm = c.alm ∧ d.ev = c.ev ∧ d.scale = c.scale ∧ d.fab = c.fab ∧ d.host = c.host ∧ (∀ g, (stn d g).dfw = (stn c g).dfw)
      ∧ ∀ k, k ∉ clockKeys → obj d k = obj c k := by
  have h1 := clocked_recentre c
  generalize recentre c = d at *
  obtain ⟨h2, h2d⟩ := newCycle_spec d b
  generalize newCycle d b = e at *
  have h3 := clocked_takeQueued e b
  generalize takeQueued e b = f at *
  refine ⟨?_, ?_, ?_, ?_, ?_, fun g => ?_, fun k hk => ?_⟩
  · rw [h3.alm, h2, h1.alm]
  · rw [h3.ev, h2, h1.ev]
  · rw [h3.scale, h2, h1.scale]
  · rw [h3.fab, h2, h1.fab]
  · rw [h3.host, h2, h1.host]
  · rw [h3.stn, h2d, h1.stn]
  · rw [h3.objs k hk, ← h1.objs k hk, h2]; rfl

theorem holdDecided_eq : holdDecided c =
    setObj c Key.holdState (b2n (c.alm.hold.notices.any fun n => decide (obj c Key.frameCount < n))) := rfl

theorem entered_enterFrame (b : Nat) : Entered b c (enterFrame c b) := by
  rw [enterFrame_eq]
  have hp := frameOpened_parts c b
  have ho {k : Nat} := obj_frameOpened c b (k := k)
  have ha := alm_frameOpened c b
  generalize frameOpened c b = d at *
  have hg := gridded_newGrid d
  generalize newGrid d = e at *
  have hfab : d.fab = c.fab := (congrArg Core.fab hp :)
  have hev : e.ev = { c.ev with interval := [] } := (congrArg Core.ev hg.parts :).trans (congrArg Core.ev hp :)
  have hsc : e.scale = c.scale := (congrArg Core.scale hg.parts :).trans (congrArg Core.scale hp :)
  have hst : e.st = c.st := (congrArg Core.st hg.parts :).trans (congrArg Core.st hp :)
  have hhost : d.host = c.host := (congrArg Core.host hp :)
  have hfc : obj e Key.frameCount = b := (hg.obj _).trans (ho (by decide))
  have hnt : e.alm.hold.notices = c.alm.hold.notices := by rw [hg.alm, ha]
  have hde := holdDecided_eq e
  rw [hfc, hnt] at hde
  rw [hde]
  obtain ⟨q1, q2, q3, q4, q5, q6, q7⟩ := reached_frameClocks (setObj e Key.holdState (b2n (c.alm.hold.notices.any fun n => decide (b < n)))) b
  generalize takeQueued (newCycle (recentre (setObj e Key.holdState (b2n (c.alm.hold.notices.any fun n => decide (b < n))))) b) b = f at *
  have hobj {k : Nat} (h1 : k ∉ clockKeys) (h2 : k ≠ Key.holdState) : obj f k = obj d k :=
    (q7 k h1).trans ((obj_setObj_ne e _ h2).trans (hg.obj k))
  have hkeep (k : Nat) (hk : k ∉ enterKeys) : obj f k = obj c k := by
    obtain ⟨h1, h2⟩ := not_or.1 (mt List.mem_append.2 hk)
    simp only [List.mem_cons, List.not_mem_nil, or_false, not_or] at h1
    obtain ⟨n1, n2, n3, n4⟩ := h1
    rw [hobj h2 n4, ho n3, if_neg n2, if_neg n1]
  have hports (p : Nat) : ∃ u, portOf f p = { portOf c p with used := u } := by
    obtain ⟨u, hu⟩ := hg.ports p
    have h1 : portOf f p = portOf e p := by rw [portOf, q4]; rfl
    have h2 : portOf d p = portOf c p := by rw [portOf, hfab, portOf]
    exact ⟨u, by rw [h1, hu, h2]⟩
  have hup : upPorts f = upPorts c := by
    refine upPorts_congr (fun k hk => hkeep k ?_) fun p => ?_
    · rw [List.mem_cons, List.mem_singleton] at hk
      rcases hk with rfl | rfl <;> decide
    · obtain ⟨u, hu⟩ := hports p
      rw [hu]
  have hdict (k : Nat) : obj (floodOn f (upPorts f) (.marker b false)) k = obj f k := by rw [obj, floodOn_dict, obj]
  have hq := quiet_floodOn f (upPorts f) (.marker b false)
  exact {
    almState := (hdict _).trans ((hobj (by decide) (by decide)).trans (ho (by decide)))
    frameCount := (hdict _).trans ((hobj (by decide) (by decide)).trans (ho (by decide)))
    holdState := (hdict _).trans ((q7 _ (by decide)).trans (obj_setObj e _ _))
    alm := (floodOn_alm f _ _).trans (q1.trans (hg.alm.trans ha))
    counts := by rw [hq.ev, q2, setObj_ev, hev]
    scale := by rw [hq.scale, q3, setObj_scale, hsc]
    dfw := fun g => by rw [hq.stn, q6, stn, setObj_st, hst, stn]
    objs := fun k hk => (hdict k).trans (hkeep k hk)
    out := by
      obtain ⟨l, hl, hn⟩ := hg.out
      refine ⟨l, ?_, fun ht => hn (by rw [hfab, ht])⟩
      rw [floodOn_out, hup, q5, setObj_host, hl, hhost]
    used := fun ht p => by
      have h1 : portOf (floodOn f (upPorts f) (.marker b false)) p = portOf e p := by rw [portOf, hq.ports, q4]; rfl
      rw [h1]
      exact hg.used (by rw [hfab, ht]) p }

end

end Sys2Proof.Machine

namespace Sys2Proof.Machine

/-! ## Holds (R310 to R312) -/

section
variable (c : Core)

theorem gateMet_congr {c d : Core} {f : Nat} (h : syncU d f = syncU c f) (s : Nat) : gateMet d f s = gateMet c f s := by
  rw [gateMet, h, gateMet]

theorem gatesMet_congr {c d : Core} (ht : curTemplate d = curTemplate c) (hu : ∀ f, syncU d f = syncU c f) : gatesMet d = gatesMet c := by
  simp only [gatesMet, ht, gateMet_congr (hu _)]

theorem closingMet_congr {c d : Core} (ht : curTemplate d = curTemplate c) (hu : ∀ f, syncU d f = syncU c f)
    (hs : d.alm.segs = c.alm.segs) (b : Nat) : closingMet d b = closingMet c b := by
  rw [closingMet, gatesMet_congr ht hu, hs, closingMet]

theorem ready_resumeCheck : (resumeCheck c).alm.hold.ready = c.alm.hold.ready := by
  unfold resumeCheck
  split
  · rfl
  · split
    · rw [floodOn_alm]; rfl
    · rfl

theorem readyCheck_unmet {b : Nat} (h : c.alm.hold.heldAt = some b) (hm : closingMet c b = false) : readyCheck c = c := by
  simp [readyCheck, h, hm]

/-- A held module whose closing conditions hold has reported READY (R312). -/
theorem ready_readyCheck {b : Nat} (h : c.alm.hold.heldAt = some b) (hm : closingMet c b = true) :
    (ownMod c, b) ∈ (readyCheck c).alm.hold.ready := by
  unfold readyCheck
  simp only [h, hm, Bool.not_true, Bool.or_false]
  split
  · next hc => simpa using hc
  · rw [ready_resumeCheck, floodOn_alm]
    simp [modHold]

/-- The objects that a hold sets. -/
def holdKeys : List Nat := [Key.almanacState, Key.holdState, Key.holds, Key.commitState]

/-- A module held at boundary `b`, as `c` was before. -/
structure HeldAt (b : Nat) (c d : Core) : Prop where
  almState : almState d = 5
  heldAt : d.alm.hold.heldAt = some b
  holds : obj d Key.holds = min (obj c Key.holds + 1) (objMax Key.holds)
  objs : ∀ k, k ∉ holdKeys → k ∉ bookkeepingKeys → obj d k = obj c k
  commit : ((curTemplate c).bind fun t => t.vote).isSome = true → obj c Key.commitState = 1 → obj d Key.commitState = 2
  ev : d.ev = c.ev
  scale : d.scale = c.scale
  stns : ∀ g, stn d g = stn c g
  voted : d.alm.voted = c.alm.voted
  sent : ∀ p ∈ upPorts c, OutMsg.notice p (.marker b true) ∈ d.host.out
  unmet : closingMet c b = false → obj d Key.holdState = 2 ∧ d.alm.hold.ready = c.alm.hold.ready
  met : closingMet c b = true → (ownMod c, b) ∈ d.alm.hold.ready

/-- The core as a hold begins, before the markers leave. -/
def holdOpened (c : Core) (b : Nat) : Core :=
  let d := addObj (setObj (setAlm c 5) Key.holdState 2) Key.holds 1
  let e := if ((curTemplate d).bind fun t => t.vote).isSome then commitHeld d 1 2 else d
  modHold e fun h => { h with heldAt := some b, since := obj e Key.uptimeTicks, resume := none, timedOut := false }

theorem enterHold_eq (b : Nat) : enterHold c b =
    readyCheck (floodOn (holdOpened c b) (upPorts (holdOpened c b)) (.marker b true)) := rfl

theorem curTemplate_addHold :
    curTemplate (addObj (setObj (setAlm c 5) Key.holdState 2) Key.holds 1) = curTemplate c :=
  curTemplate_congr rfl ((obj_addObj_ne _ 1 (by decide)).trans ((obj_setObj_ne _ 2 (by decide)).trans (obj_setObj_ne c 5 (by decide))))

/-- What the opening of a hold sets. -/
theorem holdOpened_spec (b : Nat) :
    let d := holdOpened c b
    (∃ n, d = { c with dict := d.dict, alm := { c.alm with hold := { c.alm.hold with heldAt := some b, since := n, resume := none,
                                                                                     timedOut := false } } })
      ∧ almState d = 5 ∧ obj d Key.holdState = 2 ∧ obj d Key.holds = min (obj c Key.holds + 1) (objMax Key.holds)
      ∧ (∀ k, k ∉ holdKeys → obj d k = obj c k)
      ∧ (((curTemplate c).bind fun t => t.vote).isSome = true → obj c Key.commitState = 1 → obj d Key.commitState = 2) := by
  unfold holdOpened
  extract_lets d e f
  obtain ⟨n, hf⟩ : ∃ n, f = modHold e fun h => { h with heldAt := some b, since := n, resume := none, timedOut := false } := ⟨_, rfl⟩
  have ht : curTemplate d = curTemplate c := curTemplate_addHold c
  have hdo {k : Nat} (h1 : k ≠ Key.almanacState) (h2 : k ≠ Key.holdState) (h3 : k ≠ Key.holds) : obj d k = obj c k :=
    (obj_addObj_ne _ 1 h3).trans ((obj_setObj_ne _ 2 h2).trans (obj_setObj_ne c 5 h1))
  have hds : obj d Key.holdState = 2 := (obj_addObj_ne _ 1 (by decide)).trans (obj_setObj _ _ 2)
  have hda : almState d = 5 := (obj_addObj_ne _ 1 (by decide)).trans ((obj_setObj_ne _ 2 (by decide)).trans (obj_setObj c _ 5))
  have hdh : obj d Key.holds = min (obj c Key.holds + 1) (objMax Key.holds) := by
    have : obj (setObj (setAlm c 5) Key.holdState 2) Key.holds = obj c Key.holds :=
      (obj_setObj_ne _ 2 (by decide)).trans (obj_setObj_ne c 5 (by decide))
    rw [← this]
    exact obj_setObj _ _ _
  have hdp : d = { c with dict := d.dict } := rfl
  have hep : e = { d with dict := e.dict } := by
    unfold e; split
    · exact commitHeld_parts d 1 2
    · rfl
  have heo {k : Nat} (h : k ≠ Key.commitState) : obj e k = obj d k := by
    unfold e; split
    · exact obj_commitHeld d 1 2 h
    · rfl
  have hec : ((curTemplate c).bind fun t => t.vote).isSome = true → obj c Key.commitState = 1 → obj e Key.commitState = 2 := by
    intro hv hc
    have : e = commitHeld d 1 2 := if_pos (by rw [ht, hv])
    rw [this, commitHeld, if_pos ((hdo (by decide) (by decide) (by decide)).trans hc)]
    exact obj_setObj d _ 2
  have hfo (k : Nat) : obj f k = obj e k := by rw [hf]; rfl
  clear_value d e f
  refine ⟨⟨n, by rw [hf, hep, hdp]; rfl⟩, (hfo _).trans ((heo (by decide)).trans hda), (hfo _).trans ((heo (by decide)).trans hds),
    (hfo _).trans ((heo (by decide)).trans hdh),
    fun k hk => ?_, fun h1 h2 => (hfo _).trans (hec h1 h2)⟩
  simp only [holdKeys, List.mem_cons, List.not_mem_nil, or_false, not_or] at hk
  obtain ⟨h1, h2, h3, h4⟩ := hk
  exact (hfo k).trans ((heo h4).trans (hdo h1 h2 h3))

theorem heldAt_enterHold (b : Nat) : HeldAt b c (enterHold c b) := by
  rw [enterHold_eq]
  obtain ⟨⟨n, hp⟩, ha, hs, hh, ho, hc⟩ := holdOpened_spec c b
  generalize holdOpened c b = d at *
  have halm : d.alm = { c.alm with hold := { c.alm.hold with heldAt := some b, since := n, resume := none, timedOut := false } } :=
    (congrArg Core.alm hp :)
  have hup : upPorts d = upPorts c := by
    refine upPorts_congr (fun k hk => ho k ?_) fun p => ?_
    · rw [List.mem_cons, List.mem_singleton] at hk
      rcases hk with rfl | rfl <;> decide
    · have : portOf d p = portOf c p := by rw [hp]; rfl
      rw [this]
  rw [hup]
  have hf := quiet_floodOn d (upPorts c) (.marker b true)
  have hsent := floodOn_sent d (upPorts c) (.marker b true)
  have hfa := floodOn_alm d (upPorts c) (.marker b true)
  have hfd := floodOn_dict d (upPorts c) (.marker b true)
  have hffl : (floodOn d (upPorts c) (.marker b true)).fl = c.fl := by rw [floodOn_parts, hp]; rfl
  generalize floodOn d (upPorts c) (.marker b true) = e at *
  have heo (k : Nat) : obj e k = obj d k := by rw [obj, hfd, obj]
  have hheld : e.alm.hold.heldAt = some b := by rw [hfa, halm]
  have hcl : closingMet e b = closingMet c b :=
    closingMet_congr (curTemplate_congr (by rw [hfa, halm]) ((heo _).trans (ho _ (by decide)))) (fun f => by rw [syncU, fld, hffl, syncU, fld])
      (by rw [hfa, halm]) b
  have hown : ownMod e = ownMod c := (heo _).trans (ho _ (by decide))
  have hr := quiet_readyCheck e
  have hv : e.alm.voted = c.alm.voted := by rw [hfa, halm]
  have hready : e.alm.hold.ready = c.alm.hold.ready := by rw [hfa, halm]
  exact {
    almState := (hr.objs _ (by decide)).trans ((heo _).trans ha)
    heldAt := hr.heldAt.trans hheld
    holds := (hr.objs _ (by decide)).trans ((heo _).trans hh)
    objs := fun k h1 h2 => (hr.objs k h2).trans ((heo k).trans (ho k h1))
    commit := fun h1 h2 => (hr.objs _ (by decide)).trans ((heo _).trans (hc h1 h2))
    ev := by rw [hr.ev, hf.ev, hp]
    scale := by rw [hr.scale, hf.scale, hp]
    stns := fun g => by rw [hr.stn, hf.stn, hp]; rfl
    voted := (congrArg Almanac.voted hr.alm :).trans hv
    sent := hr.sent hsent
    unmet := fun h => by
      rw [readyCheck_unmet e hheld (hcl.trans h)]
      exact ⟨(heo _).trans hs, hready⟩
    met := fun h => by
      rw [← hown]
      exact ready_readyCheck e hheld (hcl.trans h) }

end

end Sys2Proof.Machine

namespace Sys2Proof.Machine

/-! ## FRAME_OVERRUN, and what follows a boundary (R310, R370) -/

section
variable (c : Core)

theorem Noted.jobPorts {c d : Core} (h : Noted c d) : jobPorts d = jobPorts c := by
  refine jobPorts_congr (fun k hk => h.objs k ?_) h.image fun p => ⟨(portOf c p).used, by rw [portOf, h.ports, portOf]⟩
  rw [List.mem_cons, List.mem_singleton] at hk
  rcases hk with rfl | rfl <;> decide

/-- FRAME_OVERRUN raised, with the notice of boundary `b`. -/
structure Overrun (b : Nat) (c d : Core) : Prop where
  counts : d.ev.counts = tset c.ev.counts 0x0608 (min (tgetD c.ev.counts 0x0608 0 + 1) (2 ^ 32 - 1))
  alm : d.alm = { c.alm with hold := { c.alm.hold with notices := d.alm.hold.notices } }
  noticed : b ∈ d.alm.hold.notices
  notices : ∀ n ∈ c.alm.hold.notices, n ∈ d.alm.hold.notices
  objs : ∀ k, k ∉ bookkeepingKeys → obj d k = obj c k
  out : c.host.out <+: d.host.out
  sent : b ∉ c.alm.hold.notices → ∀ p ∈ jobPorts c, OutMsg.notice p (.hold b) ∈ d.host.out
  scale : d.scale = c.scale
  stns : ∀ g, stn d g = stn c g
  syncU : ∀ f, syncU d f = syncU c f

theorem overrun_overrun (at' b : Nat) : Overrun b c (overrun c at' b) := by
  unfold overrun
  extract_lets d
  have hn : Noted c d := noted_raise c _ _ _ _ _
  have ha : d.alm = c.alm := raise_alm c _ _ _ _ nofun
  have hc : d.ev.counts = tset c.ev.counts 0x0608 (min (tgetD c.ev.counts 0x0608 0 + 1) (2 ^ 32 - 1)) := raise_counts c _ _ _ _ _
  have hfl : d.fl = c.fl := raise_fl c _ _ _ _ _
  clear_value d
  split
  · next h =>
    have hb : b ∈ c.alm.hold.notices := by rw [ha] at h; simpa using h
    exact ⟨hc, by rw [ha], by rw [ha]; exact hb, fun n h => by rwa [ha], hn.objs, hn.out, fun h => absurd hb h, hn.scale, hn.stn,
      fun f => by rw [Machine.syncU, fld, hfl, Machine.syncU, fld]⟩
  · have hj : jobPorts d = jobPorts c := hn.jobPorts
    rw [hj]
    have hq := quiet_floodOn (modHold d fun h => { h with notices := h.notices ++ [b] }) (jobPorts c) (.hold b)
    have hs := floodOn_sent (modHold d fun h => { h with notices := h.notices ++ [b] }) (jobPorts c) (.hold b)
    have hfa := floodOn_alm (modHold d fun h => { h with notices := h.notices ++ [b] }) (jobPorts c) (.hold b)
    have hff : (floodOn (modHold d fun h => { h with notices := h.notices ++ [b] }) (jobPorts c) (.hold b)).fl = d.fl := by
      rw [floodOn_parts]; rfl
    generalize floodOn (modHold d fun h => { h with notices := h.notices ++ [b] }) (jobPorts c) (.hold b) = e at *
    have hea : e.alm = { c.alm with hold := { c.alm.hold with notices := c.alm.hold.notices ++ [b] } } := by rw [hfa, modHold, ha]
    rw [holdDecided_eq]
    generalize b2n (e.alm.hold.notices.any fun n => decide (obj e Key.frameCount < n)) = v
    exact {
      counts := by rw [setObj_ev, hq.ev]; exact hc
      alm := by rw [setObj_alm, hea]
      noticed := by rw [setObj_alm, hea]; simp
      notices := fun n h => by rw [setObj_alm, hea]; exact List.mem_append_left _ h
      objs := fun k hk => (obj_setObj_ne e v (by rintro rfl; exact hk (by decide))).trans ((hq.objs k hk).trans (hn.objs k hk))
      out := hn.out.trans hq.out
      sent := fun _ => hs
      scale := by rw [setObj_scale, hq.scale]; exact hn.scale
      stns := fun g => (hq.stn g).trans (hn.stn g)
      syncU := fun f => by rw [Machine.syncU, fld, setObj_fl, hff, hfl, Machine.syncU, fld] }

end

end Sys2Proof.Machine

namespace Sys2Proof.Machine

/-! ## Frames follow each other (O58) -/

section
variable {s : State} {b : Nat}

theorem driftCheck_of_ref {c : Core} (h : obj c Key.refActive ≠ 3) : driftCheck c = c := if_pos (.inl h)

/-- The boundary of a frame, where it leaves the reference as it was: the phase of HOLDOVER is not judged. -/
theorem frameBoundary_nextWith (h : Goals.inFrame s b) {d : Core} {m : Memory} (hb : boundary s.mem s.core = (d, m))
    (hr : obj d Key.refActive = obj s.core Key.refActive) {P : State → Prop} (hP : P { s with mem := m, core := d }) :
    NextWith (exec .frameBoundary s) P := by
  obtain ⟨hrun, ha, -, href, -⟩ := h
  have he : exec .frameBoundary s = execFrameBoundary s := rfl
  refine ⟨_, ?_, hP⟩
  rw [he, execFrameBoundary, onBoth_powered _ (runs_powered hrun), if_pos ha, hb]
  dsimp only
  rw [driftCheck_of_ref (by rwa [hr])]

/-- The end of the frame as the boundary finds it. -/
theorem template_atEnd (c : Core) (b : Nat) : curTemplate (atEnd c b) = curTemplate c :=
  have h := reached_atEnd c b
  curTemplate_congr (by rw [h.alm]) (h.objs _ (by decide))

theorem boundary_no_vote (m : Memory) {c : Core} (h : ((curTemplate c).bind fun x => x.vote).isSome = false) :
    boundary m c = (passBoundary (atEnd c (obj c Key.frameCount + 1)) (obj c Key.frameCount + 1) 0, m) := by
  have ht := template_atEnd c (obj c Key.frameCount + 1)
  rw [atEnd] at ht
  rw [boundary, ht, h]
  rfl

/-- The causes to stop that a boundary without a vote knows (R370, R372). -/
theorem stopCause_zero (c : Core) (b : Nat) : stopCause c b 0 =
    if c.alm.fault.isSome then 4 else if c.alm.mismatch then 5 else if (c.alm.stopAt.any fun v => decide (v ≤ b)) then 1 else 0 := by
  unfold stopCause
  cases c.alm.stopAt <;> simp

theorem stopCause_none {c : Core} (h1 : c.alm.fault = none) (h2 : c.alm.mismatch = false) (h3 : ∀ v, c.alm.stopAt = some v → b < v) :
    stopCause c b 0 = 0 := by
  rw [stopCause_zero, h1, h2]
  cases hs : c.alm.stopAt with
  | none => rfl
  | some v => simp [h3 v hs]

theorem passBoundary_stop {c : Core} {o k : Nat} (h : stopCause c b o = k) (hk : k ≠ 0) : passBoundary c b o = almanacStop c k := by
  rw [passBoundary, h, if_pos hk]

theorem passBoundary_hold {c : Core} {o : Nat} (h : stopCause c b o = 0) (hb : b ∈ c.alm.hold.notices) : passBoundary c b o = enterHold c b := by
  simp [passBoundary, h, hb]

theorem passBoundary_overrun {c : Core} {o : Nat} (h : stopCause c b o = 0) (hb : b ∉ c.alm.hold.notices) (ho : owing c b = true) :
    passBoundary c b o = enterFrame (overrun c b (b + 1)) b := by
  simp [passBoundary, h, hb, ho]

theorem passBoundary_frame {c : Core} {o : Nat} (h : stopCause c b o = 0) (hb : b ∉ c.alm.hold.notices) (ho : owing c b = false) :
    passBoundary c b o = enterFrame c b := by
  simp [passBoundary, h, hb, ho]

end

theorem framesFollowEachOther : Goals.FramesFollowEachOther := by
  intro s b hin hv hno seen
  obtain ⟨hrun, ha, hb, href, hh⟩ := id hin
  obtain ⟨hf, hm, hs⟩ := hno
  have hre := reached_atEnd s.core b
  have hbd := boundary_no_vote s.mem (c := s.core) (by simpa using hv)
  rw [← hb] at hbd
  have hdom (t : Core) (hd : obj t Key.domainTick = obj (atEnd s.core b) Key.domainTick) : Goals.atBoundary s { s with core := t } b :=
    fun h1 h2 => hd.trans (domainTick_atEnd s.core hh h1 h2)
  have hup : upPorts (atEnd s.core b) = upPorts s.core := hre.upPorts
  have hjob : jobPorts (atEnd s.core b) = jobPorts s.core := hre.jobPorts
  have hcl : closingMet (atEnd s.core b) b = closingMet s.core b :=
    closingMet_congr (template_atEnd s.core b) hre.syncU (by rw [hre.alm]) b
  have hstop : stopCause (atEnd s.core b) b 0 = 0 := stopCause_none (by rw [hre.alm, hf]) (by rw [hre.alm, hm]) (by rw [hre.alm]; exact hs)
  generalize atEnd s.core b = c at *
  refine ⟨fun hseen howe => ?_, fun hseen hq => ?_, fun hseen => ?_⟩
  · have how : owing c b = false := by rw [owing, hre.alm]; simpa using howe
    rw [passBoundary_frame hstop (by rwa [hre.alm]) how] at hbd
    have hE := entered_enterFrame c b
    generalize enterFrame c b = d at *
    refine frameBoundary_nextWith hin hbd ((hE.objs _ (by decide)).trans (hre.objs _ (by decide)))
      ⟨hE.almState, hE.frameCount, ?_, hdom d (hE.objs _ (by decide)), rfl, ?_, ?_, ?_, ?_, ?_⟩
    · rw [hE.alm]
    · rw [hE.counts, hre.ev]
    · rw [hE.alm, hre.alm]
    · rw [hE.alm]
    · exact fun p ht => hE.used (by rw [hre.fab, ht]) p
    · obtain ⟨l, hl, hn⟩ := hE.out
      exact ⟨l, by rw [hl, hre.host, hup], fun ht => hn (by rw [hre.fab, ht])⟩
  · have how : owing c b = true := by rw [owing, hre.alm]; simpa using hq
    rw [passBoundary_overrun hstop (by rwa [hre.alm]) how] at hbd
    have hO := overrun_overrun c b (b + 1)
    have hE := entered_enterFrame (overrun c b (b + 1)) b
    generalize overrun c b (b + 1) = e at *
    generalize enterFrame e b = d at *
    have hnotices : d.alm.hold.notices = e.alm.hold.notices := by rw [hE.alm]
    refine frameBoundary_nextWith hin hbd ((hE.objs _ (by decide)).trans ((hO.objs _ (by decide)).trans (hre.objs _ (by decide))))
      ⟨hE.almState, hE.frameCount, ?_, ?_, ?_, fun hnew p hp => ?_, rfl⟩
    · have : tgetD d.ev.counts 0x0608 0 = min (tgetD s.core.ev.counts 0x0608 0 + 1) (2 ^ 32 - 1) := by
        rw [hE.counts, hO.counts, tgetD_tset_self, hre.ev]
      exact this
    · rw [hnotices]
      exact hO.noticed
    · have : (e.alm.hold.notices.any fun n => decide (b < n)) = true :=
        List.any_eq_true.2 ⟨b + 1, hO.noticed, decide_eq_true (Nat.lt_add_one b)⟩
      rw [hE.holdState, this]; rfl
    · obtain ⟨l, hl, -⟩ := hE.out
      rw [hl, List.append_assoc]
      exact List.mem_append_left _ (hO.sent (by rw [hre.alm]; exact hnew) p (hjob ▸ hp))
  · rw [passBoundary_hold hstop (by rwa [hre.alm])] at hbd
    have hH := heldAt_enterHold c b
    generalize enterHold c b = d at *
    refine frameBoundary_nextWith hin hbd ((hH.objs _ (by decide) (by decide)).trans (hre.objs _ (by decide)))
      ⟨hH.almState, hH.heldAt, ?_, ?_, hdom d (hH.objs _ (by decide) (by decide)), rfl, ?_, fun h => ?_, fun h => ?_⟩
    · exact (hH.objs _ (by decide) (by decide)).trans (hre.objs _ (by decide))
    · rw [hH.holds, hre.objs _ (by decide)]
    · rw [← hup]
      exact hH.sent
    · obtain ⟨h1, h2⟩ := hH.unmet (hcl.trans h)
      exact ⟨h1, by rw [h2, hre.alm]⟩
    · have := hH.met (hcl.trans h)
      rwa [ownMod, hre.objs _ (by decide)] at this

end Sys2Proof.Machine

namespace Sys2Proof.Machine

/-! ## The vote's outcome, and the causes to stop (O58) -/

section
variable (c : Core)

/-! ### COMMIT -/

/-- The objects a COMMIT sets. -/
def commitKeys : List Nat := [Key.commits, Key.stepNumber, Key.consecAborts, Key.applyDoneStep]

/-- What a COMMIT leaves (R164). -/
structure Committed (c d : Core) : Prop where
  scale : d.scale = tmap updateScale c.scale
  commits : obj d Key.commits = min (obj c Key.commits + 1) (objMax Key.commits)
  stepNumber : obj d Key.stepNumber = (obj c Key.stepNumber + 1) % 2 ^ 32
  consecAborts : obj d Key.consecAborts = 0
  objs : ∀ k, k ∉ commitKeys → k ∉ bookkeepingKeys → obj d k = obj c k
  entries : ∀ g, (stn d g).dfw.entries = (stn c g).dfw.entries
  mismatch : d.alm.mismatch = c.alm.mismatch
  unsignalled : (∀ im, c.alm.image = some im → ∀ x ∈ im.sems, x.commit = false) → d.alm.fault = c.alm.fault ∧ d.ev = c.ev

/-- The core as a COMMIT leaves it, before the step-commit signal. -/
def stepCommitted (c : Core) : Core :=
  let step := obj c Key.stepNumber
  let d := updateSlots { c with scale := tmap updateScale c.scale } true
  let d := { d with scaleAt := d.scale, st := tmap clearDfw d.st }
  let d := setObj (addObj d Key.commits 1) Key.stepNumber ((step + 1) % 2 ^ 32)
  let d := setObj d Key.consecAborts 0
  let d := newExecution (modAlm d fun a => { a with cycleCommitted := true, applied := 0 })
  if heldBlocks d = 0 then setObj d Key.applyDoneStep step else d

theorem commitStep_eq : commitStep c = match (stepCommitted c).alm.image.bind fun im => im.sems.find? fun x => x.commit with
    | some x => (applyOp (stepCommitted c) x.field
        { issuer := mgmt, kind := .add, sem := x.num, n := 1, cookie := 0, slot := 0, back := .unit }).1
    | none => stepCommitted c := rfl

theorem committed_stepCommitted : Committed c (stepCommitted c) ∧ (stepCommitted c).alm.image = c.alm.image := by
  unfold stepCommitted
  extract_lets step d1 d2 d3 d4 d5
  have h1 : d1 = { c with scale := tmap updateScale c.scale, slots := d1.slots } := updateSlots_parts _ true
  have ho1 (k : Nat) : obj d2 k = obj c k := by rw [show obj d2 k = obj d1 k from rfl, h1]; rfl
  have hcm : obj d5 Key.commits = min (obj d2 Key.commits + 1) (objMax Key.commits) :=
    (obj_setObj_ne _ 0 (by decide)).trans ((obj_setObj_ne _ _ (by decide)).trans (obj_setObj d2 _ _))
  have hsn : obj d5 Key.stepNumber = (step + 1) % 2 ^ 32 := (obj_setObj_ne _ 0 (by decide)).trans (obj_setObj _ _ _)
  have hca : obj d5 Key.consecAborts = 0 := obj_setObj _ _ 0
  have ho5 {k : Nat} (hk : k ∉ commitKeys) : obj d5 k = obj d2 k := by
    simp only [commitKeys, List.mem_cons, List.not_mem_nil, or_false, not_or] at hk
    obtain ⟨n1, n2, n3, -⟩ := hk
    exact (obj_setObj_ne _ 0 n3).trans ((obj_setObj_ne _ _ n2).trans (obj_addObj_ne d2 1 n1))
  have hst (g : Nat) : (stn d5 g).dfw.entries = (stn d1 g).dfw.entries :=
    congrArg (·.dfw.entries) (tgetD_tmap (f := clearDfw) d1.st g (d := Station.reset) rfl)
  have hsc : d5.scale = d1.scale := rfl
  have hev : d5.ev = d1.ev := rfl
  have hal : d5.alm.mismatch = d1.alm.mismatch ∧ d5.alm.fault = d1.alm.fault ∧ d5.alm.image = d1.alm.image := ⟨rfl, rfl, rfl⟩
  clear_value d1 d2 d5
  obtain ⟨hmm, hft, him⟩ := hal
  have key (e : Core) (he : e = { d5 with dict := e.dict }) (hk : ∀ k, k ≠ Key.applyDoneStep → obj e k = obj d5 k) :
      Committed c e ∧ e.alm.image = c.alm.image := by
    have hea : e.alm = d5.alm := (congrArg Core.alm he :)
    have hes : e.st = d5.st := (congrArg Core.st he :)
    refine ⟨{
      scale := ?_, commits := ?_, stepNumber := ?_, consecAborts := ?_, objs := fun k h1 h2 => ?_, entries := fun g => ?_, mismatch := ?_,
      unsignalled := fun _ => ⟨?_, ?_⟩ }, ?_⟩
    · rw [congrArg Core.scale he, hsc, h1]
    · rw [hk _ (by decide), hcm, ho1]
    · rw [hk _ (by decide), hsn]
    · rw [hk _ (by decide), hca]
    · rw [hk k (by rintro rfl; exact h1 (by decide)), ho5 h1, ho1]
    · rw [stn, hes, ← stn, hst, h1]; rfl
    · rw [hea, hmm, h1]
    · rw [hea, hft, h1]
    · rw [congrArg Core.ev he, hev, h1]
    · rw [hea, him, h1]
  split
  · exact key _ rfl fun k hk => obj_setObj_ne d5 step hk
  · exact key _ rfl fun _ _ => rfl

theorem committed_commitStep : Committed c (commitStep c) := by
  obtain ⟨hc, hi⟩ := committed_stepCommitted c
  rw [commitStep_eq]
  generalize stepCommitted c = d at *
  split
  · next x hx =>
    have hn := noted_applyOp d x.field { issuer := mgmt, kind := .add, sem := x.num, n := 1, cookie := 0, slot := 0, back := .unit }
    generalize (applyOp d x.field { issuer := mgmt, kind := .add, sem := x.num, n := 1, cookie := 0, slot := 0, back := .unit }).1 = e at *
    exact {
      scale := hn.scale.trans hc.scale
      commits := (hn.objs _ (by decide)).trans hc.commits
      stepNumber := (hn.objs _ (by decide)).trans hc.stepNumber
      consecAborts := (hn.objs _ (by decide)).trans hc.consecAborts
      objs := fun k h1 h2 => (hn.objs k h2).trans (hc.objs k h1 h2)
      entries := fun g => by rw [hn.stn]; exact hc.entries g
      mismatch := (congrArg Almanac.mismatch hn.alm :).trans hc.mismatch
      unsignalled := fun h => by
        rw [hi] at hx
        obtain ⟨im, him, hf⟩ := Option.bind_eq_some_iff.1 hx
        have := List.find?_some hf
        rw [h im him x (List.mem_of_find?_eq_some hf)] at this
        cases this }
  · exact hc

/-! ### What every end of a boundary leaves alone -/

theorem counts_tset_ne {c d : Core} {x y n : Nat} (h : d.ev.counts = tset c.ev.counts x n) (hy : y ≠ x) :
    tgetD d.ev.counts y 0 = tgetD c.ev.counts y 0 := by rw [h, tgetD_tset_ne _ _ _ hy]

theorem faultStopped_keeps : (faultStopped c).scale = c.scale ∧ (faultStopped c).st = c.st
    ∧ (∀ k, k ∉ bookkeepingKeys → obj (faultStopped c) k = obj c k)
    ∧ ∀ code, code ≠ 0x0B01 → tgetD (faultStopped c).ev.counts code 0 = tgetD c.ev.counts code 0 := by
  cases h : c.alm.fault with
  | none => rw [faultStopped_none c h]; exact ⟨rfl, rfl, fun _ _ => rfl, fun _ _ => rfl⟩
  | some q =>
    have hf := faultTaken c h
    exact ⟨hf.scale, hf.st, hf.objs, fun code hc => counts_tset_ne hf.counts hc⟩

/-- The objects that change behind a boundary's vote. -/
def passKeys : List Nat := stopKeys ++ enterKeys ++ holdKeys

/-- The event codes that are raised behind a boundary's vote. -/
def passCodes : List Nat := [0x0608, 0x0B01, 0x0B02]

/-- `d` is `c` after what follows a boundary's vote: a stop, a hold or a frame. -/
structure Passed (c d : Core) : Prop where
  objs : ∀ k, k ∉ passKeys → obj d k = obj c k
  scale : d.scale = c.scale
  entries : ∀ g, (stn d g).dfw.entries = if almState d = 6 then [] else (stn c g).dfw.entries
  counts : ∀ code, code ∉ passCodes → tgetD d.ev.counts code 0 = tgetD c.ev.counts code 0

theorem passKeys_not {k : Nat} (h : k ∉ passKeys) : k ∉ stopKeys ∧ k ∉ enterKeys ∧ k ∉ holdKeys ∧ k ∉ bookkeepingKeys := by
  simp only [passKeys, List.mem_append, not_or] at h
  obtain ⟨⟨h1, h2⟩, h3⟩ := h
  exact ⟨h1, h2, h3, fun hb => h1 (List.mem_append_right _ hb)⟩

theorem passed_almanacStop (cause : Nat) : Passed c (almanacStop c cause) := by
  have h := stoppedFrom_almanacStop c cause
  obtain ⟨h1, -, h3, h4⟩ := faultStopped_keeps c
  refine ⟨fun k hk => ?_, h.scale.trans h1, fun g => ?_, fun code hc => ?_⟩
  · obtain ⟨n1, -, -, n4⟩ := passKeys_not hk
    exact (h.objs k n1).trans (h3 k n4)
  · rw [h.almState, if_pos rfl, h.entries]
  · simp only [passCodes, List.mem_cons, List.not_mem_nil, or_false, not_or] at hc
    obtain ⟨-, n2, n3⟩ := hc
    exact (counts_tset_ne h.counts n3).trans (h4 code n2)

theorem passed_enterHold (b : Nat) : Passed c (enterHold c b) := by
  have h := heldAt_enterHold c b
  refine ⟨fun k hk => ?_, h.scale, fun g => ?_, fun code _ => by rw [h.ev]⟩
  · obtain ⟨-, -, n3, n4⟩ := passKeys_not hk
    exact h.objs k n3 n4
  · rw [h.almState, if_neg (by decide), h.stns]

theorem passed_enterFrame (b : Nat) : Passed c (enterFrame c b) := by
  have h := entered_enterFrame c b
  refine ⟨fun k hk => ?_, h.scale, fun g => ?_, fun code _ => by rw [h.counts]⟩
  · obtain ⟨-, n2, -, -⟩ := passKeys_not hk
    exact h.objs k n2
  · rw [h.almState, if_neg (by decide), h.dfw]

theorem passed_passBoundary (b o : Nat) : Passed c (passBoundary c b o) := by
  by_cases hk : stopCause c b o = 0
  · by_cases hb : b ∈ c.alm.hold.notices
    · rw [passBoundary_hold hk hb]; exact passed_enterHold c b
    · cases ho : owing c b with
      | false => rw [passBoundary_frame hk hb ho]; exact passed_enterFrame c b
      | true =>
        rw [passBoundary_overrun hk hb ho]
        have h1 := overrun_overrun c b (b + 1)
        have h2 := passed_enterFrame (overrun c b (b + 1)) b
        generalize overrun c b (b + 1) = d at *
        refine ⟨fun k hn => ?_, h2.scale.trans h1.scale, fun g => ?_, fun code hc => ?_⟩
        · obtain ⟨-, -, -, n4⟩ := passKeys_not hn
          exact (h2.objs k hn).trans (h1.objs k n4)
        · rw [h2.entries, h1.stns]
        · exact (h2.counts code hc).trans (counts_tset_ne h1.counts (by rintro rfl; exact hc (by decide)))
  · rw [passBoundary_stop rfl hk]; exact passed_almanacStop c _

end

end Sys2Proof.Machine

namespace Sys2Proof.Machine

/-! ## Votes decide the step; stops come at boundaries (O58) -/

section
variable {s : State} {b : Nat}

theorem boundary_held (m : Memory) {c : Core} (hv : ((curTemplate c).bind fun x => x.vote).isSome = true) (hb : b = obj c Key.frameCount + 1)
    (ho : voteOutcome (atEnd c b) b false = none) :
    boundary m c = (enterHold (modAlm (atEnd c b) fun a => { a with voted := true }) b, m) := by
  subst hb
  have ht := template_atEnd c (obj c Key.frameCount + 1)
  rw [atEnd] at ht ho
  rw [boundary, ht, hv]
  simp only [ho, if_true]
  rfl

theorem boundary_acted (m : Memory) {c : Core} (hv : ((curTemplate c).bind fun x => x.vote).isSome = true) (hb : b = obj c Key.frameCount + 1)
    {o : Nat} (ho : voteOutcome (atEnd c b) b false = some o) :
    boundary m c = (passBoundary (actOutcome (outcomeMem m (atEnd c b) o).1 o) b o, (outcomeMem m (atEnd c b) o).2) := by
  subst hb
  have ht := template_atEnd c (obj c Key.frameCount + 1)
  rw [atEnd] at ht ho
  rw [boundary, ht, hv]
  simp only [ho, if_true]
  rfl

/-! ### What an outcome does -/

/-- The core in which the module acts on an outcome, recorded. -/
def outcomeNoted (c : Core) (o : Nat) : Core := setObj (setObj c Key.lastVoteStep (obj c Key.stepNumber)) Key.lastOutcome o

theorem actOutcome_commit (c : Core) : actOutcome c 1 = commitStep (outcomeNoted c 1) := rfl

theorem actOutcome_abort (c : Core) : actOutcome c 2 =
    addObj (abortStep (outcomeNoted c 2) (obj (outcomeNoted c 2) Key.voteReason)) Key.consecAborts 1 := rfl

theorem actOutcome_undecided (c : Core) : actOutcome c 3 =
    setObj (raise (outcomeNoted c 3) 0x0809 .report mgmt 0 [obj c Key.stepNumber]) Key.commitState 3 := rfl

theorem obj_outcomeNoted (c : Core) (o : Nat) {k : Nat} (h1 : k ≠ Key.lastVoteStep) (h2 : k ≠ Key.lastOutcome) :
    obj (outcomeNoted c o) k = obj c k := (obj_setObj_ne _ o h2).trans (obj_setObj_ne c _ h1)

theorem lastVoteStep_outcomeNoted (c : Core) (o : Nat) : obj (outcomeNoted c o) Key.lastVoteStep = obj c Key.stepNumber :=
  (obj_setObj_ne _ o (by decide)).trans (obj_setObj c _ _)

theorem lastOutcome_outcomeNoted (c : Core) (o : Nat) : obj (outcomeNoted c o) Key.lastOutcome = o := obj_setObj _ _ o

theorem idleBuffers_atEnd (c : Core) (b : Nat) : idleBuffers (atEnd c b) = idleBuffers c := by
  have h := reached_atEnd c b
  rw [idleBuffers, h.alm, h.objs _ (by decide), idleBuffers]

theorem outsideIdle_refl {m : Memory} (h : m = s.mem) {d : Core} : Goals.outsideIdle s { s with core := d, mem := m } := fun _ _ => by rw [h]

theorem outsideIdle_abort (d : Core) : Goals.outsideIdle s { s with core := d, mem := (outcomeMem s.mem (atEnd s.core b) 2).2 } :=
  fun _ h => mread_idleLost (atEnd s.core b) s.mem (by rwa [idleBuffers_atEnd])

/-! ### The statement on votes -/

theorem voteCommits (hin : Goals.inFrame s b) (hv : Goals.votes s) (hres : s.core.alm.vote.result = some true) :
    NextWith (exec .frameBoundary s) fun t =>
      obj t.core Key.commits = min (obj s.core Key.commits + 1) (objMax Key.commits)
      ∧ obj t.core Key.stepNumber = (obj s.core Key.stepNumber + 1) % 2 ^ 32
      ∧ obj t.core Key.lastVoteStep = obj s.core Key.stepNumber ∧ obj t.core Key.lastOutcome = 1 ∧ obj t.core Key.consecAborts = 0
      ∧ t.core.scale = s.core.scale.map (fun e => (e.1, updateScale e.2)) ∧ t.mem = s.mem
      ∧ ∀ g, (stn t.core g).dfw.entries = if almState t.core = 6 then [] else (stn s.core g).dfw.entries := by
  have hre := reached_atEnd s.core b
  have hbd := boundary_acted s.mem (b := b) hv hin.2.2.1 (o := 1) (by rw [voteOutcome, hre.alm, hres])
  rw [actOutcome_commit] at hbd
  generalize hc : atEnd s.core b = c at *
  have hC := committed_commitStep (outcomeNoted c 1)
  have hP := passed_passBoundary (commitStep (outcomeNoted c 1)) b 1
  change boundary s.mem s.core = (passBoundary (commitStep (outcomeNoted c 1)) b 1, s.mem) at hbd
  generalize commitStep (outcomeNoted c 1) = e at *
  generalize passBoundary e b 1 = d at *
  have hobj {k : Nat} (n1 : k ∉ passKeys) (n2 : k ∉ commitKeys) (n3 : k ≠ Key.lastVoteStep) (n4 : k ≠ Key.lastOutcome) (n5 : k ∉ reachKeys) :
      obj d k = obj s.core k :=
    (hP.objs k n1).trans ((hC.objs k n2 (passKeys_not n1).2.2.2).trans ((obj_outcomeNoted c 1 n3 n4).trans (hre.objs k n5)))
  refine frameBoundary_nextWith hin hbd (hobj (by decide) (by decide) (by decide) (by decide) (by decide)) ⟨?_, ?_, ?_, ?_, ?_, ?_, rfl, ?_⟩
  · rw [hP.objs _ (by decide), hC.commits, obj_outcomeNoted _ _ (by decide) (by decide), hre.objs _ (by decide)]
  · rw [hP.objs _ (by decide), hC.stepNumber, obj_outcomeNoted _ _ (by decide) (by decide), hre.objs _ (by decide)]
  · rw [hP.objs _ (by decide), hC.objs _ (by decide) (by decide), lastVoteStep_outcomeNoted, hre.objs _ (by decide)]
  · rw [hP.objs _ (by decide), hC.objs _ (by decide) (by decide), lastOutcome_outcomeNoted]
  · rw [hP.objs _ (by decide), hC.consecAborts]
  · rw [hP.scale, hC.scale, show (outcomeNoted c 1).scale = c.scale from rfl, hre.scale]; rfl
  · intro g
    rw [hP.entries, hC.entries, show stn (outcomeNoted c 1) g = stn c g from rfl, hre.dfw]

/-- The core that an ABORT at a boundary leaves, against the one at the boundary's start. -/
theorem aborted_actOutcome (c : Core) :
    (actOutcome c 2).scale = tmap clearPending c.scale
      ∧ (actOutcome c 2).ev.counts = tset c.ev.counts 0x0808 (min (tgetD c.ev.counts 0x0808 0 + 1) (2 ^ 32 - 1))
      ∧ (∀ k, k ∉ bookkeepingKeys → k ≠ Key.lastVoteStep → k ≠ Key.lastOutcome → k ≠ Key.consecAborts → obj (actOutcome c 2) k = obj c k)
      ∧ obj (actOutcome c 2) Key.lastVoteStep = obj c Key.stepNumber ∧ obj (actOutcome c 2) Key.lastOutcome = 2
      ∧ obj (actOutcome c 2) Key.consecAborts = min (obj c Key.consecAborts + 1) (objMax Key.consecAborts)
      ∧ (∀ g, (stn (actOutcome c 2) g).dfw.entries = [])
      ∧ (actOutcome c 2).alm = { (newExecution c).alm with cycleCommitted := false } := by
  have hA := aborted_abortStep (outcomeNoted c 2) (obj (outcomeNoted c 2) Key.voteReason)
  rw [actOutcome_abort]
  generalize abortStep (outcomeNoted c 2) (obj (outcomeNoted c 2) Key.voteReason) = d at *
  refine ⟨hA.scale, hA.counts, fun k n1 n2 n3 n4 => ?_, ?_, ?_, ?_, hA.entries, hA.alm⟩
  · rw [obj_addObj_ne d 1 n4, hA.objs k n1, obj_outcomeNoted c 2 n2 n3]
  · rw [obj_addObj_ne d 1 (by decide), hA.objs _ (by decide), lastVoteStep_outcomeNoted]
  · rw [obj_addObj_ne d 1 (by decide), hA.objs _ (by decide), lastOutcome_outcomeNoted]
  · have h : obj d Key.consecAborts = obj c Key.consecAborts := (hA.objs _ (by decide)).trans (obj_outcomeNoted c 2 (by decide) (by decide))
    rw [addObj, obj_setObj, h]

theorem voteAborts (hin : Goals.inFrame s b) (hv : Goals.votes s)
    (hres : s.core.alm.vote.result = some false ∨ (s.core.alm.vote.result = none ∧ s.core.alm.vote.own = some 1)) :
    NextWith (exec .frameBoundary s) fun t =>
      (obj t.core Key.commits = obj s.core Key.commits ∧ obj t.core Key.stepNumber = obj s.core Key.stepNumber) ∧ Goals.outsideIdle s t
      ∧ obj t.core Key.lastVoteStep = obj s.core Key.stepNumber ∧ obj t.core Key.lastOutcome = 2 ∧ Goals.raised s t 0x0808
      ∧ obj t.core Key.consecAborts = min (obj s.core Key.consecAborts + 1) (objMax Key.consecAborts)
      ∧ t.core.scale = s.core.scale.map (fun e => (e.1, clearPending e.2)) ∧ ∀ g, (stn t.core g).dfw.entries = [] := by
  have hre := reached_atEnd s.core b
  have hout : voteOutcome (atEnd s.core b) b false = some 2 := by
    rw [voteOutcome, hre.alm]
    rcases hres with h | ⟨h, h'⟩
    · rw [h]
    · rw [h, h']; rfl
  have hbd := boundary_acted s.mem (b := b) hv hin.2.2.1 hout
  have hidle (d : Core) := outsideIdle_abort (s := s) (b := b) d
  have hm1 : (outcomeMem s.mem (atEnd s.core b) 2).1 = { atEnd s.core b with freeCtr := (atEnd s.core b).freeCtr + 1 } := rfl
  rw [hm1] at hbd
  generalize outcomeMem s.mem (atEnd s.core b) 2 = w at *
  generalize atEnd s.core b = c at *
  obtain ⟨a1, a2, a3, a4, a5, a6, a7, -⟩ := aborted_actOutcome { c with freeCtr := c.freeCtr + 1 }
  generalize actOutcome { c with freeCtr := c.freeCtr + 1 } 2 = e at *
  have hP := passed_passBoundary e b 2
  generalize passBoundary e b 2 = d at *
  have hobj {k : Nat} (n1 : k ∉ passKeys) (n2 : k ≠ Key.lastVoteStep) (n3 : k ≠ Key.lastOutcome) (n4 : k ≠ Key.consecAborts) (n5 : k ∉ reachKeys) :
      obj d k = obj s.core k :=
    (hP.objs k n1).trans ((a3 k (passKeys_not n1).2.2.2 n2 n3 n4).trans (hre.objs k n5))
  refine frameBoundary_nextWith hin hbd (hobj (by decide) (by decide) (by decide) (by decide) (by decide))
    ⟨⟨hobj (by decide) (by decide) (by decide) (by decide) (by decide), hobj (by decide) (by decide) (by decide) (by decide) (by decide)⟩,
      hidle d, ?_, ?_, ?_, ?_, ?_, fun g => ?_⟩
  · rw [hP.objs _ (by decide), a4]
    exact hre.objs _ (by decide)
  · rw [hP.objs _ (by decide), a5]
  · have : tgetD d.ev.counts 0x0808 0 = min (tgetD s.core.ev.counts 0x0808 0 + 1) (2 ^ 32 - 1) := by
      rw [hP.counts _ (by decide), a2, tgetD_tset_self, hre.ev]
    exact this
  · rw [hP.objs _ (by decide), a6]
    rw [show obj { c with freeCtr := c.freeCtr + 1 } Key.consecAborts = obj c Key.consecAborts from rfl, hre.objs _ (by decide)]
  · rw [hP.scale, a1, hre.scale]; rfl
  · rw [hP.entries, a7, ite_self]

/-- A stop, told from the state before it. -/
theorem stopped_of_stoppedFrom {cause : Nat} {c d : Core} {m : Memory} (h : StoppedFrom cause (faultStopped c) d)
    (hc : tgetD c.ev.counts 0x0B02 0 = tgetD s.core.ev.counts 0x0B02 0) (hm : cause ≠ 3 → m = s.mem)
    (hi : Goals.outsideIdle s { s with core := d, mem := m }) : Goals.stopped s { s with core := d, mem := m } cause := by
  refine ⟨h.almState, h.stopCause, ?_, h.hold, hm, hi, fun g i => ⟨(h.halted g).1, (h.halted g).2 i⟩, h.sems⟩
  have : tgetD d.ev.counts 0x0B02 0 = min (tgetD s.core.ev.counts 0x0B02 0 + 1) (2 ^ 32 - 1) := by
    rw [h.counts, tgetD_tset_self, (faultStopped_keeps c).2.2.2 _ (by decide), hc]
  exact this

theorem stopCause_undecided (c : Core) (b : Nat) : stopCause c b 3 = 6 := rfl

theorem voteLost (hin : Goals.inFrame s b) (hv : Goals.votes s) (hres : s.core.alm.vote.result = none) (hown : s.core.alm.vote.own ≠ some 1)
    (hb : b ∉ s.core.alm.hold.notices) (hl : s.core.alm.vote.lost = true) :
    NextWith (exec .frameBoundary s) fun t =>
      (obj t.core Key.commits = obj s.core Key.commits ∧ obj t.core Key.stepNumber = obj s.core Key.stepNumber) ∧ t.mem = s.mem
      ∧ obj t.core Key.lastOutcome = 3 ∧ obj t.core Key.commitState = 3 ∧ Goals.raised s t 0x0809 ∧ Goals.stopped s t 6 := by
  have hre := reached_atEnd s.core b
  have hout : voteOutcome (atEnd s.core b) b false = some 3 := by
    rw [voteOutcome, hre.alm, hres]
    simp [hown, hb, hl]
  have hbd := boundary_acted s.mem (b := b) hv hin.2.2.1 hout
  change boundary s.mem s.core = (passBoundary (actOutcome (atEnd s.core b) 3) b 3, s.mem) at hbd
  generalize atEnd s.core b = c at *
  rw [actOutcome_undecided, passBoundary_stop (stopCause_undecided _ b) (by decide)] at hbd
  have hn := noted_raise (outcomeNoted c 3) 0x0809 .report mgmt 0 [obj c Key.stepNumber]
  have hk := raise_counts (outcomeNoted c 3) 0x0809 .report mgmt 0 [obj c Key.stepNumber]
  generalize raise (outcomeNoted c 3) 0x0809 .report mgmt 0 [obj c Key.stepNumber] = e at *
  have hS := stoppedFrom_almanacStop (setObj e Key.commitState 3) 6
  have hP := passed_almanacStop (setObj e Key.commitState 3) 6
  generalize almanacStop (setObj e Key.commitState 3) 6 = d at *
  have hkc : e.ev.counts = tset c.ev.counts 0x0809 (min (tgetD c.ev.counts 0x0809 0 + 1) (2 ^ 32 - 1)) := hk
  have heo {k : Nat} (n1 : k ∉ passKeys) : obj d k = obj (outcomeNoted c 3) k :=
    (hP.objs k n1).trans ((obj_setObj_ne e 3 (by rintro rfl; exact n1 (by decide))).trans (hn.objs k (passKeys_not n1).2.2.2))
  have hobj {k : Nat} (n1 : k ∉ passKeys) (n2 : k ≠ Key.lastVoteStep) (n3 : k ≠ Key.lastOutcome) (n5 : k ∉ reachKeys) :
      obj d k = obj s.core k := (heo n1).trans ((obj_outcomeNoted c 3 n2 n3).trans (hre.objs k n5))
  have hundecided := hS.undecided rfl
  have hcnt : tgetD (setObj e Key.commitState 3).ev.counts 0x0B02 0 = tgetD s.core.ev.counts 0x0B02 0 := by
    rw [setObj_ev, hkc, tgetD_tset_ne _ _ _ (by decide), hre.ev]
  have hstop : Goals.stopped s { s with core := d, mem := s.mem } 6 := stopped_of_stoppedFrom hS hcnt (fun _ => rfl) (outsideIdle_refl rfl)
  refine frameBoundary_nextWith hin hbd (hobj (by decide) (by decide) (by decide) (by decide))
    ⟨⟨hobj (by decide) (by decide) (by decide) (by decide), hobj (by decide) (by decide) (by decide) (by decide)⟩, rfl, ?_, hundecided,
      ?_, hstop⟩
  · rw [heo (by decide), lastOutcome_outcomeNoted]
  · have : tgetD d.ev.counts 0x0809 0 = min (tgetD s.core.ev.counts 0x0809 0 + 1) (2 ^ 32 - 1) := by
      rw [hP.counts _ (by decide), setObj_ev, hkc, tgetD_tset_self, hre.ev]
    exact this

theorem voteOpen (hin : Goals.inFrame s b) (hv : Goals.votes s) (hres : s.core.alm.vote.result = none) (hown : s.core.alm.vote.own ≠ some 1)
    (hb : b ∈ s.core.alm.hold.notices ∨ s.core.alm.vote.lost = false) :
    NextWith (exec .frameBoundary s) fun t =>
      (obj t.core Key.commits = obj s.core Key.commits ∧ obj t.core Key.stepNumber = obj s.core Key.stepNumber) ∧ t.mem = s.mem
      ∧ almState t.core = 5 ∧ t.core.alm.hold.heldAt = some b ∧ t.core.alm.voted = true
      ∧ (obj s.core Key.commitState = 1 → obj t.core Key.commitState = 2) := by
  have hre := reached_atEnd s.core b
  have hout : voteOutcome (atEnd s.core b) b false = none := by
    rw [voteOutcome, hre.alm, hres]
    rcases hb with h | h <;> simp [hown, h]
  have hbd := boundary_held s.mem (b := b) hv hin.2.2.1 hout
  have ht := template_atEnd s.core b
  generalize atEnd s.core b = e at *
  have hte : curTemplate (modAlm e fun a => { a with voted := true }) = curTemplate e := curTemplate_congr rfl rfl
  have hobj0 {k : Nat} (n : k ∉ reachKeys) : obj (modAlm e fun a => { a with voted := true }) k = obj s.core k := hre.objs k n
  have hvoted : (modAlm e fun a => { a with voted := true }).alm.voted = true := rfl
  generalize modAlm e (fun a => { a with voted := true }) = c at *
  have hH := heldAt_enterHold c b
  generalize enterHold c b = d at *
  have hobj {k : Nat} (n1 : k ∉ holdKeys) (n2 : k ∉ bookkeepingKeys) (n3 : k ∉ reachKeys) : obj d k = obj s.core k :=
    (hH.objs k n1 n2).trans (hobj0 n3)
  refine frameBoundary_nextWith hin hbd (hobj (by decide) (by decide) (by decide))
    ⟨⟨hobj (by decide) (by decide) (by decide), hobj (by decide) (by decide) (by decide)⟩, rfl, hH.almState, hH.heldAt,
      hH.voted.trans hvoted, fun hc => ?_⟩
  exact hH.commit (by rw [hte, ht]; exact hv) ((hobj0 (by decide)).trans hc)

end

theorem votesDecideTheStep : Goals.VotesDecideTheStep := by
  intro s b hin hv
  exact ⟨voteCommits hin hv, voteAborts hin hv, fun hres hown => ⟨voteLost hin hv hres hown, voteOpen hin hv hres hown⟩⟩

end Sys2Proof.Machine

namespace Sys2Proof.Machine

/-! ## Stops come at boundaries (O58) -/

section
variable {s : State} {b : Nat}

/-- What the stop of a fault records (R372, R490). -/
theorem faultStop_records {cause : Nat} {q : Nat × Nat × Nat} {c d : Core} (h : StoppedFrom cause (faultStopped c) d) (hq : c.alm.fault = some q) :
    tgetD d.ev.counts 0x0B01 0 = min (tgetD c.ev.counts 0x0B01 0 + 1) (2 ^ 32 - 1) ∧ d.alm.lastFault = q
      ∧ d.power.faultN = c.power.housekeeping := by
  have hf := faultTaken c hq
  refine ⟨?_, by rw [h.lastFault, hf.alm], by rw [h.power, hf.power]⟩
  rw [counts_tset_ne h.counts (by decide), hf.counts, tgetD_tset_self]

/-- A boundary without a vote at which a cause to stop stands. -/
theorem boundaryStops (hin : Goals.inFrame s b) (hv : ¬Goals.votes s) {k : Nat} (hk : stopCause (atEnd s.core b) b 0 = k) (h0 : k ≠ 0)
    {P : State → Prop} (hP : ∀ d, StoppedFrom k (faultStopped (atEnd s.core b)) d → Goals.stopped s { s with core := d } k →
      P { s with core := d }) : NextWith (exec .frameBoundary s) P := by
  have hre := reached_atEnd s.core b
  have hbd := boundary_no_vote s.mem (c := s.core) (by simpa using hv)
  rw [← hin.2.2.1, passBoundary_stop hk h0] at hbd
  generalize atEnd s.core b = c at *
  have hS := stoppedFrom_almanacStop c k
  have hpass := passed_almanacStop c k
  generalize almanacStop c k = d at *
  have hstop : Goals.stopped s { s with core := d } k :=
    stopped_of_stoppedFrom hS (by rw [hre.ev]) (fun _ => rfl) (outsideIdle_refl rfl)
  exact frameBoundary_nextWith hin hbd ((hpass.objs _ (by decide)).trans (hre.objs _ (by decide))) (hP d hS hstop)

theorem faultStops (hin : Goals.inFrame s b) (hv : ¬Goals.votes s) {q : Nat × Nat × Nat} (hq : s.core.alm.fault = some q) :
    NextWith (exec .frameBoundary s) fun t =>
      Goals.stopped s t 4 ∧ Goals.raised s t 0x0B01 ∧ t.core.alm.lastFault = q ∧ t.core.power.faultN = s.core.power.housekeeping := by
  have hre := reached_atEnd s.core b
  refine boundaryStops hin hv (k := 4) (by rw [stopCause_zero, hre.alm, hq]; rfl) (by decide) fun d hS hstop => ?_
  obtain ⟨h1, h2, h3⟩ := faultStop_records hS (by rw [hre.alm, hq])
  rw [hre.ev] at h1
  rw [hre.housekeeping] at h3
  exact ⟨hstop, h1, h2, h3⟩

/-- A commit that makes STEPS_TO_RUN stops the Almanac. -/
theorem stepsStop (hin : Goals.inFrame s b) (hv : Goals.votes s) (hf : s.core.alm.fault = none) (hm : s.core.alm.mismatch = false)
    (hsig : ∀ im, s.core.alm.image = some im → ∀ d ∈ im.sems, d.commit = false) (hres : s.core.alm.vote.result = some true)
    (h0 : obj s.core Key.stepsToRun ≠ 0) (hle : obj s.core Key.stepsToRun ≤ obj s.core Key.commits + 1)
    (hmax : obj s.core Key.commits < objMax Key.commits) : NextWith (exec .frameBoundary s) fun t => Goals.stopped s t 2 := by
  have hre := reached_atEnd s.core b
  have hbd := boundary_acted s.mem (b := b) hv hin.2.2.1 (o := 1) (by rw [voteOutcome, hre.alm, hres])
  change boundary s.mem s.core = (passBoundary (commitStep (outcomeNoted (atEnd s.core b) 1)) b 1, s.mem) at hbd
  generalize atEnd s.core b = c at *
  have hC := committed_commitStep (outcomeNoted c 1)
  have hno {k : Nat} (n1 : k ≠ Key.lastVoteStep) (n2 : k ≠ Key.lastOutcome) (n3 : k ∉ reachKeys) : obj (outcomeNoted c 1) k = obj s.core k :=
    (obj_outcomeNoted c 1 n1 n2).trans (hre.objs k n3)
  have hna : (outcomeNoted c 1).alm = s.core.alm := hre.alm
  have hne : (outcomeNoted c 1).ev = s.core.ev := hre.ev
  generalize outcomeNoted c 1 = n at *
  obtain ⟨hcf, hce⟩ := hC.unsignalled (by rw [hna]; exact hsig)
  generalize commitStep n = e at *
  have hcause : stopCause e b 1 = 2 := by
    have h1 : obj e Key.stepsToRun = obj s.core Key.stepsToRun := (hC.objs _ (by decide) (by decide)).trans (hno (by decide) (by decide) (by decide))
    have h2 : obj e Key.commits = obj s.core Key.commits + 1 := by
      rw [hC.commits, hno (by decide) (by decide) (by decide)]
      exact Nat.min_eq_left hmax
    have h3 : e.alm.fault = none := by rw [hcf, hna, hf]
    have h4 : e.alm.mismatch = false := by rw [hC.mismatch, hna, hm]
    simp [stopCause, h1, h2, h3, h4, h0, hle]
  rw [passBoundary_stop hcause (by decide)] at hbd
  have hS := stoppedFrom_almanacStop e 2
  have hpass := passed_almanacStop e 2
  generalize almanacStop e 2 = d at *
  refine frameBoundary_nextWith hin hbd ?_ (stopped_of_stoppedFrom hS (by rw [hce, hne]) (fun _ => rfl) (outsideIdle_refl rfl))
  rw [hpass.objs _ (by decide), hC.objs _ (by decide) (by decide), hno (by decide) (by decide) (by decide)]

/-- An abort that makes ABORT_LIMIT in succession stops the Almanac. -/
theorem abortsStop (hin : Goals.inFrame s b) (hv : Goals.votes s) (hf : s.core.alm.fault = none) (hm : s.core.alm.mismatch = false)
    (hres : s.core.alm.vote.result = some false) (h0 : obj s.core Key.abortLimit ≠ 0)
    (hle : obj s.core Key.abortLimit ≤ obj s.core Key.consecAborts + 1) (hmax : obj s.core Key.consecAborts < objMax Key.consecAborts) :
    NextWith (exec .frameBoundary s) fun t => Goals.stopped s t 3 := by
  have hre := reached_atEnd s.core b
  have hbd := boundary_acted s.mem (b := b) hv hin.2.2.1 (o := 2) (by rw [voteOutcome, hre.alm, hres])
  have hidle (d : Core) := outsideIdle_abort (s := s) (b := b) d
  have hm1 : (outcomeMem s.mem (atEnd s.core b) 2).1 = { atEnd s.core b with freeCtr := (atEnd s.core b).freeCtr + 1 } := rfl
  rw [hm1] at hbd
  generalize outcomeMem s.mem (atEnd s.core b) 2 = w at *
  generalize atEnd s.core b = c at *
  obtain ⟨-, a2, a3, -, -, a6, -, a8⟩ := aborted_actOutcome { c with freeCtr := c.freeCtr + 1 }
  generalize actOutcome { c with freeCtr := c.freeCtr + 1 } 2 = e at *
  have hcause : stopCause e b 2 = 3 := by
    have h1 : obj e Key.abortLimit = obj s.core Key.abortLimit :=
      (a3 _ (by decide) (by decide) (by decide) (by decide)).trans (hre.objs _ (by decide))
    have h2 : obj e Key.consecAborts = obj s.core Key.consecAborts + 1 := by
      rw [a6, show obj { c with freeCtr := c.freeCtr + 1 } Key.consecAborts = obj c Key.consecAborts from rfl, hre.objs _ (by decide)]
      exact Nat.min_eq_left hmax
    have h3 : e.alm.fault = none := by rw [a8]; exact (congrArg Almanac.fault hre.alm).trans hf
    have h4 : e.alm.mismatch = false := by rw [a8]; exact (congrArg Almanac.mismatch hre.alm).trans hm
    simp [stopCause, h1, h2, h3, h4, h0, hle]
  rw [passBoundary_stop hcause (by decide)] at hbd
  have hS := stoppedFrom_almanacStop e 3
  have hpass := passed_almanacStop e 3
  generalize almanacStop e 3 = d at *
  have hcnt : tgetD e.ev.counts 0x0B02 0 = tgetD s.core.ev.counts 0x0B02 0 := by
    rw [a2, tgetD_tset_ne _ _ _ (by decide), hre.ev]
  refine frameBoundary_nextWith hin hbd ?_ (stopped_of_stoppedFrom hS hcnt (fun h => absurd rfl h) (hidle d))
  rw [hpass.objs _ (by decide), a3 _ (by decide) (by decide) (by decide) (by decide)]
  exact hre.objs _ (by decide)

/-- A held module stops where a cause has come (R370, R372). -/
theorem heldStops (hr : Runs s) (ha : almState s.core ≠ 4) {k : Nat} (hh : s.core.alm.hold.heldAt = some b)
    (hv : s.core.alm.voted = false) (hk : stopCause s.core b 0 = k) (h0 : k ≠ 0) :
    NextWith (exec .frameBoundary s) fun t => Goals.stopped s t k := by
  have he : exec .frameBoundary s = execFrameBoundary s := rfl
  have hS := stoppedFrom_almanacStop s.core k
  rw [he, execFrameBoundary, onBoth_powered _ (runs_powered hr), if_neg ha]
  simp only [hh, hv, hk, h0, Bool.false_eq_true, or_self, if_false]
  generalize almanacStop s.core k = d at *
  exact ⟨_, rfl, stopped_of_stoppedFrom hS rfl (fun _ => rfl) (outsideIdle_refl rfl)⟩

theorem heldStays (hr : Runs s) (ha : almState s.core ≠ 4) (hh : s.core.alm.hold.heldAt = some b)
    (hv : s.core.alm.voted = false) (hk : stopCause s.core b 0 = 0) : exec .frameBoundary s = .next s := by
  have he : exec .frameBoundary s = execFrameBoundary s := rfl
  rw [he, execFrameBoundary, onBoth_powered _ (runs_powered hr), if_neg ha]
  simp only [hh, hv, hk, Bool.false_eq_true, or_true, if_true]

end

theorem stopsComeAtBoundaries : Goals.StopsComeAtBoundaries := by
  intro s b
  refine ⟨fun hin hv => ⟨fun q hq => faultStops hin hv hq, fun hf hm => ?_, fun v hf hm hs hle => ?_⟩, fun hin hv hf hm hsig => ⟨?_, ?_⟩,
    fun hr ha hh hvo => ⟨fun q hq => ?_, fun hno => ?_⟩, fun ha hh => ?_⟩
  · refine boundaryStops hin hv (k := 5) ?_ (by decide) fun d _ h => h
    rw [stopCause_zero, (reached_atEnd s.core b).alm, hf, hm]; rfl
  · refine boundaryStops hin hv (k := 1) ?_ (by decide) fun d _ h => h
    rw [stopCause_zero, (reached_atEnd s.core b).alm, hf, hm, hs]
    simp [hle]
  · exact stepsStop hin hv hf hm hsig
  · exact abortsStop hin hv hf hm
  · have hk : stopCause s.core b 0 = 4 := by rw [stopCause_zero, hq]; rfl
    exact heldStops hr (by rw [ha]; decide) hh hvo hk (by decide)
  · obtain ⟨h1, h2, h3⟩ := hno
    exact heldStays hr (by rw [ha]; decide) hh hvo (stopCause_none h1 h2 h3)
  · have he : exec .frameBoundary s = execFrameBoundary s := rfl
    rw [he, execFrameBoundary, onBoth, if_neg ha]
    simp only [hh, ite_self]

end Sys2Proof.Machine

namespace Sys2Proof.Machine

/-! ## The vote point (O58) -/

/-- Seven reasons as the bits of a word. -/
theorem reasonBits : ∀ b0 b1 b2 b3 b4 b5 b6 : Bool,
    let w := fieldAt 0 (b2n b0) + fieldAt 1 (b2n b1) + fieldAt 2 (b2n b2) + fieldAt 3 (b2n b3) + fieldAt 4 (b2n b4) + fieldAt 5 (b2n b5)
      + fieldAt 6 (b2n b6)
    w < 128 ∧ bit w 0 = b0 ∧ bit w 1 = b1 ∧ bit w 2 = b2 ∧ bit w 3 = b3 ∧ bit w 4 = b4 ∧ bit w 5 = b5 ∧ bit w 6 = b6 := by
  decide

section
variable (c : Core) (n : Nat)

theorem lateStations_congr {c d : Core} (h : ∀ g, (stn d g).dfw = (stn c g).dfw) (im : Image) : lateStations d im = lateStations c im := by
  simp only [lateStations, h]

theorem idleWriting_passTicks : idleWriting (passTicks n c) = idleWriting c := by
  rw [idleWriting, passTicks_st, List.any_map, idleWriting]
  congr 1
  funext p
  simp only [Function.comp_apply]
  rw [tickStation_seq]

theorem stepOpen_congr {c d : Core} (h : d.alm = c.alm) (ho : ownMod d = ownMod c) (im : Image) : stepOpen d im = stepOpen c im := by
  simp only [stepOpen, h, chanDecl, ho]

theorem voteReasons_passTicks (im : Image) : voteReasons (passTicks n c) im = voteReasons c im := by
  have hre := reached_passTicks c n
  simp only [voteReasons, lateStations_congr hre.dfw, idleWriting_passTicks, stepOpen_congr hre.alm (hre.objs _ (by decide)), hre.alm]

/-- Events of the class of a step's loss touch nothing of the Almanac. -/
theorem foldl_raise_alm (f : Core → Nat → List Nat) (l : List Nat) : (l.foldl (fun c g => raise c 0x0806 .step g 0 (f c g)) c).alm = c.alm := by
  induction l generalizing c with
  | nil => rfl
  | cons g l ih => exact (ih _).trans (raise_alm c _ _ _ _ nofun)

end

/-- The core as the vote point leaves it: its late stations raised, its contribution fixed. -/
def votePointed (c : Core) (late : List Nat) (why : Nat) : Core :=
  let own := b2n (decide (why ≠ 0))
  let d := late.foldl (fun c g => raise c 0x0806 .step g 0 [g, obj c Key.stepNumber]) c
  modAlm (setObj (setObj d Key.ownVote own) Key.voteReason why) fun a => { a with vote := { a.vote with own := some own } }

theorem exec_votePoint {s : State} {im : Image} {off : Nat} (hr : Runs s) (hi : s.core.alm.image = some im)
    (hv : ((curTemplate s.core).bind fun x => x.vote) = some off) (ha : almState s.core = 4) (ho : s.core.alm.vote.own = none) :
    exec .votePoint s = .next { s with
      core := votePointed (reachTick s.core (boundaryTick s.core (obj s.core Key.frameCount) + off)) (lateStations s.core im)
        (voteReasons s.core im) } := by
  have he : exec .votePoint s = execVotePoint s := rfl
  rw [he, execVotePoint, onCore_powered _ (runs_powered hr)]
  simp only [hi, hv, ha, ho, ne_eq, not_true_eq_false, Option.isSome_none, Bool.false_eq_true, or_self, if_false]
  rw [reachTick, voteReasons_passTicks, lateStations_congr (reached_passTicks s.core _).dfw]
  rfl

theorem votePointed_spec (c : Core) (late : List Nat) (why : Nat) :
    let d := votePointed c late why
    obj d Key.voteReason = why ∧ obj d Key.ownVote = (if why = 0 then 0 else 1)
      ∧ d.alm.vote = { c.alm.vote with own := some (if why = 0 then 0 else 1) } ∧ (late = [] → d.ev = c.ev)
      ∧ ∀ g, late = [g] → tgetD d.ev.counts 0x0806 0 = min (tgetD c.ev.counts 0x0806 0 + 1) (2 ^ 32 - 1) := by
  have hown : b2n (decide (why ≠ 0)) = if why = 0 then 0 else 1 := by by_cases h : why = 0 <;> simp [b2n, h]
  unfold votePointed
  rw [hown]
  extract_lets own d e
  have ha : d.alm = c.alm := foldl_raise_alm c (fun c g => [g, obj c Key.stepNumber]) late
  refine ⟨obj_setObj _ _ _, (obj_setObj_ne _ _ (by decide)).trans (obj_setObj d _ _), ?_, fun h => ?_, fun g h => ?_⟩
  · have : e.alm.vote = { d.alm.vote with own := some own } := rfl
    rw [this, ha]
  · have : e.ev = d.ev := rfl
    rw [this]
    unfold d
    rw [h]; rfl
  · have : e.ev = d.ev := rfl
    have hd : d = raise c 0x0806 .step g 0 [g, obj c Key.stepNumber] := by unfold d; rw [h]; rfl
    rw [this, hd, raise_counts, tgetD_tset_self]

theorem votePointFixesTheContribution : Goals.VotePointFixesTheContribution := by
  intro s hr
  refine ⟨fun im off hi hv ha ho => ⟨_, exec_votePoint hr hi hv ha ho, ?_⟩, fun hn => ?_⟩
  · have hre := reached_passTicks s.core (boundaryTick s.core (obj s.core Key.frameCount) + off - obj s.core Key.domainTick)
    rw [← reachTick] at hre
    generalize reachTick s.core (boundaryTick s.core (obj s.core Key.frameCount) + off) = c at *
    obtain ⟨h1, h2, h3, h4, h5⟩ := votePointed_spec c (lateStations s.core im) (voteReasons s.core im)
    obtain ⟨w, w0, w1, w2, w3, w4, w5, w6⟩ := reasonBits (!(lateStations s.core im).isEmpty) s.core.alm.marks.integrity s.core.alm.marks.window
      s.core.alm.marks.lost (idleWriting s.core) s.core.alm.marks.nonfinite (stepOpen s.core im)
    rw [hre.alm] at h3
    rw [hre.ev] at h4 h5
    generalize votePointed c (lateStations s.core im) (voteReasons s.core im) = d at *
    simp only [h1]
    exact ⟨h3, h2, w, trivial, w0, w1, w2, w3, w4, w5, w6, h4, h5⟩
  · have he : exec .votePoint s = execVotePoint s := rfl
    rw [he, execVotePoint, onCore_powered _ (runs_powered hr)]
    split
    · next im off _ hv =>
      have : almState s.core ≠ 4 ∨ s.core.alm.vote.own.isSome = true := by
        rcases hn with h | h | h
        · exact .inr (Option.isSome_iff_ne_none.2 h)
        · exact .inl h
        · exact absurd (by rw [Goals.votes, hv]; rfl) h
      rw [if_pos this]
    · rfl

/-- Settles O58: frames, votes, stops and the vote point, each by what the boundary's parts leave. -/
theorem framesAndVotes : Obligations.FramesAndVotes := by
  unfold Obligations.FramesAndVotes
  exact ⟨framesFollowEachOther, votesDecideTheStep, stopsComeAtBoundaries, votePointFixesTheContribution⟩

end Sys2Proof.Machine

namespace Sys2Proof.Machine

/-! ## Gates (O59): what the sync unit leaves of its semaphores, gates and queue -/

section
variable (c : Core)

/-- Of a sync unit, only watches and wait slots changed. -/
def WatchesOnly (u v : SyncUnit) : Prop := ∃ w l, v = { u with watches := w, waits := l }

theorem vigilPass_fl (f s m : Nat) : (vigilPass c f s m).fl = c.fl := by
  unfold vigilPass
  split
  · split <;> rfl
  · rfl

theorem sendWatch_alm (dest slot : Nat) (m : WatchMsg) : (sendWatch c dest slot m).alm = c.alm := by
  unfold sendWatch
  extract_lets d
  have hd : d.alm = c.alm := by unfold d; split <;> rfl
  split
  · split
    · exact hd
    · exact hd
  · exact hd

theorem vigilPass_alm (f s m : Nat) : (vigilPass c f s m).alm = c.alm := by
  unfold vigilPass
  split
  · split <;> rfl
  · rfl

theorem foldl_alm {α : Type} (f : Core → α → Core) (hf : ∀ c x, (f c x).alm = c.alm) (l : List α) : (l.foldl f c).alm = c.alm := by
  induction l generalizing c with
  | nil => rfl
  | cons x l ih => exact (ih _).trans (hf c x)

/-- Watches that fire leave semaphores, gates and queue (R226). -/
theorem evalWatches_keeps (f s : Nat) :
    WatchesOnly (syncU c f) (syncU (evalWatches c f s) f) ∧ (evalWatches c f s).alm = c.alm := by
  unfold evalWatches
  extract_lets n hit due slots _ c1 c2
  have h2 : c2.fl = c1.fl := foldl_sendWatch_fl c1 _ (fun d p => (vigilPass_fl _ _ _ _).trans (sendWatch_fl d _ _ _)) hit
  have h3 := foldl_sendWatch_fl c2 (fun c x => sendWatch c x.unit 0 (slotMsg c f x .ok 0 n)) (fun d x => sendWatch_fl d _ _ _) slots
  have a2 : c2.alm = c1.alm := foldl_alm c1 _ (fun d p => (vigilPass_alm _ _ _ _).trans (sendWatch_alm d _ _ _)) hit
  have a3 := foldl_alm c2 (fun c x => sendWatch c x.unit 0 (slotMsg c f x .ok 0 n)) (fun d x => sendWatch_alm d _ _ _) slots
  have hu : syncU (slots.foldl (fun c x => sendWatch c x.unit 0 (slotMsg c f x .ok 0 n)) c2) f = syncU c1 f := by
    rw [syncU, fld, h3, h2, syncU, fld]
  refine ⟨?_, a3.trans a2⟩
  rw [hu]
  exact ⟨_, _, syncU_setSync c f _⟩

theorem evalGates_nil (f s n : Nat) (h : (syncU c f).gates = []) : evalGates c f s n = c := by
  cases n with
  | zero => rfl
  | succ n => rw [evalGates, h]; rfl

theorem syncU_readyCheck (f : Nat) : syncU (readyCheck c) f = syncU c f := by rw [syncU, fld, readyCheck_fl, syncU, fld]

theorem readyCheck_none (h : c.alm.hold.heldAt = none) : readyCheck c = c := by rw [readyCheck, h]

/-- With no gate armed, what follows an operation leaves semaphores, gates and queue (R219, R354). -/
theorem evalSem_keeps (f s : Nat) (hg : (syncU c f).gates = []) :
    WatchesOnly (syncU c f) (syncU (evalSem c f s) f) ∧ (c.alm.hold.heldAt = none → (evalSem c f s).alm = c.alm) := by
  obtain ⟨hw, ha⟩ := evalWatches_keeps c f s
  unfold evalSem
  extract_lets d
  change WatchesOnly (syncU c f) (syncU d f) at hw
  change d.alm = c.alm at ha
  have hgd : (syncU d f).gates = [] := by obtain ⟨w, l, h⟩ := hw; rw [h]; exact hg
  rw [evalGates_nil d f s _ hgd]
  refine ⟨?_, fun hh => ?_⟩
  · rw [syncU_readyCheck]
    exact hw
  · rw [readyCheck_none d (by rw [ha]; exact hh), ha]

/-! ### A judgement -/

theorem syncU_countOp (f : Nat) : syncU (countOp c f) f = { syncU c f with ops := (syncU c f).ops + 1 } := syncU_setSync c f _

theorem semOf_countOp (f s : Nat) : semOf (countOp c f) f s = semOf c f s := by rw [semOf, syncU_countOp, semOf]

theorem syncU_setSem (f s : Nat) (x : Sem) : syncU (setSem c f s x) f = { syncU c f with sems := tset (syncU c f).sems s x } := syncU_setSync c f _

section
variable {f s n : Nat} (hg : (syncU c f).gates = []) (hv : (semOf c f s).valid = true) (hp : (semOf c f s).poison = false)
include hg hv hp

/-- A gate that is met takes its count (R354). -/
theorem judgeGate_met (hn : n ≤ (semOf c f s).count) :
    semOf (judgeGate c f s n) f s = { semOf c f s with count := (semOf c f s).count - n } ∧ (syncU (judgeGate c f s n) f).gates = []
      ∧ (syncU (judgeGate c f s n) f).held = (syncU c f).held
      ∧ (c.alm.hold.heldAt = none → (judgeGate c f s n).alm = c.alm) := by
  have he : judgeGate c f s n = evalSem (setSem (countOp c f) f s { semOf c f s with count := (semOf c f s).count - n }) f s := by
    simp only [judgeGate, semOf_countOp]
    exact if_pos (by simp [hv, hp, hn])
  have hu := syncU_setSem (countOp c f) f s { semOf c f s with count := (semOf c f s).count - n }
  rw [syncU_countOp] at hu
  have ha : (setSem (countOp c f) f s { semOf c f s with count := (semOf c f s).count - n }).alm = c.alm := rfl
  rw [he]
  generalize setSem (countOp c f) f s { semOf c f s with count := (semOf c f s).count - n } = d at *
  obtain ⟨⟨w, l, hw⟩, hk⟩ := evalSem_keeps d f s (by rw [hu]; exact hg)
  refine ⟨?_, ?_, ?_, fun hh => (hk (by rw [ha]; exact hh)).trans ha⟩
  · rw [semOf, hw, hu]; exact tgetD_tset_self _ _ _ _
  · rw [hw, hu]; exact hg
  · rw [hw, hu]

/-- One that is not stays armed (R354). -/
theorem judgeGate_unmet (hn : (semOf c f s).count < n) :
    (syncU (judgeGate c f s n) f).sems = (syncU c f).sems ∧ (syncU (judgeGate c f s n) f).gates = [(s, n)]
      ∧ (syncU (judgeGate c f s n) f).held = (syncU c f).held ∧ (judgeGate c f s n).alm = c.alm := by
  have he : judgeGate c f s n = setSync (countOp c f) f { syncU (countOp c f) f with gates := (syncU (countOp c f) f).gates ++ [(s, n)] } := by
    simp only [judgeGate, semOf_countOp]
    exact if_neg (by simp [hv, hp, hn])
  rw [he, syncU_setSync, syncU_countOp]
  exact ⟨rfl, by rw [hg]; rfl, rfl, rfl⟩

end

end

end Sys2Proof.Machine

namespace Sys2Proof.Machine

/-! ## Gate judgements and the decision point (O59) -/

section
variable (c : Core)

/-- A queue that no poisoning heads waits for its turn. -/
theorem applyPoisons_of_head {f n : Nat} (h : ∀ p, (syncU c f).held.head? = some p → p.kind ≠ .poison) : applyPoisons c f n = c := by
  cases n with
  | zero => rfl
  | succ n =>
    rw [applyPoisons]
    split
    · next op rest hu => rw [if_neg (h op (by rw [hu]; rfl))]
    · rfl

theorem semOf_setSync_held (f s : Nat) (l : List SyncOp) :
    semOf (setSync c f { syncU c f with held := l }) f s = semOf c f s := by rw [semOf, syncU_setSync, semOf]

end

theorem gateJudgements : Goals.GateJudgements := by
  intro s f op rest ⟨hr, hf, hh, hhead⟩ hk hs e hg hv hp
  have hex : exec (.gateJudgement f op.sem) s = .next { s with
      core := applyPoisons (judgeGate (setSync s.core f { syncU s.core f with held := rest }) f op.sem op.n) f rest.length } := by
    have he : exec (.gateJudgement f op.sem) s = execGateJudgement f op.sem s := rfl
    rw [he, execGateJudgement, inRange_lt hf, inRange_lt hs, onCore_powered _ (runs_powered hr)]
    simp only [hh, hk, and_self, if_true]
  have hst : (judgeGate (setSync s.core f { syncU s.core f with held := rest }) f op.sem op.n).st = s.core.st :=
    ((quiet_setSync s.core f _).trans (quiet_judgeGate _ f op.sem op.n)).st
  have hc := syncU_setSync s.core f { syncU s.core f with held := rest }
  have he := semOf_setSync_held s.core f op.sem rest
  change _ = e at he
  generalize setSync s.core f { syncU s.core f with held := rest } = c at *
  refine ⟨fun hn => ⟨_, hex, ?_⟩, fun hn => ⟨_, hex, ?_⟩⟩
  · obtain ⟨h1, h2, h3, -⟩ := judgeGate_met c (f := f) (s := op.sem) (n := op.n) (by rw [hc]; exact hg) (by rw [he]; exact hv)
      (by rw [he]; exact hp) (by rw [he]; exact hn)
    rw [hc] at h3
    rw [he] at h1
    rw [applyPoisons_of_head _ (by rw [h3]; exact hhead)]
    exact ⟨h1, h2, h3, hst, rfl⟩
  · obtain ⟨h1, h2, h3, -⟩ := judgeGate_unmet c (f := f) (s := op.sem) (n := op.n) (by rw [hc]; exact hg) (by rw [he]; exact hv)
      (by rw [he]; exact hp) (by rw [he]; exact hn)
    rw [hc] at h1 h3
    rw [applyPoisons_of_head _ (by rw [h3]; exact hhead)]
    exact ⟨h1, h2, h3, hst, rfl⟩

/-! ### The decision point -/

/-- On an empty queue a judgement takes its turn at once. -/
theorem submitGate_of_held_nil {c : Core} {f : Nat} (s n : Nat) (h : (syncU c f).held = []) :
    ∃ d, submitGate c f s n = judgeGate d f s n ∧ syncU d f = syncU c f ∧ Quiet c d ∧ d.alm = c.alm := by
  let op : SyncOp := { issuer := mgmt, kind := .gate, sem := s, n := n, cookie := 0, slot := 0, back := .unit }
  have hu : syncU (holdOp c f op) f = { syncU c f with held := [op] } := by rw [holdOp, syncU_setSync, h]; rfl
  have hn : { syncU c f with held := [] } = syncU c f := by rw [← h]
  refine ⟨setSync (holdOp c f op) f { syncU (holdOp c f op) f with held := [] }, ?_, ?_, (quiet_holdOp c f op).trans (quiet_setSync _ f _), rfl⟩
  · have : submitGate c f s n = applyGates (holdOp c f op) f 1 := by rw [submitGate, h]; rfl
    rw [this, applyGates, hu]
    rfl
  · rw [syncU_setSync, hu]
    exact hn

section
variable {s : State} {tp : Template}

/-- The core in which the gates of a frame are judged. -/
def atDecision (c : Core) : Core :=
  modAlm (reachTick c (boundaryTick c (obj c Key.frameCount + 1) - obj c Key.holdLead)) fun a => { a with decided := true }

theorem exec_decisionPoint (hr : Runs s) (ht : curTemplate s.core = some tp) (ha : almState s.core = 4) (hd : s.core.alm.decided = false) :
    exec .decisionPoint s = .next { s with
      core := let c := tp.gates.foldl (fun c g => submitGate c g.field g.sem g.n) (atDecision s.core)
              if gatesMet c then c else overrun c (obj s.core Key.frameCount + 1) (obj s.core Key.frameCount + 1) } := by
  have he : exec .decisionPoint s = execDecisionPoint s := rfl
  rw [he, execDecisionPoint, onCore_powered _ (runs_powered hr)]
  simp only [ht, ha, hd, ne_eq, not_true_eq_false, Bool.false_eq_true, or_self, if_false]
  rfl

theorem Quiet.curTemplate {c d : Core} (h : Quiet c d) : Machine.curTemplate d = Machine.curTemplate c :=
  curTemplate_congr h.image (h.objs _ (by decide))

/-- With one gate, the gates of a frame are met where that one is. -/
theorem gatesMet_one {c : Core} {g : GateDecl} (ht : curTemplate c = some tp) (hg : tp.gates = [g]) : gatesMet c = gateMet c g.field g.sem := by
  simp [gatesMet, ht, hg]

/-- What the way to the decision point leaves. -/
theorem atDecision_spec (c : Core) :
    (atDecision c).alm = { c.alm with decided := true } ∧ (atDecision c).ev = c.ev ∧ (atDecision c).fl = c.fl
      ∧ curTemplate (atDecision c) = curTemplate c ∧ jobPorts (atDecision c) = jobPorts c := by
  have h := reached_passTicks c (boundaryTick c (obj c Key.frameCount + 1) - obj c Key.holdLead - obj c Key.domainTick)
  have hfl := passTicks_fl c (boundaryTick c (obj c Key.frameCount + 1) - obj c Key.holdLead - obj c Key.domainTick)
  rw [atDecision, reachTick]
  generalize passTicks (boundaryTick c (obj c Key.frameCount + 1) - obj c Key.holdLead - obj c Key.domainTick) c = d at *
  have ht : curTemplate (modAlm d fun a => { a with decided := true }) = curTemplate d := curTemplate_congr rfl rfl
  have hj : jobPorts (modAlm d fun a => { a with decided := true }) = jobPorts d := jobPorts_congr (fun _ _ => rfl) rfl fun p => ⟨_, rfl⟩
  refine ⟨by rw [modAlm, h.alm], h.ev, hfl, ht.trans (curTemplate_congr (by rw [h.alm]) (h.objs _ (by decide))), hj.trans h.jobPorts⟩

/-- The one gate of a frame is judged, on a unit whose queue is empty. -/
theorem oneGateJudged {g : GateDecl} (hr : Runs s) (ht : curTemplate s.core = some tp) (ha : almState s.core = 4)
    (hd : s.core.alm.decided = false) (hg : tp.gates = [g]) (hheld : (syncU s.core g.field).held = []) :
    ∃ d, exec .decisionPoint s = .next { s with
        core := if gateMet (judgeGate d g.field g.sem g.n) g.field g.sem then judgeGate d g.field g.sem g.n
                else overrun (judgeGate d g.field g.sem g.n) (obj s.core Key.frameCount + 1) (obj s.core Key.frameCount + 1) }
      ∧ syncU d g.field = syncU s.core g.field ∧ d.alm = { s.core.alm with decided := true }
      ∧ (judgeGate d g.field g.sem g.n).ev = s.core.ev ∧ jobPorts (judgeGate d g.field g.sem g.n) = jobPorts s.core := by
  obtain ⟨h1, h2, h3, h4, h5⟩ := atDecision_spec s.core
  have hex := exec_decisionPoint hr ht ha hd
  have hu : syncU (atDecision s.core) g.field = syncU s.core g.field := by rw [syncU, fld, h3, syncU, fld]
  obtain ⟨d, hs, hsu, hq, hda⟩ := submitGate_of_held_nil (c := atDecision s.core) g.sem g.n (by rw [hu]; exact hheld)
  have hqj := hq.trans (quiet_judgeGate d g.field g.sem g.n)
  have hfold : tp.gates.foldl (fun c g => submitGate c g.field g.sem g.n) (atDecision s.core) = judgeGate d g.field g.sem g.n := by
    rw [hg, List.foldl_cons, List.foldl_nil, hs]
  have hm : gatesMet (judgeGate d g.field g.sem g.n) = gateMet (judgeGate d g.field g.sem g.n) g.field g.sem :=
    gatesMet_one (by rw [hqj.curTemplate, h4, ht]) hg
  simp only [hfold, hm] at hex
  exact ⟨d, hex, hsu.trans hu, hda.trans h1, hqj.ev.trans h2, hqj.toNoted.jobPorts.trans h5⟩

end

theorem decisionPointJudgesTheGates : Goals.DecisionPointJudgesTheGates := by
  intro s tp hr ht b
  refine ⟨fun ha hd hh => ⟨fun hg => ⟨_, exec_decisionPoint hr ht ha hd, ?_⟩, fun g hg hgf hheld hgates => ?_⟩, fun hn => ?_⟩
  · obtain ⟨h1, h2, h3, h4, -⟩ := atDecision_spec s.core
    have hm : gatesMet (atDecision s.core) = true := by simp [gatesMet, h4, ht, hg]
    simp only [hg, List.foldl_nil, hm, if_true]
    exact ⟨h1, h2, h3, trivial⟩
  · intro e hv hp
    obtain ⟨d, hex, hu, hda, hev, hj⟩ := oneGateJudged hr ht ha hd hg hheld
    have he : semOf d g.field g.sem = e := by rw [semOf, hu]; rfl
    refine ⟨fun hn => ?_, fun hn => ?_⟩
    · obtain ⟨h1, h2, h3, h4⟩ := judgeGate_met d (f := g.field) (s := g.sem) (n := g.n) (by rw [hu]; exact hgates) (by rw [he]; exact hv)
        (by rw [he]; exact hp) (by rw [he]; exact hn)
      have h4' := h4 (by rw [hda]; exact hh)
      rw [hu, hheld] at h3
      rw [he] at h1
      generalize judgeGate d g.field g.sem g.n = t at *
      have hm : gateMet t g.field g.sem = true := by simp [gateMet, h2, h3]
      rw [if_pos hm] at hex
      exact ⟨_, hex, by rw [h4', hda], h1, rfl, by rw [h4', hda], by rw [hev]⟩
    · obtain ⟨h1, h2, h3, h4⟩ := judgeGate_unmet d (f := g.field) (s := g.sem) (n := g.n) (by rw [hu]; exact hgates) (by rw [he]; exact hv)
        (by rw [he]; exact hp) (by rw [he]; exact hn)
      rw [hda] at h4
      generalize judgeGate d g.field g.sem g.n = t at *
      have hm : gateMet t g.field g.sem = false := by simp [gateMet, h2]
      rw [hm, if_neg Bool.false_ne_true] at hex
      have hO := overrun_overrun t (obj s.core Key.frameCount + 1) (obj s.core Key.frameCount + 1)
      generalize overrun t (obj s.core Key.frameCount + 1) (obj s.core Key.frameCount + 1) = r at *
      refine ⟨_, hex, ?_, ?_, ?_, rfl, ?_, hO.noticed, fun hb => ?_⟩
      · rw [hO.alm, h4]
      · rw [hO.syncU, h2]
      · rw [semOf, hO.syncU, h1, ← he, semOf]
      · have : tgetD r.ev.counts 0x0608 0 = min (tgetD s.core.ev.counts 0x0608 0 + 1) (2 ^ 32 - 1) := by
          rw [hO.counts, tgetD_tset_self, hev]
        exact this
      · rw [← hj]
        exact hO.sent (by rw [h4]; exact hb)
  · have he : exec .decisionPoint s = execDecisionPoint s := rfl
    rw [he, execDecisionPoint, onCore_powered _ (runs_powered hr)]
    simp only [ht]
    rw [if_pos hn]

end Sys2Proof.Machine

namespace Sys2Proof.Machine

/-! ## Markers (O59) -/

section
variable {s : State} {p count : Nat} {hold : Bool} {phase : Int}

theorem exec_frameMarker (hr : Runs s) (hp : p < 16) (hu : pstate s.core p = 3) (ha : almState s.core = 4 ∨ almState s.core = 5) :
    exec (.frameMarker p count hold phase) s =
      .next { s with core := driftCheck (markerPhase (markerCount s.core p count) p phase) } := by
  have he : exec (.frameMarker p count hold phase) s = execFrameMarker p count hold phase s := rfl
  rw [he, execFrameMarker, inRange_lt hp, onCore_powered _ (runs_powered hr), if_neg (by simp only [hu]; omega)]

/-- The record of a marker's phase (R404). -/
def phaseKept (c : Core) (p : Nat) (phase : Int) : Core :=
  if inJob c (portOf c p).peerMod then
    modClk c fun k => { k with phase := tset k.phase p phase, lastMarker := obj c Key.uptimeTicks } else c

theorem phaseKept_parts (c : Core) : phaseKept c p phase = { c with clk := (phaseKept c p phase).clk }
    ∧ (phaseKept c p phase).clk.recovered = c.clk.recovered := by
  unfold phaseKept
  split
  · exact ⟨rfl, rfl⟩
  · exact ⟨rfl, rfl⟩

theorem recoveredMode_congr {c d : Core} (ho : ∀ k ∈ [Key.monitorMode, Key.refActive], obj d k = obj c k)
    (hk : d.clk.recovered = c.clk.recovered) : recoveredMode d = recoveredMode c := by
  simp only [recoveredMode, ho _ (List.mem_cons_self), ho Key.refActive (by simp), hk]

/-- A phase in range, or of no reference port in RECOVERED mode, is kept and no more (R404). -/
theorem markerPhase_kept {c : Core} (h : recoveredMode c = false ∨ phase.natAbs ≤ 32 ∨ obj c Key.refPort ≠ p) :
    markerPhase c p phase = phaseKept c p phase := by
  obtain ⟨hp, hk⟩ := phaseKept_parts (p := p) (phase := phase) c
  have ho (k : Nat) : obj (phaseKept c p phase) k = obj c k := by rw [hp]; rfl
  have hr : recoveredMode (phaseKept c p phase) = recoveredMode c := recoveredMode_congr (fun k _ => ho k) hk
  have hm : markerPhase c p phase = if recoveredMode (phaseKept c p phase) && p = obj (phaseKept c p phase) Key.refPort
      && decide (32 < phase.natAbs) then unready (phaseKept c p phase) (2 + p) else phaseKept c p phase := rfl
  rw [hm, hr, ho]
  refine if_neg fun hc => ?_
  simp only [Bool.and_eq_true, decide_eq_true_eq] at hc
  obtain ⟨⟨h1, h2⟩, h3⟩ := hc
  rcases h with h | h | h
  · rw [h] at h1; cases h1
  · omega
  · exact h h2.symm

/-- A marker whose phase is no more than kept, where the reference is not HOLDOVER. -/
theorem frameMarker_kept {c : Core} (h3 : obj c Key.refActive ≠ 3)
    (h : recoveredMode c = false ∨ phase.natAbs ≤ 32 ∨ obj c Key.refPort ≠ p) :
    driftCheck (markerPhase c p phase) = phaseKept c p phase := by
  rw [markerPhase_kept h, driftCheck_of_ref]
  rw [(phaseKept_parts c).1]
  exact h3

/-- A marker of another count (R20). -/
theorem markerCount_other {c : Core} (h : count ≠ c.alm.hold.heldAt.getD (obj c Key.frameCount)) :
    let d := markerCount c p count
    d.alm = { c.alm with mismatch := true } ∧ d.ev.counts = tset c.ev.counts 0x0601 (min (tgetD c.ev.counts 0x0601 0 + 1) (2 ^ 32 - 1))
      ∧ (∀ k, k ∉ bookkeepingKeys → obj d k = obj c k) ∧ d.clk = c.clk := by
  let e : Core := modAlm (draw (draw c).2).2 fun a => { a with mismatch := true }
  have hd : markerCount c p count = raise e 0x0601 .report mgmt 0 [Config.freeNat (draw c).1, p, Config.freeNat (draw (draw c).2).1] := if_neg h
  have hn := noted_raise e 0x0601 .report mgmt 0 [Config.freeNat (draw c).1, p, Config.freeNat (draw (draw c).2).1]
  rw [hd]
  exact ⟨raise_alm e _ _ _ _ nofun, raise_counts e _ _ _ _ _, hn.objs, hn.clk⟩

end

theorem markersCarryTheCount : Goals.MarkersCarryTheCount := by
  intro s p count hold phase hr hp own
  refine ⟨fun hu ha href hc => ⟨fun hown => ⟨_, exec_frameMarker hr hp hu ha, ?_⟩, fun hown => ⟨_, exec_frameMarker hr hp hu ha, ?_⟩⟩, fun hn => ?_⟩
  · have hm : markerCount s.core p count = s.core := if_pos hown
    rw [hm, frameMarker_kept href hc]
    have hk := (phaseKept_parts (p := p) (phase := phase) s.core).1
    refine ⟨by rw [hk], by rw [hk], by rw [hk], rfl, fun hj => ?_⟩
    simp only [phaseKept, hj, if_true]
    exact tget_tset_self ..
  · obtain ⟨h1, h2, h3, h4⟩ := markerCount_other (p := p) hown
    generalize markerCount s.core p count = c at *
    have hrec : recoveredMode c = recoveredMode s.core := recoveredMode_congr (fun k hk => h3 k (by
      simp only [List.mem_cons, List.not_mem_nil, or_false] at hk
      rcases hk with rfl | rfl <;> decide)) (by rw [h4])
    rw [frameMarker_kept (by rw [h3 _ (by decide)]; exact href) (by rw [hrec, h3 _ (by decide)]; exact hc)]
    have hk := (phaseKept_parts (p := p) (phase := phase) c).1
    refine ⟨by rw [hk]; exact h1, ?_, rfl⟩
    have : tgetD (phaseKept c p phase).ev.counts 0x0601 0 = min (tgetD s.core.ev.counts 0x0601 0 + 1) (2 ^ 32 - 1) := by
      rw [hk]
      exact (congrArg (fun t => tgetD t 0x0601 0) h2).trans (tgetD_tset_self _ _ _ _)
    exact this
  · have he : exec (.frameMarker p count hold phase) s = execFrameMarker p count hold phase s := rfl
    rw [he, execFrameMarker, inRange_lt hp, onCore_powered _ (runs_powered hr), if_pos hn]

end Sys2Proof.Machine

namespace Sys2Proof.Machine

/-! ## Notices of the hold protocol, and the end of a hold (O59) -/

section
variable {s : State}

theorem holdNoticeNew (hr : Runs s) {p b : Nat} (hp : p < 16) (hu : pstate s.core p = 3) (hrun : running s.core = true)
    (hb : b ∉ s.core.alm.hold.notices) :
    NextWith (exec (.holdNotice p b) s) fun t =>
      t.core.alm.hold = { s.core.alm.hold with notices := s.core.alm.hold.notices ++ [b] }
      ∧ t.core.host.out = s.core.host.out ++ (jobPorts s.core).map (fun q => .notice q (.hold b))
      ∧ (almState s.core ≠ 5 → obj s.core Key.frameCount < b → obj t.core Key.holdState = 1) ∧ t.mem = s.mem := by
  have he : exec (.holdNotice p b) s = execHoldNotice p b s := rfl
  rw [he, execHoldNotice, inRange_lt hp, onCore_powered _ (runs_powered hr), if_neg (by simp [hu, hrun, hb])]
  have ha := floodOn_alm (modHold s.core fun h => { h with notices := h.notices ++ [b] }) (jobPorts s.core) (.hold b)
  have hd := floodOn_dict (modHold s.core fun h => { h with notices := h.notices ++ [b] }) (jobPorts s.core) (.hold b)
  have ho := floodOn_out (modHold s.core fun h => { h with notices := h.notices ++ [b] }) (jobPorts s.core) (.hold b)
  generalize floodOn (modHold s.core fun h => { h with notices := h.notices ++ [b] }) (jobPorts s.core) (.hold b) = c at *
  have hobj (k : Nat) : obj c k = obj s.core k := by rw [obj, hd]; rfl
  have hhold : c.alm.hold = { s.core.alm.hold with notices := s.core.alm.hold.notices ++ [b] } := by rw [ha]; rfl
  refine ⟨_, rfl, ?_, ?_, fun h5 hlt => ?_, rfl⟩
  · dsimp only
    split
    · exact hhold
    · exact hhold
  · dsimp only
    split
    · exact ho
    · exact ho
  · have h5' : almState c ≠ 5 := by rwa [almState, hobj]
    have hany : (c.alm.hold.notices.any fun n => decide (obj c Key.frameCount < n)) = true := by
      rw [hhold, hobj]
      exact List.any_eq_true.2 ⟨b, by simp, decide_eq_true hlt⟩
    dsimp only
    rw [if_neg h5', holdDecided_eq, obj_setObj, hany]; rfl

theorem holdNoticeSeen (hr : Runs s) {p b : Nat} (hp : p < 16) (h : b ∈ s.core.alm.hold.notices ∨ running s.core = false) :
    exec (.holdNotice p b) s = .next s := by
  have he : exec (.holdNotice p b) s = execHoldNotice p b s := rfl
  have hc : pstate s.core p ≠ 3 ∨ (!running s.core) = true ∨ s.core.alm.hold.notices.contains b = true := by
    rcases h with h | h
    · exact .inr (.inr (by simpa using h))
    · exact .inr (.inl (by rw [h]; rfl))
  rw [he, execHoldNotice, inRange_lt hp, onCore_powered _ (runs_powered hr), if_pos hc]

theorem readyNoticeNew (hr : Runs s) {m b : Nat} (hrun : running s.core = true) (hb : (m, b) ∉ s.core.alm.hold.ready) :
    NextWith (exec (.readyNotice m b) s) fun t =>
      t.core.alm.hold.ready = s.core.alm.hold.ready ++ [(m, b)] ∧ Goals.sent t (jobPorts s.core) (.ready m b) ∧ t.mem = s.mem
      ∧ (s.core.alm.hold.heldAt = none → t.core.alm.hold = { s.core.alm.hold with ready := s.core.alm.hold.ready ++ [(m, b)] }) := by
  have he : exec (.readyNotice m b) s = execReadyNotice m b s := rfl
  rw [he, execReadyNotice, onCore_powered _ (runs_powered hr), if_neg (by simp [hrun, hb])]
  have ha := floodOn_alm (modHold s.core fun h => { h with ready := h.ready ++ [(m, b)] }) (jobPorts s.core) (.ready m b)
  have ho := floodOn_sent (modHold s.core fun h => { h with ready := h.ready ++ [(m, b)] }) (jobPorts s.core) (.ready m b)
  generalize floodOn (modHold s.core fun h => { h with ready := h.ready ++ [(m, b)] }) (jobPorts s.core) (.ready m b) = c at *
  have hhold : c.alm.hold = { s.core.alm.hold with ready := s.core.alm.hold.ready ++ [(m, b)] } := by rw [ha]; rfl
  refine ⟨_, rfl, ?_, (quiet_resumeCheck c).sent ho, rfl, fun hn => ?_⟩
  · rw [ready_resumeCheck, hhold]
  · have hcn : c.alm.hold.heldAt = none := by rw [hhold]; exact hn
    rw [show resumeCheck c = c by rw [resumeCheck, hcn]]
    exact hhold

theorem readyNoticeSeen (hr : Runs s) {m b : Nat} (h : (m, b) ∈ s.core.alm.hold.ready) : exec (.readyNotice m b) s = .next s := by
  have he : exec (.readyNotice m b) s = execReadyNotice m b s := rfl
  rw [he, execReadyNotice, onCore_powered _ (runs_powered hr), if_pos (.inr (by simpa using h))]

theorem resumeNoticeNew (hr : Runs s) {b r : Nat} (hh : s.core.alm.hold.heldAt = some b) (hn : s.core.alm.hold.resume = none) :
    NextWith (exec (.resumeNotice b r) s) fun t =>
      t.core.alm.hold = { s.core.alm.hold with resume := some r } ∧ obj t.core Key.holdState = 3
      ∧ Goals.sent t (jobPorts s.core) (.resume b r) ∧ t.mem = s.mem := by
  have he : exec (.resumeNotice b r) s = execResumeNotice b r s := rfl
  rw [he, execResumeNotice, onCore_powered _ (runs_powered hr), if_neg (by simp [hh, hn])]
  refine ⟨_, rfl, ?_, ?_, floodOn_sent _ _ _, rfl⟩
  · rw [floodOn_alm]; rfl
  · rw [obj, floodOn_dict]
    exact obj_setObj (modHold s.core fun h => { h with resume := some r }) Key.holdState 3

theorem resumeNoticeOther (hr : Runs s) {b r : Nat} (h : s.core.alm.hold.heldAt ≠ some b ∨ s.core.alm.hold.resume ≠ none) :
    exec (.resumeNotice b r) s = .next s := by
  have he : exec (.resumeNotice b r) s = execResumeNotice b r s := rfl
  rw [he, execResumeNotice, onCore_powered _ (runs_powered hr), if_pos (h.imp_right Option.isSome_iff_ne_none.2)]

/-! ### The end of a hold -/

theorem loseSilent_parts (c : Core) (b : Nat) : loseSilent c b = { c with alm := { c.alm with lost := (loseSilent c b).alm.lost } } := by
  unfold loseSilent
  split <;> rfl

theorem exec_resumeAt (hr : Runs s) {b r : Nat} (hh : s.core.alm.hold.heldAt = some b) (hn : s.core.alm.hold.resume = some r)
    (hv : s.core.alm.voted = false) (hno : Goals.noStop s b) :
    ∃ n, exec .resumeAt s = .next { s with core := enterFrame (loseSilent (passTicks n s.core) b) b } := by
  have he : exec .resumeAt s = execResumeAt s := rfl
  obtain ⟨h1, h2, h3⟩ := hno
  refine ⟨r - heldTick s.core, ?_⟩
  rw [he, execResumeAt, onBoth_powered _ (runs_powered hr)]
  have ha := passTicks_alm s.core (r - heldTick s.core)
  generalize hc : passTicks (r - heldTick s.core) s.core = c at *
  have hk : stopCause c b 0 = 0 := stopCause_none (by rw [ha, h1]) (by rw [ha, h2]) (by rw [ha]; exact h3)
  have hout : outcomeMem s.mem c 0 = (c, s.mem) := rfl
  have hact : actOutcome c 0 = c := rfl
  simp only [hh, hn, hc, ha, hv, Bool.false_eq_true, if_false, hout, hact, hk, ne_eq, not_true_eq_false]

theorem resumes (hr : Runs s) {b r : Nat} (hh : s.core.alm.hold.heldAt = some b) (hn : s.core.alm.hold.resume = some r)
    (hv : s.core.alm.voted = false) (hno : Goals.noStop s b) : NextWith (exec .resumeAt s) fun t =>
      almState t.core = 4 ∧ obj t.core Key.frameCount = b ∧ t.core.alm.hold.heldAt = none ∧ t.core.alm.hold.resume = none ∧ t.mem = s.mem
      ∧ obj t.core Key.domainTick = obj s.core Key.domainTick ∧ Goals.sent t (upPorts s.core) (.marker b false) := by
  obtain ⟨n, hex⟩ := exec_resumeAt hr hh hn hv hno
  refine ⟨_, hex, ?_⟩
  have hre := reached_passTicks s.core n
  have hd := domainTick_passTicks s.core n
  rw [hh, Option.isSome_some, if_pos rfl] at hd
  generalize passTicks n s.core = c at *
  have hp := loseSilent_parts c b
  have hE := entered_enterFrame (loseSilent c b) b
  have hup : upPorts (loseSilent c b) = upPorts s.core := by
    rw [← hre.upPorts]
    exact upPorts_congr (fun k _ => by rw [hp]; rfl) fun p => by rw [hp]; rfl
  have hdt : obj (loseSilent c b) Key.domainTick = obj c Key.domainTick := by rw [hp]; rfl
  generalize loseSilent c b = d at *
  generalize enterFrame d b = e at *
  refine ⟨hE.almState, hE.frameCount, by rw [hE.alm], by rw [hE.alm], rfl, (hE.objs _ (by decide)).trans (hdt.trans hd), fun p hp' => ?_⟩
  obtain ⟨l, hl, -⟩ := hE.out
  rw [hl, hup]
  exact List.mem_append_right _ (List.mem_map_of_mem (f := fun p => OutMsg.notice p (.marker b false)) hp')

/-- The core as the slot grid of the ended frame begins again in a hold. -/
def gridRepeated (c : Core) (b : Nat) : Core := readyCheck (floodOn (newGrid c) (upPorts (newGrid c)) (.marker b true))

theorem exec_heldGridRepeat (hr : Runs s) {b : Nat} (hh : s.core.alm.hold.heldAt = some b) (hn : s.core.alm.hold.resume = none) :
    ∃ n, exec .heldGridRepeat s = .next { s with core := gridRepeated (closeLeaps (passTicks n s.core)) b } := by
  have he : exec .heldGridRepeat s = execHeldGridRepeat s := rfl
  refine ⟨max 1 (obj s.core Key.frameTicks)
    - (obj s.core Key.uptimeTicks - s.core.alm.hold.since) % max 1 (obj s.core Key.frameTicks), ?_⟩
  rw [he, execHeldGridRepeat, onCore_powered _ (runs_powered hr)]
  simp only [hh, hn, Bool.false_eq_true, if_false]
  rfl

theorem heldGridRepeats (hr : Runs s) {b : Nat} (hh : s.core.alm.hold.heldAt = some b) (hn : s.core.alm.hold.resume = none) :
    NextWith (exec .heldGridRepeat s) fun t =>
      Goals.sent t (upPorts s.core) (.marker b true) ∧ obj t.core Key.domainTick = obj s.core Key.domainTick
      ∧ t.core.alm.hold.heldAt = some b ∧ (∀ i, (ctxOf t.core i).missed = false ∨ ctxOf t.core i = Ctx.reset) ∧ t.mem = s.mem := by
  obtain ⟨n, hex⟩ := exec_heldGridRepeat hr hh hn
  refine ⟨_, hex, ?_⟩
  have hd := domainTick_passTicks s.core n
  rw [hh, Option.isSome_some, if_pos rfl] at hd
  have hre := (reached_passTicks s.core n).trans (clocked_closeLeaps (passTicks n s.core)).reached
  have hdc := (clocked_closeLeaps (passTicks n s.core)).objs Key.domainTick (by decide)
  generalize closeLeaps (passTicks n s.core) = c at *
  rw [gridRepeated]
  have hg := gridded_newGrid c
  have hup : upPorts (newGrid c) = upPorts s.core := by
    rw [← hre.upPorts]
    refine upPorts_congr (fun k _ => hg.obj k) fun p => ?_
    obtain ⟨u, hu⟩ := hg.ports p
    rw [hu]
  generalize newGrid c = d at *
  rw [hup]
  have hs := floodOn_sent d (upPorts s.core) (.marker b true)
  have hq := (quiet_floodOn d (upPorts s.core) (.marker b true)).trans (quiet_readyCheck (floodOn d (upPorts s.core) (.marker b true)))
  have hfab : (readyCheck (floodOn d (upPorts s.core) (.marker b true))).fab = d.fab := by
    rw [readyCheck_fab, floodOn_parts]; rfl
  have hs' := (quiet_readyCheck (floodOn d (upPorts s.core) (.marker b true))).sent hs
  generalize readyCheck (floodOn d (upPorts s.core) (.marker b true)) = e at *
  refine ⟨hs', ?_, ?_, fun i => .inl ?_, rfl⟩
  · rw [hq.objs _ (by decide), hg.obj, hdc, hd]
  · rw [hq.heldAt, hg.alm, hre.alm, hh]
  · rw [ctxOf, hfab, ← ctxOf, hg.ctxs]

end

theorem holdsAndResumes : Goals.HoldsAndResumes := by
  intro s hr hs ps
  refine ⟨fun p b hp hu hrun hb => holdNoticeNew hr hp hu hrun hb, fun p b hp h => holdNoticeSeen hr hp h,
    fun m b hrun hb => readyNoticeNew hr hrun hb, fun m b h => readyNoticeSeen hr h, fun b r hh hn => resumeNoticeNew hr hh hn,
    fun b r h => resumeNoticeOther hr h, fun b r hh hn hv hno => resumes hr hh hn hv hno, fun h => ?_,
    fun b hh hn => heldGridRepeats hr hh hn, fun h => ?_⟩
  · have he : exec .resumeAt s = execResumeAt s := rfl
    rw [he, execResumeAt, onBoth_powered _ (runs_powered hr)]
    split
    · next b r h1 h2 => exact absurd h (by rw [show hs = s.core.alm.hold from rfl, h1, h2]; simp)
    · rfl
  · have he : exec .heldGridRepeat s = execHeldGridRepeat s := rfl
    have h' : s.core.alm.hold.heldAt = none := h
    rw [he, execHeldGridRepeat, onCore_powered _ (runs_powered hr)]
    simp only [h']

end Sys2Proof.Machine

namespace Sys2Proof.Machine

/-! ## Flows that abort (R303, R313): what the loss of one leaves of the others -/

/-- Every context keeps its kind and state, and the module its ID. -/
structure FlowsStand (c d : Core) : Prop where
  kind : ∀ i, (ctxOf d i).kind = (ctxOf c i).kind
  state : ∀ i, (ctxOf d i).state = (ctxOf c i).state
  own : ownMod d = ownMod c

namespace FlowsStand

variable {c d e : Core}

theorem refl (c : Core) : FlowsStand c c := ⟨fun _ => rfl, fun _ => rfl, rfl⟩

theorem trans (h : FlowsStand c d) (k : FlowsStand d e) : FlowsStand c e :=
  ⟨fun i => (k.kind i).trans (h.kind i), fun i => (k.state i).trans (h.state i), k.own.trans h.own⟩

theorem foldl {α : Type} {f : Core → α → Core} (h : ∀ c x, FlowsStand c (f c x)) (l : List α) (c : Core) : FlowsStand c (l.foldl f c) := by
  induction l generalizing c with
  | nil => exact refl c
  | cons x l ih => exact (h c x).trans (ih _)

theorem of_noted (h : Noted c d) : FlowsStand c d where
  kind i := by obtain ⟨q, n, hc⟩ := h.ctxs i; rw [hc]
  state i := by obtain ⟨q, n, hc⟩ := h.ctxs i; rw [hc]
  own := h.objs _ (by decide)

theorem of_quiet (h : Quiet c d) : FlowsStand c d := of_noted h.toNoted

theorem of_eq (hc : d.fab.ctxs = c.fab.ctxs) (hd : d.dict = c.dict) : FlowsStand c d where
  kind i := by rw [ctxOf, hc, ctxOf]
  state i := by rw [ctxOf, hc, ctxOf]
  own := by rw [ownMod, obj, hd, ownMod, obj]

theorem addObj (c : Core) {k : Nat} (n : Nat) (h : Key.moduleId ≠ k) : FlowsStand c (addObj c k n) :=
  ⟨fun _ => rfl, fun _ => rfl, obj_addObj_ne c n h⟩

theorem setStrm (c : Core) (g st : Nat) (x : Stream) : FlowsStand c (Machine.setStrm c g st x) := of_eq rfl rfl

end FlowsStand

section
variable (c : Core)

open FlowsStand

/-! ### Streams and reductions that lose a transfer -/

theorem flowsStand_signalFull (g d : Nat) : FlowsStand c (signalFull c g d) := by
  unfold signalFull
  extract_lets r rec' e
  split
  · have he : FlowsStand c e := FlowsStand.addObj c 1 (by decide)
    split
    · exact he.trans (FlowsStand.foldl (fun c f => of_quiet (quiet_holdOp c f _)) _ e)
    · exact he
  · split
    · exact of_quiet (quiet_holdOp c _ _)
    · exact FlowsStand.refl c

theorem flowsStand_settleFault (g st : Nat) : FlowsStand c (settleFault c g st) := by
  unfold settleFault
  extract_lets x d due c1 fields c2
  split
  · exact FlowsStand.refl c
  · have h1 : FlowsStand c c1 :=
      (FlowsStand.foldl (fun c _ => flowsStand_signalFull c g d) due c).trans (FlowsStand.setStrm _ g st _)
    have h2 : FlowsStand c1 c2 := by
      unfold c2; split
      · exact FlowsStand.foldl (fun c f => of_quiet (quiet_holdPoison c f _ g 5)) fields c1
      · exact FlowsStand.refl c1
    split
    · exact (h1.trans h2).trans (of_quiet (quiet_holdPoison c2 _ _ g 5))
    · exact h1.trans h2

theorem flowsStand_streamLost (g st what addr : Nat) : FlowsStand c (streamLost c g st what addr) := by
  unfold streamLost
  extract_lets x
  split
  · exact FlowsStand.refl c
  · have hr : FlowsStand c (raise c 0x0705 .report g (sTag x.active) [g, st, what]) := of_noted (noted_raise c _ _ _ _ _)
    refine hr.trans ?_
    generalize raise c 0x0705 .report g (sTag x.active) [g, st, what] = d
    unfold streamFault
    extract_lets y e
    split
    · exact FlowsStand.refl d
    · have he : FlowsStand d e := FlowsStand.setStrm d g st _
      exact (he.trans (FlowsStand.addObj e 1 (by decide))).trans (flowsStand_settleFault _ g st)

theorem flowsStand_hostReply (ctx seq typ port dest : Nat) (s : Status) : FlowsStand c (hostReply c ctx seq typ port dest s) := by
  unfold hostReply
  split
  · exact FlowsStand.refl c
  · split
    · exact of_quiet (((quiet_setSession c _ _).trans (quiet_sentOn _ _ _)).trans (quiet_send _ _))
    · exact FlowsStand.refl c

theorem flowsStand_giveReply (b : Back) (s : Status) : FlowsStand c (giveReply c b s) := by
  unfold giveReply
  split
  · exact FlowsStand.refl c
  · split
    · unfold askStop
      split
      · exact of_eq rfl rfl
      · exact FlowsStand.refl c
    · exact FlowsStand.refl c
  · exact flowsStand_hostReply c _ _ _ _ _ s
  all_goals exact of_eq rfl rfl

theorem flowsStand_awayReply (b : Back) (s : Status) : FlowsStand c (awayReply c b s) := by
  unfold awayReply
  split
  · exact (of_quiet (quiet_errStatus c s)).trans (flowsStand_giveReply _ _ s)
  all_goals exact flowsStand_giveReply c _ s

theorem flowsStand_loseCause (k : Cause) : FlowsStand c (loseCause c k) := by
  have hx (g x : Nat) : FlowsStand c (loseXfer c g x) := of_eq rfl rfl
  cases k with
  | none => exact FlowsStand.refl c
  | write g st x row => exact (hx g x).trans (FlowsStand.setStrm _ g st _)
  | read g st x row _ _ => exact (hx g x).trans (FlowsStand.setStrm _ g st _)
  | atomic g st x row => exact (hx g x).trans (FlowsStand.setStrm _ g st _)
  | index g _ x => exact hx g x
  | sync b _ => exact flowsStand_awayReply c b .lost
  | coll _ _ => exact FlowsStand.refl c

theorem flowsStand_loseReductions (peer : Nat) : FlowsStand c (loseReductions c peer) := by
  unfold loseReductions
  split
  · exact FlowsStand.refl c
  · refine FlowsStand.foldl (fun c ch => ?_) _ c
    dsimp only
    split
    · exact FlowsStand.refl c
    · split
      · exact FlowsStand.refl c
      · split
        · exact of_eq rfl rfl
        · exact FlowsStand.refl c

theorem flowsStand_poisonOwned (owner cause : Nat) : FlowsStand c (poisonOwned c owner cause) := by
  unfold poisonOwned
  refine FlowsStand.foldl (fun c f => ?_) _ c
  exact FlowsStand.foldl (f := fun c (p : Nat × Sem) => poison c f p.1 cause) (fun c p => of_quiet (quiet_poison c f p.1 cause)) _ c

theorem flowsStand_loseProxies (home : Nat) : FlowsStand c (loseProxies c home) := by
  unfold loseProxies
  extract_lets mine _ d
  have hd : FlowsStand c d := of_eq rfl rfl
  clear_value d
  exact hd.trans (FlowsStand.foldl (f := fun c p => sendWatch c p.2.waiter p.2.slot (proxyLost c p.2))
    (fun c p => of_quiet (quiet_sendWatch c _ _ _)) mine d)

theorem flowsStand_moduleLost (peer : Nat) : FlowsStand c (moduleLost c peer) := by
  unfold moduleLost
  split
  · exact FlowsStand.refl c
  · exact (flowsStand_poisonOwned c _ 3).trans (flowsStand_loseProxies _ peer)

theorem flowsStand_holdLoss (before : Core) : FlowsStand c (holdLoss before c) := by
  unfold holdLoss
  split
  · exact FlowsStand.refl c
  · next b _ =>
    extract_lets d
    have hd : FlowsStand c d := by
      unfold d; split
      · exact of_quiet (quiet_floodOn c _ _)
      · exact FlowsStand.refl c
    exact hd.trans (of_quiet (quiet_resumeCheck d))

/-! ### One flow -/

/-- What the abort of flow `i` does behind the change of its own context. -/
theorem flowsStand_lossWork (d : Core) (i cause peer : Nat) (lost : List (Nat × Cause)) :
    let e := raise { d with alm := { d.alm with marks := { d.alm.marks with lost := true } } } 0x0607 .step mgmt 0 [i, peer, cause]
    let e := lost.foldl (fun c p => loseCause c p.2) e
    let e := (lostStreams lost).foldl (fun c q => settleFault (streamLost c q.1 q.2.1 i q.2.2) q.1 q.2.1) e
    FlowsStand d (moduleLost (loseReductions e peer) peer) := by
  intro e1 e2 e3
  have h0 : FlowsStand d { d with alm := { d.alm with marks := { d.alm.marks with lost := true } } } := of_eq rfl rfl
  have h1 : FlowsStand d e1 := h0.trans (of_noted (noted_raise _ _ _ _ _ _))
  have h2 : FlowsStand e1 e2 := FlowsStand.foldl (f := fun c (p : Nat × Cause) => loseCause c p.2) (fun c p => flowsStand_loseCause c p.2) lost e1
  have h3 : FlowsStand e2 e3 := FlowsStand.foldl (f := fun c (q : Nat × Nat × Nat) => settleFault (streamLost c q.1 q.2.1 i q.2.2) q.1 q.2.1)
    (fun c q => (flowsStand_streamLost c _ _ _ _).trans (flowsStand_settleFault _ _ _)) (lostStreams lost) e2
  exact ((h1.trans h2).trans h3).trans ((flowsStand_loseReductions e3 peer).trans (flowsStand_moduleLost _ peer))

/-- The core as the abort of flow `i` leaves it, before what that means in a hold. -/
def flowLost (c : Core) (i cause : Nat) : Core :=
  let x := ctxOf c i
  let lost := outstanding c i
  let d := setCtx c i { x with state := 3, abortCause := cause, queue := [], store := [] }
  let d := { d with fab := { d.fab with reqs := d.fab.reqs.filter (fun r => r.2.1 ≠ i), lastLost := (i, x.peerMod, cause, obj d Key.frameCount) } }
  let d := raise { d with alm := { d.alm with marks := { d.alm.marks with lost := true } } } 0x0607 .step mgmt 0 [i, x.peerMod, cause]
  let d := lost.foldl (fun c p => loseCause c p.2) d
  let d := (lostStreams lost).foldl (fun c q => settleFault (streamLost c q.1 q.2.1 i q.2.2) q.1 q.2.1) d
  moduleLost (loseReductions d x.peerMod) x.peerMod

theorem abortFlow_eq (i cause : Nat) : abortFlow c i cause =
    if (ctxOf c i).kind ≠ 0 ∨ ((ctxOf c i).state ≠ 1 ∧ (ctxOf c i).state ≠ 2) then c
    else holdLoss c (if (ctxOf c i).state = 2 then freeCtx (flowLost c i cause) i else flowLost c i cause) := rfl

/-- The lost flow is ABORTED, the others stand. -/
theorem flowLost_spec (i cause : Nat) :
    (ctxOf (flowLost c i cause) i).state = 3 ∧ (ctxOf (flowLost c i cause) i).kind = (ctxOf c i).kind
      ∧ (∀ j, j ≠ i → (ctxOf (flowLost c i cause) j).kind = (ctxOf c j).kind ∧ (ctxOf (flowLost c i cause) j).state = (ctxOf c j).state)
      ∧ ownMod (flowLost c i cause) = ownMod c := by
  unfold flowLost
  extract_lets x lost d _ e _ _ _ _ h
  have hs : FlowsStand e (moduleLost (loseReductions h x.peerMod) x.peerMod) := flowsStand_lossWork e i cause x.peerMod lost
  have hi : ctxOf e i = { x with state := 3, abortCause := cause, queue := [], store := [] } := ctxOf_setCtx c i _
  have hj (j : Nat) (hn : j ≠ i) : ctxOf e j = ctxOf c j := tgetD_tset_ne c.fab.ctxs _ _ hn
  have ho : ownMod e = ownMod c := rfl
  generalize moduleLost (loseReductions h x.peerMod) x.peerMod = r at *
  clear_value e
  refine ⟨by rw [hs.state, hi], by rw [hs.kind, hi], fun j hn => ⟨by rw [hs.kind, hj j hn], by rw [hs.state, hj j hn]⟩, hs.own.trans ho⟩

end

end Sys2Proof.Machine

namespace Sys2Proof.Machine

/-! ## Holds that time out (R313) -/

/-- A flow context that is OPEN. -/
def FlowOpen (c : Core) (i : Nat) : Prop := (ctxOf c i).kind = 0 ∧ (ctxOf c i).state = 1

/-- A flow context that is ABORTED. -/
def FlowAborted (c : Core) (i : Nat) : Prop := (ctxOf c i).kind = 0 ∧ (ctxOf c i).state = 3

section
variable (c : Core) {i j : Nat} (cause : Nat)

/-! ### What aborts leave of the flows -/

theorem abortFlow_of_aborted (h : FlowAborted c i) : abortFlow c i cause = c := by
  rw [abortFlow_eq, if_pos (.inr (by rw [h.2]; decide))]

theorem abortFlow_of_open (h : FlowOpen c i) : FlowAborted (abortFlow c i cause) i := by
  obtain ⟨hs, hk, -, -⟩ := flowLost_spec c i cause
  rw [abortFlow_eq, if_neg (by simp [h.1, h.2]), if_neg (by rw [h.2]; decide)]
  have hl := flowsStand_holdLoss (flowLost c i cause) c
  exact ⟨by rw [hl.kind, hk, h.1], by rw [hl.state, hs]⟩

/-- A context that becomes FREE leaves the others. -/
theorem freeCtx_others (i : Nat) : (∀ j, j ≠ i → ctxOf (freeCtx c i) j = ctxOf c j) ∧ ownMod (freeCtx c i) = ownMod c := by
  rw [freeCtx]
  refine ⟨fun j h => ?_, obj_noteCtxs _ (by decide) (by decide)⟩
  rw [noteCtxs_parts, ctxOf, tgetD, tget_tdel_ne _ h, ctxOf, tgetD]

theorem abortFlow_others (i : Nat) :
    (∀ j, j ≠ i → (ctxOf (abortFlow c i cause) j).kind = (ctxOf c j).kind ∧ (ctxOf (abortFlow c i cause) j).state = (ctxOf c j).state)
      ∧ ownMod (abortFlow c i cause) = ownMod c := by
  obtain ⟨-, -, hj, ho⟩ := flowLost_spec c i cause
  obtain ⟨fj, fo⟩ := freeCtx_others (flowLost c i cause) i
  rw [abortFlow_eq]
  split
  · exact ⟨fun _ _ => ⟨rfl, rfl⟩, rfl⟩
  · generalize flowLost c i cause = d at *
    split
    · have hl := flowsStand_holdLoss (freeCtx d i) c
      exact ⟨fun j h => ⟨by rw [hl.kind, fj j h, (hj j h).1], by rw [hl.state, fj j h, (hj j h).2]⟩, (hl.own.trans fo).trans ho⟩
    · have hl := flowsStand_holdLoss d c
      exact ⟨fun j h => ⟨by rw [hl.kind, (hj j h).1], by rw [hl.state, (hj j h).2]⟩, hl.own.trans ho⟩

theorem FlowOpen.abortFlow_ne {c : Core} (h : FlowOpen c i) (hn : i ≠ j) : FlowOpen (abortFlow c j cause) i := by
  obtain ⟨hk, hs⟩ := (abortFlow_others c cause j).1 i hn
  exact ⟨hk.trans h.1, hs.trans h.2⟩

theorem FlowAborted.abortFlow {c : Core} (h : FlowAborted c i) (j : Nat) : FlowAborted (abortFlow c j cause) i := by
  by_cases hn : i = j
  · subst hn; rwa [abortFlow_of_aborted c cause h]
  · obtain ⟨hk, hs⟩ := (abortFlow_others c cause j).1 i hn
    exact ⟨hk.trans h.1, hs.trans h.2⟩

theorem FlowAborted.abortFlows (l : List Nat) {c : Core} (h : FlowAborted c i) :
    FlowAborted (l.foldl (fun c i => Machine.abortFlow c i cause) c) i := by
  induction l generalizing c with
  | nil => exact h
  | cons j l ih => exact ih (h.abortFlow cause j)

/-- Every open flow of a list is ABORTED once the list is. -/
theorem FlowOpen.abortFlows {l : List Nat} (hm : i ∈ l) {c : Core} (h : FlowOpen c i) :
    FlowAborted (l.foldl (fun c i => abortFlow c i cause) c) i := by
  induction l generalizing c with
  | nil => cases hm
  | cons j l ih =>
    by_cases hn : i = j
    · subst hn
      exact (abortFlow_of_open c cause h).abortFlows cause l
    · exact ih (List.mem_of_ne_of_mem hn hm) (h.abortFlow_ne cause hn)

theorem ownMod_abortFlows (l : List Nat) : ownMod (l.foldl (fun c i => abortFlow c i cause) c) = ownMod c := by
  induction l generalizing c with
  | nil => rfl
  | cons j l ih => exact (ih _).trans (abortFlow_others c cause j).2

end

/-! ### What the ticks to the timeout leave of what is awaited -/

namespace Reached

variable {c d : Core} (h : Reached c d)
include h

theorem ctxOf (i : Nat) : ctxOf d i = ctxOf c i := by rw [Machine.ctxOf, h.fab, Machine.ctxOf]

theorem awaited (b : Nat) : awaited d b = awaited c b := by
  have ht : curTemplate d = curTemplate c := curTemplate_congr (by rw [h.alm]) (h.objs _ (by decide))
  simp only [Machine.awaited, ht, h.alm, gateMet_congr (h.syncU _), semOf, h.syncU]

theorem awaitedFlows (b : Nat) : awaitedFlows d b = awaitedFlows c b := by
  simp only [Machine.awaitedFlows, h.awaited, h.alm, h.fab, outstanding, h.ctxOf]

theorem awaitedSessions (b : Nat) : awaitedSessions d b = awaitedSessions c b := by
  simp only [Machine.awaitedSessions, h.awaited, h.host]

end Reached

/-! ### The timeout -/

/-- The core as a hold has timed out. -/
def waitOver (c : Core) : Core := resumeCheck (modHold c fun h => { h with timedOut := true })

theorem waitOver_spec (c : Core) : (waitOver c).alm.hold.timedOut = true ∧ (waitOver c).alm.hold.heldAt = c.alm.hold.heldAt
    ∧ (waitOver c).alm.hold.ready = c.alm.hold.ready ∧ (waitOver c).alm.marks = c.alm.marks ∧ (waitOver c).ev = c.ev
    ∧ (waitOver c).fab = c.fab := by
  have hp := resumeCheck_parts (modHold c fun h => { h with timedOut := true })
  have hr := ready_resumeCheck (modHold c fun h => { h with timedOut := true })
  rw [waitOver]
  generalize resumeCheck (modHold c fun h => { h with timedOut := true }) = d at *
  exact ⟨congrArg (·.alm.hold.timedOut) hp, congrArg (·.alm.hold.heldAt) hp, hr, congrArg (·.alm.marks) hp, (congrArg Core.ev hp :),
    (congrArg Core.fab hp :)⟩

/-- A module that waits on no other raises HOLD_TIMEOUT. -/
theorem holdTimeout_waitsOnNone {c : Core} {b : Nat} (hf : awaitedFlows c b = []) (hs : awaitedSessions c b = []) :
    (holdTimeout c b).alm = { c.alm with marks := { c.alm.marks with lost := true } }
      ∧ tgetD (holdTimeout c b).ev.counts 0x0609 0 = min (tgetD c.ev.counts 0x0609 0 + 1) (2 ^ 32 - 1) := by
  rw [holdTimeout, if_pos (by simp [hf, hs])]
  refine ⟨raise_alm _ _ _ _ _ nofun, ?_⟩
  rw [raise_counts, tgetD_tset_self]

/-- A module that waits on flows aborts them, and then reports READY. -/
theorem holdTimeout_waitsOnFlows {c : Core} {b : Nat} (hf : awaitedFlows c b ≠ []) (hs : awaitedSessions c b = []) :
    (ownMod c, b) ∈ (holdTimeout c b).alm.hold.ready
      ∧ ∀ i ∈ awaitedFlows c b, FlowOpen c i → (ctxOf (holdTimeout c b) i).state = 3 := by
  have ho := ownMod_abortFlows c 3 (awaitedFlows c b)
  have ha (i : Nat) (hm : i ∈ awaitedFlows c b) (hi : FlowOpen c i) := hi.abortFlows 3 hm
  rw [holdTimeout, if_neg (by simp [hf]), hs]
  dsimp only [List.foldl_nil]
  generalize (awaitedFlows c b).foldl (fun c i => abortFlow c i 3) c = d at *
  refine ⟨?_, fun i hm hi => ?_⟩
  · rw [floodOn_alm, ← ho]
    exact List.mem_append_right _ (List.mem_singleton_self _)
  · rw [floodOn_parts]
    exact (ha i hm hi).2

section
variable {s : State} {b : Nat}

theorem exec_holdTimeout (hr : Runs s) (hh : s.core.alm.hold.heldAt = some b) (ht : s.core.alm.hold.timedOut = false)
    (hn : s.core.alm.hold.resume = none) :
    ∃ n, exec .holdTimeout s = .next { s with
      core := waitOver (if s.core.alm.hold.ready.contains (ownMod s.core, b) then passTicks n s.core
                        else holdTimeout (passTicks n s.core) b) } := by
  have he : exec .holdTimeout s = execHoldTimeout s := rfl
  refine ⟨s.core.alm.hold.since + obj s.core Key.partnerTimeout - obj s.core Key.uptimeTicks, ?_⟩
  rw [he, execHoldTimeout, onCore_powered _ (runs_powered hr)]
  have hre := reached_passTicks s.core (s.core.alm.hold.since + obj s.core Key.partnerTimeout - obj s.core Key.uptimeTicks)
  have ho : ownMod (passTicks (s.core.alm.hold.since + obj s.core Key.partnerTimeout - obj s.core Key.uptimeTicks) s.core) = ownMod s.core :=
    hre.objs _ (by decide)
  simp only [hh, ht, hn, hre.alm, ho, Bool.false_eq_true, Option.isSome_none, or_self, if_false]
  rfl

theorem readyModuleTimesOut (hr : Runs s) (hh : s.core.alm.hold.heldAt = some b) (ht : s.core.alm.hold.timedOut = false)
    (hn : s.core.alm.hold.resume = none) (hm : (ownMod s.core, b) ∈ s.core.alm.hold.ready) : NextWith (exec .holdTimeout s) fun t =>
      t.core.alm.hold.timedOut = true ∧ t.core.alm.hold.heldAt = some b ∧ t.core.ev = s.core.ev ∧ t.mem = s.mem := by
  obtain ⟨n, hex⟩ := exec_holdTimeout hr hh ht hn
  rw [if_pos (by simpa using hm)] at hex
  obtain ⟨h1, h2, -, -, h5, -⟩ := waitOver_spec (passTicks n s.core)
  exact ⟨_, hex, h1, by rw [h2, passTicks_alm, hh], by rw [h5, passTicks_ev], rfl⟩

theorem waitingOnNoneTimesOut (hr : Runs s) (hh : s.core.alm.hold.heldAt = some b) (ht : s.core.alm.hold.timedOut = false)
    (hn : s.core.alm.hold.resume = none) (hm : (ownMod s.core, b) ∉ s.core.alm.hold.ready) (hf : awaitedFlows s.core b = [])
    (hs : awaitedSessions s.core b = []) : NextWith (exec .holdTimeout s) fun t =>
      t.core.alm.hold.timedOut = true ∧ Goals.raised s t 0x0609 ∧ t.core.alm.marks = { s.core.alm.marks with lost := true } ∧ t.mem = s.mem := by
  obtain ⟨n, hex⟩ := exec_holdTimeout hr hh ht hn
  rw [if_neg (by simpa using hm)] at hex
  have hre := reached_passTicks s.core n
  generalize passTicks n s.core = c at *
  obtain ⟨ha, hc⟩ := holdTimeout_waitsOnNone ((hre.awaitedFlows b).trans hf) ((hre.awaitedSessions b).trans hs)
  obtain ⟨h1, -, -, h4, h5, -⟩ := waitOver_spec (holdTimeout c b)
  exact ⟨_, hex, h1, by rw [Goals.raised, h5, hc, hre.ev], by rw [h4, ha, hre.alm], rfl⟩

theorem waitingOnFlowsTimesOut (hr : Runs s) (hh : s.core.alm.hold.heldAt = some b) (ht : s.core.alm.hold.timedOut = false)
    (hn : s.core.alm.hold.resume = none) (hm : (ownMod s.core, b) ∉ s.core.alm.hold.ready) (hf : awaitedFlows s.core b ≠ [])
    (hs : awaitedSessions s.core b = []) : NextWith (exec .holdTimeout s) fun t =>
      t.core.alm.hold.timedOut = true ∧ (ownMod s.core, b) ∈ t.core.alm.hold.ready ∧ t.mem = s.mem
      ∧ ∀ i ∈ awaitedFlows s.core b, (ctxOf s.core i).kind = 0 → (ctxOf s.core i).state = 1 → (ctxOf t.core i).state = 3 := by
  obtain ⟨n, hex⟩ := exec_holdTimeout hr hh ht hn
  rw [if_neg (by simpa using hm)] at hex
  have hre := reached_passTicks s.core n
  have ho : ownMod (passTicks n s.core) = ownMod s.core := hre.objs _ (by decide)
  generalize passTicks n s.core = c at *
  obtain ⟨ha, hc⟩ := holdTimeout_waitsOnFlows (by rwa [hre.awaitedFlows]) ((hre.awaitedSessions b).trans hs)
  obtain ⟨h1, -, h3, -, -, h6⟩ := waitOver_spec (holdTimeout c b)
  refine ⟨_, hex, h1, by rw [h3, ← ho]; exact ha, rfl, fun i hi hk hst => ?_⟩
  rw [ctxOf, h6]
  exact hc i (by rwa [hre.awaitedFlows]) ⟨by rwa [hre.ctxOf], by rwa [hre.ctxOf]⟩

end

theorem holdsTimeOut : Goals.HoldsTimeOut := by
  intro s b hr hs
  refine ⟨fun hh ht hn => ⟨readyModuleTimesOut hr hh ht hn, waitingOnNoneTimesOut hr hh ht hn, waitingOnFlowsTimesOut hr hh ht hn⟩,
    fun h => ?_⟩
  have he : exec .holdTimeout s = execHoldTimeout s := rfl
  rw [he, execHoldTimeout, onCore_powered _ (runs_powered hr)]
  rcases h with h | ⟨h, hc⟩
  · simp only [show s.core.alm.hold.heldAt = none from h]
  · simp only [show s.core.alm.hold.heldAt = some b from h]
    rw [if_pos (hc.imp_right Option.isSome_iff_ne_none.2)]

/-- Settles O59: a gate is judged against its semaphore's count; a frame's one gate at the decision point against what that
judgement leaves; markers and notices change the record they speak of; a hold's end and its timeout follow the notices. -/
theorem gatesMarkersAndHolds : Obligations.GatesMarkersAndHolds := by
  unfold Obligations.GatesMarkersAndHolds
  exact ⟨gateJudgements, decisionPointJudgesTheGates, markersCarryTheCount, holdsAndResumes, holdsTimeOut⟩

end Sys2Proof.Machine

namespace Sys2Proof.Machine

/-! ## Formats: the fields of a pattern, its value, and its rounding back (O12, O13, O14) -/

/-! ### The fields of a pattern -/

theorem bits_lt (p lo n : Nat) : bits p lo n < 2 ^ n := Nat.mod_lt _ (Nat.two_pow_pos n)

theorem bits_eq_div_mod (p lo n : Nat) : bits p lo n = p / 2 ^ lo % 2 ^ n := by rw [bits, Nat.shiftRight_eq_div_pow]

/-- A pattern is its exponent field, its fraction field and its sign bit. -/
theorem pattern_eq_fields {p fw ew : Nat} (h : p < 2 ^ (1 + ew + fw)) :
    bits p fw ew * 2 ^ fw + bits p 0 fw + 2 ^ (ew + fw) * b2n (bit p (ew + fw)) = p := by
  have hsign : p / 2 ^ (ew + fw) % 2 = b2n (bit p (ew + fw)) := by
    rw [bit, Nat.testBit_eq_decide_div_mod_eq]
    rcases Nat.mod_two_eq_zero_or_one (p / 2 ^ (ew + fw)) with h | h <;> simp [h, b2n]
  have hmag : p % 2 ^ (ew + fw) = bits p fw ew * 2 ^ fw + bits p 0 fw := by
    rw [Nat.add_comm ew, Nat.pow_add, Nat.mod_mul, bits_eq_div_mod, bits_eq_div_mod, Nat.pow_zero, Nat.div_one]
    ring
  have hp : p < 2 ^ (ew + fw) * 2 := by rwa [← Nat.pow_succ, Nat.succ_eq_add_one, Nat.add_comm (ew + fw), ← Nat.add_assoc]
  rw [← hmag, ← hsign, ← Nat.mod_mul, Nat.mod_eq_of_lt hp]

/-! ### Rounding of a value that has a pattern (R48) -/

/-- A magnitude whose last place is that of its own exponent is not rounded. -/
theorem rneMag_exact {fw m : Nat} {emin e : Int} (hm : m ≠ 0) (hq : max ((Nat.log2 m : Int) + e - fw) (emin - fw) = e) :
    rneMag fw emin m e = (e - (emin - fw)).toNat * 2 ^ fw + m := by
  simp [rneMag, hm, hq]

theorem rneMag_subnormal {fw fr : Nat} (emin : Int) (h : fr < 2 ^ fw) : rneMag fw emin fr (emin - fw) = fr := by
  rcases eq_or_ne fr 0 with rfl | hz
  · simp [rneMag]
  · have hl : Nat.log2 fr < fw := (Nat.log2_lt hz).2 h
    rw [rneMag_exact hz (by omega)]
    simp

theorem rneMag_normal {fw fr : Nat} (emin : Int) (n : Nat) (h : fr < 2 ^ fw) :
    rneMag fw emin (2 ^ fw + fr) (emin - fw + n) = (n + 1) * 2 ^ fw + fr := by
  have hz : 2 ^ fw + fr ≠ 0 := by positivity
  have hl : Nat.log2 (2 ^ fw + fr) = fw := (Nat.log2_eq_iff hz).2 ⟨Nat.le_add_right _ _, by rw [Nat.pow_succ]; omega⟩
  rw [rneMag_exact hz (by rw [hl]; omega)]
  have : (emin - fw + n - (emin - fw)).toNat = n := by omega
  rw [this]; ring

/-! ### IEEE-shaped formats (R41, R43) -/

/-- The magnitude of an exponent and a fraction field, as its significand and exponent, for formats whose smallest exponent is `emin`. -/
def fieldMag (fw : Nat) (emin : Int) (ex fr : Nat) : Nat × Int :=
  if ex = 0 then (fr, emin - fw) else (2 ^ fw + fr, emin - fw + (ex - 1 : Int))

/-- Rounding gives an exponent and a fraction field back. -/
theorem rneMag_fieldMag {fw fr : Nat} (emin : Int) (ex : Nat) (h : fr < 2 ^ fw) :
    rneMag fw emin (fieldMag fw emin ex fr).1 (fieldMag fw emin ex fr).2 = ex * 2 ^ fw + fr := by
  cases ex with
  | zero => simpa [fieldMag] using rneMag_subnormal emin h
  | succ n => simpa [fieldMag] using rneMag_normal emin n h

/-- The value of a magnitude (R40, R44): below the smallest exponent a fraction alone, else a fraction above one. -/
theorem fieldMag_value (fw : Nat) (emin : Int) (ex fr : Nat) :
    ((fieldMag fw emin ex fr).1 : ℚ) * 2 ^ (fieldMag fw emin ex fr).2
      = if ex = 0 then 2 ^ emin * (fr / 2 ^ fw : ℚ) else 2 ^ (ex - (1 - emin)) * (1 + fr / 2 ^ fw : ℚ) := by
  have h2 : (2 : ℚ) ≠ 0 := by norm_num
  unfold fieldMag
  split
  · rw [zpow_sub₀ h2, zpow_natCast]; field_simp
  · rw [show emin - (fw : Int) + ((ex : Int) - 1) = ex - (1 - emin) - fw by ring, zpow_sub₀ h2, zpow_natCast]
    push_cast; field_simp

/-- A larger significand at a larger exponent is a larger magnitude. -/
theorem mag_le {m n : Nat} {e j : Int} (hm : m ≤ n) (he : e ≤ j) : (m : ℚ) * 2 ^ e ≤ n * 2 ^ j :=
  mul_le_mul (Nat.cast_le.2 hm) (zpow_le_zpow_right₀ (by norm_num) he) (by positivity) (by positivity)

/-- Whether a magnitude exceeds another is the order of their values. -/
theorem magGt_iff (m k : Nat) (e j : Int) : magGt m e k j = true ↔ (k : ℚ) * 2 ^ j < (m : ℚ) * 2 ^ e := by
  have shifted (n : Nat) (i : Int) (h : min e j ≤ i) : ((n <<< (i - min e j).toNat : Nat) : ℚ) * 2 ^ min e j = n * 2 ^ i := by
    rw [Nat.shiftLeft_eq, Nat.cast_mul, Nat.cast_pow, Nat.cast_ofNat, ← zpow_natCast, Int.toNat_of_nonneg (by omega), mul_assoc,
      ← zpow_add₀ (by norm_num), Int.sub_add_cancel]
  rw [← shifted k j (min_le_right ..), ← shifted m e (min_le_left ..), mul_lt_mul_iff_left₀ (by positivity), Nat.cast_lt]
  simp [magGt]

theorem dec_eq_fieldMag (f : Fmt) (p : Nat) (h : bits p f.fw f.ew ≠ 2 ^ f.ew - 1) :
    f.dec p = .fin (bit p (f.ew + f.fw)) (fieldMag f.fw f.emin (bits p f.fw f.ew) (bits p 0 f.fw)).1
      (fieldMag f.fw f.emin (bits p f.fw f.ew) (bits p 0 f.fw)).2 := by
  simp only [Fmt.dec, fieldMag, h, if_false]
  split <;> rfl

theorem ite_signBit (f : Fmt) (n : Bool) : (if n then f.signBit else 0) = 2 ^ (f.ew + f.fw) * b2n n := by
  cases n <;> simp [b2n, Fmt.signBit]

/-- A pattern that is no NaN is the encoding of its value, whatever the format's widths. -/
theorem enc_dec (f : Fmt) {p : Nat} (hp : p < 2 ^ (1 + f.ew + f.fw)) (hn : (f.dec p).isNan = false) : f.enc (f.dec p) = p := by
  have hfields := pattern_eq_fields hp
  have hfr := bits_lt p 0 f.fw
  by_cases hex : bits p f.fw f.ew = 2 ^ f.ew - 1
  · have hz : bits p 0 f.fw = 0 := by
      by_contra hz
      simp [Fmt.dec, hex, hz, FVal.isNan] at hn
    have hd : f.dec p = .inf (bit p (f.ew + f.fw)) := by simp [Fmt.dec, hex, hz]
    rw [hex, hz, ← Fmt.infPat, Nat.add_zero] at hfields
    rw [hd, Fmt.enc, ite_signBit, hfields]
  · have hlt : bits p f.fw f.ew + 1 ≤ 2 ^ f.ew - 1 := by have := bits_lt p f.fw f.ew; omega
    have hmag : bits p f.fw f.ew * 2 ^ f.fw + bits p 0 f.fw ≤ f.infPat := by
      have := Nat.mul_le_mul_right (2 ^ f.fw) hlt
      rw [Nat.add_one_mul] at this
      rw [Fmt.infPat]; omega
    rw [dec_eq_fieldMag f p hex, Fmt.enc, rneMag_fieldMag _ _ hfr, Nat.min_eq_left hmag, ite_signBit, hfields]

/-! ### E4M3 (R40) -/

/-- The only exponent and fraction field of E4M3 that are no number. -/
abbrev IsE4M3NaN (p : Nat) : Prop := bits p 3 4 = 15 ∧ bits p 0 3 = 7

theorem decE4M3_nan {p : Nat} (h : IsE4M3NaN p) : decE4M3 p = .nan (bit p 7) := by simp [decE4M3, h.1, h.2]

theorem decE4M3_eq_fieldMag {p : Nat} (h : ¬IsE4M3NaN p) :
    decE4M3 p = .fin (bit p 7) (fieldMag 3 (-6) (bits p 3 4) (bits p 0 3)).1 (fieldMag 3 (-6) (bits p 3 4) (bits p 0 3)).2 := by
  simp only [decE4M3, fieldMag, h, if_false]
  split
  · rfl
  · congr 1; push_cast; ring

theorem IsE4M3NaN_iff {p : Nat} (hp : p < 256) : IsE4M3NaN p ↔ p = 0x7F ∨ p = 0xFF := by
  simp only [IsE4M3NaN, bits_eq_div_mod]
  omega

/-- The largest finite magnitude of E4M3 (R40). -/
theorem fieldMag_e4m3_le {ex fr : Nat} (hex : ex < 16) (hfr : fr < 8) (h : ¬(ex = 15 ∧ fr = 7)) :
    ((fieldMag 3 (-6) ex fr).1 : ℚ) * 2 ^ (fieldMag 3 (-6) ex fr).2 ≤ 448 := by
  by_cases h15 : ex = 15
  · have : fr ≤ 6 := by omega
    calc _ ≤ ((14 : ℕ) : ℚ) * 2 ^ (5 : ℤ) := mag_le (by simp only [fieldMag]; split <;> omega) (by simp only [fieldMag]; split <;> omega)
      _ = 448 := by norm_num
  · calc _ ≤ ((15 : ℕ) : ℚ) * 2 ^ (4 : ℤ) := mag_le (by simp only [fieldMag]; split <;> omega) (by simp only [fieldMag]; split <;> omega)
      _ ≤ 448 := by norm_num

/-- No value of an E4M3 pattern saturates, and each is rounded to its own pattern (R50). -/
theorem narrow_decE4M3 {p : Nat} (hp : p < 256) (h : ¬IsE4M3NaN p) : narrow 1 (decE4M3 p) = (p, false) := by
  have hle : magGt (fieldMag 3 (-6) (bits p 3 4) (bits p 0 3)).1 (fieldMag 3 (-6) (bits p 3 4) (bits p 0 3)).2 448 0 = false := by
    rw [← Bool.not_eq_true, magGt_iff]
    simpa using fieldMag_e4m3_le (bits_lt p 3 4) (bits_lt p 0 3) h
  rw [decE4M3_eq_fieldMag h]
  simp only [narrow, hle, if_true, Bool.false_eq_true, if_false, rneMag_fieldMag (-6) _ (bits_lt p 0 3)]
  exact congrArg (·, false) (pattern_eq_fields (fw := 3) (ew := 4) hp)

/-! ### W32 (R44) -/

theorem decW32_eq_fieldMag (p : Nat) :
    decW32 p = .fin (bit p 31) (fieldMag 25 (-39) (bits p 25 6) (bits p 0 25)).1 (fieldMag 25 (-39) (bits p 25 6) (bits p 0 25)).2 := by
  simp only [decW32, fieldMag]
  split
  · rfl
  · congr 1; push_cast; ring

/-- The largest magnitude of W32 (R44). -/
theorem fieldMag_w32_le {ex fr : Nat} (hex : ex < 64) (hfr : fr < 2 ^ 25) :
    ((fieldMag 25 (-39) ex fr).1 : ℚ) * 2 ^ (fieldMag 25 (-39) ex fr).2 ≤ ((2 ^ 26 - 1 : ℕ) : ℚ) * 2 ^ (-2 : ℤ) :=
  mag_le (by simp only [fieldMag]; split <;> omega) (by simp only [fieldMag]; split <;> omega)

/-- No value of a W32 pattern is clamped, and each is rounded to its own pattern (R45). -/
theorem toW32_decW32 {p : Nat} (hp : p < 2 ^ 32) : toW32 (decW32 p) = (p, false, false) := by
  have hle : magGt (fieldMag 25 (-39) (bits p 25 6) (bits p 0 25)).1 (fieldMag 25 (-39) (bits p 25 6) (bits p 0 25)).2 (2 ^ 26 - 1) (-2)
      = false := by
    rw [← Bool.not_eq_true, magGt_iff, not_lt]
    exact fieldMag_w32_le (bits_lt p 25 6) (bits_lt p 0 25)
  rw [decW32_eq_fieldMag]
  simp only [toW32, hle, Bool.false_eq_true, if_false, rneMag_fieldMag (-39) _ (bits_lt p 0 25)]
  exact congrArg (·, false, false) (pattern_eq_fields (fw := 25) (ew := 6) hp)

/-! ### The statements -/

/-- Settles O12: a magnitude with a pattern is exact at its own last place, so no rounding happens (`rneMag_exact`), and the fields put
together again are the pattern. -/
theorem formatsRoundTrip : Obligations.FormatsRoundTrip := by
  refine ⟨fun f _ p hp hn => enc_dec f hp hn, fun p hp hn => narrow_decE4M3 hp fun h => ?_, fun p hp => toW32_decW32 hp⟩
  simp [decE4M3_nan h, FVal.isNan] at hn

/-- Settles O13, from the value of an exponent and a fraction field (`fieldMag_value`). -/
theorem w32Value : Obligations.W32Value := by
  refine ⟨fun p _ => ⟨_, _, decW32_eq_fieldMag p, ?_⟩, ⟨-64, by decide⟩, ⟨-64, by decide⟩, by decide, by decide⟩
  rw [fieldMag_value, bits_eq_div_mod, bits_eq_div_mod, Nat.pow_zero, Nat.div_one]
  norm_num

/-- Settles O14: all patterns but those with every exponent and fraction bit set are numbers of at most 448. -/
theorem e4M3Value : Obligations.E4M3Value := by
  refine ⟨fun p hp => ?_, ?_⟩
  · split
    · next h => exact decE4M3_nan ((IsE4M3NaN_iff hp).2 h)
    · next h =>
      rw [← IsE4M3NaN_iff hp] at h
      refine ⟨_, _, decE4M3_eq_fieldMag h, fieldMag_e4m3_le (bits_lt p 3 4) (bits_lt p 0 3) h, ?_⟩
      rw [fieldMag_value, bits_eq_div_mod, bits_eq_div_mod, Nat.pow_zero, Nat.div_one]
      norm_num
  · intro p hp
    refine ⟨14, 5, ?_, by norm_num⟩
    simp only [List.mem_cons, List.not_mem_nil, or_false] at hp
    rcases hp with rfl | rfl <;> decide

end Sys2Proof.Machine

namespace Sys2Proof.Machine

/-! ## Vector registers, memory and conversions (O15) -/

/-! ### What the Vigil and the conversions leave alone -/

/-- The records of stations and fields stay. -/
structure UnitsKept (c d : Core) : Prop where
  st : d.st = c.st
  fl : d.fl = c.fl

/-- What watching an access to memory leaves: stations, fields and the scale table stay (R183, R376 to R378). -/
structure Watched (c d : Core) : Prop extends UnitsKept c d where
  scale : d.scale = c.scale

section
variable {c d e : Core}

theorem UnitsKept.trans (h : UnitsKept c d) (k : UnitsKept d e) : UnitsKept c e := ⟨k.st.trans h.st, k.fl.trans h.fl⟩

theorem UnitsKept.stn (h : UnitsKept c d) (g : Nat) : stn d g = stn c g := by simp [Machine.stn, h.st]

theorem Watched.refl (c : Core) : Watched c c := ⟨⟨rfl, rfl⟩, rfl⟩

theorem Watched.trans (h : Watched c d) (k : Watched d e) : Watched c e :=
  ⟨h.toUnitsKept.trans k.toUnitsKept, k.scale.trans h.scale⟩

theorem Watched.foldl {α : Type} {f : Core → α → Core} (h : ∀ c x, Watched c (f c x)) (l : List α) (c : Core) : Watched c (l.foldl f c) := by
  induction l generalizing c with
  | nil => exact Watched.refl c
  | cons x r ih => exact (h c x).trans (ih _)

theorem Watched.scaleRead (h : Watched c d) (e : Nat) : scaleRead d e = scaleRead c e := by
  unfold Machine.scaleRead scaleE
  rw [h.scale]

end

section
variable (c : Core)

theorem watched_raise (code : Nat) (cls : EvClass) (src tag : Nat) (args : List Nat) : Watched c (raise c code cls src tag args) :=
  ⟨⟨(noted_raise c code cls src tag args).st, raise_fl c code cls src tag args⟩, (noted_raise c code cls src tag args).scale⟩

theorem watched_addObj (k n : Nat) : Watched c (addObj c k n) := ⟨⟨rfl, rfl⟩, rfl⟩

theorem watched_hazard (kind m other addr pc : Nat) : Watched c (hazard c kind m other addr pc) := by
  unfold hazard
  extract_lets _ d e
  have he : Watched c e := ⟨⟨rfl, rfl⟩, rfl⟩
  exact he.trans (watched_raise ..)

theorem watched_portTouch (m port : Nat) (wrote : Bool) (u : Nat) : Watched c (portTouch c m port wrote u) := by
  unfold portTouch
  extract_lets now p d _
  have hd : Watched c d := by
    unfold d
    split
    · split
      · have hp : Watched c p.2 := ⟨⟨rfl, rfl⟩, rfl⟩
        split
        · exact hp.trans (watched_hazard _ _ _ _ _ _)
        · exact hp
      · exact Watched.refl c
    · exact Watched.refl c
  exact hd.trans ⟨⟨rfl, rfl⟩, rfl⟩

theorem watched_vigilJudge (m u : Nat) : Watched c (vigilJudge m c u) := by
  unfold vigilJudge
  split
  · exact Watched.refl c
  · split_ifs
    · exact Watched.refl c
    · exact watched_hazard ..
    · extract_lets h
      split_ifs
      · exact Watched.refl c
      · exact watched_addObj ..
      · exact watched_hazard ..

theorem watched_vigilMark (m u : Nat) : Watched c (vigilMark m c u) := by
  unfold vigilMark
  extract_lets r _ d
  have hd : Watched c d := ⟨⟨rfl, rfl⟩, rfl⟩
  split
  · exact hd.trans (watched_hazard ..)
  · exact hd

/-- The unit of an access that may go through a port of a station's memory. -/
theorem watched_touched (p : Prop) [Decidable p] (m port : Nat) (wrote : Bool) (u : Nat) :
    Watched c (if p then portTouch c m port wrote u else c) := by
  split
  · exact watched_portTouch ..
  · exact Watched.refl c

theorem watched_vigilRead (m a n port : Nat) : Watched c (vigilRead c m a n port) := by
  unfold vigilRead
  extract_lets d
  have hd : Watched c d := by
    unfold d eccCount
    extract_lets k
    split
    · exact Watched.refl c
    · exact watched_addObj ..
  split
  · exact hd.trans (Watched.foldl (fun c u => (watched_touched c _ m port false u).trans (watched_vigilJudge _ m u)) _ _)
  · exact hd

theorem watched_vigilWrite (m a n port : Nat) : Watched c (vigilWrite c m a n port) := by
  unfold vigilWrite
  extract_lets d
  have hd : Watched c d := ⟨⟨rfl, rfl⟩, rfl⟩
  split
  · exact hd.trans (Watched.foldl (fun c u => (watched_touched c _ m port true u).trans (watched_vigilMark _ m u)) _ _)
  · exact hd

/-- A conversion leaves its marks in the scale table, in counters and in the log (R53, R64). -/
theorem unitsKept_noteConversion (field src e tag : Nat) (v : FVal) (sat : Bool) :
    UnitsKept c (noteConversion c field src e tag v sat) := by
  unfold noteConversion
  extract_lets x y d d1 d2
  have hd : UnitsKept c d := by unfold d; split <;> exact ⟨rfl, rfl⟩
  have h2 : UnitsKept c d2 := hd.trans ⟨rfl, rfl⟩
  split
  · split
    · exact h2
    · exact h2.trans (watched_raise ..).toUnitsKept
  · exact hd.trans ⟨rfl, rfl⟩

theorem convScaledAll_concat (field src e tag : Nat) (k : Int) (vs : List FVal) (v : FVal) :
    convScaledAll c field src e tag k (vs ++ [v])
      = ((convScaled (convScaledAll c field src e tag k vs).1 field src e tag k v).1,
         (convScaledAll c field src e tag k vs).2 ++ [(narrow tag (v.scale k)).1]) := by
  simp only [convScaledAll, List.foldl_append, List.foldl_cons, List.foldl_nil]
  rfl

/-- Values converted in order are each converted on their own (R50, R262). -/
theorem convScaledAll_spec (field src e tag : Nat) (k : Int) (vs : List FVal) :
    UnitsKept c (convScaledAll c field src e tag k vs).1
      ∧ (convScaledAll c field src e tag k vs).2 = vs.map fun v => (narrow tag (v.scale k)).1 := by
  induction vs using List.reverseRecOn with
  | nil => exact ⟨⟨rfl, rfl⟩, rfl⟩
  | append_singleton vs v ih =>
    obtain ⟨hu, hl⟩ := ih
    rw [convScaledAll_concat, hl, List.map_append]
    exact ⟨hu.trans (unitsKept_noteConversion ..), rfl⟩

/-- What CVT PACK writes, and what its conversions leave alone. -/
theorem packAll_spec (g w : Nat) :
    let l := bit w 57
    let fmt := bits w 48 4
    let xs := (lanes (stn c g) l (bits w 52 5)).take (bits w 41 7 + 1)
    UnitsKept c (packAll c g w).1
      ∧ (packAll c g w).2 = elemBytes (tagBytes fmt)
          (if fmt = 1 ∨ fmt = 2 then xs.map fun p => (narrow fmt (((laneFmt l).dec p).scale (scaleRead c (bits w 28 13)))).1
           else xs.map (packPlain l fmt)) := by
  intro l fmt xs
  by_cases h : fmt = 1 ∨ fmt = 2
  · obtain ⟨hu, hl⟩ := convScaledAll_spec c (g / 24) g (bits w 28 13) fmt (scaleRead c (bits w 28 13)) (xs.map (laneFmt l).dec)
    have ht : tagBytes fmt = 1 := by simp [tagBytes, h]
    have hp : packAll c g w = ((convScaledAll c (g / 24) g (bits w 28 13) fmt (scaleRead c (bits w 28 13)) (xs.map (laneFmt l).dec)).1,
        elemBytes 1 (convScaledAll c (g / 24) g (bits w 28 13) fmt (scaleRead c (bits w 28 13)) (xs.map (laneFmt l).dec)).2) := if_pos h
    rw [hp, if_pos h, ht, hl, List.map_map]
    exact ⟨hu, rfl⟩
  · have hp : packAll c g w = (c, elemBytes (tagBytes fmt) (xs.map (packPlain l fmt))) := if_neg h
    rw [hp, if_neg h]
    exact ⟨⟨rfl, rfl⟩, rfl⟩

end

/-! ### Lengths -/

@[simp] theorem length_elemBytes (n : Nat) (xs : List Nat) : (elemBytes n xs).length = xs.length * n := by
  simp [elemBytes, Function.comp_def]

/-! ### Addresses (R249) -/

/-- One row of an instruction meets the address rules. -/
theorem addrFault_row (a n al : Nat) : addrFault [a] n al = none ↔ a % al = 0 ∧ a + n ≤ stSize := by
  by_cases h : a % al = 0
  · simp [addrFault, h]
  · simp [addrFault, h]

/-- A row that meets the address rules and has no word beyond correction stops no instruction. -/
theorem readStop_none {s : State} {g a n al : Nat} (ha : a % al = 0) (hn : a + n ≤ stSize) (hs : Goals.sound s g [a] n) :
    readStop s.core g [a] n al = none := by
  have hs : rowsBad s.core g [a] n = none := hs
  simp [readStop, (addrFault_row a n al).2 ⟨ha, hn⟩, hs]

/-! ### Issue -/

theorem issued_setVr {c d : Core} (h : UnitsKept c d) (g v : Nat) (bs : Bytes) :
    issued (setVr d g v bs) g = issueAs d g { stn c g with vr := tset (stn c g).vr v bs } := by
  rw [setVr, issued_setStn, h.stn]

/-- An issue behind a change that touched neither stations nor fields. -/
theorem unitsKept_issued {c d : Core} (h : UnitsKept c d) (g : Nat) :
    stn (issued d g) g = { stn c g with seq := issuedSeq (stn c g).seq } ∧ (∀ k, k ≠ g → stn (issued d g) k = stn c k)
      ∧ (issued d g).fl = c.fl := by
  rw [issued_eq]
  exact ⟨by rw [stn_issueAs_self, h.stn], fun k hk => by rw [stn_issueAs_ne _ _ hk, h.stn], by simp [issueAs, h.fl]⟩

theorem vectorLoadAndMove : Goals.VectorLoadAndMove := by
  intro s g w x a
  refine ⟨fun h => ?_, fun h ha hn hs => ?_, fun h hbad => ?_⟩
  · have he : exec (.vmov g) s = execVmov g s := rfl
    rw [he, execVmov, onCoreMem_atWord _ h]
    simp only [issueNow, atPc_of_atWord h]
    rw [issued_setVr ⟨rfl, rfl⟩]; rfl
  · have he : exec (.vld g) s = execVld g s := rfl
    have hstop : readStop s.core g [vopAddr (stn s.core g) w] 256 64 = none := readStop_none ha hn hs
    rw [he, execVld, onCoreMem_atWord _ h]
    simp only [atPc_of_atWord h, hstop]
    rw [issued_setVr (watched_vigilRead ..).toUnitsKept]; rfl
  · have he : exec (.vld g) s = execVld g s := rfl
    obtain ⟨y, hy⟩ : ∃ y, addrFault [vopAddr (stn s.core g) w] 256 64 = some y :=
      Option.ne_none_iff_exists'.1 (mt (addrFault_row a 256 64).1 hbad)
    have hstop : readStop s.core g [vopAddr (stn s.core g) w] 256 64 = some (instrAddrFault s.core g y) := by simp only [readStop, hy]
    have n := noted_raise s.core 0x0702 .fault g 0 [g, 0xFF, 0, y]
    have hf : (stn s.core g).seq.state ≠ .faulted := by rcases h.2.2.1 with h | h <;> rw [h] <;> decide
    obtain ⟨hg, hk, -⟩ := faultSeq_spec (d := raise s.core 0x0702 .fault g 0 [g, 0xFF, 0, y]) (g := g) 2 (by rwa [n.stn])
    rw [n.stn] at hg hk
    refine ⟨withCore s (instrAddrFault s.core g y), ?_, hg, rfl, fun k h => (hk k h).trans (n.stn k)⟩
    rw [he, execVld, onCoreMem_atWord _ h]
    simp only [atPc_of_atWord h, hstop]
    rfl

theorem cvtUnpackLanes : Goals.CvtUnpackLanes := by
  intro s g w h x l fmt n a ha hn hs k r
  have he : exec (.cvtUnpack g) s = execCvtUnpack g s := rfl
  have hstop : readStop s.core g [cvtAddr (stn s.core g) w] ((bits w 41 7 + 1) * tagBytes (bits w 48 4)) (tagBytes (bits w 48 4)) = none :=
    readStop_none ha hn hs
  rw [he, execCvtUnpack, onCoreMem_atWord _ h]
  simp only [atPc_of_atWord h, hstop, setLanes]
  rw [issued_setVr (watched_vigilRead ..).toUnitsKept]; rfl

/-- VST whose address meets the rules: the write is watched, the instruction issues, the register's bytes are written. -/
theorem exec_vst {s : State} {g w : Nat} (h : AtWord s g w (.vop 0x01))
    (hok : addrFault [vopAddr (stn s.core g) w] 256 64 = none) :
    exec (.vst g) s = .next { s with
      core := issued (vigilWrite s.core g (stBase g + vopAddr (stn s.core g) w) 256 4) g
      mem := mwriteN s.mem (stBase g + vopAddr (stn s.core g) w) (vrBytes (stn s.core g) (vopA w)) } := by
  have he : exec (.vst g) s = execVst g s := rfl
  rw [he, execVst, onBoth_atWord _ h]
  simp only [atPc_of_atWord h, hok]

/-- The core in which CVT PACK converts: its write is watched first. -/
def packCore (c : Core) (g w : Nat) : Core :=
  vigilWrite c g (stBase g + cvtAddr (stn c g) w) ((bits w 41 7 + 1) * tagBytes (bits w 48 4)) 4

/-- CVT PACK whose address meets the rules. -/
theorem exec_cvtPack {s : State} {g w : Nat} (h : AtWord s g w .pack)
    (hok : addrFault [cvtAddr (stn s.core g) w] ((bits w 41 7 + 1) * tagBytes (bits w 48 4)) (tagBytes (bits w 48 4)) = none) :
    exec (.cvtPack g) s = .next { s with
      core := issued (packAll (packCore s.core g w) g w).1 g
      mem := mwriteN s.mem (stBase g + cvtAddr (stn s.core g) w) (packAll (packCore s.core g w) g w).2 } := by
  have he : exec (.cvtPack g) s = execCvtPack g s := rfl
  rw [he, execCvtPack, onBoth_atWord _ h]
  simp only [atPc_of_atWord h, hok]
  rfl

theorem vectorStores : Goals.VectorStores := by
  intro s g w x a b l fmt n xs k
  refine ⟨fun h ha hn => ?_, fun h hb hn => ?_⟩
  · obtain ⟨hg, hk, hfl⟩ := unitsKept_issued (watched_vigilWrite s.core g (stBase g + a) 256 4).toUnitsKept g
    exact ⟨_, exec_vst h ((addrFault_row a 256 64).2 ⟨ha, hn⟩), rfl, fun y hy => mread_mwriteN_ne s.mem _ hy, hg, hk, hfl⟩
  · have hw : Watched s.core (packCore s.core g w) := watched_vigilWrite ..
    obtain ⟨hu, hbytes⟩ := packAll_spec (packCore s.core g w) g w
    rw [hw.stn, hw.scaleRead] at hbytes
    have hlen : (packAll (packCore s.core g w) g w).2.length ≤ n * tagBytes fmt := by
      rw [hbytes, length_elemBytes]
      refine Nat.mul_le_mul_right _ ?_
      split <;> exact (List.length_map _).trans_le (List.length_take_le _ _)
    obtain ⟨hg, hk, hfl⟩ := unitsKept_issued (hw.toUnitsKept.trans hu) g
    refine ⟨_, exec_cvtPack h ((addrFault_row b _ _).2 ⟨hb, hn⟩), congrArg (mwriteN s.mem (stBase g + b)) hbytes,
      fun y hy => mread_mwriteN_ne s.mem _ (hy.imp_right fun h => ?_), hg, hk, hfl⟩
    exact (Nat.add_le_add_left hlen _).trans h

/-- Settles O15: watching the access and marking the conversions leave station and scale as the instruction found them
(`watched_vigilRead`, `packAll_spec`), so the instruction's own effect is all there is. -/
theorem vectorMemory : Obligations.VectorMemory := ⟨vectorLoadAndMove, cvtUnpackLanes, vectorStores⟩

end Sys2Proof.Machine

namespace Sys2Proof.Machine

/-! ## The event log (O60; R446, R447, R501) -/

/-- The core in which a raise has been counted (R446, R449). -/
def countRaise (c : Core) (code : Nat) : Core :=
  let d := { c with ev := { c.ev with counts := tset c.ev.counts code (min (tgetD c.ev.counts code 0 + 1) (2 ^ 32 - 1)) } }
  match eventCounter code with
  | some k => addObj d k 1
  | none => d

/-- The core in which a run's first FAULT has asked for a stop (R372). -/
def askFault (c : Core) (code src : Nat) (cls : EvClass) : Core :=
  if cls = .fault && running c && c.alm.fault.isNone then { c with alm := { c.alm with fault := some (code, src, frameNow c) } } else c

/-- The record of an event raised in a core (R446). -/
def raiseRecord (c : Core) (code src tag : Nat) (cls : EvClass) (args : List Nat) : EvRec :=
  { code := code, cls := cls, seq := obj c Key.eventNextSeq, frame := frameNow c, tick := obj c Key.uptimeTicks, src := src, tag := tag,
    args := args, read := false }

/-- The objects that a record shows, and those that decide on it. -/
def recordKeys : List Nat := Key.uptimeTicks :: Key.almanacState :: logKeys

/-- None of them is an event's own counter. -/
theorem eventCounter_notMem {code k : Nat} (h : eventCounter code = some k) : k ∉ recordKeys := by
  unfold eventCounter at h
  split at h <;> cases h <;> decide

section
variable (c : Core) (code src tag : Nat) (cls : EvClass) (args : List Nat)

theorem countRaise_ev :
    (countRaise c code).ev = { c.ev with counts := tset c.ev.counts code (min (tgetD c.ev.counts code 0 + 1) (2 ^ 32 - 1)) } := by
  unfold countRaise; split <;> rfl

theorem countRaise_host : (countRaise c code).host = c.host := by unfold countRaise; split <;> rfl
theorem countRaise_alm : (countRaise c code).alm = c.alm := by unfold countRaise; split <;> rfl

theorem obj_countRaise {k : Nat} (h : k ∈ recordKeys) : obj (countRaise c code) k = obj c k := by
  unfold countRaise
  split
  · next j hj => exact obj_addObj_ne _ _ fun e => eventCounter_notMem hj (e ▸ h)
  · rfl

theorem running_countRaise : running (countRaise c code) = running c := by
  rw [running, almState, obj_countRaise c code (by decide)]; rfl

theorem askFault_ev : (askFault c code src cls).ev = c.ev := by unfold askFault; split <;> rfl
theorem askFault_host : (askFault c code src cls).host = c.host := by unfold askFault; split <;> rfl
theorem askFault_dict : (askFault c code src cls).dict = c.dict := by unfold askFault; split <;> rfl

/-- The first 64 raises of a code in an interval enter the log, the others are counted as suppressed (R501). -/
theorem raise_eq : raise c code cls src tag args =
    let d := askFault (countRaise c code) code src cls
    if tgetD c.ev.interval code 0 < 64 then logEvent d (raiseRecord d code src tag cls args) else addObj d Key.eventsSuppressed 1 := by
  have h : c.ev.interval = (askFault (countRaise c code) code src cls).ev.interval := by rw [askFault_ev, countRaise_ev]
  rw [h]; rfl

theorem obj_asked {k : Nat} (h : k ∈ recordKeys) : obj (askFault (countRaise c code) code src cls) k = obj c k := by
  rw [← obj_countRaise c code h, obj, askFault_dict]; rfl

/-! ### A record enters the log -/

/-- The log after a record entered it (R446, R447). -/
theorem logEvent_ev (r : EvRec) : (logEvent c r).ev =
    { c.ev with recs := (r :: c.ev.recs).take 4096, interval := tset c.ev.interval r.code (tgetD c.ev.interval r.code 0 + 1) } := by
  unfold logEvent
  simp only [(quiet_notifyEvent _ r).ev]
  split <;> rfl

/-- The record that leaves a full log unread is counted (R447). -/
theorem obj_logEvent_overwritten (r : EvRec) : obj (logEvent c r) Key.eventsOverwritten =
    match c.ev.recs.getLast? with
    | some old => if 4096 ≤ c.ev.recs.length ∧ old.read = false then min (obj c Key.eventsOverwritten + 1) (objMax Key.eventsOverwritten)
                  else obj c Key.eventsOverwritten
    | none => obj c Key.eventsOverwritten := by
  have hn (d : Core) : obj (notifyEvent d r) Key.eventsOverwritten = obj d Key.eventsOverwritten := by rw [obj, notifyEvent_dict]; rfl
  have hs (e : EventLog) (v : Nat) : obj (setObj { c with ev := e } Key.eventNextSeq v) Key.eventsOverwritten = obj c Key.eventsOverwritten :=
    obj_setObj_ne _ _ (by decide)
  unfold logEvent
  simp only [hn]
  cases h : c.ev.recs.getLast? with
  | none => simp [hs]
  | some old =>
    by_cases hl : 4096 ≤ c.ev.recs.length ∧ old.read = false
    · simp [hl, hs]
    · simp [hl, hs]

theorem logEvent_alm (r : EvRec) : (logEvent c r).alm = c.alm := by
  have hp : (logEvent c r).alm = { c.alm with fault := (logEvent c r).alm.fault } := (congrArg Core.alm (logEvent_parts c r) :)
  rw [hp, (logEvent_spec c r).2.2]

/-! ### A raise and the Almanac (R372) -/

theorem raise_alm_eq : (raise c code cls src tag args).alm = (askFault (countRaise c code) code src cls).alm := by
  rw [raise_eq]
  simp only []
  split
  · exact logEvent_alm _ _
  · rfl

theorem askFault_quiet (h : cls ≠ .fault ∨ running c = false) : askFault c code src cls = c := by
  rcases h with h | h <;> simp [askFault, h]

theorem askFault_first (hr : running c = true) (hf : c.alm.fault = none) :
    (askFault c code src .fault).alm.fault = some (code, src, frameNow c) := by simp [askFault, hr, hf]

end

theorem eventLogKeepsTheNewest : Goals.EventLogKeepsTheNewest := by
  intro c code src tag cls args d logged
  have hd : d = _ := raise_eq c code src tag cls args
  have halm : d.alm = _ := raise_alm_eq c code src tag cls args
  have hobj {k : Nat} (h : k ∈ recordKeys) := obj_asked c code src cls h
  have hev : (askFault (countRaise c code) code src cls).ev = _ := (askFault_ev ..).trans (countRaise_ev c code)
  have hhost : (askFault (countRaise c code) code src cls).host = _ := (askFault_host ..).trans (countRaise_host c code)
  refine ⟨?_, fun hl => ?_, fun hl => ?_, fun hc hr hf => ?_, fun hq => ?_⟩
  · rw [raise_counts, tgetD_tset_self]
  · have hlog := logEvent_ev (askFault (countRaise c code) code src cls)
    have hlost := obj_logEvent_overwritten (askFault (countRaise c code) code src cls)
    simp only [hev, hobj (k := Key.eventsOverwritten) (by decide)] at hlog hlost
    rw [hd, if_pos hl]
    refine ⟨_, congrArg EventLog.recs (hlog _), rfl, rfl, rfl, rfl, rfl, hobj (by decide), hobj (by decide), rfl, ?_, hlost _⟩
    rw [hlog]
    exact tgetD_tset_self ..
  · rw [hd, if_neg (Nat.not_lt.2 hl)]
    refine ⟨(congrArg EventLog.recs hev :), hhost, ?_⟩
    rw [obj_addObj, hobj (by decide)]
  · subst hc
    exact ⟨_, (congrArg (·.fault) halm).trans (askFault_first _ code src (by rwa [running_countRaise]) (by rwa [countRaise_alm]))⟩
  · rw [halm, askFault_quiet _ code src cls (by rwa [running_countRaise]), countRaise_alm]

/-! ## The audit (O60; R67 to R70) -/

/-! ### The sample (R67) -/

theorem sampled_auditNumber_iff (c : Core) (g : Nat) (deferred : Bool) {m : Nat} (hm : m < 2 ^ 63) :
    sampled c g (auditNumber deferred m) = true
      ↔ 0 < obj c Key.auditK ∧ (m + 40503 * g + (if deferred then 20269 else 0)) % 2 ^ obj c Key.auditK = 0 := by
  have hlow : bits (auditNumber deferred m) 0 63 = m := by
    rw [bits_eq_div_mod, auditNumber]
    split <;> omega
  have htop : bit (auditNumber deferred m) 63 = deferred := by
    rw [bit, Nat.testBit_eq_decide_div_mod_eq, auditNumber]
    cases deferred <;> simp
  simp [sampled, hlow, htop]

/-! ### The worst element (R69) -/

/-- Of two elements that with the larger ratio, of equal ones the first (log entry 104). -/
def worse (a b : Nat × Nat × Nat × Bool) : Nat × Nat × Nat × Bool := if a.2.2.1 < b.2.2.1 then b else a

theorem worstOf_cons (x : Nat × Nat × Nat × Bool) (l : List (Nat × Nat × Nat × Bool)) : worstOf (x :: l) = some (l.foldl worse x) := rfl

theorem le_worse (a b : Nat × Nat × Nat × Bool) : a.2.2.1 ≤ (worse a b).2.2.1 ∧ b.2.2.1 ≤ (worse a b).2.2.1 := by
  unfold worse; split <;> omega

theorem le_foldl_worse (l : List (Nat × Nat × Nat × Bool)) (x : Nat × Nat × Nat × Bool) :
    ∀ e ∈ x :: l, e.2.2.1 ≤ (l.foldl worse x).2.2.1 := by
  induction l generalizing x with
  | nil => simp
  | cons y r ih =>
    obtain ⟨hx, hy⟩ := le_worse x y
    have hbest := ih (worse x y) _ List.mem_cons_self
    intro e he
    rw [List.foldl_cons]
    rcases List.mem_cons.1 he with rfl | he
    · exact hx.trans hbest
    · rcases List.mem_cons.1 he with rfl | he
      · exact hy.trans hbest
      · exact ih _ e (List.mem_cons_of_mem _ he)

/-- The largest ratio of an audit's elements. -/
def topRatio (es : List (Nat × Nat × Nat × Bool)) : Nat := ((worstOf es).map fun e => e.2.2.1).getD 0

theorem le_topRatio {es : List (Nat × Nat × Nat × Bool)} {e : Nat × Nat × Nat × Bool} (h : e ∈ es) : e.2.2.1 ≤ topRatio es := by
  cases es with
  | nil => cases h
  | cons x l => simpa [topRatio, worstOf_cons] using le_foldl_worse l x e h

theorem worstOf_eq_none {es : List (Nat × Nat × Nat × Bool)} : worstOf es = none ↔ es = [] := by cases es <;> simp [worstOf]

/-! ### The check (R69, R70) -/

/-- An audit counted, and its worst ratio kept. -/
def auditCounted (c : Core) (top : Nat) : Core :=
  let d := addObj c Key.auditsRun 1
  if obj d Key.auditWorst < top then setObj d Key.auditWorst top else d

/-- The event of an audit whose elements diverge, for the worst of those. -/
def auditRaised (c : Core) (g n : Nat) (es : List (Nat × Nat × Nat × Bool)) : Core :=
  match worstOf (es.filter fun e => e.2.2.2) with
  | none => c
  | some e => raise c 0x0902 .report g 0 [g, n, leNat ((List.range 8).map (Config.layout 0x0902 [e.1, e.2.1])), e.2.2.1]

section
variable (c : Core)

theorem auditCounted_frame (top : Nat) :
    (auditCounted c top).ev = c.ev ∧ (auditCounted c top).st = c.st ∧ (auditCounted c top).alm = c.alm := by
  simp only [auditCounted]
  split <;> exact ⟨rfl, rfl, rfl⟩

theorem auditsRun_auditCounted (top : Nat) :
    obj (auditCounted c top) Key.auditsRun = min (obj c Key.auditsRun + 1) (objMax Key.auditsRun) := by
  simp only [auditCounted]
  split
  · rw [obj_setObj_ne _ _ (by decide), obj_addObj]
  · rw [obj_addObj]

theorem auditWorst_auditCounted (top : Nat) : obj (auditCounted c top) Key.auditWorst = max (obj c Key.auditWorst) top := by
  have h : obj (addObj c Key.auditsRun 1) Key.auditWorst = obj c Key.auditWorst := obj_addObj_ne _ _ (by decide)
  simp only [auditCounted, h]
  split
  · rw [obj_setObj]; omega
  · rw [h]; omega

theorem auditRaised_none {g n : Nat} {es : List (Nat × Nat × Nat × Bool)} (h : ∀ e ∈ es, e.2.2.2 = false) : auditRaised c g n es = c := by
  have : worstOf (es.filter fun e => e.2.2.2) = none := worstOf_eq_none.2 (List.filter_eq_nil_iff.2 fun e he => by simp [h e he])
  simp only [auditRaised, this]

/-- An audit with an element that diverges raises AUDIT_DIVERGE, once. -/
theorem auditRaised_some {g n : Nat} {es : List (Nat × Nat × Nat × Bool)} (h : ∃ e ∈ es, e.2.2.2 = true) :
    ∃ args, auditRaised c g n es = raise c 0x0902 .report g 0 args := by
  obtain ⟨e, he, hd⟩ := h
  obtain ⟨x, hx⟩ : ∃ x, worstOf (es.filter fun e => e.2.2.2) = some x := by
    refine Option.ne_none_iff_exists'.1 fun hn => ?_
    have := List.filter_eq_nil_iff.1 (worstOf_eq_none.1 hn) e he
    contradiction
  simp only [auditRaised, hx]
  exact ⟨_, rfl⟩

/-- An audit's event leaves stations and Almanac alone, and the audit's own counts. -/
theorem auditRaised_frame (g n : Nat) (es : List (Nat × Nat × Nat × Bool)) :
    (auditRaised c g n es).st = c.st ∧ (auditRaised c g n es).alm = c.alm ∧ obj (auditRaised c g n es) Key.auditsRun = obj c Key.auditsRun
      ∧ obj (auditRaised c g n es) Key.auditWorst = obj c Key.auditWorst := by
  unfold auditRaised
  split
  · exact ⟨rfl, rfl, rfl, rfl⟩
  · have n := noted_raise c 0x0902 .report
    exact ⟨(n ..).st, raise_alm c _ _ _ _ (by decide), (n ..).objs _ (by decide), (n ..).objs _ (by decide)⟩

/-- What an audit that is made leaves: its count, its worst ratio, and the event where an element diverges. -/
theorem auditMade_spec (g n : Nat) (es : List (Nat × Nat × Nat × Bool)) :
    let d := auditRaised (auditCounted c (topRatio es)) g n es
    obj d Key.auditsRun = min (obj c Key.auditsRun + 1) (objMax Key.auditsRun)
      ∧ obj d Key.auditWorst = max (obj c Key.auditWorst) (topRatio es) ∧ ((∀ e ∈ es, e.2.2.2 = false) → d.ev = c.ev)
      ∧ ((∃ e ∈ es, e.2.2.2 = true) → tgetD d.ev.counts 0x0902 0 = min (tgetD c.ev.counts 0x0902 0 + 1) (2 ^ 32 - 1))
      ∧ d.st = c.st ∧ d.alm = c.alm := by
  intro d
  obtain ⟨hst, halm, hruns, hworst⟩ := auditRaised_frame (auditCounted c (topRatio es)) g n es
  obtain ⟨cev, cst, calm⟩ := auditCounted_frame c (topRatio es)
  refine ⟨hruns.trans (auditsRun_auditCounted c _), hworst.trans (auditWorst_auditCounted c _), fun h => ?_, fun h => ?_, hst.trans cst,
    halm.trans calm⟩
  · exact (congrArg Core.ev (auditRaised_none _ h)).trans cev
  · obtain ⟨args, ha⟩ := auditRaised_some (auditCounted c (topRatio es)) (g := g) (n := n) h
    rw [show d = _ from ha, raise_counts, tgetD_tset_self, cev]

end

/-- The core once an audit's kept results are taken out of the array. -/
def auditTaken (c : Core) (g n : Nat) : Core := modArr c g fun x => { x with audits := tdel x.audits n }

/-- What the check does in its three cases: no audit, an audit that AUDIT_ENABLE passes over, and one that is made. -/
theorem exec_auditCheck {s : State} {g : Nat} (deferred : Bool) (m : Nat) (a w : List (List Nat)) (hr : Runs s) (hg : g < 192) :
    let n := auditNumber deferred m
    let es := auditElems (obj s.core Key.auditTol) a w (tgetD (stn s.core g).arr.audits n [])
    exec (.auditCheck g deferred m a w) s = .next (withCore s
      (if running s.core = false ∨ tget (stn s.core g).arr.audits n = none then s.core
       else if obj s.core Key.auditEnable ≠ 1 then auditTaken s.core g n
       else auditRaised (auditCounted (auditTaken s.core g n) (topRatio es)) g n es)) := by
  intro n es
  have he : exec (.auditCheck g deferred m a w) s = execAuditCheck g deferred m a w s := rfl
  rw [he, execAuditCheck, inRange_lt hg, onCore_powered _ (runs_powered hr)]
  simp only [Bool.not_eq_true', Option.isNone_iff_eq_none]
  rfl

theorem auditsSampleTheArray : Goals.AuditsSampleTheArray := by
  intro s g m deferred a w hr hg hm k n index kept gone
  have hexec := exec_auditCheck deferred m a w hr hg
  have hmade {y : List (List Nat)} (hrun : running s.core = true) (hy : tget kept n = some y) :
      ¬(running s.core = false ∨ tget kept n = none) := by simp [hrun, hy]
  refine ⟨sampled_auditNumber_iff s.core g deferred hm, fun y hrun hen hy => ?_, fun y hrun hen hy => ?_, fun h => ?_⟩
  · have hkept : tgetD kept n [] = y := by simp [tgetD, hy]
    let es := auditElems (obj s.core Key.auditTol) a w y
    have hnext : exec (.auditCheck g deferred m a w) s
        = .next (withCore s (auditRaised (auditCounted gone (topRatio es)) g n es)) := by
      rw [hexec, if_neg (hmade hrun hy), if_neg (not_not.2 hen), hkept]; rfl
    obtain ⟨hruns, hworst, hquiet, hraised, hst, halm⟩ := auditMade_spec gone g n es
    refine ⟨_, hnext, hruns, ?_, fun e he => ?_, hquiet, hraised, rfl, hst, halm⟩
    · exact (le_max_left _ _).trans_eq hworst.symm
    · exact ((le_topRatio he).trans (le_max_right _ _)).trans_eq hworst.symm
  · rw [hexec, if_neg (hmade hrun hy), if_pos hen]; rfl
  · rw [hexec, if_pos h]; rfl

/-- Settles O60: a check counts, compares and raises in that order (`exec_auditCheck`), and a raise counts, asks for a stop and enters the
log in that order (`raise_eq`). -/
theorem auditAndEventLog : Obligations.AuditAndEventLog := ⟨auditsSampleTheArray, eventLogKeepsTheNewest⟩

end Sys2Proof.Machine

namespace Sys2Proof.Machine

/-! ## The segment window (O18; R81 to R83) -/

/-- The alignment exponent over one more row of a segment (R82). -/
def alignTo (acc : Option Int) (p : Product) : Option Int :=
  match p, acc with
  | .val _ _ x, some y => some (max x y)
  | .val _ _ x, none => some x
  | _, _ => acc

theorem eMax_eq_foldl (ps : List Product) : eMax ps = ps.foldl alignTo none := rfl

theorem foldl_alignTo_bound {ps : List Product} {acc : Option Int} {em : Int} (h : ps.foldl alignTo acc = some em) :
    (∀ y, acc = some y → y ≤ em) ∧ ∀ n s x, .val n s x ∈ ps → x ≤ em := by
  induction ps generalizing acc with
  | nil => exact ⟨fun y hy => (Option.some.inj (hy.symm.trans h)).le, by simp⟩
  | cons p ps ih =>
    obtain ⟨hacc, hps⟩ := ih h
    cases p with
    | none | nan b | inf b => exact ⟨hacc, by simpa using hps⟩
    | val n s x =>
      have hx : x ≤ em ∧ ∀ y, acc = some y → y ≤ em := by
        cases acc with
        | none => exact ⟨hacc x rfl, by simp⟩
        | some y =>
          have hxy := hacc (max x y) rfl
          exact ⟨(le_max_left x y).trans hxy, fun y' hy => by cases hy; exact (le_max_right x y).trans hxy⟩
      refine ⟨hx.2, fun n' s' x' hm => ?_⟩
      rcases List.mem_cons.1 hm with hm | hm
      · cases hm; exact hx.1
      · exact hps _ _ _ hm

/-- The alignment exponent is at least that of every included product (R82). -/
theorem le_eMax {ps : List Product} {em : Int} (h : eMax ps = some em) {n : Bool} {s : Nat} {x : Int} (hp : .val n s x ∈ ps) : x ≤ em :=
  (foldl_alignTo_bound h).2 n s x hp

/-- What one row adds to the window (R83): an included product truncated on its own, nothing else. -/
def windowTerm (frac ph em : Int) (p : Product) : Int :=
  match p with
  | .val n s x => floorAt n s (x - ph + frac - em)
  | _ => 0

theorem window_eq_sum (frac ph em : Int) (ps : List Product) : window frac ph em ps = (ps.map (windowTerm frac ph em)).sum := by
  have hstep (acc : Int) : ps.foldl (fun acc p => match p with
      | .val n s x => acc + floorAt n s (x - ph + frac - em)
      | _ => acc) acc = acc + (ps.map (windowTerm frac ph em)).sum := by
    induction ps generalizing acc with
    | nil => simp
    | cons p ps ih =>
      rw [List.foldl_cons, ih, List.map_cons, List.sum_cons]
      cases p <;> simp [windowTerm, add_assoc]
  exact (hstep 0).trans (zero_add _)

/-- A truncated magnitude below 2^b, at an exponent that leaves at most `f` bits of it above the point, needs `f` bits and its sign. -/
theorem floorAt_bound {neg : Bool} {m a f : Nat} {e : Int} (hm : m < 2 ^ a) (he : (a : Int) + e ≤ f) :
    -2 ^ f ≤ floorAt neg m e ∧ floorAt neg m e < 2 ^ f := by
  unfold floorAt
  split
  · next h0 =>
    obtain ⟨k, rfl⟩ := Int.eq_ofNat_of_zero_le h0
    have hlt : m <<< k < 2 ^ f := by
      rw [Nat.shiftLeft_eq]
      calc m * 2 ^ k < 2 ^ a * 2 ^ k := by gcongr
        _ = 2 ^ (a + k) := (pow_add ..).symm
        _ ≤ 2 ^ f := Nat.pow_le_pow_right (by norm_num) (by omega)
    have : ((m <<< k : Nat) : Int) < 2 ^ f := by exact_mod_cast hlt
    simp only [intAt, sub_zero, Int.toNat_natCast]
    split
    · constructor <;> linarith
    · constructor <;> linarith
  · next h0 =>
    obtain ⟨k, hk⟩ : ∃ k : Nat, (-e).toNat = k := ⟨_, rfl⟩
    have hpow : (2 : Int) ^ a ≤ 2 ^ f * 2 ^ k := by
      rw [← pow_add]; exact pow_le_pow_right₀ (by norm_num) (by omega)
    have hm' : (m : Int) < 2 ^ a := by exact_mod_cast hm
    have h2k : (0 : Int) < 2 ^ k := by positivity
    simp only [hk]
    constructor
    · rw [Int.le_ediv_iff_mul_le h2k]
      split <;> linarith
    · rw [Int.ediv_lt_iff_lt_mul h2k]
      split <;> linarith

/-- The significand of a magnitude fits one bit more than its fraction. -/
theorem fieldMag_sig_lt {fw fr : Nat} (emin : Int) (ex : Nat) (h : fr < 2 ^ fw) : (fieldMag fw emin ex fr).1 < 2 ^ (fw + 1) := by
  rw [pow_succ]
  unfold fieldMag
  split
  · exact h.trans_le (Nat.le_mul_of_pos_right _ two_pos)
  · simp only; omega

theorem dec_sig_lt (f : Fmt) {p : Nat} {n : Bool} {m : Nat} {e : Int} (h : f.dec p = .fin n m e) : m < 2 ^ (f.fw + 1) := by
  by_cases hex : bits p f.fw f.ew = 2 ^ f.ew - 1
  · simp only [Fmt.dec, hex, if_true] at h
    split at h <;> cases h
  · rw [dec_eq_fieldMag f p hex] at h
    cases h
    exact fieldMag_sig_lt _ _ (bits_lt p 0 f.fw)

/-- The significand of an array operand fits one bit more than its format's fraction (R81). -/
theorem decTag_sig_lt {t p : Nat} (ht : t = 1 ∨ t = 2 ∨ t = 3) {n : Bool} {m : Nat} {e : Int} (h : decTag t p = .fin n m e) :
    m < 2 ^ ((phi t).toNat + 1) := by
  rcases ht with rfl | rfl | rfl
  · by_cases hn : IsE4M3NaN p
    · rw [decTag, decE4M3_nan hn] at h; cases h
    · rw [decTag, decE4M3_eq_fieldMag hn] at h
      cases h
      exact fieldMag_sig_lt (-6) _ (bits_lt p 0 3)
  · exact dec_sig_lt e5m2 h
  · exact dec_sig_lt bf16 h

/-- Only two finite operands whose significands are not zero make an included product (R82, R86). -/
theorem product_eq_val {fa fw a w : Nat} {n : Bool} {s : Nat} {x : Int} (h : product fa fw a w = .val n s x) :
    ∃ n₁ m₁ e₁ n₂ m₂ e₂, decTag fa a = .fin n₁ m₁ e₁ ∧ decTag fw w = .fin n₂ m₂ e₂ ∧ s = m₁ * m₂ := by
  unfold product at h
  cases ha : decTag fa a <;> cases hw : decTag fw w <;> simp only [ha, hw] at h
  case fin.fin =>
    split at h <;> cases h
    exact ⟨_, _, _, _, _, _, rfl, rfl, rfl⟩
  case inf.fin => split at h <;> cases h
  case fin.inf => split at h <;> cases h
  all_goals cases h

/-- The significand of an included product fits two bits more than both fractions together (R81, R82). -/
theorem product_sig_lt {fa fw a w : Nat} (ha : fa = 1 ∨ fa = 2 ∨ fa = 3) (hw : fw = 1 ∨ fw = 2 ∨ fw = 3) {n : Bool} {s : Nat} {x : Int}
    (h : product fa fw a w = .val n s x) : s < 2 ^ ((phi fa).toNat + 1 + ((phi fw).toNat + 1)) := by
  obtain ⟨_, m₁, _, _, m₂, _, h₁, h₂, rfl⟩ := product_eq_val h
  rw [pow_add]
  exact Nat.mul_lt_mul'' (decTag_sig_lt ha h₁) (decTag_sig_lt hw h₂)

theorem phi_toNat (t : Nat) : ((phi t).toNat : Int) = phi t := by
  unfold phi
  split_ifs <;> rfl

/-- The sum of at most `n` numbers below `b` in magnitude. -/
theorem sum_bound {l : List Int} {n b : Nat} (hlen : l.length ≤ n) (hn : 0 < n) (hb : 0 < b) (h : ∀ v ∈ l, -(b : Int) ≤ v ∧ v < b) :
    -(n * b : Int) ≤ l.sum ∧ l.sum < n * b := by
  have hlen : (l.length : Int) ≤ n := Nat.cast_le.2 hlen
  have hlow := List.card_nsmul_le_sum l (-(b : Int)) fun v hv => (h v hv).1
  have hhigh := List.sum_le_card_nsmul l ((b : Int) - 1) fun v hv => Int.le_sub_one_of_lt (h v hv).2
  rw [nsmul_eq_mul] at hlow hhigh
  constructor
  · nlinarith
  · nlinarith

/-- A window of at most `n` rows with `frac` fraction bits holds `n` magnitudes of two bits more (R83). -/
theorem window_bound {fa fw : Nat} (ha : fa = 1 ∨ fa = 2 ∨ fa = 3) (hw : fw = 1 ∨ fw = 2 ∨ fw = 3) (frac : Nat)
    {as ws : List Nat} {em : Int} (hem : eMax (List.zipWith (product fa fw) as ws) = some em) {n : Nat} (hn : as.length ≤ n) (h0 : 0 < n) :
    -(n * (2 ^ (frac + 2) : Nat) : Int) ≤ window frac (phi fa + phi fw) em (List.zipWith (product fa fw) as ws)
      ∧ window frac (phi fa + phi fw) em (List.zipWith (product fa fw) as ws) < n * (2 ^ (frac + 2) : Nat) := by
  rw [window_eq_sum]
  refine sum_bound (by simp only [List.length_map, List.length_zipWith]; omega) h0 (by positivity) fun v hv => ?_
  obtain ⟨p, hp, rfl⟩ := List.mem_map.1 hv
  cases p with
  | val neg s x =>
    have hx : x ≤ em := le_eMax hem hp
    obtain ⟨i, hi, hpi⟩ := List.getElem_of_mem hp
    rw [List.getElem_zipWith] at hpi
    rw [Nat.cast_pow]
    refine floorAt_bound (product_sig_lt ha hw hpi) ?_
    push_cast [phi_toNat]
    omega
  | none | nan b | inf b => simp [windowTerm]

/-- Settles O18: each truncated product is below 2^(frac + 2) in magnitude (`floorAt_bound`), and 16 of 2^15 make 2^19, 8 of 2^20 make
2^23 (`window_bound`). -/
theorem segmentWindowNeverOverflows : Obligations.SegmentWindowNeverOverflows := by
  intro fa fw as ws em hem
  refine ⟨fun ha hw _ hn => ?_, fun ha hw _ hn => ?_⟩
  · exact window_bound (ha.imp_right .inl) (hw.imp_right .inl) 13 hem hn (by norm_num)
  · exact window_bound (.inr (.inr ha)) (.inr (.inr hw)) 18 hem hn (by norm_num)

end Sys2Proof.Machine

namespace Sys2Proof.Machine

/-! ## Special cases of a segment, and the add modes (O19; R84, R86, R88) -/

theorem firstNan_none {ps : List Product} (h : ∀ p ∈ ps, ∀ b, p ≠ .nan b) : firstNan ps = none := by
  refine List.findSome?_eq_none_iff.2 fun p hp => ?_
  cases p with
  | nan b => exact absurd rfl (h _ hp b)
  | none | inf b | val n s x => rfl

/-- The earliest NaN case decides (R86). -/
theorem firstNan_append {pre post : List Product} {n : Bool} (h : ∀ p ∈ pre, ∀ b, p ≠ .nan b) :
    firstNan (pre ++ .nan n :: post) = some n := by
  have hpre := firstNan_none h
  unfold firstNan at hpre ⊢
  rw [List.findSome?_append, hpre]
  rfl

theorem hasInf_iff (ps : List Product) (n : Bool) : hasInf ps n = true ↔ .inf n ∈ ps := by
  simp [hasInf]

theorem eMax_none {ps : List Product} (h : ∀ p ∈ ps, p = .none) : eMax ps = none := by
  rw [List.eq_replicate_of_mem h, eMax_eq_foldl]
  induction ps.length with
  | zero => rfl
  | succ k ih => exact ih

theorem qnan_fp32 (n : Bool) : fp32.qnan n = 0x7FC00000 + if n then 2 ^ 31 else 0 := by cases n <;> rfl

theorem segmentSpecialCases : Goals.SegmentSpecialCases := by
  intro fa fw ea ew ps
  refine ⟨fun h => ?_, fun pre post n hps hpre => ?_, fun hn hpos hneg => ?_, fun n hn hin hout => ?_⟩
  · have hnan : firstNan ps = none := firstNan_none fun p hp b => by rw [h p hp]; simp
    have hinf (n : Bool) : hasInf ps n = false := by
      rw [← Bool.not_eq_true, hasInf_iff]
      exact fun hp => by cases h _ hp
    simp [promote, hnan, hinf, eMax_none h]
  · rw [hps, promote, firstNan_append hpre]
    exact qnan_fp32 n
  · simp only [promote, firstNan_none hn, (hasInf_iff ps _).2 hpos, (hasInf_iff ps _).2 hneg]
    rfl
  · have hin : hasInf ps n = true := (hasInf_iff ps n).2 hin
    have hout : hasInf ps (!n) = false := by rwa [← Bool.not_eq_true, hasInf_iff]
    rw [promote, firstNan_none hn]
    cases n
    · have hout : hasInf ps true = false := hout
      simp only [hin, hout]
      rfl
    · have hout : hasInf ps false = false := hout
      simp only [hin, hout]
      rfl

theorem addModes : Goals.AddModes := by
  intro s c y
  refine ⟨rfl, rfl, fun h => ?_, fun h => ?_⟩
  · simp only [enterEntry, h, Bool.false_eq_true, if_false]
  · simp only [enterEntry, h, if_true]

/-- Settles O19: the cases of a promotion in the order in which they are judged, and each add mode by its operations. -/
theorem arrayArithmetic : Obligations.ArrayArithmetic := ⟨segmentSpecialCases, addModes⟩

end Sys2Proof.Machine

namespace Sys2Proof.Machine

/-! ## What watching a read leaves of the image and the objects (R183, R377, R378) -/

/-- The objects in which the Vigil and the error codes keep count, and those of the events they raise. -/
def watchKeys : List Nat := [Key.vigilLogUsed, Key.vigilUnchecked, Key.eccCorrected] ++ bookkeepingKeys

/-- The image stays in force, and every object but those counters keeps its value. -/
structure Counted (c d : Core) : Prop where
  image : d.alm.image = c.alm.image
  objs : ∀ k, k ∉ watchKeys → obj d k = obj c k

section
variable {c d e : Core}

theorem Counted.refl (c : Core) : Counted c c := ⟨rfl, fun _ _ => rfl⟩

theorem Counted.trans (h : Counted c d) (k : Counted d e) : Counted c e :=
  ⟨k.image.trans h.image, fun j hj => (k.objs j hj).trans (h.objs j hj)⟩

theorem Counted.foldl {α : Type} {f : Core → α → Core} (h : ∀ c x, Counted c (f c x)) (l : List α) (c : Core) :
    Counted c (l.foldl f c) := by
  induction l generalizing c with
  | nil => exact Counted.refl c
  | cons x r ih => exact (h c x).trans (ih _)

theorem Noted.counted (h : Noted c d) : Counted c d :=
  ⟨h.image, fun k hk => h.objs k fun hm => hk (List.mem_append_right _ hm)⟩

end

section
variable (c : Core)

theorem counted_setObj {k : Nat} (v : Nat) (h : k ∈ watchKeys) : Counted c (setObj c k v) :=
  ⟨rfl, fun _ hj => obj_setObj_ne c v fun e => hj (e ▸ h)⟩

theorem counted_hazard (kind m other addr pc : Nat) : Counted c (hazard c kind m other addr pc) := by
  unfold hazard
  extract_lets _ d e
  have hd : Counted c d := ⟨rfl, fun _ _ => rfl⟩
  exact (hd.trans (counted_setObj d _ (by simp [watchKeys]))).trans (noted_raise ..).counted

theorem counted_portTouch (m port : Nat) (wrote : Bool) (u : Nat) : Counted c (portTouch c m port wrote u) := by
  unfold portTouch
  extract_lets now p d _
  have hd : Counted c d := by
    unfold d
    split
    · split
      · have hp : Counted c p.2 := ⟨rfl, fun _ _ => rfl⟩
        split
        · exact hp.trans (counted_hazard ..)
        · exact hp
      · exact Counted.refl c
    · exact Counted.refl c
  exact hd.trans ⟨rfl, fun _ _ => rfl⟩

theorem counted_vigilJudge (m u : Nat) : Counted c (vigilJudge m c u) := by
  unfold vigilJudge
  split
  · exact Counted.refl c
  · split_ifs
    · exact Counted.refl c
    · exact counted_hazard ..
    · extract_lets h
      split_ifs
      · exact Counted.refl c
      · exact counted_setObj c _ (by simp [watchKeys])
      · exact counted_hazard ..

theorem counted_vigilRead (m a n port : Nat) : Counted c (vigilRead c m a n port) := by
  unfold vigilRead
  extract_lets d
  have hd : Counted c d := by
    unfold d eccCount
    extract_lets k
    split
    · exact Counted.refl c
    · exact counted_setObj c _ (by simp [watchKeys])
  split
  · refine hd.trans (Counted.foldl (fun c u => ?_) _ _)
    split
    · exact (counted_portTouch ..).trans (counted_vigilJudge ..)
    · exact counted_vigilJudge ..
  · exact hd

/-- Rows read one after another (R184). -/
theorem watched_vigilReads (rows : List Nat) (f : Nat → Nat) (g n port : Nat) :
    Watched c (rows.foldl (fun c a => vigilRead c g (f a) n port) c) := Watched.foldl (fun _ _ => watched_vigilRead ..) rows c

theorem counted_vigilReads (rows : List Nat) (f : Nat → Nat) (g n port : Nat) :
    Counted c (rows.foldl (fun c a => vigilRead c g (f a) n port) c) := Counted.foldl (fun _ _ => counted_vigilRead ..) rows c

end

/-! ## What the operations on the array leave alone -/

/-! ### Tiles and planes -/

section
variable (c : Core) (g : Nat)

theorem stn_setTile_ne {k : Nat} (t : Nat) (x : Tile) (h : k ≠ g) : stn (setTile c g t x) k = stn c k := stn_setStn_ne c _ h

theorem tileOf_setTile (t u : Nat) (x : Tile) :
    tileOf (stn (setTile c g t x) g) u = if t = 0 ↔ u = 0 then x else tileOf (stn c g) u := by
  by_cases ht : t = 0 <;> by_cases hu : u = 0 <;> simp [setTile, tileOf, ht, hu]

@[simp] theorem tileOf_setTile_self (t : Nat) (x : Tile) : tileOf (stn (setTile c g t x) g) t = x := by simp [tileOf_setTile]

/-- The other tile. -/
theorem tileOf_setTile_other {t : Nat} (x : Tile) (h : t < 2) :
    tileOf (stn (setTile c g t x) g) (1 - t) = tileOf (stn c g) (1 - t) := by
  rw [tileOf_setTile, if_neg (by omega)]

theorem planeOf_setPlane (p : Nat) (x : Plane) : planeOf (stn (setPlane c g p x) g) p = x := by
  by_cases hp : p = 0 <;> simp [setPlane, planeOf, hp]

end

theorem isOpen_iff (x : Tile) : isOpen x = true ↔ x.state = .open := by simp [isOpen]

/-- From `c` to `d` of the stations only `g`'s record changed, and no field. -/
structure OneStation (g : Nat) (c d : Core) : Prop where
  others : ∀ k, k ≠ g → stn d k = stn c k
  fl : d.fl = c.fl

/-- From `c` to `d` of the stations only `g`'s array changed, and no field. -/
structure ArrayOnly (g : Nat) (c d : Core) : Prop extends OneStation g c d where
  self : stn d g = { stn c g with arr := (stn d g).arr }

/-- From `c` to `d` of the stations only `g`'s array changed, its tiles apart. -/
structure TilesKept (g : Nat) (c d : Core) : Prop extends ArrayOnly g c d where
  tiles : ∀ t, tileOf (stn d g) t = tileOf (stn c g) t

section
variable {c d e : Core} {g : Nat}

theorem OneStation.trans (h : OneStation g c d) (k : OneStation g d e) : OneStation g c e :=
  ⟨fun j hj => (k.others j hj).trans (h.others j hj), k.fl.trans h.fl⟩

theorem ArrayOnly.trans (h : ArrayOnly g c d) (k : ArrayOnly g d e) : ArrayOnly g c e :=
  ⟨h.toOneStation.trans k.toOneStation, by rw [k.self, h.self]⟩

theorem TilesKept.trans (h : TilesKept g c d) (k : TilesKept g d e) : TilesKept g c e :=
  ⟨h.toArrayOnly.trans k.toArrayOnly, fun t => (k.tiles t).trans (h.tiles t)⟩

theorem UnitsKept.tilesKept (h : UnitsKept c d) : TilesKept g c d :=
  ⟨⟨⟨fun k _ => h.stn k, h.fl⟩, by rw [h.stn]⟩, fun t => by rw [h.stn]⟩

theorem oneStation_setStn (c : Core) (g : Nat) (x : Station) : OneStation g c (setStn c g x) := ⟨fun _ hk => stn_setStn_ne c x hk, rfl⟩

theorem arrayOnly_modArr (c : Core) (g : Nat) (f : ArrayUnit → ArrayUnit) : ArrayOnly g c (modArr c g f) :=
  ⟨oneStation_setStn .., by simp [modArr]⟩

theorem arrayOnly_setTile (c : Core) (g t : Nat) (x : Tile) : ArrayOnly g c (setTile c g t x) :=
  ⟨oneStation_setStn .., by simp [setTile]⟩

theorem tilesKept_modArr (c : Core) (g : Nat) {f : ArrayUnit → ArrayUnit} (h0 : ∀ a, (f a).tile0 = a.tile0)
    (h1 : ∀ a, (f a).tile1 = a.tile1) : TilesKept g c (modArr c g f) :=
  ⟨arrayOnly_modArr c g f, fun t => by simp [modArr, tileOf, h0, h1]⟩

theorem tilesKept_addObj (c : Core) (g k n : Nat) : TilesKept g c (addObj c k n) := (watched_addObj c k n).toUnitsKept.tilesKept

theorem oneStation_issued (c : Core) (g : Nat) : OneStation g c (issued c g) :=
  ⟨fun k hk => by rw [issued_eq, stn_issueAs_ne _ _ hk], issued_fl c g⟩

end

/-! ### Transfers and completions -/

section
variable (c : Core) (g : Nat)

theorem stn_newXfer : stn (newXfer c g).2 g = { stn c g with nextX := (stn c g).nextX + 1, openX := (stn c g).openX ++ [(stn c g).nextX] } :=
  stn_setStn ..

theorem oneStation_newXfer : OneStation g c (newXfer c g).2 := oneStation_setStn ..

theorem stn_closeXfer (x : Nat) : stn (closeXfer c g x) g = { stn c g with openX := (stn c g).openX.filter fun y => y ≠ x } := stn_setStn ..

theorem oneStation_closeXfer (x : Nat) : OneStation g c (closeXfer c g x) := oneStation_setStn ..

theorem stn_complete (fin : Option (Nat × Nat)) (k : Nat) : stn (complete c g fin) k = stn c k := by cases fin <;> rfl

end

/-- A completion is signalled from a core whose fields are those of the state before (R497). -/
theorem completionHeld_complete {s : State} {d : Core} {g : Nat} (m : Memory) (fin : Option (Nat × Nat)) (h : d.fl = s.core.fl) :
    CompletionHeld s { s with core := complete d g fin, mem := m } g fin := by
  have hu : syncU d (g / 24) = syncU s.core (g / 24) := by simp only [syncU, fld, h]
  cases fin with
  | none => exact h
  | some p =>
    have : (syncU (complete d g (some p)) (g / 24)).held = (syncU d (g / 24)).held ++ [signalOf g p.1 p.2] := by
      simp [complete, unitSignal, holdOp, signalOf]
    rwa [hu] at this

end Sys2Proof.Machine

namespace Sys2Proof.Machine

/-! ## MMA (O20; R253, R255) -/

/-! ### Addresses (R249) -/

theorem addrFault_none_iff {rows : List Nat} {n al : Nat} : addrFault rows n al = none ↔ ∀ a ∈ rows, a % al = 0 ∧ a + n ≤ stSize := by
  unfold addrFault
  split
  · next a ha =>
    have hbad : a % al ≠ 0 := by simpa using List.find?_some ha
    exact iff_of_false (by simp) fun h => hbad (h a (List.mem_of_find?_eq_some ha)).1
  · next ha =>
    rw [Option.map_eq_none_iff]
    simp only [List.find?_eq_none, decide_eq_true_eq, ne_eq, not_not, not_lt] at ha ⊢
    exact ⟨fun h a hm => ⟨ha a hm, h a hm⟩, fun h a hm => (h a hm).2⟩

/-- Rows `stride` apart. -/
theorem addrFault_range {base stride k n : Nat} (h : ∀ i, i < k → (base + i * stride) % 64 = 0 ∧ base + i * stride + n ≤ stSize) :
    addrFault ((List.range k).map fun i => base + i * stride) n 64 = none :=
  addrFault_none_iff.2 fun a ha => by
    obtain ⟨i, hi, rfl⟩ := List.mem_map.1 ha
    exact h i (List.mem_range.1 hi)

theorem addrFault_some {rows : List Nat} {n al a : Nat} (ha : a ∈ rows) (h : a % al ≠ 0 ∨ stSize < a + n) :
    ∃ y, addrFault rows n al = some y := by
  refine Option.ne_none_iff_exists'.1 fun hn => ?_
  have := addrFault_none_iff.1 hn a ha
  omega

/-! ### Faults -/

/-- A fault that raises an event and leaves the station's sequencer FAULTED (R245). -/
theorem raisedFault_spec {c : Core} {g : Nat} (code kind : Nat) (args : List Nat) (h : (stn c g).seq.state ≠ .faulted) :
    let d := faultSeq (raise c code .fault g 0 args) g (stn c g).seq.pc kind
    stn d g = { stn c g with seq := faultedSeq (stn c g).seq kind } ∧ ∀ k, k ≠ g → stn d k = stn c k := by
  have n := noted_raise c code .fault g 0 args
  have hs := faultSeq_spec (d := raise c code .fault g 0 args) (g := g) kind (by rwa [n.stn])
  rw [n.stn] at hs
  exact ⟨hs.1, fun k hk => (hs.2.1 k hk).trans (n.stn k)⟩

theorem not_faulted_of_atWord {s : State} {g w : Nat} {o : Op} (h : AtWord s g w o) : (stn s.core g).seq.state ≠ .faulted := by
  obtain ⟨-, -, hs, -⟩ := h
  rcases hs with hs | hs <;> rw [hs] <;> decide

/-- An instruction that stops with a fault of a kind changes nothing else of the stations, and no memory (R245). -/
theorem nextWith_fault {s : State} {g w : Nat} {o : Op} (h : AtWord s g w o) {r : Out} (code kind : Nat) (args : List Nat)
    (hr : r = .next (withCore s (faultSeq (raise s.core code .fault g 0 args) g (stn s.core g).seq.pc kind))) :
    NextWith r fun u => stn u.core g = { stn s.core g with seq := faultedSeq (stn s.core g).seq kind } ∧ StationsKept s u g
      ∧ u.mem = s.mem := by
  obtain ⟨hg, hk⟩ := raisedFault_spec code kind args (not_faulted_of_atWord h)
  generalize faultSeq (raise s.core code .fault g 0 args) g (stn s.core g).seq.pc kind = d at hr hg hk
  exact ⟨_, hr, hg, hk, rfl⟩

/-! ### The rows of an MMA -/

theorem mmaRows_eq (c : Core) (h : Shape) (plane : Memory) (rows : List (List Nat)) (last : Bool) (fin : Option (Nat × Nat)) :
    mmaRows c h plane rows 0 h.mode last fin = rows.mapIdx fun m as => Goals.mmaRow c h plane as m last fin := by
  simp only [mmaRows, Goals.mmaRow, Nat.zero_add]

theorem tilesKept_afterChunk (c : Core) (g : Nat) : TilesKept g c (afterChunk c g) := by
  unfold afterChunk
  extract_lets n d
  split
  · exact UnitsKept.tilesKept ⟨rfl, rfl⟩
  · exact (tilesKept_modArr c g (f := fun a => { a with chunk := 0 }) (fun _ => rfl) fun _ => rfl).trans
      (UnitsKept.tilesKept ⟨rfl, rfl⟩)

theorem tilesKept_countProducts (c : Core) (g : Nat) (h : Shape) (plane : Memory) (rows : List (List Nat)) :
    TilesKept g c (countProducts c h plane rows) := UnitsKept.tilesKept ⟨rfl, rfl⟩

theorem tilesKept_keepAudit (c : Core) (g n : Nat) (h : Shape) (rows : List RowUpd) : TilesKept g c (keepAudit c g n h rows) := by
  unfold keepAudit
  split
  · exact tilesKept_modArr c g (fun _ => rfl) fun _ => rfl
  · exact UnitsKept.tilesKept ⟨rfl, rfl⟩

/-- What an MMA that issues does: its rows go behind those of its tile in flight, the other tile stays (R96, R255). -/
theorem mmaIssue_spec (c : Core) (g w : Nat) (h : Shape) (rows : List (List Nat)) :
    let t := bits w 56 1
    let d := mmaIssue c g w h rows
    (tileOf (stn d g) t).inflight = (tileOf (stn c g) t).inflight ++ rows.mapIdx (fun m as =>
        Goals.mmaRow c h (planeOf (stn c g) (bits w 55 1)).data as m (mmaGroup c g (bit w 54)).2 (finOf w (stn c g).seq.pc 19 7))
      ∧ tileOf (stn d g) (1 - t) = tileOf (stn c g) (1 - t)
      ∧ stn d g = { stn c g with seq := issuedSeq (stn c g).seq, arr := (stn d g).arr } ∧ ∀ k, k ≠ g → stn d k = stn c k := by
  intro t d
  have ht : t < 2 := bits_lt w 56 1
  unfold d mmaIssue
  extract_lets s p grp upd c1 c2 c3 x opens c4 c5
  have k2 : TilesKept g c c2 :=
    ((tilesKept_afterChunk c g).trans (tilesKept_countProducts ..)).trans (tilesKept_addObj ..)
  have k3 : ArrayOnly g c2 c3 := arrayOnly_setTile ..
  have k4 : ArrayOnly g c3 c4 := arrayOnly_setTile ..
  have k5 : TilesKept g c4 c5 := by
    unfold c5
    split
    · exact UnitsKept.tilesKept ⟨rfl, rfl⟩
    · exact (tilesKept_keepAudit ..).trans (tilesKept_modArr _ _ (fun _ => rfl) fun _ => rfl)
  have k : ArrayOnly g c c5 := ((k2.toArrayOnly.trans k3).trans k4).trans k5.toArrayOnly
  have hx : x = { tileOf (stn c2 g) t with inflight := (tileOf (stn c2 g) t).inflight ++ upd } := tileOf_setTile_self ..
  have htile (u : Nat) : tileOf (stn (issued c5 g) g) u = tileOf (stn c5 g) u := by
    rw [issued_eq, stn_issueAs_self]; rfl
  refine ⟨?_, ?_, ?_, fun j hj => ?_⟩
  · rw [htile, k5.tiles, tileOf_setTile_self, hx, k2.tiles]
    exact congrArg _ (mmaRows_eq ..)
  · have h3 : tileOf (stn c3 g) (1 - t) = tileOf (stn c2 g) (1 - t) := tileOf_setTile_other _ _ _ ht
    rw [htile, k5.tiles, tileOf_setTile_other _ _ _ ht, h3, k2.tiles]
  · rw [issued_eq, stn_issueAs_self, k.self]
  · rw [issued_eq, stn_issueAs_ne _ _ hj, k.others j hj]

/-! ### MMA at PC -/

theorem exec_mma {s : State} {g w : Nat} (h : AtWord s g w .mma) : exec (.mma g) s = .next (withCore s (mmaAt s.mem g w s.core)) := by
  have he : exec (.mma g) s = execMma g s := rfl
  rw [he, execMma, onCoreMem_atWord _ h]
  simp only [atPc_of_atWord h]
  rfl

/-- An MMA whose plane is not loading, whose tile is OPEN and whose tile on the ring is there awaits nothing (R253). -/
theorem mmaWaits_none {x : Station} {w : Nat} (hl : ∀ l, x.arr.load = some l → l.plane ≠ bits w 55 1)
    (ho : (tileOf x (bits w 56 1)).state = .open) (hr : bit w 57 = true → (headTile x.ring.crit).isSome) : mmaWaits x w = none := by
  unfold mmaWaits
  rw [if_neg, if_neg, if_neg]
  · simpa [← Option.isSome_iff_ne_none] using hr
  · simp [isOpen, ho]
  · split
    · next l h => simpa using hl l h
    · simp

theorem tagClash_false {p : Plane} {fmt : Nat} (h : p.tag = none ∨ p.tag = some fmt) : tagClash p fmt = false := by
  rcases h with h | h <;> simp [tagClash, h]

theorem tagClash_true {p : Plane} {t fmt : Nat} (h : p.tag = some t) (ht : t ≠ fmt) : tagClash p fmt = true := by
  simp [tagClash, h, ht]

/-- What stops an MMA that reads its rows from station memory: a K = 0 MMA reads none, and only its base address is judged (R101, R249). -/
def mmaStop (c : Core) (g : Nat) (h : Shape) (base : Nat) : Option Core :=
  if h.k = 0 then (if base % 64 = 0 then none else some (instrAddrFault c g base))
  else readStop c g ((List.range h.m).map fun i => base + i * h.stride) (h.k * tagBytes h.fa) 64

section
variable {m : Memory} {c : Core} {g w : Nat} {x : Station} {h : Shape} (hx : stn c g = x)
  (hs : shapeOf (tgetD x.desc (bits w 46 8) 0) = h) (hw : mmaWaits x w = none)
include hx hs hw

theorem mmaAt_unpaired (hp : pairOk h.fa h.fw = false) : mmaAt m g w c = formatMismatch c g x.seq.pc := by
  subst hx hs
  simp only [mmaAt, descE, hw, hp, Bool.not_false, if_true]

/-- An MMA whose rows come from the ring (R118). -/
theorem mmaAt_ring {rows : List OpRow} (hp : pairOk h.fa h.fw = true) (hr : bit w 57 = true) (hh : headTile x.ring.crit = some rows) :
    mmaAt m g w c = if rows.length ≠ h.m then faultSeq (raise c 0x0802 .fault g 0 [g, x.seq.pc, rows.length]) g x.seq.pc 4
      else if (rows.any fun r => r.fmt ≠ h.fa) || tagClash (planeOf x (bits w 55 1)) h.fw then formatMismatch c g x.seq.pc
      else mmaIssue (setStn c g { x with ring := { x.ring with crit := useRows x.ring.crit h.m } }) g w h
        (rows.map fun r => rowElems h.fa h.k r.data) := by
  subst hx hs
  simp only [mmaAt, descE, hw, hp, hr, hh, Bool.not_true, Bool.false_eq_true, if_false, if_true]
  rfl

/-- An MMA whose rows come from station memory (R255). -/
theorem mmaAt_memory (hp : pairOk h.fa h.fw = true) (hr : bit w 57 = false) :
    let base := namedAddr x (bits w 42 4) (bits w 20 22)
    let addrs := (List.range h.m).map fun i => base + i * h.stride
    mmaAt m g w c = if tagClash (planeOf x (bits w 55 1)) h.fw then formatMismatch c g x.seq.pc
      else match mmaStop c g h base with
      | some d => d
      | none => mmaIssue (addrs.foldl (fun c a => vigilRead c g (stBase g + a) (h.k * tagBytes h.fa) 1) c) g w h
          (addrs.map fun a => rowElems h.fa h.k (mreadN m (stBase g + a) (h.k * tagBytes h.fa))) := by
  subst hx hs
  simp only [mmaAt, descE, hw, hp, hr, Bool.not_true, Bool.false_eq_true, if_false]
  rfl

end

theorem mmaFaults : Goals.MmaFaults := by
  intro s g w hw x h p base fault hl ho
  have format (hat : mmaAt s.mem g w s.core = formatMismatch s.core g x.seq.pc) : NextWith (exec (.mma g) s) (fault 3) :=
    nextWith_fault hw 0x0801 3 [g, x.seq.pc] ((exec_mma hw).trans (by rw [hat]; rfl))
  have address (a : Nat) (hat : mmaAt s.mem g w s.core = instrAddrFault s.core g a) : NextWith (exec (.mma g) s) (fault 2) :=
    nextWith_fault hw 0x0702 2 [g, 0xFF, 0, a] ((exec_mma hw).trans (by rw [hat]; rfl))
  have wait (hr : bit w 57 = true → (headTile x.ring.crit).isSome) : mmaWaits x w = none := mmaWaits_none hl ho hr
  have unpaired (hr : bit w 57 = true → (headTile x.ring.crit).isSome) (hp : pairOk h.fa h.fw = false) :
      mmaAt s.mem g w s.core = formatMismatch s.core g x.seq.pc := mmaAt_unpaired rfl rfl (wait hr) hp
  have stopped (hp : pairOk h.fa h.fw = true) (hr : bit w 57 = false) (htag : p.tag = none ∨ p.tag = some h.fw) {d : Core}
      (hd : mmaStop s.core g h base = some d) : mmaAt s.mem g w s.core = d := by
    rw [mmaAt_memory (x := x) (h := h) rfl rfl (wait (by simp [hr])) hp hr, if_neg (by simp [p, ← tagClash_false htag]), hd]
  refine ⟨fun hp hr => ?_, fun rows hp hr hh hlen => ?_, fun rows hr hh hlen hbad => ?_, fun t hr htag ht => ?_,
    fun hp hr htag => ⟨fun m hk hm hbad => ?_, fun hk hbase => ?_⟩⟩
  · exact format (unpaired hr hp)
  · refine nextWith_fault hw 0x0802 4 [g, x.seq.pc, rows.length] ((exec_mma hw).trans ?_)
    rw [mmaAt_ring (x := x) (h := h) rfl rfl (wait fun _ => by simp [hh]) hp hr hh, if_pos hlen]
  · have hsome : (headTile x.ring.crit).isSome := by simp [hh]
    cases hp : pairOk h.fa h.fw with
    | false => exact format (unpaired (fun _ => hsome) hp)
    | true =>
      have hbad : ((rows.any fun r => r.fmt ≠ h.fa) || tagClash p h.fw) = true := by
        rcases hbad with hbad | ⟨t, htag, ht⟩
        · simpa using .inl hbad
        · simp [tagClash_true htag ht]
      exact format (by rw [mmaAt_ring (x := x) (h := h) rfl rfl (wait fun _ => hsome) hp hr hh, if_neg (not_not.2 hlen), if_pos hbad])
  · cases hp : pairOk h.fa h.fw with
    | false => exact format (unpaired (by simp [hr]) hp)
    | true =>
      exact format (by rw [mmaAt_memory (x := x) (h := h) rfl rfl (wait (by simp [hr])) hp hr, if_pos (tagClash_true htag ht)])
  · obtain ⟨y, hy⟩ := addrFault_some (List.mem_map_of_mem (f := fun i => base + i * h.stride) (List.mem_range.2 hm)) hbad
    exact address y (stopped hp hr htag (by rw [mmaStop, if_neg hk.ne', readStop, hy]))
  · exact address base (stopped hp hr htag (by rw [mmaStop, if_pos hk, if_neg hbase]))

theorem mmaRow_congr {c d : Core} (hd : ∀ e, scaleRead d e = scaleRead c e) : Goals.mmaRow d = Goals.mmaRow c := by
  funext h plane as m last fin
  simp only [Goals.mmaRow, operandScale, hd]

theorem mmaGroup_congr {c d : Core} {g : Nat} (hi : d.alm.image = c.alm.image) (ho : obj d Key.loopLength = obj c Key.loopLength)
    (hg : (stn d g).seq.pc = (stn c g).seq.pc) (last : Bool) : mmaGroup d g last = mmaGroup c g last := by
  simp only [mmaGroup, hi, ho, hg]

theorem mmaStop_none {s : State} {g base : Nat} {h : Shape}
    (ha : h.k = 0 ∧ base % 64 = 0 ∨ 0 < h.k ∧ (∀ m, m < h.m → (base + m * h.stride) % 64 = 0
        ∧ base + m * h.stride + h.k * tagBytes h.fa ≤ stSize)
      ∧ Goals.sound s g ((List.range h.m).map fun m => base + m * h.stride) (h.k * tagBytes h.fa)) :
    mmaStop s.core g h base = none := by
  rcases ha with ⟨hk, hb⟩ | ⟨hk, hrows, hs⟩
  · rw [mmaStop, if_pos hk, if_pos hb]
  · have hs : rowsBad s.core g ((List.range h.m).map fun m => base + m * h.stride) (h.k * tagBytes h.fa) = none := hs
    rw [mmaStop, if_neg hk.ne', readStop, addrFault_range hrows]
    simp only [hs, Option.map_none]

theorem mapIdx_map {α β γ : Type} (l : List α) (f : α → β) (F : Nat → β → γ) :
    (l.map f).mapIdx F = l.mapIdx fun i a => F i (f a) :=
  List.ext_getElem (by simp) fun i _ _ => by simp

theorem mapIdx_map_range {α β : Type} (n : Nat) (f : Nat → α) (F : Nat → α → β) :
    ((List.range n).map f).mapIdx F = (List.range n).map fun i => F i (f i) :=
  List.ext_getElem (by simp) fun i _ _ => by simp

theorem mmaPutsItsRowsInFlight : Goals.MmaPutsItsRowsInFlight := by
  intro s g w hw x h p t base fin hl ho hpair htag opens
  have hclash : tagClash p h.fw = false := tagClash_false htag
  refine ⟨fun hr haddr => ?_, fun rows hr hh hlen hfmt => ?_⟩
  · let addrs := (List.range h.m).map fun i => base + i * h.stride
    let c := addrs.foldl (fun c a => vigilRead c g (stBase g + a) (h.k * tagBytes h.fa) 1) s.core
    have hwatch : Watched s.core c := watched_vigilReads ..
    have hcount : Counted s.core c := counted_vigilReads ..
    have hat : mmaAt s.mem g w s.core
        = mmaIssue c g w h (addrs.map fun a => rowElems h.fa h.k (mreadN s.mem (stBase g + a) (h.k * tagBytes h.fa))) := by
      rw [mmaAt_memory (x := x) (h := h) rfl rfl (mmaWaits_none hl ho (by simp [hr])) hpair hr, if_neg (by simp [p, ← hclash]),
        mmaStop_none haddr]
    obtain ⟨hfly, hother, hself, hothers⟩ := mmaIssue_spec c g w h
      (addrs.map fun a => rowElems h.fa h.k (mreadN s.mem (stBase g + a) (h.k * tagBytes h.fa)))
    rw [← hat, hwatch.stn] at hfly hother hself
    rw [← hat] at hothers
    refine ⟨_, exec_mma hw, ?_, hother, hself, fun k hk => (hothers k hk).trans (hwatch.stn k), rfl⟩
    rw [mmaRow_congr hwatch.scaleRead, mmaGroup_congr hcount.image (hcount.objs _ (by decide)) (by rw [hwatch.stn]), List.map_map,
      mapIdx_map_range] at hfly
    exact hfly
  · let c := setStn s.core g { x with ring := { x.ring with crit := useRows x.ring.crit h.m } }
    have hat : mmaAt s.mem g w s.core = mmaIssue c g w h (rows.map fun r => rowElems h.fa h.k r.data) := by
      have hany : ¬((rows.any fun r => r.fmt ≠ h.fa) || tagClash p h.fw) = true := by simpa [hclash] using hfmt
      rw [mmaAt_ring (x := x) (h := h) rfl rfl (mmaWaits_none hl ho (by simp [hh])) hpair hr hh, if_neg (not_not.2 hlen), if_neg hany]
    have hx : stn c g = { x with ring := { x.ring with crit := useRows x.ring.crit h.m } } := stn_setStn ..
    have hgroup : mmaGroup c g (bit w 54) = mmaGroup s.core g (bit w 54) :=
      mmaGroup_congr (c := s.core) (d := c) rfl rfl (congrArg (·.seq.pc) hx) _
    have hrow : Goals.mmaRow c = Goals.mmaRow s.core := mmaRow_congr fun _ => rfl
    obtain ⟨hfly, hother, hself, hothers⟩ := mmaIssue_spec c g w h (rows.map fun r => rowElems h.fa h.k r.data)
    rw [← hat, hx] at hfly hother hself
    rw [← hat] at hothers
    refine ⟨_, exec_mma hw, ?_, hother, ?_, fun k hk => (hothers k hk).trans (stn_setStn_ne _ _ hk), rfl⟩
    · rw [hrow, hgroup, mapIdx_map] at hfly
      exact hfly
    · rw [withCore, hself]

/-! ### The issue conditions (R253) -/

theorem mmaAt_waits {m : Memory} {c : Core} {g w row : Nat} (h : mmaWaits (stn c g) w = some row) : mmaAt m g w c = waitOn c g row := by
  simp only [mmaAt, h]

theorem mmaWaits_plane {x : Station} {w : Nat} (h : ∃ l, x.arr.load = some l ∧ l.plane = bits w 55 1) : mmaWaits x w = some 2 := by
  obtain ⟨l, hl, hp⟩ := h
  simp [mmaWaits, hl, hp]

/-- With its plane loaded an MMA awaits its tile, then the tile on the ring. -/
theorem mmaWaits_loaded {x : Station} {w : Nat} (h : ∀ l, x.arr.load = some l → l.plane ≠ bits w 55 1) :
    mmaWaits x w = if !isOpen (tileOf x (bits w 56 1)) then some 3
      else if bit w 57 && (headTile x.ring.crit).isNone then some 4 else none := by
  unfold mmaWaits
  rw [if_neg]
  split
  · next l hl => simpa using h l hl
  · simp

theorem isOpen_false {x : Tile} (h : x.state ≠ .open) : isOpen x = false := by simp [isOpen, h]

theorem issueConditionsWait : Goals.IssueConditionsWait := by
  intro s g w i o cond row hmem hw hcond
  change exec i s = .next (withCore s (waitOn s.core g row))
  have hat := atPc_of_atWord hw
  have waits {f : Memory → Core → Core} (he : exec i s = inRange g 192 (onCoreMem f s)) (hf : f s.mem s.core = waitOn s.core g row) :
      exec i s = .next (withCore s (waitOn s.core g row)) := by
    rw [he, onCoreMem_atWord _ hw, hf]; rfl
  have mma (hwait : mmaWaits (stn s.core g) w = some row) (hi : i = .mma g) (ho : o = .mma) :
      exec i s = .next (withCore s (waitOn s.core g row)) := by
    subst hi ho
    rw [exec_mma hw, mmaAt_waits hwait]
  simp only [List.mem_cons, Prod.mk.injEq, List.not_mem_nil, or_false] at hmem
  rcases hmem with ⟨rfl, rfl, rfl, rfl⟩ | ⟨rfl, rfl, rfl, rfl⟩ | ⟨rfl, rfl, rfl, rfl⟩ | ⟨rfl, rfl, rfl, rfl⟩ |
      ⟨rfl, rfl, rfl, rfl⟩ | ⟨rfl, rfl, rfl, rfl⟩ | ⟨rfl, rfl, rfl, rfl⟩ | ⟨rfl, rfl, rfl, rfl⟩ |
      ⟨rfl, rfl, rfl, rfl⟩ | ⟨rfl, rfl, rfl, rfl⟩ | ⟨rfl, rfl, rfl, rfl⟩
  · exact mma (mmaWaits_plane hcond) rfl rfl
  · exact mma (by rw [mmaWaits_loaded hcond.1, isOpen_false hcond.2]; rfl) rfl rfl
  · obtain ⟨hl, ht, hr, hh⟩ := hcond
    exact mma (by rw [mmaWaits_loaded hl, (isOpen_iff _).2 ht, hr, hh]; rfl) rfl rfl
  · exact waits (f := _) rfl (by simp only [hat, isOpen_false hcond]; rfl)
  · exact waits (f := _) rfl (by simp only [hat]; exact if_pos hcond)
  · exact waits (f := _) rfl (by simp only [hat]; exact if_pos hcond)
  · exact waits (f := _) rfl (by simp only [sigIssue, hat]; exact if_pos hcond)
  · exact waits (f := _) rfl (by simp only [sigIssue, hat]; exact if_pos hcond)
  · exact waits (f := _) rfl (by simp only [hat]; exact if_pos hcond)
  · exact waits (f := _) rfl (by simp only [hat]; exact if_pos hcond)
  · exact waits (f := _) rfl (by simp only [hat]; exact if_pos hcond)

/-- Settles O20: an MMA is judged in the order of `mmaAt`'s equations; what it reads from memory is only watched (`watched_vigilReads`),
and what it counts leaves its tiles as they are (`mmaIssue_spec`). -/
theorem mmaIssues : Obligations.MmaIssues := ⟨mmaPutsItsRowsInFlight, mmaFaults, issueConditionsWait⟩

end Sys2Proof.Machine

namespace Sys2Proof.Machine

/-! ## Byte ranges: little-endian numbers and blocks of one length -/

theorem length_mreadN (m : Memory) (a n : Nat) : (mreadN m a n).length = n := by simp [mreadN]

theorem leBytes_leNat (bs : Bytes) : leBytes bs.length (leNat bs) = bs := by
  induction bs with
  | nil => rfl
  | cons b r ih =>
    have hdiv : (b.toNat + 256 * leNat r) / 256 = leNat r := by have := b.isLt; omega
    have hbyte : BitVec.ofNat 8 (b.toNat + 256 * leNat r) = b := by
      apply BitVec.eq_of_toNat_eq
      have := b.isLt
      rw [BitVec.toNat_ofNat]
      omega
    rw [List.length_cons, leNat, leBytes, hdiv, ih, hbyte]

/-- A number read from memory, written, is the bytes read. -/
theorem leBytes_mnum (m : Memory) (a n : Nat) : leBytes n (mnum m a n) = mreadN m a n := by
  have h := leBytes_leNat (mreadN m a n)
  rwa [length_mreadN] at h

theorem mreadN_add (m : Memory) (a p q : Nat) : mreadN m a (p + q) = mreadN m a p ++ mreadN m (a + p) q := by
  simp [mreadN, List.range_add, Function.comp_def, Nat.add_assoc]

theorem mreadN_congr {m m' : Memory} {a n : Nat} (h : ∀ b, a ≤ b → b < a + n → mread m' b = mread m b) : mreadN m' a n = mreadN m a n :=
  List.map_congr_left fun i hi => h (a + i) (by omega) (by have := List.mem_range.1 hi; omega)

theorem mnum_congr {m m' : Memory} {a n : Nat} (h : ∀ b, a ≤ b → b < a + n → mread m' b = mread m b) : mnum m' a n = mnum m a n :=
  congrArg leNat (mreadN_congr h)

/-- A number among bytes just written. -/
theorem mnum_mwriteN {m : Memory} (hm : memWf m = true) (a : Nat) (pre post : Bytes) (n v : Nat) :
    mnum (mwriteN m a (pre ++ leBytes n v ++ post)) (a + pre.length) n = v % 256 ^ n := by
  rw [mnum, mreadN_mwriteN hm _ _ _ _ (by simp), List.append_assoc, List.drop_left, List.take_left' (length_leBytes ..), leNat_leBytes]

/-- One block among blocks of one length. -/
theorem take_drop_flatten {α : Type} {bs : List (List α)} {n i : Nat} {b : List α} (h : ∀ x ∈ bs, x.length = n) (hb : bs[i]? = some b) :
    (bs.flatten.drop (i * n)).take n = b := by
  induction bs generalizing i with
  | nil => simp at hb
  | cons x r ih =>
    have hx : x.length = n := h x List.mem_cons_self
    cases i with
    | zero =>
      obtain rfl : x = b := by simpa using hb
      simp [← hx]
    | succ k =>
      have hk := ih (fun y hy => h y (List.mem_cons_of_mem _ hy)) (by simpa using hb)
      rw [List.flatten_cons, show (k + 1) * n = x.length + k * n by rw [hx]; ring, ← List.drop_drop, List.drop_left, hk]

/-! ## Rows retire into tiles (O21; R88, R95, R96) -/

/-- What is at an entry updated by a result (R88). -/
def entered (m : Memory) (a : Nat) (mode : AddMode) (y : Nat) : Nat × Nat := enterEntry mode (mnum m a 4) (mnum m (a + 4) 4) y

/-- The entry at an address updated in memory. -/
def enterAt (m : Memory) (a : Nat) (mode : AddMode) (y : Nat) : Memory :=
  mwriteN m a (leBytes 4 (entered m a mode y).1 ++ leBytes 4 (entered m a mode y).2)

theorem enterRow_eq_foldlIdx (m : Memory) (g t : Nat) (r : RowUpd) :
    enterRow m g t r = r.vals.foldlIdx (fun i m y => enterAt m (accAddr g t r.row i) r.mode y) m := rfl

section
variable {m : Memory}

theorem enterAt_memWf (hm : memWf m = true) (a : Nat) (mode : AddMode) (y : Nat) : memWf (enterAt m a mode y) = true :=
  mwriteN_memWf _ _ hm

theorem mread_enterAt {a b : Nat} (mode : AddMode) (y : Nat) (h : b < a ∨ a + 8 ≤ b) : mread (enterAt m a mode y) b = mread m b :=
  mread_mwriteN_ne m _ (by simpa using h)

theorem mnum_enterAt (hm : memWf m = true) (a : Nat) (mode : AddMode) (y : Nat) :
    mnum (enterAt m a mode y) a 4 = (entered m a mode y).1 % 2 ^ 32
      ∧ mnum (enterAt m a mode y) (a + 4) 4 = (entered m a mode y).2 % 2 ^ 32 := by
  have hs := mnum_mwriteN hm a [] (leBytes 4 (entered m a mode y).2) 4 (entered m a mode y).1
  have hk := mnum_mwriteN hm a (leBytes 4 (entered m a mode y).1) [] 4 (entered m a mode y).2
  rw [List.append_nil, length_leBytes] at hk
  exact ⟨hs, hk⟩

theorem entered_congr {m' : Memory} {a : Nat} (mode : AddMode) (y : Nat) (h : ∀ b, a ≤ b → b < a + 8 → mread m' b = mread m b) :
    entered m' a mode y = entered m a mode y := by
  rw [entered, entered, mnum_congr fun b h1 h2 => h b h1 (by omega), mnum_congr fun b h1 h2 => h b (by omega) (by omega)]

/-- Results entered one after another, 8 bytes apart: each entry by its own mode from what was there, and no other byte. -/
theorem enterVals_spec (mode : AddMode) (f : Nat → Nat) (hf : ∀ i, f i = f 0 + 8 * i) (vals : List Nat) (n : Nat) (hm : memWf m = true) :
    let m' := vals.foldlIdx (fun i m y => enterAt m (f i) mode y) m n
    (∀ b, b < f n ∨ f n + 8 * vals.length ≤ b → mread m' b = mread m b)
      ∧ ∀ i y, vals[i]? = some y → mnum m' (f (n + i)) 4 = (entered m (f (n + i)) mode y).1 % 2 ^ 32
          ∧ mnum m' (f (n + i) + 4) 4 = (entered m (f (n + i)) mode y).2 % 2 ^ 32 := by
  induction vals generalizing m n with
  | nil => exact ⟨fun _ _ => rfl, by simp⟩
  | cons v r ih =>
    have hn := hf n
    have hn1 := hf (n + 1)
    obtain ⟨hkeep, hat⟩ := ih (n + 1) (enterAt_memWf hm (f n) mode v)
    simp only [List.foldlIdx_cons, List.length_cons]
    refine ⟨fun b hb => (hkeep b (by omega)).trans (mread_enterAt mode v (by omega)), fun i y hy => ?_⟩
    cases i with
    | zero =>
      obtain rfl : v = y := by simpa using hy
      obtain ⟨h1, h2⟩ := mnum_enterAt hm (f n) mode v
      exact ⟨(mnum_congr fun b _ hb => hkeep b (by simp only [Nat.add_zero] at hb; omega)).trans h1,
        (mnum_congr fun b _ hb => hkeep b (by simp only [Nat.add_zero] at hb; omega)).trans h2⟩
    | succ k =>
      have hk := hf (n + (k + 1))
      have h := hat k y (by simpa using hy)
      rw [show n + 1 + k = n + (k + 1) by omega, entered_congr (m := m) mode y fun b hb _ => mread_enterAt mode v (by omega)] at h
      exact h

end

/-! ### Rows that wait in the partial buffer (R95, R98) -/

/-- The row at the front of the partial buffer goes behind the rows of a tile in flight. -/
def admitOne (c : Core) (g t : Nat) (r : RowUpd) (mode : AddMode) (total : Nat) (rest : List (Nat × RowUpd)) : Core :=
  let x := tileOf (stn c g) t
  let d := setTile c g t { x with inflight := x.inflight ++ [{ r with mode := mode, last := false }]
                                  collect := collectStep x.collect total r.last }
  setStn d g { stn d g with ring := { (stn d g).ring with pbuf := rest } }

/-- What admitting rows leaves: the objects, other stations and fields, of the station its sequencer and the partials counted, each tile's
state, and the rows in flight before those admitted. -/
structure Admitted (g : Nat) (c d : Core) : Prop extends OneStation g c d where
  dict : d.dict = c.dict
  seq : (stn d g).seq = (stn c g).seq
  link : (stn d g).ring.link = (stn c g).ring.link
  state : ∀ t, (tileOf (stn d g) t).state = (tileOf (stn c g) t).state
  inflight : ∀ t, (tileOf (stn c g) t).inflight <+: (tileOf (stn d g) t).inflight

section
variable (c : Core) (g : Nat)

theorem Admitted.refl : Admitted g c c := ⟨⟨fun _ _ => rfl, rfl⟩, rfl, rfl, rfl, fun _ => rfl, fun _ => List.prefix_rfl⟩

theorem Admitted.trans {c d e : Core} {g : Nat} (h : Admitted g c d) (k : Admitted g d e) : Admitted g c e :=
  ⟨h.toOneStation.trans k.toOneStation, k.dict.trans h.dict, k.seq.trans h.seq, k.link.trans h.link, fun t => (k.state t).trans (h.state t),
    fun t => (h.inflight t).trans (k.inflight t)⟩

theorem tileOf_admitOne (t u : Nat) (r : RowUpd) (mode : AddMode) (total : Nat) (rest : List (Nat × RowUpd)) :
    tileOf (stn (admitOne c g t r mode total rest) g) u = if t = 0 ↔ u = 0 then
      { tileOf (stn c g) t with inflight := (tileOf (stn c g) t).inflight ++ [{ r with mode := mode, last := false }],
                                collect := collectStep (tileOf (stn c g) t).collect total r.last }
      else tileOf (stn c g) u := by
  rw [admitOne, stn_setStn, ← tileOf_setTile]
  rfl

theorem admitted_admitOne (t : Nat) (r : RowUpd) (mode : AddMode) (total : Nat) (rest : List (Nat × RowUpd)) :
    Admitted g c (admitOne c g t r mode total rest) := by
  have hsame {u : Nat} (h : t = 0 ↔ u = 0) : tileOf (stn c g) u = tileOf (stn c g) t := by simp only [tileOf, h]
  refine ⟨(arrayOnly_setTile ..).toOneStation.trans (oneStation_setStn ..), rfl, ?_, ?_, fun u => ?_, fun u => ?_⟩
  · simp [admitOne, setTile]
  · simp [admitOne, setTile]
  · rw [tileOf_admitOne]
    split
    · next h => rw [hsame h]
    · rfl
  · rw [tileOf_admitOne]
    split
    · next h => rw [hsame h]; exact List.prefix_append ..
    · exact List.prefix_rfl

theorem admitRows_nil (n : Nat) (h : (stn c g).ring.pbuf = []) : admitRows c g n = c := by
  cases n with
  | zero => rfl
  | succ n => simp only [admitRows, h]

/-- One row admitted, where the tile it may enter and its collection are known. -/
theorem admitRows_cons {n k t total : Nat} {r : RowUpd} {mode : AddMode} {rest : List (Nat × RowUpd)} (h : (stn c g).ring.pbuf = (k, r) :: rest)
    (ht : partialTile (stn c g) k = some t) (hk : groupOf? c g k = some (mode, total)) :
    admitRows c g (n + 1) = admitRows (admitOne c g t r mode total rest) g n := by
  simp only [admitRows, h, ht, hk]
  rfl

theorem admitRows_waits {n k : Nat} {r : RowUpd} {rest : List (Nat × RowUpd)} (h : (stn c g).ring.pbuf = (k, r) :: rest)
    (ht : partialTile (stn c g) k = none) : admitRows c g (n + 1) = c := by
  simp only [admitRows, h, ht]

theorem admitted_admitRows (n : Nat) : Admitted g c (admitRows c g n) := by
  induction n generalizing c with
  | zero => exact Admitted.refl c g
  | succ n ih =>
    cases hb : (stn c g).ring.pbuf with
    | nil => rw [admitRows_nil c g _ hb]; exact Admitted.refl c g
    | cons p rest =>
      obtain ⟨k, r⟩ := p
      cases ht : partialTile (stn c g) k with
      | none => rw [admitRows_waits c g hb ht]; exact Admitted.refl c g
      | some t =>
        cases hk : groupOf? c g k with
        | none => simp only [admitRows, hb, ht, hk]; exact Admitted.refl c g
        | some q =>
          rw [admitRows_cons c g hb ht hk]
          exact (admitted_admitOne ..).trans (ih _)

end

/-! ### The row first in flight -/

/-- The tile whose first row in flight has retired (R95, R96). -/
def retired (x : Tile) (r : RowUpd) (rest : List RowUpd) : Tile :=
  { x with inflight := rest, collect := if r.last then openCollect x.collect else x.collect }

theorem exec_mmaRowRetire {s : State} {g t : Nat} {r : RowUpd} {rest : List RowUpd} (hr : Runs s) (hg : g < 192) (ht : t < 2)
    (hi : (tileOf (stn s.core g) t).inflight = r :: rest) :
    exec (.mmaRowRetire g t) s = .next { s with
      core := complete (admitRows (setTile s.core g t (retired (tileOf (stn s.core g) t) r rest)) g 16) g r.fin
      mem := enterRow s.mem g t r } := by
  have he : exec (.mmaRowRetire g t) s = execMmaRowRetire g t s := rfl
  rw [he, execMmaRowRetire, inRange_lt hg, inRange_lt ht, onBoth_powered _ (runs_powered hr)]
  simp only [hi]
  rfl

theorem rowRetiresIntoItsTile : Goals.RowRetiresIntoItsTile := by
  intro s g t r rest hr hg ht hm hi
  let c := setTile s.core g t (retired (tileOf (stn s.core g) t) r rest)
  have hrest : (tileOf (stn c g) t).inflight = rest := congrArg Tile.inflight (tileOf_setTile_self ..)
  have ha : Admitted g c (admitRows c g 16) := admitted_admitRows c g 16
  have ho : OneStation g s.core (admitRows c g 16) := (arrayOnly_setTile ..).toOneStation.trans ha.toOneStation
  obtain ⟨hkeep, hat⟩ := enterVals_spec r.mode (accAddr g t r.row) (fun i => by simp only [accAddr]; omega) r.vals 0 hm
  simp only [Nat.zero_add, ← enterRow_eq_foldlIdx] at hat hkeep
  refine ⟨_, exec_mmaRowRetire hr hg ht hi, hat, hkeep, ?_, fun hp => ?_, completionHeld_complete _ _ ho.fl, fun k hk => ?_⟩
  · have hin := ha.inflight t
    rw [hrest] at hin
    rw [stn_complete]
    exact hin
  · have hb : (stn c g).ring.pbuf = [] := by rw [(arrayOnly_setTile ..).self]; exact hp
    rw [stn_complete, admitRows_nil c g 16 hb, hrest]
  · exact (stn_complete ..).trans (ho.others k hk)

end Sys2Proof.Machine

namespace Sys2Proof.Machine

/-! ## Drains (O21; R89, R97 to R99, R258) -/

/-! ### DRN -/

/-- The core in which a DRN or an LDW whose ring bit is `ring` has its transfer: one over station memory has a new one (R222). -/
def withXfer (c : Core) (g : Nat) (ring : Bool) : Core := if ring then c else (newXfer c g).2

theorem oneStation_withXfer (c : Core) (g : Nat) (ring : Bool) : OneStation g c (withXfer c g ring) := by
  cases ring
  · exact oneStation_newXfer c g
  · exact ⟨fun _ _ => rfl, rfl⟩

theorem seq_withXfer (c : Core) (g : Nat) (ring : Bool) : (stn (withXfer c g ring) g).seq = (stn c g).seq := by
  cases ring
  · rw [withXfer, if_neg Bool.false_ne_true, stn_newXfer]
  · rfl

/-- DRN that finds its tile OPEN and its addresses within the rules. -/
theorem exec_drn {s : State} {g w d base : Nat} {x : Station} (hw : AtWord s g w .drn) (hx : stn s.core g = x)
    (hd : descE x (bits w 49 8) = d) (hb : namedAddr x (bits w 45 4) (bits w 23 22) = base)
    (ho : (tileOf x (bits w 58 1)).state = .open)
    (ha : bit w 57 = false → ∀ r, r < bits d 0 8 + 1 → (base + r * bits d 32 16) % 64 = 0
        ∧ base + r * bits d 32 16 + (bits d 8 8 + 1) * (if bit d 16 then 8 else 4) ≤ stSize) :
    exec (.drn g) s = .next (withCore s (issued (setTile (withXfer s.core g (bit w 57)) g (bits w 58 1)
      { tileOf x (bits w 58 1) with state := .draining (Goals.drainOf x w) }) g)) := by
  subst hx hd hb
  have he : exec (.drn g) s = execDrn g s := rfl
  rw [he, execDrn, onCoreMem_atWord _ hw, withCore]
  simp only [atPc_of_atWord hw, (isOpen_iff _).2 ho, Bool.not_true, Bool.false_eq_true, if_false]
  cases hr : bit w 57 with
  | true =>
    simp only [Goals.drainOf, hr]
    rfl
  | false =>
    simp only [addrFault_range (ha hr), Goals.drainOf, hr, Bool.false_eq_true, if_false]
    rfl

/-- A tile's record replaced behind a transfer, and the instruction issued: the sequencer and that tile are all the station changes in
that a drain is made of. -/
theorem issued_setTile_withXfer (c : Core) (g t : Nat) (ring : Bool) (y : Tile) :
    let d := issued (setTile (withXfer c g ring) g t y) g
    tileOf (stn d g) t = y ∧ (stn d g).seq = issuedSeq (stn c g).seq ∧ ∀ k, k ≠ g → stn d k = stn c k := by
  intro d
  let e := setTile (withXfer c g ring) g t y
  have hone : OneStation g c d := ((oneStation_withXfer ..).trans (arrayOnly_setTile ..).toOneStation).trans (oneStation_issued e g)
  have hd : stn d g = { stn e g with seq := issuedSeq (stn e g).seq } := by rw [show d = issued e g from rfl, issued_eq, stn_issueAs_self]
  have hseq : (stn e g).seq = (stn c g).seq := by rw [(arrayOnly_setTile ..).self]; exact seq_withXfer ..
  refine ⟨?_, ?_, hone.others⟩
  · rw [hd, ← tileOf_setTile_self (withXfer c g ring) g t y]
    rfl
  · rw [hd, hseq]

/-! ### Copy-out to station memory (R89, R97) -/

/-- One row of a copy-out: watched, and written at its address. -/
def copyRow (g base stride i : Nat) (acc : Core × Memory) (vs : List Nat) : Core × Memory :=
  let a := stBase g + base + i * stride
  (vigilWrite acc.1 g a (4 * vs.length) 5, mwriteN acc.2 a (elemBytes 4 vs))

theorem watched_copyRows (g base stride : Nat) (rows : List (List Nat)) (n : Nat) (acc : Core × Memory) :
    Watched acc.1 (rows.foldlIdx (copyRow g base stride) acc n).1 := by
  induction rows generalizing n acc with
  | nil => exact Watched.refl _
  | cons vs r ih => exact (watched_vigilWrite acc.1 g _ _ 5).trans (ih (n + 1) (copyRow g base stride n acc vs))

/-- Rows written one after another, each in a stride of its own: every row reads back, and no other byte changes. -/
theorem copyRows_spec (g base stride : Nat) {len : Nat} (hlen : len ≤ stride) (rows : List (List Nat)) (n : Nat) (acc : Core × Memory)
    (hrows : ∀ vs ∈ rows, (elemBytes 4 vs).length = len) (hm : memWf acc.2 = true) :
    let m := (rows.foldlIdx (copyRow g base stride) acc n).2
    let at' := fun i => stBase g + base + i * stride
    (∀ b, (∀ i, i < rows.length → b < at' (n + i) ∨ at' (n + i) + len ≤ b) → mread m b = mread acc.2 b)
      ∧ ∀ i vs, rows[i]? = some vs → ∀ o k, o + k ≤ len → mreadN m (at' (n + i) + o) k = ((elemBytes 4 vs).drop o).take k := by
  induction rows generalizing n acc with
  | nil => exact ⟨fun _ _ => rfl, by simp⟩
  | cons vs r ih =>
    have hvs : (elemBytes 4 vs).length = len := hrows vs List.mem_cons_self
    let acc' := copyRow g base stride n acc vs
    obtain ⟨hkeep, hread⟩ := ih (n + 1) acc' (fun x hx => hrows x (List.mem_cons_of_mem _ hx)) (mwriteN_memWf _ _ hm)
    simp only [List.foldlIdx_cons, List.length_cons]
    refine ⟨fun b hb => ?_, fun i ws hi o k hok => ?_⟩
    · have hkeep' := hkeep b fun i hi => by
        have := hb (i + 1) (by omega)
        rwa [show n + (i + 1) = n + 1 + i by omega] at this
      exact hkeep'.trans (mread_mwriteN_ne acc.2 _ (by have := hb 0 (by omega); rwa [hvs]))
    · cases i with
      | zero =>
        obtain rfl : vs = ws := by simpa using hi
        rw [← mreadN_mwriteN hm (elemBytes 4 vs) _ o k (by omega)]
        refine mreadN_congr fun b _ hb => hkeep b fun i _ => .inl ?_
        have : (n + 1 + i) * stride = n * stride + stride + i * stride := by ring
        simp only [Nat.add_zero] at hb ⊢
        omega
      | succ j =>
        have h := hread j ws (by simpa using hi) o k hok
        rwa [show n + 1 + j = n + (j + 1) by omega] at h

/-- The bytes of a drained row are those of its entries, one after another. -/
theorem elemBytes_drainRow (m : Memory) (g t r cols : Nat) (pair : Bool) :
    elemBytes 4 (drainRow m g t r cols pair) = ((List.range cols).map fun k => elemBytes 4 (drainEntry m g t r k pair)).flatten := by
  simp only [drainRow, elemBytes, List.map_flatten, List.map_map, List.flatten_flatten, Function.comp_def]

theorem length_drainEntry (m : Memory) (g t r k : Nat) (pair : Bool) :
    (elemBytes 4 (drainEntry m g t r k pair)).length = 4 * (if pair then 2 else 1) := by
  cases pair <;> simp [drainEntry]

theorem length_drainRow (m : Memory) (g t r cols : Nat) (pair : Bool) :
    (elemBytes 4 (drainRow m g t r cols pair)).length = 4 * cols * (if pair then 2 else 1) := by
  rw [elemBytes_drainRow]
  simp only [List.length_flatten, List.map_map, Function.comp_def, length_drainEntry, List.map_const', List.length_range, List.sum_replicate,
    smul_eq_mul]
  ring

/-- One entry of a drained row. -/
theorem take_drop_drainRow (m : Memory) (g t r : Nat) {k cols : Nat} (pair : Bool) (hk : k < cols) :
    ((elemBytes 4 (drainRow m g t r cols pair)).drop (k * (4 * (if pair then 2 else 1)))).take (4 * (if pair then 2 else 1))
      = elemBytes 4 (drainEntry m g t r k pair) := by
  rw [elemBytes_drainRow]
  refine take_drop_flatten (fun x hx => ?_) (by simp [hk])
  obtain ⟨j, -, rfl⟩ := List.mem_map.1 hx
  exact length_drainEntry ..

theorem elemBytes_drainEntry_pair (m : Memory) (g t r k : Nat) : elemBytes 4 (drainEntry m g t r k true) = mreadN m (accAddr g t r k) 8 := by
  rw [mreadN_add m _ 4 4, ← leBytes_mnum, ← leBytes_mnum]
  simp [drainEntry, elemBytes]

theorem elemBytes_drainEntry_sum (m : Memory) (g t r k : Nat) :
    elemBytes 4 (drainEntry m g t r k false) = leBytes 4 (fp32.add (mnum m (accAddr g t r k) 4) (mnum m (accAddr g t r k + 4) 4)) := by
  simp [drainEntry, elemBytes]

/-- The words of the rows that a drain copies out. -/
def drainedRows (m : Memory) (g t : Nat) (dr : Drain) : List (List Nat) :=
  (List.range dr.rows).map fun r => drainRow m g t r dr.cols dr.pair

theorem exec_drainCopyOut {s : State} {g t a st : Nat} {dr : Drain} (hr : Runs s) (hg : g < 192) (ht : t < 2)
    (hs : (tileOf (stn s.core g) t).state = .draining dr) (hb : dr.begun = false) (hi : (tileOf (stn s.core g) t).inflight = [])
    (hd : dr.dest = some (a, st)) :
    exec (.drainCopyOut g t) s = .next { s with
      core := setTile ((drainedRows s.mem g t dr).foldlIdx (copyRow g a st) (s.core, s.mem)).1 g t
        { tileOf (stn s.core g) t with state := .draining { dr with begun := true } }
      mem := ((drainedRows s.mem g t dr).foldlIdx (copyRow g a st) (s.core, s.mem)).2 } := by
  have he : exec (.drainCopyOut g t) s = execDrainCopyOut g t s := rfl
  rw [he, execDrainCopyOut, inRange_lt hg, inRange_lt ht, onBoth_powered _ (runs_powered hr)]
  simp only [hs, hb, hi, hd, List.isEmpty_nil, Bool.not_true, Bool.or_self, Bool.false_eq_true, if_false]
  rfl

/-- What a copy-out leaves in memory: each entry in its form, and every byte outside the rows as it was (R89, R97). -/
theorem copyOut_memory (c : Core) {m : Memory} (g t a : Nat) {st : Nat} (dr : Drain) (hst : 4 * dr.cols * (if dr.pair then 2 else 1) ≤ st)
    (hm : memWf m = true) :
    let m' := ((drainedRows m g t dr).foldlIdx (copyRow g a st) (c, m)).2
    let size := 4 * if dr.pair then 2 else 1
    (∀ r k, r < dr.rows → k < dr.cols →
        mreadN m' (stBase g + a + r * st + k * size) size = elemBytes 4 (drainEntry m g t r k dr.pair))
      ∧ ∀ b, (∀ r, r < dr.rows →
          b < stBase g + a + r * st ∨ stBase g + a + r * st + 4 * dr.cols * (if dr.pair then 2 else 1) ≤ b) →
        mread m' b = mread m b := by
  have hrows : ∀ vs ∈ drainedRows m g t dr, (elemBytes 4 vs).length = 4 * dr.cols * (if dr.pair then 2 else 1) := fun vs hvs => by
    obtain ⟨r, -, rfl⟩ := List.mem_map.1 hvs
    exact length_drainRow ..
  have hlen : (drainedRows m g t dr).length = dr.rows := by simp [drainedRows]
  obtain ⟨hkeep, hread⟩ := copyRows_spec g a st hst (drainedRows m g t dr) 0 (c, m) hrows hm
  simp only [Nat.zero_add, hlen] at hkeep hread
  refine ⟨fun r k hr hk => ?_, hkeep⟩
  have hrow : (drainedRows m g t dr)[r]? = some (drainRow m g t r dr.cols dr.pair) := by simp [drainedRows, hr]
  refine (hread r _ hrow (k * (4 * if dr.pair then 2 else 1)) _ ?_).trans (take_drop_drainRow m g t r dr.pair hk)
  split <;> omega

/-! ### The end of a drain (R98, R99) -/

/-- The core once a tile whose drain has gone is OPEN again and takes what waits for it; a drain to station memory has its transfer
acknowledged. -/
def drainEnded (c : Core) (g t : Nat) (dr : Drain) : Core :=
  let d := admitRows (setTile c g t { tileOf (stn c g) t with state := .open }) g 16
  if dr.dest.isSome then closeXfer d g dr.xfer else d

theorem drainEnded_spec (c : Core) (g t : Nat) (dr : Drain) :
    OneStation g c (drainEnded c g t dr) ∧ (tileOf (stn (drainEnded c g t dr) g) t).state = .open
      ∧ (stn (drainEnded c g t dr) g).seq = (stn c g).seq := by
  let o := setTile c g t { tileOf (stn c g) t with state := .open }
  have ho : ArrayOnly g c o := arrayOnly_setTile ..
  have hopen : (tileOf (stn o g) t).state = .open := congrArg Tile.state (tileOf_setTile_self ..)
  have hseq : (stn o g).seq = (stn c g).seq := by rw [ho.self]
  have ha := admitted_admitRows o g 16
  have hd : OneStation g (admitRows o g 16) (drainEnded c g t dr) ∧ (stn (drainEnded c g t dr) g).seq = (stn (admitRows o g 16) g).seq
      ∧ (stn (drainEnded c g t dr) g).arr = (stn (admitRows o g 16) g).arr := by
    unfold drainEnded
    extract_lets d
    split
    · rw [stn_closeXfer]
      exact ⟨oneStation_closeXfer .., rfl, rfl⟩
    · exact ⟨⟨fun _ _ => rfl, rfl⟩, rfl, rfl⟩
  obtain ⟨hone, hseq', harr⟩ := hd
  have htile : tileOf (stn (drainEnded c g t dr) g) t = tileOf (stn (admitRows o g 16) g) t := by simp only [tileOf, harr]
  exact ⟨(ho.toOneStation.trans ha.toOneStation).trans hone, by rw [htile, ha.state, hopen], by rw [hseq', ha.seq, hseq]⟩

theorem exec_drainDone {s : State} {g t : Nat} {dr : Drain} (hr : Runs s) (hg : g < 192) (ht : t < 2)
    (hs : (tileOf (stn s.core g) t).state = .draining dr) (hb : dr.begun = true) (ho : dr.out = []) (hdfw : dr.dfw = false) :
    exec (.drainDone g t) s = .next (withCore s (complete (drainEnded s.core g t dr) g dr.fin)) := by
  have he : exec (.drainDone g t) s = execDrainDone g t s := rfl
  rw [he, execDrainDone, inRange_lt hg, inRange_lt ht, onCore_powered _ (runs_powered hr)]
  simp only [hs, hb, ho, hdfw, List.isEmpty_nil, Bool.and_self, Bool.false_eq_true, if_false, if_true]
  rfl

theorem drainsToStationMemory : Goals.DrainsToStationMemory := by
  intro s g w t x d base rows cols
  refine ⟨fun hw ho ha => ?_, fun dr a st hr hg ht hs hb hi hd hst hm => ?_, fun dr hr hg ht hs hb ho hdfw => ?_⟩
  · obtain ⟨htile, hseq, hothers⟩ := issued_setTile_withXfer s.core g (bits w 58 1) (bit w 57)
      { tileOf x (bits w 58 1) with state := .draining (Goals.drainOf x w) }
    exact ⟨_, exec_drn hw rfl rfl rfl ho ha, congrArg Tile.state htile, hseq, hothers, rfl⟩
  · obtain ⟨hentry, hkeep⟩ := copyOut_memory s.core g t a dr hst hm
    have hwatch := watched_copyRows g a st (drainedRows s.mem g t dr) 0 (s.core, s.mem)
    refine ⟨_, exec_drainCopyOut hr hg ht hs hb hi hd, fun r k hrr hk => ?_, hkeep, congrArg Tile.state (tileOf_setTile_self ..),
      fun j hj => (stn_setTile_ne _ g t _ hj).trans (hwatch.stn j)⟩
    have hrk := hentry r k hrr hk
    cases hp : dr.pair with
    | true =>
      rw [hp, elemBytes_drainEntry_pair] at hrk
      rw [if_pos rfl, ← hrk, show 8 * k = k * (4 * 2) by ring]
      rfl
    | false =>
      rw [hp, elemBytes_drainEntry_sum] at hrk
      rw [if_neg Bool.false_ne_true, ← hrk, show 4 * k = k * (4 * 1) by ring]
      rfl
  · obtain ⟨hone, hopen, hseq⟩ := drainEnded_spec s.core g t dr
    refine ⟨_, exec_drainDone hr hg ht hs hb ho hdfw, ?_, rfl, fun k hk => (stn_complete ..).trans (hone.others k hk), ?_,
      completionHeld_complete _ _ hone.fl⟩
    · rw [withCore, stn_complete, hopen]
    · rw [withCore, stn_complete, hseq]

end Sys2Proof.Machine

namespace Sys2Proof.Machine

/-! ## Ring partials (O21; R93, R95, R98, R401) -/

/-- The row of a partial that comes in, in the group's add mode. -/
def partialRow (dr : Drain) (mode : AddMode) (vs : List Nat) (rest : List (List Nat)) : RowUpd :=
  { row := dr.rows - dr.out.length, mode := mode, vals := vs, zero := false, last := rest.isEmpty, fin := none }

/-- The core once a row has left tile `u` of station `q` and stands in the partial buffer of station `g`. -/
def partialCame (c : Core) (g q u k total : Nat) (dr : Drain) (r : RowUpd) (rest : List (List Nat)) : Core :=
  let d := setTile c q u { tileOf (stn c q) u with state := .draining { dr with out := rest } }
  let n := stn d g
  setStn d g { n with ring := { n.ring with
    pbuf := n.ring.pbuf ++ [(k, r)], link := if rest.isEmpty then linkCount n.ring.link k total else n.ring.link } }

section
variable {s : State} {g q u k total : Nat} {im : Image} {mode : AddMode} {dr : Drain} {vs : List Nat} {rest : List (List Nat)}
  (hr : Runs s) (hg : g < 192) (hi : s.core.alm.image = some im) (hl : 0 < obj s.core Key.loopLength) (hh : heldNow s.core = false)
  (hb : (stn s.core g).ring.pbuf = []) (hk : linkGroup s.core im (obj s.core Key.loopLength) g = some k)
  (hn : nextPartial s.core im (obj s.core Key.loopLength) g k = some (q, u, dr)) (hm : groupOf? s.core g k = some (mode, total))
include hr hg hi hl hh hb hk hn hm

/-- Over a stopped crossing no row comes (R401); else the drain's next row comes, and what the buffer holds is admitted. -/
theorem exec_ringPartialRow (ho : dr.out = vs :: rest) :
    exec (.ringPartialRow g) s =
      if wayStopped s.core (obj s.core Key.loopLength) g (distanceTo (obj s.core Key.loopLength) g q) then .next s
      else .next (withCore s (addObj
        (admitRows (partialCame s.core g q u k total dr (partialRow dr mode vs rest) rest) g 16) Key.ccwRows
        (distanceTo (obj s.core Key.loopLength) g q))) := by
  have he : exec (.ringPartialRow g) s = execRingPartialRow g s := rfl
  rw [he, execRingPartialRow, inRange_lt hg, onCore_powered _ (runs_powered hr)]
  have hgo : ¬(obj s.core Key.loopLength = 0 ∨ heldNow s.core = true ∨ 16 ≤ (stn s.core g).ring.pbuf.length) := by simp [hl.ne', hh, hb]
  simp only [hi, hgo, hk, hn, hm, ho, if_false, partialRow]
  split <;> rfl

end

section
variable (c : Core) {g q : Nat} (u k total : Nat) (dr : Drain) (r : RowUpd) (rest : List (List Nat))

/-- The station whose link a row comes over. -/
theorem stn_partialCame (hq : q ≠ g) : stn (partialCame c g q u k total dr r rest) g = { stn c g with ring := { (stn c g).ring with
    pbuf := (stn c g).ring.pbuf ++ [(k, r)]
    link := if rest.isEmpty then linkCount (stn c g).ring.link k total else (stn c g).ring.link } } := by
  simp only [partialCame, stn_setStn, stn_setTile_ne _ _ _ _ hq.symm]

/-- The station it comes from. -/
theorem tileOf_partialCame (hq : q ≠ g) :
    (tileOf (stn (partialCame c g q u k total dr r rest) q) u).state = .draining { dr with out := rest } := by
  rw [partialCame, stn_setStn_ne _ _ hq, tileOf_setTile_self]

theorem stn_partialCame_ne {j : Nat} (hg : j ≠ g) (hq : j ≠ q) : stn (partialCame c g q u k total dr r rest) j = stn c j := by
  rw [partialCame, stn_setStn_ne _ _ hg, stn_setTile_ne _ _ _ _ hq]

/-- With nothing else in the buffer, the row stays there where no tile may take it. -/
theorem admitRows_partialCame_waits (hq : q ≠ g) (hb : (stn c g).ring.pbuf = []) (ht : partialTile (stn c g) k = none) (n : Nat) :
    admitRows (partialCame c g q u k total dr r rest) g (n + 1) = partialCame c g q u k total dr r rest := by
  have hs := stn_partialCame c u k total dr r rest hq
  exact admitRows_waits (k := k) (r := r) (rest := []) _ g (by rw [hs]; simp [hb]) (by rw [hs]; exact ht)

/-- Else it enters that tile. -/
theorem admitRows_partialCame {t : Nat} {mode : AddMode} (hq : q ≠ g) (hb : (stn c g).ring.pbuf = []) (ht : partialTile (stn c g) k = some t)
    (hm : groupOf? c g k = some (mode, total)) (n : Nat) :
    admitRows (partialCame c g q u k total dr r rest) g (n + 1)
      = admitOne (partialCame c g q u k total dr r rest) g t r mode total [] := by
  have hs := stn_partialCame c u k total dr r rest hq
  have hm : groupOf? (partialCame c g q u k total dr r rest) g k = some (mode, total) := hm
  rw [admitRows_cons (r := r) (rest := []) _ g (by rw [hs]; simp [hb]) (by rw [hs]; exact ht) hm]
  exact admitRows_nil _ g n (by simp [admitOne])

end

theorem ringPartialRowArrives : Goals.RingPartialRowArrives := by
  intro s g q u k total im mode dr vs rest l x ends r hr hg hi hl hh hb hq hu hk hn hm ho
  have hcomes := exec_ringPartialRow hr hg hi hl hh hb hk hn hm ho
  refine ⟨fun hw => hcomes.trans (if_pos hw), fun hw => ?_⟩
  have hends : rest.isEmpty = ends := by cases rest <;> rfl
  have hrow : partialRow dr mode vs rest = r := by simp only [partialRow, hends, r]
  let c := partialCame s.core g q u k total dr r rest
  let d := admitRows c g 16
  have hd : Admitted g c d := admitted_admitRows c g 16
  have hs := stn_partialCame s.core u k total dr r rest hq
  have hexec := hcomes.trans (if_neg (ne_true_of_eq_false hw))
  rw [hrow] at hexec
  refine ⟨_, hexec, ?_, ?_, fun t ht => ?_, fun ht => ?_, fun j hj hjq => ?_, rfl, fun j hj => ?_, ?_⟩
  · exact (congrArg (fun y => (tileOf y u).state) (hd.others q hq)).trans (tileOf_partialCame s.core u k total dr r rest hq)
  · refine hd.link.trans ?_
    rw [hs, hends]
  · have hone : d = admitOne c g t r mode total [] := admitRows_partialCame s.core u k total dr r rest hq hb ht hm 15
    have htile : tileOf (stn c g) t = tileOf x t := by rw [hs]; rfl
    have hin : tileOf (stn d g) t = { tileOf x t with
        inflight := (tileOf x t).inflight ++ [{ r with last := false }], collect := collectStep (tileOf x t).collect total ends } := by
      rw [hone, tileOf_admitOne, if_pos Iff.rfl, htile]
    have hbuf : (stn d g).ring.pbuf = [] := by rw [hone, admitOne, stn_setStn]
    exact ⟨hbuf, congrArg Tile.inflight hin, congrArg Tile.collect hin⟩
  · have hstay : d = c := admitRows_partialCame_waits s.core u k total dr r rest hq hb ht 15
    have hg : stn d g = stn c g := by rw [hstay]
    rw [hs] at hg
    refine ⟨(congrArg (·.ring.pbuf) hg).trans ?_, (congrArg Station.arr hg).trans rfl⟩
    simp [hb, x]
  · exact (hd.others j hj).trans (stn_partialCame_ne s.core u k total dr r rest hj hjq)
  · have hkey : j ≠ Key.ccwRows := by simpa using hj
    exact (obj_addObj_ne d _ hkey).trans (by rw [obj, hd.dict]; rfl)
  · have hobj : obj d Key.ccwRows = obj s.core Key.ccwRows := by rw [obj, hd.dict]; rfl
    exact (obj_addObj d ..).trans (by rw [hobj])

/-- Settles O21: what enters, drains and comes over the ring is written entry by entry (`enterVals_spec`, `copyRows_spec`), and admitting
waiting rows leaves all but the end of the rows in flight (`Admitted`). -/
theorem rowsReachTilesAndMemory : Obligations.RowsReachTilesAndMemory :=
  ⟨rowRetiresIntoItsTile, drainsToStationMemory, ringPartialRowArrives⟩

end Sys2Proof.Machine

namespace Sys2Proof.Machine

/-! ## Weight planes (O22; R73, R74, R256) -/

/-- The station's array changed behind a new transfer. -/
theorem issued_modArr_newXfer (c : Core) (g : Nat) (f : ArrayUnit → ArrayUnit) :
    issued (modArr (newXfer c g).2 g f) g = issueAs c g { stn c g with
      arr := f (stn c g).arr, nextX := (stn c g).nextX + 1, openX := (stn c g).openX ++ [(stn c g).nextX] } := by
  rw [modArr, stn_newXfer, newXfer, setStn_setStn, issued_setStn]

/-- A buffered weight tile that clashes with the format of a load from the weight buffer (R256). -/
def ldwClash (x : Station) (w : Nat) : Bool := match x.ring.wbuf with | some b => bit w 57 && b.fmt ≠ bits w 52 4 | none => false

theorem ldwClash_false {x : Station} {w : Nat} (h : ∀ b, x.ring.wbuf = some b → bit w 57 = true → b.fmt = bits w 52 4) :
    ldwClash x w = false := by
  unfold ldwClash
  split
  · next b hb => simpa using h b hb
  · rfl

theorem exec_ldw {s : State} {g w base : Nat} {x : Station} (hw : AtWord s g w .ldw) (hx : stn s.core g = x)
    (hb : namedAddr x (bits w 48 4) (bits w 26 22) = base) (hl : x.arr.load = none) (hc : ldwClash x w = false)
    (ha : bit w 57 = false → ∀ k, k < (if bits w 52 4 = 3 then 64 else 128) → (base + k * bits w 10 16) % 64 = 0
      ∧ base + k * bits w 10 16 + (if bits w 52 4 = 3 then 512 else 256) ≤ stSize) :
    exec (.ldw g) s = .next (withCore s (issueAs s.core g (Goals.withLoad x w))) := by
  subst hx hb
  have he : exec (.ldw g) s = execLdw g s := rfl
  have haddr : (if bit w 57 then none
      else addrFault (ldwRows (namedAddr (stn s.core g) (bits w 48 4) (bits w 26 22)) (bits w 10 16) (bits w 52 4))
        (if bits w 52 4 = 3 then 512 else 256) 64) = none := by
    cases hr : bit w 57 with
    | true => rfl
    | false => exact addrFault_range (ha hr)
  have hc : ¬ldwClash (stn s.core g) w = true := by simp [hc]
  rw [he, execLdw, onCoreMem_atWord _ hw]
  refine congrArg (fun c => Host.Outcome.next { s with core := c }) ?_
  simp only [atPc_of_atWord hw, hl, haddr, Option.isSome_none, Bool.false_eq_true, if_false]
  refine (if_neg hc).trans ?_
  cases hr : bit w 57 with
  | true =>
    simp only [if_true, Goals.withLoad, Goals.loadOf, hr]
    rw [modArr, issued_setStn]
  | false =>
    simp only [Bool.false_eq_true, if_false, Goals.withLoad, Goals.loadOf, hr]
    rw [issued_modArr_newXfer]
    rfl

/-- The tile that a load reads from station memory (R76, R256). -/
def loadedTile (s : State) (g a st fmt : Nat) : Memory :=
  placeTile fmt (widthOf s.core g) ((List.range (if fmt = 3 then 64 else 128)).flatMap fun k =>
    mreadN s.mem (stBase g + a + k * st) (if fmt = 3 then 512 else 256))

/-- The core in which a load has read its rows. -/
def planeRead (c : Core) (g a st fmt : Nat) : Core :=
  (ldwRows (stBase g + a) st fmt).foldl (fun c y => vigilRead c g y (if fmt = 3 then 512 else 256) 2) c

theorem widthOf_congr {c d : Core} (h : d.alm.image = c.alm.image) (g : Nat) : widthOf d g = widthOf c g := by simp only [widthOf, h]

theorem exec_planeLoadStart {s : State} {g a st : Nat} {l : PlaneLoad} (hr : Runs s) (hg : g < 192) (hl : (stn s.core g).arr.load = some l)
    (ht : l.tile = none) (hs : l.src = some (a, st))
    (he : eccBad s.core (ldwRows (stBase g + a) st l.fmt) (if l.fmt = 3 then 512 else 256) = none) :
    exec (.planeLoadStart g) s = .next (withCore s (modArr (planeRead s.core g a st l.fmt) g fun y =>
      { y with load := some { l with tile := some (loadedTile s g a st l.fmt) } })) := by
  have hx : exec (.planeLoadStart g) s = execPlaneLoadStart g s := rfl
  have hwidth : widthOf (planeRead s.core g a st l.fmt) g = widthOf s.core g := widthOf_congr (counted_vigilReads s.core _ id g _ 2).image g
  have hbytes : ((ldwRows (stBase g + a) st l.fmt).map fun y => mreadN s.mem y (if l.fmt = 3 then 512 else 256)).flatten
      = (List.range (if l.fmt = 3 then 64 else 128)).flatMap fun k => mreadN s.mem (stBase g + a + k * st) (if l.fmt = 3 then 512 else 256) := by
    rw [← List.flatMap_def, ldwRows, List.flatMap_map]
  rw [hx, execPlaneLoadStart, inRange_lt hg, onCoreMem_powered _ (runs_powered hr), withCore, loadedTile, ← hwidth, ← hbytes]
  simp only [hl, ht, hs, he, Option.isSome_none, Bool.false_eq_true, if_false]
  rfl

theorem exec_planeLoadDone {s : State} {g : Nat} {l : PlaneLoad} {tile : Memory} (hr : Runs s) (hg : g < 192)
    (hl : (stn s.core g).arr.load = some l) (ht : l.tile = some tile) :
    exec (.planeLoadDone g) s = .next (withCore s (endLoad (setPlane s.core g l.plane { tag := some l.fmt, data := tile }) g l)) := by
  have he : exec (.planeLoadDone g) s = execPlaneLoadDone g s := rfl
  rw [he, execPlaneLoadDone, inRange_lt hg, onCore_powered _ (runs_powered hr)]
  simp only [hl, ht]
  rfl

/-- A plane's load ends: the port is free, and its transfer, if it has one, is acknowledged. -/
theorem endLoad_spec (c : Core) (g : Nat) (l : PlaneLoad) :
    OneStation g c (endLoad c g l) ∧ stn (endLoad c g l) g = { stn c g with
      arr := { (stn c g).arr with load := none }
      openX := if l.src.isSome then (stn c g).openX.filter (fun y => y ≠ l.xfer) else (stn c g).openX } := by
  unfold endLoad
  extract_lets d
  have hm : stn d g = { stn c g with arr := { (stn c g).arr with load := none } } := stn_setStn ..
  have ho : OneStation g c d := (arrayOnly_modArr ..).toOneStation
  cases hs : l.src.isSome with
  | false => exact ⟨ho, hm⟩
  | true =>
    refine ⟨ho.trans (oneStation_closeXfer ..), ?_⟩
    rw [if_pos rfl, stn_closeXfer, hm]
    rfl

theorem planeLoads : Goals.PlaneLoads := by
  intro s g w x fmt base n
  refine ⟨fun hw hl hc ha => exec_ldw hw rfl rfl hl (ldwClash_false hc) ha, fun l a st hr hg hl ht hs he => ?_, fun l tile hr hg hl ht => ?_⟩
  · have hread : Watched s.core (planeRead s.core g a st l.fmt) := watched_vigilReads s.core _ id g _ 2
    refine ⟨_, exec_planeLoadStart hr hg hl ht hs he, ?_, fun k hk => ?_, rfl⟩
    · rw [withCore, modArr, stn_setStn, hread.stn]
      rfl
    · exact (stn_setStn_ne _ _ hk).trans (hread.stn k)
  · let c := setPlane s.core g l.plane { tag := some l.fmt, data := tile }
    obtain ⟨hone, hself⟩ := endLoad_spec c g l
    have hplane : planeOf (stn c g) l.plane = { tag := some l.fmt, data := tile } := planeOf_setPlane ..
    have htiles : stn c g = { x with arr := (stn c g).arr } ∧ (stn c g).arr.tile0 = x.arr.tile0 ∧ (stn c g).arr.tile1 = x.arr.tile1 := by
      simp only [c, setPlane, stn_setStn]
      split <;> exact ⟨rfl, rfl, rfl⟩
    obtain ⟨hx, h0, h1⟩ := htiles
    refine ⟨_, exec_planeLoadDone hr hg hl ht, ?_, ?_, ?_, ?_, ?_, ?_, fun k hk => ?_, rfl⟩
    · exact (congrArg (planeOf · l.plane) hself).trans hplane
    · exact congrArg (·.arr.load) hself
    · exact (congrArg Station.openX hself).trans (by rw [hx])
    · exact (congrArg Station.seq hself).trans (by rw [hx])
    · exact (congrArg (·.arr.tile0) hself).trans h0
    · exact (congrArg (·.arr.tile1) hself).trans h1
    · exact (hone.others k hk).trans (stn_setStn_ne _ _ hk)

end Sys2Proof.Machine

namespace Sys2Proof.Machine

/-! ## The matrix-vector path (O22; R107 to R109, R257) -/

/-- The addresses of the rows of B that an MVA reads (R257). -/
def mvaRows (x : Station) (w : Nat) : List Nat :=
  let d := descE x (bits w 39 8)
  (List.range (bits d 80 16 + 1)).map fun i => mvaAddr x (bits w 51 4) (bits w 23 8) + i * bits d 64 16

/-- The core in which an MVA has read x and B. -/
def mvaRead (c : Core) (g w : Nat) : Core :=
  let x := stn c g
  let d := descE x (bits w 39 8)
  let c := vigilRead c g (stBase g + mvaAddr x (bits w 55 4) (bits w 31 8)) ((bits d 80 16 + 1) * tagBytes (bits d 28 4)) 3
  (mvaRows x w).foldl (fun c a => vigilRead c g (stBase g + a) ((bits d 8 8 + 1) * tagBytes (bits d 32 4)) 3) c

/-- The MVA that `w` starts: each column over its blocks, from z where it accumulates (R108, R257). -/
def mvaOf (s : State) (g w : Nat) : Mva :=
  let x := stn s.core g
  let d := descE x (bits w 39 8)
  let fa := bits d 28 4
  let fw := bits d 32 4
  let k := bits d 80 16 + 1
  let n := bits d 8 8 + 1
  let za := mvaAddr x (bits w 47 4) (bits w 15 8)
  let xs := elems (tagBytes fa) k (mreadN s.mem (stBase g + mvaAddr x (bits w 55 4) (bits w 31 8)) (k * tagBytes fa))
  let bm := (mvaRows x w).map fun a => elems (tagBytes fw) n (mreadN s.mem (stBase g + a) (n * tagBytes fw))
  { dest := za, fin := finOf w x.seq.pc 14 2, xfer := x.nextX,
    z := (List.range n).map fun i => mvaColumn fa fw (operandScale s.core fa (bits d 36 13)) (operandScale s.core fw (bits d 49 13)) xs
      (bm.map fun r => r.getD i 0) (if bits d 24 2 = 0 then none else some (mnum s.mem (stBase g + za + 4 * i) 4)) }

theorem watched_mvaRead (c : Core) (g w : Nat) : Watched c (mvaRead c g w) :=
  (watched_vigilRead ..).trans (watched_vigilReads ..)

/-- MVA whose addresses meet the rules and whose operands can be read. -/
theorem exec_mva {s : State} {g w d : Nat} {x : Station} (hw : AtWord s g w .mva) (hx : stn s.core g = x) (hd : descE x (bits w 39 8) = d)
    (hf : x.arr.mva = none) (hp : pairOk (bits d 28 4) (bits d 32 4) = true)
    (hxa : addrFault [mvaAddr x (bits w 55 4) (bits w 31 8)] ((bits d 80 16 + 1) * tagBytes (bits d 28 4)) 64 = none)
    (hba : addrFault (mvaRows x w) ((bits d 8 8 + 1) * tagBytes (bits d 32 4)) 64 = none)
    (hza : addrFault [mvaAddr x (bits w 47 4) (bits w 15 8)] (4 * (bits d 8 8 + 1)) 64 = none)
    (hxs : rowsBad s.core g [mvaAddr x (bits w 55 4) (bits w 31 8)] ((bits d 80 16 + 1) * tagBytes (bits d 28 4)) = none)
    (hbs : rowsBad s.core g (mvaRows x w) ((bits d 8 8 + 1) * tagBytes (bits d 32 4)) = none)
    (hzs : bits d 24 2 ≠ 0 → rowsBad s.core g [mvaAddr x (bits w 47 4) (bits w 15 8)] (4 * (bits d 8 8 + 1)) = none) :
    exec (.mva g) s = .next (withCore s
      (issued (modArr (newXfer (mvaRead s.core g w) g).2 g fun a => { a with mva := some (mvaOf s g w) }) g)) := by
  subst hx hd
  have he : exec (.mva g) s = execMva g s := rfl
  have hz : (if bits (descE (stn s.core g) (bits w 39 8)) 24 2 = 0 then none
      else rowsBad s.core g [mvaAddr (stn s.core g) (bits w 47 4) (bits w 15 8)] (4 * (bits (descE (stn s.core g) (bits w 39 8)) 8 8 + 1)))
      = none := by
    split
    · rfl
    · next h => exact hzs h
  have hwatch := watched_mvaRead s.core g w
  have hscale (fmt e : Nat) : operandScale s.core fmt e = operandScale (mvaRead s.core g w) fmt e := by
    simp only [operandScale, hwatch.scaleRead]
  have hnum : (stn s.core g).nextX = (newXfer (mvaRead s.core g w) g).1 := congrArg Station.nextX (hwatch.stn g).symm
  simp only [mvaRows] at hba hbs
  rw [he, execMva, onCoreMem_atWord _ hw, withCore, mvaOf]
  simp only [atPc_of_atWord hw, hf, hp, hxa, hba, hza, hxs, hbs, hz, hscale, hnum, Option.isSome_none, Bool.not_true,
    Bool.false_eq_true, if_false, Option.orElse_eq_orElse, Option.orElse_none]
  rfl

theorem exec_mvaDone {s : State} {g : Nat} {v : Mva} (hr : Runs s) (hg : g < 192) (hv : (stn s.core g).arr.mva = some v) :
    exec (.mvaDone g) s = .next { s with
      core := complete (vigilWrite (closeXfer (modArr s.core g fun a => { a with mva := none }) g v.xfer) g (stBase g + v.dest)
        (4 * v.z.length) 3) g v.fin
      mem := mwriteN s.mem (stBase g + v.dest) (elemBytes 4 v.z) } := by
  have he : exec (.mvaDone g) s = execMvaDone g s := rfl
  rw [he, execMvaDone, inRange_lt hg, onBoth_powered _ (runs_powered hr)]
  simp only [hv]

theorem mvaComputesThenWrites : Goals.MvaComputesThenWrites := by
  intro s g w x d fa fw k n xa ba za inside
  refine ⟨fun hw hf hxa hza hba hp hxs hbs hzs => ?_, fun v hr hg hv => ?_⟩
  · let c := mvaRead s.core g w
    have hexec := exec_mva hw rfl rfl hf hp ((addrFault_row ..).2 hxa) (addrFault_range hba) ((addrFault_row ..).2 hza) hxs hbs hzs
    have hread : Watched s.core c := watched_mvaRead s.core g w
    have hself := stn_issueAs_self c g { stn c g with
      arr := { (stn c g).arr with mva := some (mvaOf s g w) }, nextX := (stn c g).nextX + 1, openX := (stn c g).openX ++ [(stn c g).nextX] }
    rw [← issued_modArr_newXfer c g fun a => { a with mva := some (mvaOf s g w) }, hread.stn] at hself
    have hlen : (mvaOf s g w).z.length = n := by rw [mvaOf, List.length_map, List.length_range]; rfl
    refine ⟨_, hexec, ⟨mvaOf s g w, congrArg Station.arr hself, rfl, hlen, rfl, rfl, fun i hi => ?_⟩,
      congrArg Station.seq hself, fun j hj => ?_, rfl⟩
    · have hz : (mvaOf s g w).z[i]? = some _ := List.getElem?_map.trans (congrArg _ (List.getElem?_range hi))
      rw [hz]
      simp only [mvaRows, List.map_map]
      rfl
    · have hone : OneStation g c (modArr (newXfer c g).2 g fun a => { a with mva := some (mvaOf s g w) }) :=
        (oneStation_newXfer c g).trans (arrayOnly_modArr ..).toOneStation
      exact ((hone.trans (oneStation_issued ..)).others j hj).trans (hread.stn j)
  · let c := closeXfer (modArr s.core g fun a => { a with mva := none }) g v.xfer
    have hc : stn c g = { x with arr := { x.arr with mva := none }, openX := x.openX.filter fun y => y ≠ v.xfer } := by
      rw [stn_closeXfer, modArr, stn_setStn]
    have hone : OneStation g s.core c := (arrayOnly_modArr ..).toOneStation.trans (oneStation_closeXfer ..)
    have hwrite : Watched c (vigilWrite c g (stBase g + v.dest) (4 * v.z.length) 3) := watched_vigilWrite ..
    refine ⟨_, exec_mvaDone hr hg hv, rfl, fun b hb => mread_mwriteN_ne _ _ ?_, ?_, fun j hj => ?_,
      completionHeld_complete _ _ (hwrite.fl.trans hone.fl)⟩
    · rwa [length_elemBytes, Nat.mul_comm]
    · exact (stn_complete ..).trans ((hwrite.stn g).trans hc)
    · exact (stn_complete ..).trans ((hwrite.stn j).trans (hone.others j hj))

/-- Settles O22: what a load or an MVA reads is only watched (`watched_vigilReads`), so the station stands as the instruction found it but
for the load or MVA itself. -/
theorem planesAndMva : Obligations.PlanesAndMva := ⟨planeLoads, mvaComputesThenWrites⟩

end Sys2Proof.Machine

namespace Sys2Proof.Machine

/-! ## The Carousel (O25; R115, R117, R119, R120, R401) -/

/-! ### The buffers of a class -/

section
variable (c : Core) (g : Nat) (deferred : Bool) (b : List OpRow)

@[simp] theorem opBuf_setOpBuf : opBuf (stn (setOpBuf c g deferred b) g) deferred = b := by
  cases deferred <;> simp [setOpBuf, opBuf]

theorem stn_setOpBuf_ne {k : Nat} (h : k ≠ g) : stn (setOpBuf c g deferred b) k = stn c k := stn_setStn_ne c _ h

end

/-- Behind rows that have left or go no further, the first that has still to leave is the next (R117). -/
theorem rowToSend_of_append {c : Core} {g : Nat} {deferred : Bool} {pre post : List OpRow} {r : OpRow}
    (hb : opBuf (stn c g) deferred = pre ++ r :: post) (hpre : ∀ p ∈ pre, p.fwd = true ∨ p.h ≤ p.hop) (hf : r.fwd = false)
    (hh : r.hop < r.h) : rowToSend c g deferred = some pre.length := by
  have hnone : pre.findIdx? (fun r => !r.fwd && decide (r.hop < r.h)) = none := by
    refine List.findIdx?_eq_none_iff.2 fun p hp => ?_
    rcases hpre p hp with h | h
    · simp [h]
    · simp [Nat.not_lt.2 h]
  simp [rowToSend, hb, List.findIdx?_append, hnone, List.findIdx?_cons, hf, hh]

/-- Outside a hold, and with its clock running, a link of a loop moves unless a crossing on it has stopped (R119, R401). -/
theorem linkMoves_eq {c : Core} {g : Nat} (hl : 0 < obj c Key.loopLength) (hg : stGated c g = false) (hh : heldNow c = false) :
    linkMoves c g = !hopStopped c (obj c Key.loopLength) g := by
  simp [linkMoves, hl, hg, hh]

/-! ### A row goes on -/

/-- A row as it comes to the next station. -/
def hopped (r : OpRow) : OpRow := { r with hop := r.hop + 1, fwd := false, used := false }

/-- A row neither forwarded nor used here is done only at its last station, and there only if that does not take it (R117). -/
theorem rowDone_iff_of_fresh {r : OpRow} (hf : r.fwd = false) (hu : r.used = false) :
    rowDone r = true ↔ r.hop = r.h ∧ r.hop % max 1 r.sigma ≠ 0 := by simp [rowDone, hf, hu]

/-- The row that comes to a station stays there, unless it is the last and does not take it (R117). -/
theorem rowArrives_hopped (b : List OpRow) (r : OpRow) :
    rowArrives b (hopped r) = b ++ if r.hop + 1 = r.h ∧ (r.hop + 1) % max 1 r.sigma ≠ 0 then [] else [hopped r] := by
  have hdone : rowDone (hopped r) = true ↔ r.hop + 1 = r.h ∧ (r.hop + 1) % max 1 r.sigma ≠ 0 :=
    rowDone_iff_of_fresh (r := hopped r) rfl rfl
  simp only [rowArrives, hdone]
  split <;> simp

/-- The core once the row at the head of those that leave has gone from station `g` to station `q`. -/
def rowSent (c : Core) (g q : Nat) (deferred : Bool) (pre post : List OpRow) (r : OpRow) : Core :=
  let d := setOpBuf c g deferred ((pre ++ { r with fwd := true } :: post).filter fun p => !rowDone p)
  setOpBuf d q deferred (rowArrives (opBuf (stn d q) deferred) (hopped r))

theorem rowSent_spec (c : Core) {g q : Nat} (hq : q ≠ g) (deferred : Bool) (pre post : List OpRow) (r : OpRow) :
    let d := rowSent c g q deferred pre post r
    opBuf (stn d q) deferred = rowArrives (opBuf (stn c q) deferred) (hopped r)
      ∧ opBuf (stn d g) deferred = (pre ++ { r with fwd := true } :: post).filter (fun p => !rowDone p)
      ∧ ∀ k, k ≠ g → k ≠ q → stn d k = stn c k := by
  refine ⟨?_, ?_, fun k hk hkq => ?_⟩
  · simp only [rowSent, opBuf_setOpBuf, stn_setOpBuf_ne _ _ _ _ hq]
  · simp only [rowSent, stn_setOpBuf_ne _ _ _ _ hq.symm, opBuf_setOpBuf]
  · simp only [rowSent, stn_setOpBuf_ne _ _ _ _ hkq, stn_setOpBuf_ne _ _ _ _ hk]

section
variable {s : State} {g : Nat} (hr : Runs s) (hg : g < 192)
include hr hg

theorem exec_carouselForward_stopped (deferred : Bool) (hm : linkMoves s.core g = false) :
    exec (.carouselForward g deferred) s = .next s := by
  have he : exec (.carouselForward g deferred) s = execCarouselForward g deferred s := rfl
  rw [he, execCarouselForward, inRange_lt hg, onCore_powered _ (runs_powered hr)]
  simp only [hm, Bool.not_false, if_true]
  split <;> rfl

theorem exec_weightTileForward_stopped (hm : linkMoves s.core g = false) : exec (.weightTileForward g) s = .next s := by
  have he : exec (.weightTileForward g) s = execWeightTileForward g s := rfl
  rw [he, execWeightTileForward, inRange_lt hg, onCore_powered _ (runs_powered hr)]
  simp only [hm, Bool.not_false, true_or, if_true]
  split <;> rfl

/-- A row leaves over a link that moves, to a buffer with room, a deferred one where no critical one can (R115, R117). -/
theorem exec_carouselForward {deferred : Bool} {pre post : List OpRow} {r : OpRow} (hm : linkMoves s.core g = true)
    (hb : opBuf (stn s.core g) deferred = pre ++ r :: post) (hs : rowToSend s.core g deferred = some pre.length)
    (hc : ringCredit s.core g deferred = true) (hd : deferred = true → canSend s.core g false = false) :
    exec (.carouselForward g deferred) s = .next (withCore s (addObj
      (rowSent s.core g (atDistance (obj s.core Key.loopLength) g 1) deferred pre post r) Key.cwRows 1)) := by
  have he : exec (.carouselForward g deferred) s = execCarouselForward g deferred s := rfl
  have hfirst : (deferred && canSend s.core g false) = false := by
    cases deferred with
    | false => rfl
    | true => exact hd rfl
  have hget : (pre ++ r :: post)[pre.length]? = some r := by simp
  have hset : (pre ++ r :: post).set pre.length { r with fwd := true } = pre ++ { r with fwd := true } :: post := by simp
  rw [he, execCarouselForward, inRange_lt hg, onCore_powered _ (runs_powered hr)]
  simp only [hs, hm, hc, hfirst, hb, hget, hset, Bool.not_true, Bool.false_eq_true, if_false]
  rfl

end

/-! ### A weight tile goes on -/

/-- The core once the whole tile `b` has gone from the weight buffer of station `g` to that of station `q` (R120). -/
def tileSent (c : Core) (g q : Nat) (b : WTile) : Core :=
  let x := stn c g
  let d := setStn c g { x with ring := { x.ring with wbuf := if b.taken then none else some { b with sent := true } } }
  let n := stn d q
  setStn d q { n with ring := { n.ring with wbuf := some { b with left := b.left - 1, taken := false, sent := false } } }

theorem tileSent_spec (c : Core) {g q : Nat} (hq : q ≠ g) (b : WTile) :
    let d := tileSent c g q b
    (stn d q).ring.wbuf = some { b with left := b.left - 1, taken := false, sent := false }
      ∧ (stn d g).ring.wbuf = (if b.taken then none else some { b with sent := true })
      ∧ ∀ k, k ≠ g → k ≠ q → stn d k = stn c k := by
  refine ⟨?_, ?_, fun k hk hkq => ?_⟩
  · simp only [tileSent, stn_setStn]
  · simp only [tileSent, stn_setStn_ne _ _ hq.symm, stn_setStn]
  · simp only [tileSent, stn_setStn_ne _ _ hkq, stn_setStn_ne _ _ hk]

theorem exec_weightTileForward {s : State} {g : Nat} {b : WTile} (hr : Runs s) (hg : g < 192) (hm : linkMoves s.core g = true)
    (hb : (stn s.core g).ring.wbuf = some b) (hgot : b.got = 32768) (hsent : b.sent = false) (hleft : 0 < b.left)
    (hq : (stn s.core (atDistance (obj s.core Key.loopLength) g 1)).ring.wbuf = none) (hcrit : canSend s.core g false = false)
    (hdefr : canSend s.core g true = false) :
    exec (.weightTileForward g) s = .next (withCore s (addObj
      (tileSent s.core g (atDistance (obj s.core Key.loopLength) g 1) b) Key.cwWeightTiles 1)) := by
  have he : exec (.weightTileForward g) s = execWeightTileForward g s := rfl
  have hgo : ¬((!linkMoves s.core g) = true ∨ b.got < 32768 ∨ b.sent = true ∨ b.left = 0) := by simp [hm, hgot, hsent, hleft.ne']
  rw [he, execWeightTileForward, inRange_lt hg, onCore_powered _ (runs_powered hr)]
  simp only [hb, hgo, hq, hcrit, hdefr, Option.isSome_none, Bool.false_eq_true, or_self, if_false]
  rfl

theorem carouselForwards : Goals.CarouselForwards := by
  intro s g l q hr hg hl hq hgate hheld
  have hlink : linkMoves s.core g = !hopStopped s.core l g := linkMoves_eq hl hgate hheld
  refine ⟨fun hstop => ?_, fun hstop => ?_⟩
  · have hm : linkMoves s.core g = false := by rw [hlink, hstop]; rfl
    exact fun d => ⟨exec_weightTileForward_stopped hr hg hm, exec_carouselForward_stopped hr hg d hm⟩
  · have hm : linkMoves s.core g = true := by rw [hlink, hstop]; rfl
    refine ⟨fun deferred pre post r hb hpre hf hh hroom hcrit => ?_, fun b hb hgot hsent hleft hempty hcrit hdefr => ?_⟩
    · have hcredit : ringCredit s.core g deferred = true := decide_eq_true hroom
      obtain ⟨hnext, hhere, hothers⟩ := rowSent_spec s.core hq deferred pre post r
      exact ⟨_, exec_carouselForward hr hg hm hb (rowToSend_of_append hb hpre hf hh) hcredit hcrit, hnext.trans (rowArrives_hopped ..),
        hhere, hothers, rfl, fun k hk => obj_addObj_ne _ _ (by simpa using hk)⟩
    · obtain ⟨hnext, hhere, hothers⟩ := tileSent_spec s.core hq b
      exact ⟨_, exec_weightTileForward hr hg hm hb hgot hsent hleft hempty hcrit hdefr, hnext, hhere, hothers, rfl,
        fun k hk => obj_addObj_ne _ _ (by simpa using hk)⟩

end Sys2Proof.Machine

namespace Sys2Proof.Machine

/-! ## The deferred-W queue (O25; R127, R269) -/

section
variable (c : Core) (g : Nat)

theorem stn_setHead (e : DfwEntry) :
    stn (setHead c g e) g = { stn c g with dfw := { (stn c g).dfw with entries := e :: (stn c g).dfw.entries.drop 1 } } := stn_setStn ..

theorem oneStation_setHead (e : DfwEntry) : OneStation g c (setHead c g e) := oneStation_setStn ..

end

/-! ### DFW -/

/-- The core in which the entry of the DFW `w` stands last in its queue, which keeps the most it has held. -/
def entryJoined (c : Core) (g w : Nat) : Core :=
  setObj (modDfw c g fun q => { q with entries := q.entries ++ [Goals.newEntry (stn c g) w] }) Key.dfwMaxDepth
    (max (obj c Key.dfwMaxDepth) ((stn c g).dfw.entries.length + 1))

theorem exec_dfw {s : State} {g w : Nat} (hw : AtWord s g w .dfw) (hl : (stn s.core g).dfw.entries.length < 64) :
    exec (.dfw g) s = .next (withCore s (issued (entryJoined s.core g w) g)) := by
  have he : exec (.dfw g) s = execDfw g s := rfl
  rw [he, execDfw, onCoreMem_atWord _ hw]
  simp only [atPc_of_atWord hw, Nat.not_le.2 hl, if_false]
  rfl

/-- Of the objects an issue changes only those that count it. -/
theorem obj_issued (c : Core) (g : Nat) {k : Nat} (h1 : k ≠ Key.instrIssued) (h2 : k ≠ Key.seqWaitCycles) :
    obj (issued c g) k = obj c k := by
  have hw : obj (waited c (stn c g).seq.left) k = obj c k := by
    unfold waited
    split
    · rfl
    · exact obj_addObj_ne _ _ h2
  exact (obj_addObj_ne _ _ h1).trans hw

/-! ### The start of an entry (R127) -/

theorem exec_dfwEntryStart {s : State} {g : Nat} {e : DfwEntry} {rest : List DfwEntry} (hr : Runs s) (hg : g < 192)
    (he : (stn s.core g).dfw.entries = e :: rest) (hh : s.core.alm.hold.heldAt = none) (hs : e.started = false)
    (hb : bit e.b 78 = false) : exec (.dfwEntryStart g) s = .next (withCore s (setHead s.core g { e with started := true })) := by
  have hx : exec (.dfwEntryStart g) s = execDfwEntryStart g s := rfl
  rw [hx, execDfwEntryStart, inRange_lt hg, onCore_powered _ (runs_powered hr)]
  simp only [he, hs, heldNow, hh, hb, Option.isSome_none, Bool.false_eq_true, or_self, Bool.not_false, if_false, if_true]
  rfl

/-! ### The PAIR image of an entry (R127) -/

/-- One row of `n` bytes copied in memory. -/
def copyBytesAt (src dst : Nat → Nat) (n : Nat) (m : Memory) (r : Nat) : Memory := mwriteN m (dst r) (mreadN m (src r) n)

/-- Rows copied one after another from below `lo` to places 2,048 apart above it: every byte comes over, and no byte outside those places
changes. -/
theorem copyBytesAt_spec {src dst : Nat → Nat} {n lo : Nat} {m : Memory} (hm : memWf m = true) (hdst : ∀ r, dst r = lo + r * 2048)
    (hn : n ≤ 2048) (k : Nat) (hsrc : ∀ r, r < k → src r + n ≤ lo) :
    let m' := (List.range k).foldl (copyBytesAt src dst n) m
    memWf m' = true ∧ (∀ r i, r < k → i < n → mread m' (dst r + i) = mread m (src r + i))
      ∧ ∀ b, b < lo ∨ lo + k * 2048 ≤ b → mread m' b = mread m b := by
  induction k with
  | zero => exact ⟨hm, by simp, fun _ _ => rfl⟩
  | succ k ih =>
    obtain ⟨hwf, hread, hkeep⟩ := ih fun r hr => hsrc r (by omega)
    rw [List.range_succ, List.foldl_append, List.foldl_cons, List.foldl_nil]
    generalize (List.range k).foldl (copyBytesAt src dst n) m = m' at hwf hread hkeep
    have hk := hdst k
    have hlow := hsrc k (by omega)
    have hlen : (mreadN m' (src k) n).length = n := length_mreadN ..
    have hother {b : Nat} (hb : b < dst k ∨ dst k + n ≤ b) : mread (copyBytesAt src dst n m' k) b = mread m' b :=
      mread_mwriteN_ne m' _ (by rwa [hlen])
    refine ⟨mwriteN_memWf _ _ hwf, fun r i hr hi => ?_,
      fun b hb => (hother (by omega)).trans (hkeep b (hb.imp_right (Nat.le_trans (by omega))))⟩
    by_cases hrk : r = k
    · subst hrk
      refine (mread_mwriteN_mem hwf _ _ (by rwa [hlen])).trans ?_
      simp only [mreadN, List.getElem_map, List.getElem_range]
      exact hkeep _ (by omega)
    · have hdr := hdst r
      exact (hother (by omega)).trans (hread r i (by omega) hi)

/-- The rows of an entry's PAIR image in station memory. -/
def imageRows (e : DfwEntry) : List Nat := (List.range (bits e.a 2 8 + 1)).map fun r => bits e.b 34 22 + r * 2048

/-- The core in which an entry's PAIR image has been read. -/
def imageRead (c : Core) (g : Nat) (e : DfwEntry) : Core :=
  (List.range (bits e.a 2 8 + 1)).foldl (fun c r => vigilRead c g (stBase g + bits e.b 34 22 + r * 2048) (8 * (bits e.a 10 8 + 1)) 5) c

/-- The memory in which an entry's PAIR image lies in its tile. -/
def imageRestored (m : Memory) (g : Nat) (e : DfwEntry) : Memory :=
  (List.range (bits e.a 2 8 + 1)).foldl (copyBytesAt (fun r => stBase g + bits e.b 34 22 + r * 2048)
    (fun r => accAddr g (bits e.a 0 1) r 0) (8 * (bits e.a 10 8 + 1))) m

theorem exec_dfwRestore {s : State} {g : Nat} {e : DfwEntry} {rest : List DfwEntry} (hr : Runs s) (hg : g < 192)
    (he : (stn s.core g).dfw.entries = e :: rest) (hh : s.core.alm.hold.heldAt = none) (hs : e.started = true)
    (hres : e.restored = false) (hp : bit e.a 34 = true) (ho : (tileOf (stn s.core g) (bits e.a 0 1)).state = .open)
    (hi : (tileOf (stn s.core g) (bits e.a 0 1)).inflight = []) (ha : addrFault (imageRows e) (8 * (bits e.a 10 8 + 1)) 64 = none)
    (hb : rowsBad s.core g (imageRows e) (8 * (bits e.a 10 8 + 1)) = none) :
    exec (.dfwRestore g) s = .next { s with
      core := setHead (imageRead s.core g e) g { e with restored := true }
      mem := imageRestored s.mem g e } := by
  have hx : exec (.dfwRestore g) s = execDfwRestore g s := rfl
  have hgo : ¬((!e.started) = true ∨ e.restored = true ∨ (!bit e.a 34) = true ∨ heldNow s.core = true
      ∨ (!isOpen (tileOf (stn s.core g) (bits e.a 0 1))) = true
      ∨ (!(tileOf (stn s.core g) (bits e.a 0 1)).inflight.isEmpty) = true) := by
    simp [hs, hres, hp, heldNow, hh, isOpen, ho, hi]
  simp only [imageRows] at ha hb
  rw [hx, execDfwRestore, inRange_lt hg, onBoth_powered _ (runs_powered hr)]
  simp only [he, hgo, ha, hb, if_false]
  rfl

/-- What restoring leaves in memory: each entry of the tile as in the image, and every byte outside the tile as it was. -/
theorem imageRestored_spec {m : Memory} (hm : memWf m = true) {g : Nat} (hg : g < 192) (e : DfwEntry)
    (ha : ∀ r, r ≤ bits e.a 2 8 → bits e.b 34 22 + r * 2048 + 8 * (bits e.a 10 8 + 1) ≤ stSize) :
    (∀ r k, r ≤ bits e.a 2 8 → k ≤ bits e.a 10 8 → mreadN (imageRestored m g e) (accAddr g (bits e.a 0 1) r k) 8
        = mreadN m (stBase g + bits e.b 34 22 + r * 2048 + 8 * k) 8)
      ∧ ∀ b, b < accAddr g (bits e.a 0 1) 0 0 ∨ accAddr g (bits e.a 0 1) 256 0 ≤ b →
        mread (imageRestored m g e) b = mread m b := by
  have hrows : bits e.a 2 8 < 256 := bits_lt ..
  have hcols : bits e.a 10 8 < 256 := bits_lt ..
  obtain ⟨-, hread, hkeep⟩ := copyBytesAt_spec (src := fun r => stBase g + bits e.b 34 22 + r * 2048)
    (dst := fun r => accAddr g (bits e.a 0 1) r 0) (n := 8 * (bits e.a 10 8 + 1)) (lo := accAddr g (bits e.a 0 1) 0 0) hm
    (fun r => by simp only [accAddr]; omega) (by omega) (bits e.a 2 8 + 1)
    (fun r hr => by have := ha r (by omega); simp only [accAddr, stBase, stSize] at this ⊢; omega)
  refine ⟨fun r k hr hk => List.map_congr_left fun i hi => ?_, fun b hb => hkeep b (by simp only [accAddr] at hb ⊢; omega)⟩
  have hi := List.mem_range.1 hi
  have h := hread r (8 * k + i) (by omega) (by omega)
  rwa [← Nat.add_assoc, ← Nat.add_assoc, show accAddr g (bits e.a 0 1) r 0 + 8 * k = accAddr g (bits e.a 0 1) r k by
    simp only [accAddr]; omega] at h

theorem deferredEntries : Goals.DeferredEntries := by
  intro s g w x
  refine ⟨fun hw hl => ?_, fun e rest hr hg he hh hs hb => ?_, fun e rest hr hg he hh hs hres hp hm ho hi ha hsound => ?_⟩
  · let c := entryJoined s.core g w
    have hjoin : OneStation g s.core c := ⟨fun k hk => stn_setStn_ne s.core _ hk, rfl⟩
    have hc : stn c g = { x with dfw := { x.dfw with entries := x.dfw.entries ++ [Goals.newEntry x w] } } := stn_setStn ..
    have hself : stn (issued c g) g = { stn c g with seq := issuedSeq (stn c g).seq } := by rw [issued_eq, stn_issueAs_self]
    rw [hc] at hself
    exact ⟨_, exec_dfw hw hl, congrArg Station.dfw hself, congrArg Station.seq hself, (hjoin.trans (oneStation_issued c g)).others, rfl,
      (obj_issued c g (by decide) (by decide)).trans (obj_setObj ..)⟩
  · rw [exec_dfwEntryStart hr hg he hh hs hb, setHead, modDfw, he]
    rfl
  · have haddr : addrFault (imageRows e) (8 * (bits e.a 10 8 + 1)) 64 = none :=
      addrFault_range fun r hr => ha r (Nat.le_of_lt_succ hr)
    have hwatch : Watched s.core (imageRead s.core g e) := Watched.foldl (fun _ _ => watched_vigilRead ..) _ _
    obtain ⟨hin, hout⟩ := imageRestored_spec hm hg e fun r hr => (ha r hr).2
    refine ⟨_, exec_dfwRestore hr hg he hh hs hres hp ho hi haddr hsound, hin, hout, ?_,
      fun k hk => ((oneStation_setHead ..).others k hk).trans (hwatch.stn k)⟩
    rw [stn_setHead, hwatch.stn, he]
    rfl

end Sys2Proof.Machine

namespace Sys2Proof.Machine

/-! ## Chunks of the deferred-W queue (O25; R127, R129) -/

/-! ### The planes of a station -/

/-- From `c` to `d` of the stations only `g`'s array changed, its planes apart. -/
structure PlanesKept (g : Nat) (c d : Core) : Prop extends ArrayOnly g c d where
  planes : ∀ p, planeOf (stn d g) p = planeOf (stn c g) p

section
variable {c d e : Core} {g : Nat}

theorem PlanesKept.trans (h : PlanesKept g c d) (k : PlanesKept g d e) : PlanesKept g c e :=
  ⟨h.toArrayOnly.trans k.toArrayOnly, fun p => (k.planes p).trans (h.planes p)⟩

theorem UnitsKept.planesKept (h : UnitsKept c d) : PlanesKept g c d := ⟨h.tilesKept.toArrayOnly, fun p => by rw [h.stn]⟩

theorem planesKept_modArr (c : Core) (g : Nat) {f : ArrayUnit → ArrayUnit} (h0 : ∀ a, (f a).plane0 = a.plane0)
    (h1 : ∀ a, (f a).plane1 = a.plane1) : PlanesKept g c (modArr c g f) :=
  ⟨arrayOnly_modArr c g f, fun p => by simp [modArr, planeOf, h0, h1]⟩

theorem planesKept_keepAudit (c : Core) (g n : Nat) (h : Shape) (rows : List RowUpd) : PlanesKept g c (keepAudit c g n h rows) := by
  unfold keepAudit
  split
  · exact planesKept_modArr c g (fun _ => rfl) fun _ => rfl
  · exact UnitsKept.planesKept ⟨rfl, rfl⟩

theorem planesKept_setTile (c : Core) (g t : Nat) (x : Tile) : PlanesKept g c (setTile c g t x) := by
  refine ⟨arrayOnly_setTile c g t x, fun p => ?_⟩
  by_cases ht : t = 0 <;> simp [setTile, planeOf, ht]

/-- A plane replaced is none of the tiles. -/
theorem tilesKept_setPlane (c : Core) (g p : Nat) (x : Plane) : TilesKept g c (setPlane c g p x) := by
  refine ⟨⟨oneStation_setStn .., by simp [setPlane]⟩, fun t => ?_⟩
  by_cases hp : p = 0 <;> simp [setPlane, tileOf, hp]

end

/-! ### What a chunk does to its station -/

/-- The rows of an entry's next chunk. -/
def chunkLen (e : DfwEntry) : Nat := min (32 <<< bits e.a 30 2) (bits e.a 2 8 + 1 - e.row)

/-- Bytes of a row of an entry's stationary tile. -/
def statSize (e : DfwEntry) : Nat := if bits e.b 30 4 = 3 then 512 else 256

/-- The core in which a chunk has read its operands from station memory. -/
def chunkRead (c : Core) (g : Nat) (e : DfwEntry) : Core :=
  let d := (chunkAddrs e (chunkLen e)).foldl (fun c a => vigilRead c g (stBase g + a) 128 1) c
  if e.row = 0 then (statAddrs e).foldl (fun c a => vigilRead c g (stBase g + a) (statSize e) 2) d else d

/-- The core in which the first chunk of a K tile has its stationary tile in the entry's plane. -/
def chunkLoaded (m : Memory) (c : Core) (g : Nat) (e : DfwEntry) : Core :=
  let d := chunkRead c g e
  if e.row = 0 then
    let bs := ((statAddrs e).map fun a => mreadN m (stBase g + a) (statSize e)).flatten
    setPlane d g (bits e.a 1 1) { tag := some (bits e.b 30 4), data := placeTile (bits e.b 30 4) (widthOf d g) bs }
  else d

/-- The shape of an entry's MMA: its first K tile overwrites, unless it is restored from a PAIR image (R127). -/
def chunkShape (e : DfwEntry) : Shape :=
  { m := bits e.a 2 8 + 1, n := bits e.a 10 8 + 1, k := depthOf (bits e.b 30 4),
    mode := if e.tileK = 0 ∧ !bit e.a 34 then .overwrite else .compensate,
    fa := bits e.b 26 4, fw := bits e.b 30 4, sa := bits e.b 0 13, sw := bits e.b 13 13, stride := 0 }

/-- The streamed elements of a chunk, from a core in which it has been read. -/
def chunkElems (m : Memory) (d : Core) (g : Nat) (e : DfwEntry) : List (List Nat) :=
  (chunkRows m d g e (chunkLen e)).map fun bs => rowElems (bits e.b 26 4) (depthOf (bits e.b 30 4)) bs

/-- The rows that a chunk puts in flight. -/
def chunkUpd (m : Memory) (c : Core) (g : Nat) (e : DfwEntry) : List RowUpd :=
  let d := chunkLoaded m c g e
  mmaRows d (chunkShape e) (planeOf (stn d g) (bits e.a 1 1)).data (chunkElems m d g e) e.row (chunkShape e).mode false none

/-- The core in which a chunk has been counted, and its sampled results kept (R67, R106, R129). -/
def chunkCounted (m : Memory) (c : Core) (g : Nat) (e : DfwEntry) : Core :=
  let d := chunkLoaded m c g e
  let d := countProducts d (chunkShape e) (planeOf (stn d g) (bits e.a 1 1)).data (chunkElems m d g e)
  let d := addObj (addObj d Key.arrayBusyCycles (chunkLen e)) Key.dfwArrayCycles (chunkLen e)
  let d := if bits e.b 26 4 = 3 then d else keepAudit d g (2 ^ 63 + (stn d g).arr.dfwMma) (chunkShape e) (chunkUpd m c g e)
  modArr d g fun a => { a with chunk := chunkLen e }

/-- The core in which a chunk's rows are in flight in the entry's tile. -/
def chunkFlying (m : Memory) (c : Core) (g : Nat) (e : DfwEntry) : Core :=
  addInflight (chunkCounted m c g e) g (bits e.a 0 1) (chunkUpd m c g e)

section
variable (m : Memory) (c : Core) (g : Nat) (e : DfwEntry)

theorem watched_chunkRead : Watched c (chunkRead c g e) := by
  have hd : Watched c ((chunkAddrs e (chunkLen e)).foldl (fun c a => vigilRead c g (stBase g + a) 128 1) c) := watched_vigilReads ..
  unfold chunkRead
  split
  · exact hd.trans (watched_vigilReads ..)
  · exact hd

/-- The plane is loaded with the first chunk of a K tile, and no tile changes. -/
theorem chunkLoaded_spec : TilesKept g c (chunkLoaded m c g e)
    ∧ (e.row = 0 → (planeOf (stn (chunkLoaded m c g e) g) (bits e.a 1 1)).tag = some (bits e.b 30 4)) := by
  have hd : TilesKept g c (chunkRead c g e) := (watched_chunkRead c g e).toUnitsKept.tilesKept
  unfold chunkLoaded
  split
  · exact ⟨hd.trans (tilesKept_setPlane ..), fun _ => congrArg Plane.tag (planeOf_setPlane ..)⟩
  · next h => exact ⟨hd, fun h0 => absurd h0 h⟩

/-- Counting changes neither tiles nor planes. -/
theorem chunkCounted_spec : TilesKept g (chunkLoaded m c g e) (chunkCounted m c g e)
    ∧ PlanesKept g (chunkLoaded m c g e) (chunkCounted m c g e) := by
  unfold chunkCounted
  extract_lets d d1 d2 d3
  have h2 : UnitsKept d d2 := ⟨rfl, rfl⟩
  have h3 : TilesKept g d2 d3 ∧ PlanesKept g d2 d3 := by
    unfold d3
    split
    · exact ⟨UnitsKept.tilesKept ⟨rfl, rfl⟩, UnitsKept.planesKept ⟨rfl, rfl⟩⟩
    · exact ⟨tilesKept_keepAudit .., planesKept_keepAudit ..⟩
  exact ⟨(h2.tilesKept.trans h3.1).trans (tilesKept_modArr _ _ (fun _ => rfl) fun _ => rfl),
    (h2.planesKept.trans h3.2).trans (planesKept_modArr _ _ (fun _ => rfl) fun _ => rfl)⟩

/-- The rows of a chunk go behind those in flight in the entry's tile. -/
theorem chunkFlying_spec : ArrayOnly g c (chunkFlying m c g e)
    ∧ (tileOf (stn (chunkFlying m c g e) g) (bits e.a 0 1)).inflight
      = (tileOf (stn c g) (bits e.a 0 1)).inflight ++ chunkUpd m c g e
    ∧ (e.row = 0 → (planeOf (stn (chunkFlying m c g e) g) (bits e.a 1 1)).tag = some (bits e.b 30 4)) := by
  obtain ⟨hload, htag⟩ := chunkLoaded_spec m c g e
  obtain ⟨htiles, hplanes⟩ := chunkCounted_spec m c g e
  have hfly : PlanesKept g (chunkCounted m c g e) (chunkFlying m c g e) := planesKept_setTile ..
  refine ⟨(hload.trans htiles).toArrayOnly.trans hfly.toArrayOnly, ?_, fun h => ?_⟩
  · rw [chunkFlying, addInflight, tileOf_setTile_self, htiles.tiles, hload.tiles]
  · rw [hfly.planes, hplanes.planes, htag h]

/-- A chunk streamed from station memory has a row in flight for each of its addresses, in order, in the add mode of its K tile and with no
completion. -/
theorem chunkUpd_spec (hr : bit e.a 32 = false) : (chunkUpd m c g e).length = chunkLen e
    ∧ ∀ i r, (chunkUpd m c g e)[i]? = some r → r.row = e.row + i ∧ r.fin = none ∧ r.mode = (chunkShape e).mode := by
  refine ⟨?_, fun i r h => ?_⟩
  · simp [chunkUpd, mmaRows, chunkElems, chunkRows, hr]
  · simp only [chunkUpd, mmaRows, List.getElem?_mapIdx, Option.map_eq_some_iff] at h
    obtain ⟨as, -, rfl⟩ := h
    exact ⟨rfl, ite_self _, rfl⟩

end

/-! ### What comes after a chunk -/

/-- An entry after a chunk that is not its last: at its next rows, or at the first of its next K tile (R127). -/
def advanced (e : DfwEntry) : DfwEntry :=
  if e.row + chunkLen e < bits e.a 2 8 + 1 then { e with row := e.row + chunkLen e } else { e with row := 0, tileK := e.tileK + 1 }

/-- Behind any chunk but the last of the entry, only a count of the array changes beside the entry. -/
theorem dfwAdvance_spec (c : Core) (g : Nat) (e : DfwEntry)
    (h : e.row + chunkLen e < bits e.a 2 8 + 1 ∨ e.tileK < bits e.a 18 12) :
    ∃ d, dfwAdvance c g e (chunkLen e) = setHead d g (advanced e) ∧ TilesKept g c d ∧ PlanesKept g c d := by
  have hsame : TilesKept g c c ∧ PlanesKept g c c := ⟨UnitsKept.tilesKept ⟨rfl, rfl⟩, UnitsKept.planesKept ⟨rfl, rfl⟩⟩
  unfold dfwAdvance advanced
  by_cases hrow : e.row + chunkLen e < bits e.a 2 8 + 1
  · exact ⟨c, by simp only [hrow, if_true], hsame⟩
  · refine ⟨if bits e.b 26 4 = 3 then c else modArr c g fun a => { a with dfwMma := a.dfwMma + 1 },
      by simp only [hrow, h.resolve_left hrow, if_true, if_false], ?_⟩
    split
    · exact hsame
    · exact ⟨tilesKept_modArr _ _ (fun _ => rfl) fun _ => rfl, planesKept_modArr _ _ (fun _ => rfl) fun _ => rfl⟩

/-! ### The issue of a chunk -/

theorem exec_dfwChunkIssue {s : State} {g : Nat} {e : DfwEntry} {rest : List DfwEntry} (hr : Runs s) (hg : g < 192)
    (he : (stn s.core g).dfw.entries = e :: rest) (hh : s.core.alm.hold.heldAt = none) (hgate : stGated s.core g = false)
    (hs : e.started = true) (hd : e.drained = false) (hres : bit e.a 34 = true → e.restored = true) (hring : bit e.a 32 = false)
    (ho : (tileOf (stn s.core g) (bits e.a 0 1)).state = .open) (hl : (stn s.core g).arr.load = none)
    (hmma : mmaReady s.mem s.core g = false) (ha : addrFault (chunkAddrs e (chunkLen e)) 128 64 = none)
    (hsa : addrFault (statAddrs e) (statSize e) 64 = none) (hb : rowsBad s.core g (chunkAddrs e (chunkLen e)) 128 = none)
    (hsb : rowsBad s.core g (statAddrs e) (statSize e) = none) :
    exec (.dfwChunkIssue g) s = .next (withCore s (dfwAdvance (chunkFlying s.mem s.core g e) g e (chunkLen e))) := by
  have hx : exec (.dfwChunkIssue g) s = execDfwChunkIssue g s := rfl
  have hgo : ¬((!e.started) = true ∨ (bit e.a 34 = true ∧ (!e.restored) = true) ∨ e.drained = true ∨ heldNow s.core = true
      ∨ stGated s.core g = true ∨ (!isOpen (tileOf (stn s.core g) (bits e.a 0 1))) = true ∨ False
      ∨ mmaReady s.mem s.core g = true) := by
    simpa [hs, hd, heldNow, hh, hgate, isOpen, ho, hmma] using hres
  simp only [chunkLen, statSize] at ha hsa hb hsb
  rw [hx, execDfwChunkIssue, inRange_lt hg, onCoreMem_powered _ (runs_powered hr)]
  simp only [he, hl, hgo, hring, ha, hsa, hb, hsb, Bool.false_eq_true, false_and, ite_self, Option.orElse_eq_orElse, Option.orElse_none,
    if_false]
  rfl

theorem deferredChunkIssues : Goals.DeferredChunkIssues := by
  intro s g e rest x t n src hr hg he hh hgate hs hd hres hring ho hl _ hmma hrows hstat ha hsa hnext
  have haddr : addrFault (chunkAddrs e n) 128 64 = none := addrFault_none_iff.2 fun a hm => by
    rw [chunkAddrs, hring, if_neg Bool.false_ne_true] at hm
    obtain ⟨i, hi, rfl⟩ := List.mem_map.1 hm
    exact ha i (List.mem_range.1 hi)
  have hsaddr : addrFault (statAddrs e) (statSize e) 64 = none := addrFault_none_iff.2 fun a hm => by
    obtain ⟨k, hk, rfl⟩ := List.mem_map.1 hm
    exact hsa k (List.mem_range.1 hk)
  obtain ⟨hfly, hin, htag⟩ := chunkFlying_spec s.mem s.core g e
  obtain ⟨d, hadv, htiles, hplanes⟩ := dfwAdvance_spec (chunkFlying s.mem s.core g e) g e hnext
  obtain ⟨hlen, hupd⟩ := chunkUpd_spec s.mem s.core g e hring
  have hexec := exec_dfwChunkIssue hr hg he hh hgate hs hd hres hring ho hl hmma haddr hsaddr hrows hstat
  have harr : ArrayOnly g s.core d := hfly.trans htiles.toArrayOnly
  have hself := stn_setHead d g (advanced e)
  rw [hadv] at hexec
  refine ⟨_, hexec, ⟨_, hlen, ?_, fun i r h => ?_⟩, ⟨_, ?_, rfl⟩, fun h => ?_, ?_, fun k hk => ?_, rfl⟩
  · exact (congrArg (fun y => (tileOf y t).inflight) hself).trans ((congrArg Tile.inflight (htiles.tiles t)).trans hin)
  · obtain ⟨hrow, hfin, hmode⟩ := hupd i r h
    exact ⟨hrow, hfin, hmode.trans (by simp only [chunkShape, Bool.not_eq_true'])⟩
  · refine (congrArg Station.dfw hself).trans ?_
    rw [harr.self, he]
    rfl
  · exact (congrArg (fun y => (planeOf y (bits e.a 1 1)).tag) hself).trans ((congrArg Plane.tag (hplanes.planes _)).trans (htag h))
  · exact (congrArg Station.seq hself).trans (by rw [harr.self])
  · exact ((oneStation_setHead ..).others k hk).trans (harr.others k hk)

/-- Settles O25: a hop writes two different stations (`rowSent_spec`, `tileSent_spec`), an image is copied from below the tiles
(`copyBytesAt_spec`), and a chunk counts and loads its plane before its rows go into flight (`chunkFlying_spec`). -/
theorem carouselAndDeferredW : Obligations.CarouselAndDeferredW := ⟨carouselForwards, deferredEntries, deferredChunkIssues⟩

end Sys2Proof.Machine

namespace Sys2Proof.Machine

/-! ## What an engine's accesses leave alone (R183, R192, R205, R377, R378) -/

/-- `c` with the parts of `d` that watching a read may change: those of an event, the Vigil's records, and the free values drawn. -/
def readParts (c d : Core) : Core := { eventParts c d with vigil := d.vigil, freeCtr := d.freeCtr }

section
variable {c d e : Core}

theorem readParts_trans (h : d = readParts c d) (k : e = readParts d e) : e = readParts c e := k.trans (by rw [h]; rfl)

theorem readParts_foldl {α : Type} {f : Core → α → Core} (h : ∀ c x, f c x = readParts c (f c x)) (l : List α) (c : Core) :
    l.foldl f c = readParts c (l.foldl f c) := by
  induction l generalizing c with
  | nil => rfl
  | cons x r ih => exact readParts_trans (h c x) (ih _)

theorem readParts_of_event (h : d = eventParts c d) : d = readParts c d := h.trans (by rw [h]; rfl)

end

section
variable (c : Core)

theorem hazard_parts (kind m other addr pc : Nat) : hazard c kind m other addr pc = readParts c (hazard c kind m other addr pc) := by
  unfold hazard
  exact readParts_trans rfl (readParts_of_event (raise_parts ..))

theorem portTouch_parts (m port : Nat) (wrote : Bool) (u : Nat) :
    portTouch c m port wrote u = readParts c (portTouch c m port wrote u) := by
  unfold portTouch
  extract_lets now p d _
  have hd : d = readParts c d := by
    unfold d
    split
    · split
      · split
        · exact readParts_trans rfl (hazard_parts ..)
        · rfl
      · rfl
    · rfl
  exact readParts_trans hd rfl

theorem vigilJudge_parts (m u : Nat) : vigilJudge m c u = readParts c (vigilJudge m c u) := by
  unfold vigilJudge
  split
  · rfl
  · split_ifs
    · rfl
    · exact hazard_parts ..
    · extract_lets h
      split_ifs
      · rfl
      · rfl
      · exact hazard_parts ..

theorem vigilRead_parts (m a n port : Nat) : vigilRead c m a n port = readParts c (vigilRead c m a n port) := by
  unfold vigilRead
  extract_lets d
  have hd : d = readParts c d := by
    unfold d eccCount
    extract_lets k
    split <;> rfl
  split
  · refine readParts_trans hd (readParts_foldl (fun c u => ?_) _ _)
    split
    · exact readParts_trans (portTouch_parts ..) (vigilJudge_parts ..)
    · exact vigilJudge_parts ..
  · exact hd

theorem vigilMark_parts (m u : Nat) : vigilMark m c u = readParts c (vigilMark m c u) := by
  unfold vigilMark
  extract_lets r _ d
  have hd : d = readParts c d := rfl
  split
  · exact readParts_trans hd (hazard_parts ..)
  · exact hd

theorem vigilWrite_parts (m a n port : Nat) :
    vigilWrite c m a n port = readParts (eccClear c a n) (vigilWrite c m a n port) := by
  unfold vigilWrite
  extract_lets d
  split
  · refine readParts_foldl (fun c u => ?_) _ d
    split
    · exact readParts_trans (portTouch_parts ..) (vigilMark_parts ..)
    · exact vigilMark_parts ..
  · rfl

theorem vigilWrite_norm (m a n port : Nat) : (vigilWrite c m a n port).norm = c.norm := by
  rw [vigilWrite_parts]
  rfl

theorem closeWindows_norm (m : Memory) (a n : Nat) : (closeWindows m c a n).norm = c.norm := by
  unfold closeWindows
  split <;> rfl

theorem engReads_parts (m : Nat) (l : List (Nat × Nat × Right)) : engReads c m l = readParts c (engReads c m l) :=
  readParts_foldl (fun c x => by split; exacts [vigilRead_parts .., rfl]) l c

theorem watched_engReads (m : Nat) (l : List (Nat × Nat × Right)) : Watched c (engReads c m l) :=
  Watched.foldl (fun c x => by split; exacts [watched_vigilRead .., Watched.refl c]) l c

theorem unitsKept_closeWindows (m : Memory) (a n : Nat) : UnitsKept c (closeWindows m c a n) := by
  unfold closeWindows
  split <;> exact ⟨rfl, rfl⟩

end

theorem UnitsKept.engWrite {c : Core} {acc : Core × Memory} (h : UnitsKept c acc.1) (m a : Nat) (bs : Bytes) :
    UnitsKept c (engWrite m acc a bs).1 := h.trans ((unitsKept_closeWindows ..).trans (watched_vigilWrite ..).toUnitsKept)

theorem engWrite_mem (m : Nat) (acc : Core × Memory) (a : Nat) (bs : Bytes) : (engWrite m acc a bs).2 = mwriteN acc.2 a bs := rfl

theorem engWrite_norm (m : Nat) (acc : Core × Memory) (a : Nat) (bs : Bytes) : (engWrite m acc a bs).1.norm = acc.1.norm :=
  (vigilWrite_norm ..).trans (closeWindows_norm ..)

/-- A write changes no byte outside its own. -/
theorem bytesKept_of_write {s t : State} {a n : Nat} {bs : Bytes} (h : t.mem = mwriteN s.mem a bs) (hn : bs.length = n) :
    BytesKept s t a n := fun b hb => by
  rw [h]
  exact mread_mwriteN_ne _ _ (by rwa [hn])

/-- Accesses that the tables permit, of words that can be read, are all made (R183, R192). -/
theorem engStop_none {c : Core} {m : Nat} {l : List (Nat × Nat × Right)} (h : Goals.allPermitted c m l) : engStop c m l = none := by
  have hr : engRefused c m l = none := List.findSome?_eq_none_iff.2 fun x hx => by simp [(h x hx).1]
  have he : ((l.filter fun x => x.2.2 = .r).findSome? fun x => eccBad c [x.1] x.2.1) = none := List.findSome?_eq_none_iff.2 fun x hx => by
    obtain ⟨hx, hread⟩ := List.mem_filter.1 hx
    exact (h x hx).2 (of_decide_eq_true hread)
  simp only [engStop, hr, he, Option.map_none]

/-- The tables and the words in error decide alone what stops an engine. -/
theorem allPermitted_congr {c d : Core} {m : Nat} {l : List (Nat × Nat × Right)} (ha : d.acc = c.acc) (he : d.ecc = c.ecc)
    (h : Goals.allPermitted c m l) : Goals.allPermitted d m l := by
  intro x hx
  simp only [refusalOf, eccBad, ha, he]
  exact h x hx

/-! ## The update engine (O26; R145 to R159, R352) -/

/-! ### A submission starts (R147) -/

section
variable {s : State} {f pass : Nat} {x : UpdSub} {rest : List UpdSub}

theorem nextUpd_eq (h : Goals.updNext s.core f pass x rest) : nextUpd s.core f pass = some x := by
  obtain ⟨-, hrun, hq, hpass, hgate⟩ := h
  simp [nextUpd, hrun, hq, hpass, hgate]

/-- What neither stations nor fields see, behind the start of a submission. -/
theorem updStarted_of_kept {t : State} {did : Bool} (h : Goals.updNext s.core f pass x rest)
    (hk : UnitsKept (startUpd s.core f x did) t.core) : Goals.updStarted s t f x did rest := by
  obtain ⟨-, -, hq, -, -⟩ := h
  have hfld (k : Nat) : fld t.core k = fld (startUpd s.core f x did) k := by simp only [fld, hk.fl]
  have hself := (hfld f).trans (fld_setFld ..)
  refine ⟨?_, ?_, fun k hkf => (hfld k).trans (fld_setFld_ne _ _ hkf), hk.st⟩
  · rw [hself]
    exact congrArg (List.drop 1) hq
  · rw [hself]

end

theorem unitsKept_updCycles (c : Core) (n : Nat) : UnitsKept c (updCycles c n) := ⟨rfl, rfl⟩

/-! ### What a block reads and forms -/

/-- The elements of a range of memory are its numbers. -/
theorem elems_mreadN (m : Memory) (a w k : Nat) : elems w k (mreadN m a (w * k)) = (List.range k).map fun i => mnum m (a + w * i) w := by
  refine List.map_congr_left fun i hi => ?_
  obtain ⟨j, rfl⟩ : ∃ j, k = i + 1 + j := ⟨k - (i + 1), by have := List.mem_range.1 hi; omega⟩
  rw [show w * (i + 1 + j) = w * i + (w + w * j) by ring, mreadN_add, mreadN_add, Nat.mul_comm i w,
    List.drop_left' (length_mreadN ..), List.take_left' (length_mreadN ..)]
  rfl

/-- R152 for one element of a block, from what memory holds of it. -/
def blockElement (m : Memory) (u : UpdArgs) (x : AdamCtx) (s b i : Nat) : AdamOut :=
  adamElement x (blockIndex u b + i) (mnum m (masterAt u b + 4 * i) 4) (mnum m (moment1At u b + 2 * i) 2)
    (mnum m (moment2At u b + 2 * i) 2) (mnum m (gradAt u s b + 4 * i) 4)

theorem adamBlock_eq (m : Memory) (u : UpdArgs) (x : AdamCtx) (s b : Nat) :
    adamBlock m u x s b = (List.range 1024).map (blockElement m u x s b) := by
  have h4 (a : Nat) := elems_mreadN m a 4 1024
  have h2 (a : Nat) := elems_mreadN m a 2 1024
  simp only [Nat.reduceMul] at h4 h2
  refine List.map_congr_left fun i hi => ?_
  simp [h4, h2, List.mem_range.1 hi, blockElement]

/-- Values formed into a working copy leave their marks in the scale table, in counters and in the log, no more (R145, R53). -/
theorem formCopy_spec (c : Core) (f : Nat) (u : UpdArgs) (k : Int) (ws : List Nat) :
    UnitsKept c (formCopy c f u k ws).1 ∧ (formCopy c f u k ws).2 = Goals.copyBytes u k ws := by
  unfold formCopy Goals.copyBytes
  split
  · exact ⟨⟨rfl, rfl⟩, rfl⟩
  · obtain ⟨hu, hl⟩ := convScaledAll_spec c f (updMaster f) u.t.scale u.t.fmt k (ws.map decW32)
    exact ⟨hu, congrArg (elemBytes 1) (hl.trans (List.map_map ..))⟩

theorem length_copyBytes (u : UpdArgs) (k : Int) (ws : List Nat) : (Goals.copyBytes u k ws).length = ws.length * wcBytes u := by
  unfold Goals.copyBytes wcBytes
  split <;> simp

/-! ### INIT (R146, R154) -/

theorem initBlock_spec {c : Core} {f : Nat} {u : UpdArgs} {b : Nat} (m : Memory)
    (hp : Goals.allPermitted c (updMaster f)
      [(masterAt u b, 4096, .r), (wcAt u false b, 1024 * wcBytes u, .w), (wcAt u true b, 1024 * wcBytes u, .w)]) :
    let ws := elems 4 1024 (mreadN m (masterAt u b) 4096)
    UnitsKept c (initBlock f u (c, m) b).1
      ∧ (initBlock f u (c, m) b).2 = mwriteN (mwriteN m (wcAt u false b) (Goals.copyBytes u (scaleE c u.t.scale).scaleA ws)) (wcAt u true b)
          (Goals.copyBytes u (scaleE c u.t.scale).scaleB ws) := by
  intro ws
  have hw := watched_engReads c (updMaster f)
    [(masterAt u b, 4096, .r), (wcAt u false b, 1024 * wcBytes u, .w), (wcAt u true b, 1024 * wcBytes u, .w)]
  simp only [initBlock, engStop_none hp]
  generalize engReads c (updMaster f)
    [(masterAt u b, 4096, .r), (wcAt u false b, 1024 * wcBytes u, .w), (wcAt u true b, 1024 * wcBytes u, .w)] = d at hw ⊢
  have hscale : scaleE d = scaleE c := by funext e; simp only [scaleE, hw.scale]
  obtain ⟨ha, hab⟩ := formCopy_spec d f u (scaleE c u.t.scale).scaleA ws
  obtain ⟨hb, hbb⟩ := formCopy_spec (formCopy d f u (scaleE c u.t.scale).scaleA ws).1 f u (scaleE c u.t.scale).scaleB ws
  rw [hscale]
  refine ⟨UnitsKept.engWrite (UnitsKept.engWrite (hw.toUnitsKept.trans (ha.trans hb)) ..) .., ?_⟩
  rw [engWrite_mem, engWrite_mem, hab, hbb]

section
variable {s : State} {f : Nat} {x : UpdSub} {rest : List UpdSub} {u : UpdArgs} (hr : Runs s) (hu : updArgs s.core x.entry = some u)
  (h1 : u.count = 1)
include hr hu h1

theorem exec_updInit (hn : Goals.updNext s.core f 0 x rest) :
    let w := initBlock f u (updCycles (startUpd s.core f x true) 1, s.mem) 0
    exec (.updInit f) s = .next { s with core := w.1, mem := w.2 } := by
  have he : exec (.updInit f) s = execUpdInit f s := rfl
  have hu' : updArgs (startUpd s.core f x true) x.entry = some u := hu
  rw [he, execUpdInit, inRange_lt hn.1, onBoth_powered _ (runs_powered hr)]
  simp only [nextUpd_eq hn, hu', h1]
  rfl

theorem initWritesBothBuffers (hn : Goals.updNext s.core f 0 x rest)
    (hp : Goals.allPermitted s.core (updMaster f)
      [(masterAt u 0, 4096, .r), (wcAt u false 0, 1024 * wcBytes u, .w), (wcAt u true 0, 1024 * wcBytes u, .w)]) :
    NextWith (exec (.updInit f) s) fun t =>
      t.mem = mwriteN (mwriteN s.mem (wcAt u false 0)
          (Goals.copyBytes u (scaleE s.core u.t.scale).scaleA (elems 4 1024 (mreadN s.mem (masterAt u 0) 4096)))) (wcAt u true 0)
          (Goals.copyBytes u (scaleE s.core u.t.scale).scaleB (elems 4 1024 (mreadN s.mem (masterAt u 0) 4096)))
        ∧ Goals.updStarted s t f x true rest := by
  obtain ⟨hk, hm⟩ := initBlock_spec (c := updCycles (startUpd s.core f x true) 1) s.mem hp
  exact ⟨_, exec_updInit hr hu h1 hn, hm, updStarted_of_kept hn ((unitsKept_updCycles ..).trans hk)⟩

end

/-! ### NORM (R153, R340) -/

/-- The reduced gradients of a block join a partial, squared (R153). -/
def blockNorm (m : Memory) (u : UpdArgs) (er : Int) (s b : Nat) (p : NormPart) : NormPart :=
  (elems 4 1024 (mreadN m (gradAt u s b) 4096)).foldl
    (fun p g => normAdd er p (fp32.mul (fp32.mul g u.gr.gradMult) (fp32.mul g u.gr.gradMult))) p

/-- The accesses of a block of NORM. -/
def normReads (u : UpdArgs) (s b : Nat) : List (Nat × Nat × Right) :=
  [(gradAt u s b, 4096, .r), (gaOff u.im.maskBase + blockIndex u b / 1024 / 8, 1, .r)]

theorem normBlock_eq {c : Core} {m : Memory} {f : Nat} {u : UpdArgs} {s b : Nat} (er : Int) (p : NormPart)
    (hp : Goals.allPermitted c (updMaster f) (normReads u s b)) (hice : frozen m u.im.maskBase (blockIndex u b) = false) :
    normBlock m f u er s (c, p) b = (engReads c (updMaster f) (normReads u s b), blockNorm m u er s b p) := by
  have hs := engStop_none hp
  simp only [normReads] at hs
  simp only [normBlock, hs, hice, Bool.false_eq_true, if_false]
  rfl

/-- A partial kept for a reduction, and the cycles of one block counted. -/
def normKept (c : Core) (redno : Nat) (q : NormPart) : Core := updCycles { c with norm := tset c.norm redno q } 1

theorem unitsKept_normKept (c : Core) (n : Nat) (q : NormPart) : UnitsKept c (normKept c n q) := ⟨rfl, rfl⟩

theorem tgetD_normKept (c : Core) (n : Nat) (q : NormPart) : tgetD (normKept c n q).norm n NormPart.blank = q :=
  tgetD_tset_self ..

theorem allPermitted_normKept {c : Core} {m : Nat} {l : List (Nat × Nat × Right)} (n : Nat) (q : NormPart)
    (h : Goals.allPermitted c m l) : Goals.allPermitted (normKept c n q) m l := h

/-- Reads change neither the tables nor the words in error. -/
theorem allPermitted_engReads {c : Core} {m k : Nat} {l : List (Nat × Nat × Right)} (r : List (Nat × Nat × Right))
    (h : Goals.allPermitted c m l) : Goals.allPermitted (engReads c k r) m l :=
  allPermitted_congr (congrArg Core.acc (engReads_parts c k r) :) (congrArg Core.ecc (engReads_parts c k r) :) h

/-- The partial of the reduction `r` with a block of NORM joined. -/
def normPart (m : Memory) (c : Core) (u : UpdArgs) (r : RedDecl) : NormPart :=
  blockNorm m u (eRefOf c r) (obj c Key.stepNumber) 0 (tgetD c.norm r.redno NormPart.blank)

/-- The start of a submission is none of what the partial rests on. -/
theorem normPart_startUpd (m : Memory) (c : Core) (f : Nat) (x : UpdSub) (did : Bool) (u : UpdArgs) (r : RedDecl) :
    normPart m (startUpd c f x did) u r = normPart m c u r := by
  have hn : (startUpd c f x did).norm = c.norm := rfl
  have hs : (startUpd c f x did).slots = c.slots := rfl
  have hd : (startUpd c f x did).dict = c.dict := rfl
  simp only [normPart, eRefOf, obj, hn, hs, hd]

/-- A partial as the 16 bytes at the reduction's source address (R340). -/
def normBytes (q : NormPart) : Bytes := leBytes 16 (if normOvf q then 0 else unsigned 128 q.sum)

theorem length_normBytes (q : NormPart) : (normBytes q).length = 16 := length_leBytes ..

/-- What a NORM pass of one block leaves of core and memory, behind its start. -/
def normPass (m : Memory) (c : Core) (f : Nat) (u : UpdArgs) (r : RedDecl) : Core × Memory :=
  engWrite (updMaster f)
    (normKept (engReads c (updMaster f) (normReads u (obj c Key.stepNumber) 0)) r.redno (normPart m c u r), m)
    (gaOff r.source) (normBytes (normPart m c u r))

theorem normPass_spec (m : Memory) (c : Core) (f : Nat) (u : UpdArgs) (r : RedDecl) :
    UnitsKept c (normPass m c f u r).1 ∧ tgetD (normPass m c f u r).1.norm r.redno NormPart.blank = normPart m c u r
      ∧ (normPass m c f u r).2 = mwriteN m (gaOff r.source) (normBytes (normPart m c u r)) := by
  have hk := (watched_engReads c (updMaster f) (normReads u (obj c Key.stepNumber) 0)).toUnitsKept
  unfold normPass
  rw [engWrite_norm, tgetD_normKept, engWrite_mem]
  refine ⟨UnitsKept.engWrite ?_ .., rfl, rfl⟩
  exact hk.trans (unitsKept_normKept ..)

section
variable {s : State} {f : Nat} {x : UpdSub} {rest : List UpdSub} {u : UpdArgs} (hr : Runs s) (hu : updArgs s.core x.entry = some u)
  (h1 : u.count = 1)
include hr hu h1

theorem exec_updNorm {r : RedDecl} (hn : Goals.updNext s.core f 1 x rest) (hd : redDecl u.im (bits x.entry 77 12) = some r)
    (hice : frozen s.mem u.im.maskBase (blockIndex u 0) = false)
    (hp : Goals.allPermitted s.core (updMaster f) (normReads u (obj s.core Key.stepNumber) 0 ++ [(gaOff r.source, 16, .w)])) :
    exec (.updNorm f) s = .next { s with core := (normPass s.mem (startUpd s.core f x true) f u r).1,
                                         mem := (normPass s.mem (startUpd s.core f x true) f u r).2 } := by
  have he : exec (.updNorm f) s = execUpdNorm f s := rfl
  have hu' : updArgs (startUpd s.core f x true) x.entry = some u := hu
  obtain ⟨hreads, hwrite⟩ := List.forall_mem_append.1 hp
  have hblock := normBlock_eq (c := startUpd s.core f x true) (eRefOf (startUpd s.core f x true) r)
    (tgetD (startUpd s.core f x true).norm r.redno NormPart.blank) hreads hice
  have hstop (q : NormPart) : engStop (normKept (engReads (startUpd s.core f x true) (updMaster f) (normReads u (obj s.core Key.stepNumber) 0))
      r.redno q) (updMaster f) [(gaOff r.source, 16, .w)] = none :=
    engStop_none (allPermitted_normKept _ _ (allPermitted_engReads _ hwrite))
  have hobj : obj (startUpd s.core f x true) Key.stepNumber = obj s.core Key.stepNumber := rfl
  simp only [normKept] at hstop
  rw [he, execUpdNorm, inRange_lt hn.1, onBoth_powered _ (runs_powered hr)]
  simp only [nextUpd_eq hn, hu', h1, hd, List.range_one, List.foldl_cons, List.foldl_nil, hobj, hblock, hstop]
  rfl

theorem normJoins {r : RedDecl} (hn : Goals.updNext s.core f 1 x rest) (hd : redDecl u.im (bits x.entry 77 12) = some r)
    (hice : frozen s.mem u.im.maskBase (blockIndex u 0) = false)
    (hp : Goals.allPermitted s.core (updMaster f) (normReads u (obj s.core Key.stepNumber) 0 ++ [(gaOff r.source, 16, .w)])) :
    NextWith (exec (.updNorm f) s) fun t =>
      tgetD t.core.norm r.redno NormPart.blank = normPart s.mem s.core u r
        ∧ t.mem = mwriteN s.mem (gaOff r.source) (normBytes (normPart s.mem s.core u r))
        ∧ BytesKept s t (gaOff r.source) 16 ∧ Goals.updStarted s t f x true rest := by
  obtain ⟨hk, hq, hm⟩ := normPass_spec s.mem (startUpd s.core f x true) f u r
  rw [normPart_startUpd] at hq hm
  have hx := exec_updNorm hr hu h1 hn hd hice hp
  generalize normPass s.mem (startUpd s.core f x true) f u r = w at hk hq hm hx
  exact ⟨_, hx, hq, hm, bytesKept_of_write hm (length_normBytes _), updStarted_of_kept hn hk⟩

end

theorem updateInitAndNorm : Goals.UpdateInitAndNorm := by
  intro s f x rest u hr hu h1 ws m
  exact ⟨fun hn hp => initWritesBothBuffers hr hu h1 hn hp, fun r hn hd hice hp => normJoins hr hu h1 hn hd hice hp⟩

/-! ### PREPARE (R145, R152, R154, R158) -/

/-- The masters of a block after R152, those of a frozen block as they are (R158). -/
def preparedMasters (m : Memory) (u : UpdArgs) (x : AdamCtx) (s b : Nat) : List Nat :=
  (List.range 1024).map fun i =>
    if frozen m u.im.maskBase (blockIndex u b) then mnum m (masterAt u b + 4 * i) 4 else (blockElement m u x s b i).w

theorem prepareBlock_spec {c : Core} {f : Nat} {u : UpdArgs} {s b : Nat} (m : Memory) (x : AdamCtx) (bad : Bool)
    (hp : Goals.allPermitted c (updMaster f)
      (readsOf u s b ++ [(wcAt u (decide (obj c Key.commits % 2 = 0)) b, 1024 * wcBytes u, .w)])) :
    UnitsKept c (prepareBlock f u x s (c, m, bad) b).1
      ∧ (prepareBlock f u x s (c, m, bad) b).2.1 = mwriteN m (wcAt u (decide (obj c Key.commits % 2 = 0)) b)
          (Goals.copyBytes u (scaleIdle c u.t.scale) (preparedMasters m u x s b)) := by
  have hw := watched_engReads c (updMaster f) (readsOf u s b ++ [(wcAt u (decide (obj c Key.commits % 2 = 0)) b, 1024 * wcBytes u, .w)])
  simp only [prepareBlock, engStop_none hp]
  generalize engReads c (updMaster f) _ = d at hw ⊢
  have hscale : scaleIdle d u.t.scale = scaleIdle c u.t.scale := by unfold scaleIdle scaleE; rw [hw.scale]
  rw [hscale]
  split
  next hice =>
    have hws : preparedMasters m u x s b = elems 4 1024 (mreadN m (masterAt u b) 4096) := by
      simp only [preparedMasters, hice, if_true]
      exact (elems_mreadN m (masterAt u b) 4 1024).symm
    obtain ⟨hk, hb⟩ := formCopy_spec d f u (scaleIdle c u.t.scale) (elems 4 1024 (mreadN m (masterAt u b) 4096))
    rw [engWrite_mem, hb, hws]
    exact ⟨UnitsKept.engWrite (hw.toUnitsKept.trans hk) .., rfl⟩
  next hice =>
    have hws : preparedMasters m u x s b = (adamBlock m u x s b).map fun o => o.w := by
      simp only [preparedMasters, hice, Bool.false_eq_true, if_false, adamBlock_eq, List.map_map]
      rfl
    obtain ⟨hk, hb⟩ := formCopy_spec (countAdam d (adamBlock m u x s b)) f u (scaleIdle c u.t.scale) ((adamBlock m u x s b).map fun o => o.w)
    have hcount : UnitsKept d (countAdam d (adamBlock m u x s b)) := ⟨rfl, rfl⟩
    rw [engWrite_mem, hb, hws]
    exact ⟨UnitsKept.engWrite (hw.toUnitsKept.trans (hcount.trans hk)) .., rfl⟩

/-- The core in which a PREPARE pass of one block has started and counted its elements (R170). -/
def preparing (c : Core) (f : Nat) (x : UpdSub) : Core := addObj (updCycles (startUpd c f x true) 1) Key.updElements (1024 * 1)

theorem obj_preparing (c : Core) (f : Nat) (x : UpdSub) {k : Nat} (h1 : k ≠ Key.updElements) (h2 : k ≠ Key.updBusyCycles) :
    obj (preparing c f x) k = obj c k := (obj_addObj_ne _ _ h1).trans (obj_addObj_ne _ _ h2)

/-- The end of a PREPARE pass: a value that was not finite is raised, and marked for the vote (R156). -/
def prepareEnd (f : Nat) (u : UpdArgs) (z : Core × Memory × Bool) : Core × Memory :=
  if z.2.2 then
    let c := raise z.1 0x0807 .step (updMaster f) 0 [f, u.t.num, u.first]
    ({ c with alm := { c.alm with marks := { c.alm.marks with nonfinite := true } } }, z.2.1)
  else (z.1, z.2.1)

theorem prepareEnd_spec (f : Nat) (u : UpdArgs) (z : Core × Memory × Bool) :
    UnitsKept z.1 (prepareEnd f u z).1 ∧ (prepareEnd f u z).2 = z.2.1 := by
  have hk := watched_raise z.1 0x0807 .step (updMaster f) 0 [f, u.t.num, u.first]
  unfold prepareEnd
  split
  · exact ⟨⟨hk.st, hk.fl⟩, rfl⟩
  · exact ⟨⟨rfl, rfl⟩, rfl⟩

/-- R152 without clipping, at a step. -/
def unclippedCtx (c : Core) (u : UpdArgs) (step : Nat) : AdamCtx := adamCtx u.im u.gr step fp32.one (obj c Key.jobSeed)

theorem clipOf_one (c : Core) (f : Nat) {d : Nat} (u : UpdArgs) (step : Nat) (h : bit d 64 = false) : clipOf c f d u step = some fp32.one := by
  simp [clipOf, h]

section
variable {s : State} {f : Nat} {x : UpdSub} {rest : List UpdSub} {u : UpdArgs} (hr : Runs s) (hu : updArgs s.core x.entry = some u)
  (h1 : u.count = 1) (hc : bit x.entry 64 = false)

include hr hu h1 hc

theorem exec_updPrepare (hn : Goals.updNext s.core f 2 x rest) :
    let k := obj s.core Key.stepNumber
    let w := prepareEnd f u (prepareBlock f u (unclippedCtx s.core u k) k (preparing s.core f x, s.mem, false) 0)
    exec (.updPrepare f) s = .next { s with core := w.1, mem := w.2 } := by
  have he : exec (.updPrepare f) s = execUpdPrepare f s := rfl
  have hseed : obj (addObj (updCycles (startUpd s.core f x true) 1) Key.updElements (1024 * 1)) Key.jobSeed = obj s.core Key.jobSeed :=
    obj_preparing s.core f x (by decide) (by decide)
  rw [he, execUpdPrepare, inRange_lt hn.1, onBoth_powered _ (runs_powered hr)]
  simp only [nextUpd_eq hn, hu, clipOf_one _ _ _ _ hc, h1, hseed, List.range_one, List.foldl_cons, List.foldl_nil]
  rfl

theorem prepareWritesIdleCopy (hn : Goals.updNext s.core f 2 x rest)
    (hp : Goals.allPermitted s.core (updMaster f) (readsOf u (obj s.core Key.stepNumber) 0
      ++ [(wcAt u (decide (obj s.core Key.commits % 2 = 0)) 0, 1024 * wcBytes u, .w)])) :
    let k := obj s.core Key.stepNumber
    let idle := decide (obj s.core Key.commits % 2 = 0)
    NextWith (exec (.updPrepare f) s) fun t =>
      t.mem = mwriteN s.mem (wcAt u idle 0) (Goals.copyBytes u (scaleIdle s.core u.t.scale)
          (preparedMasters s.mem u (unclippedCtx s.core u k) k 0))
        ∧ BytesKept s t (wcAt u idle 0) (1024 * wcBytes u) ∧ Goals.updStarted s t f x true rest := by
  intro k idle
  have hobj : obj (preparing s.core f x) Key.commits = obj s.core Key.commits := obj_preparing s.core f x (by decide) (by decide)
  obtain ⟨hk, hm⟩ := prepareBlock_spec (c := preparing s.core f x) s.mem (unclippedCtx s.core u k) false (by rw [hobj]; exact hp)
  obtain ⟨hke, hme⟩ := prepareEnd_spec f u (prepareBlock f u (unclippedCtx s.core u k) k (preparing s.core f x, s.mem, false) 0)
  have hmem := hme.trans hm
  rw [hobj] at hmem
  have hs : UnitsKept (startUpd s.core f x true) (preparing s.core f x) := ⟨rfl, rfl⟩
  exact ⟨_, exec_updPrepare hr hu h1 hc hn, hmem, bytesKept_of_write hmem (by simp [length_copyBytes, preparedMasters]),
    updStarted_of_kept hn (hs.trans (hk.trans hke))⟩

end

/-! ### APPLY (R155, R158, R159, R352) -/

/-- The accesses of a block of APPLY. -/
def applyAccesses (u : UpdArgs) (s b : Nat) : List (Nat × Nat × Right) :=
  readsOf u s b ++ [(masterAt u b, 4096, .w), (moment1At u b, 2048, .w), (moment2At u b, 2048, .w)]

/-- Memory once a block's masters and moments are updated in place; a frozen block stays (R158). -/
def appliedMem (m : Memory) (u : UpdArgs) (x : AdamCtx) (s b : Nat) : Memory :=
  if frozen m u.im.maskBase (blockIndex u b) then m
  else
    mwriteN (mwriteN (mwriteN m (masterAt u b) (elemBytes 4 ((List.range 1024).map fun i => (blockElement m u x s b i).w)))
      (moment1At u b) (elemBytes 2 ((List.range 1024).map fun i => (blockElement m u x s b i).m)))
      (moment2At u b) (elemBytes 2 ((List.range 1024).map fun i => (blockElement m u x s b i).v))

theorem applyBlock_spec {c : Core} {f : Nat} {u : UpdArgs} {s b : Nat} (m : Memory) (x : AdamCtx)
    (hp : Goals.allPermitted c (updMaster f) (applyAccesses u s b)) :
    UnitsKept c (applyBlock f u x s (c, m) b).1 ∧ (applyBlock f u x s (c, m) b).2 = appliedMem m u x s b := by
  have hw := watched_engReads c (updMaster f) (applyAccesses u s b)
  have hstop := engStop_none hp
  simp only [applyAccesses] at hw hstop
  simp only [applyBlock, hstop, appliedMem]
  generalize engReads c (updMaster f) _ = d at hw ⊢
  split
  · exact ⟨hw.toUnitsKept, rfl⟩
  · simp only [engWrite_mem, adamBlock_eq, List.map_map]
    exact ⟨UnitsKept.engWrite (UnitsKept.engWrite (UnitsKept.engWrite hw.toUnitsKept ..) ..) .., rfl⟩

section
variable {s : State} {f : Nat} {x : UpdSub} {rest : List UpdSub} (hr : Runs s) (hn : Goals.updNext s.core f 3 x rest)
include hr hn

/-- An APPLY that does not run leaves its queue, and no more (R352). -/
theorem exec_updApply_idle (ha : applyRuns s.core = false) :
    exec (.updApply f) s = .next (withCore s (startUpd s.core f x false)) := by
  have he : exec (.updApply f) s = execUpdApply f s := rfl
  rw [he, execUpdApply, inRange_lt hn.1, onBoth_powered _ (runs_powered hr)]
  simp only [nextUpd_eq hn, ha, Bool.not_false, if_true]
  rfl

theorem exec_updApply {u : UpdArgs} (hu : updArgs s.core x.entry = some u) (h1 : u.count = 1) (hc : bit x.entry 64 = false)
    (ha : applyRuns s.core = true) :
    let v := obj s.core Key.lastVoteStep
    let w := applyBlock f u (unclippedCtx s.core u v) v (updCycles (startUpd s.core f x true) 1, s.mem) 0
    exec (.updApply f) s = .next { s with core := w.1, mem := w.2 } := by
  have he : exec (.updApply f) s = execUpdApply f s := rfl
  rw [he, execUpdApply, inRange_lt hn.1, onBoth_powered _ (runs_powered hr)]
  simp only [nextUpd_eq hn, ha, hu, clipOf_one _ _ _ _ hc, h1, List.range_one, List.foldl_cons, List.foldl_nil, Bool.not_true,
    Bool.false_eq_true, if_false]
  rfl

theorem applyWritesInPlace {u : UpdArgs} (hu : updArgs s.core x.entry = some u) (h1 : u.count = 1) (hc : bit x.entry 64 = false)
    (ha : applyRuns s.core = true)
    (hp : Goals.allPermitted s.core (updMaster f) (applyAccesses u (obj s.core Key.lastVoteStep) 0)) :
    let v := obj s.core Key.lastVoteStep
    NextWith (exec (.updApply f) s) fun t =>
      t.mem = appliedMem s.mem u (unclippedCtx s.core u v) v 0 ∧ Goals.updStarted s t f x true rest := by
  intro v
  obtain ⟨hk, hm⟩ := applyBlock_spec (c := updCycles (startUpd s.core f x true) 1) s.mem (unclippedCtx s.core u v) hp
  exact ⟨_, exec_updApply hr hn hu h1 hc ha, hm, updStarted_of_kept hn ((unitsKept_updCycles ..).trans hk)⟩

end

theorem updatePrepareAndApply : Goals.UpdatePrepareAndApply := by
  intro s f x rest u hr hu h1 hc m idle ice new k v
  exact ⟨fun hn hp => prepareWritesIdleCopy hr hu h1 hc hn hp,
    fun hn ha => ⟨_, exec_updApply_idle hr hn ha, rfl, updStarted_of_kept hn ⟨rfl, rfl⟩⟩,
    fun hn ha hp => applyWritesInPlace hr hn hu h1 hc ha hp⟩

/-! ### The end of a pass (R148, R224, R496) -/

/-- Counting the blocks of an APPLY touches objects and the Almanac's count of them (R496, R500). -/
theorem countApplied_spec (c : Core) (n : Nat) :
    UnitsKept c (countApplied c n) ∧ (countApplied c n).alm.updsDone = c.alm.updsDone := by
  unfold countApplied
  extract_lets c1 c2
  split
  · split <;> exact ⟨⟨rfl, rfl⟩, rfl⟩
  · exact ⟨⟨rfl, rfl⟩, rfl⟩

/-- The core in which the update engine of a field is free. -/
def updFreed (c : Core) (f : Nat) : Core := setFld c f { fld c f with upd := { (fld c f).upd with running := none } }

/-- The core in which the engine is free and the pass `x` stands among those done. -/
def updMarked (c : Core) (f : Nat) (x : UpdSub) : Core :=
  { updFreed c f with alm := { c.alm with updsDone := (f, x.entry) :: c.alm.updsDone } }

/-- The core in which the pass `x` of a field's engine has ended, before its completion is signalled. -/
def updEnded (c : Core) (f : Nat) (x : UpdSub) : Core :=
  if x.did ∧ bits x.entry 0 2 = 3 then countApplied (updMarked c f x) (bits x.entry 44 20 + 1) else updMarked c f x

theorem updEnded_spec (c : Core) (f : Nat) (x : UpdSub) :
    UnitsKept (updFreed c f) (updEnded c f x) ∧ (updEnded c f x).alm.updsDone = (f, x.entry) :: c.alm.updsDone := by
  have hd : UnitsKept (updFreed c f) (updMarked c f x) := ⟨rfl, rfl⟩
  unfold updEnded
  split
  · obtain ⟨hk, hu⟩ := countApplied_spec (updMarked c f x) (bits x.entry 44 20 + 1)
    exact ⟨hd.trans hk, hu⟩
  · exact ⟨hd, rfl⟩

/-- A unit's signal waits last at its sync unit (R497). -/
theorem fld_unitSignal (c : Core) (f k issuer : Nat) (back : Back) :
    fld (unitSignal c f k issuer back) f = { fld c f with sync := { syncU c f with held := (syncU c f).held
      ++ [{ issuer := issuer, kind := .add, sem := k, n := 1, cookie := 0, slot := 0, back := back }] } } := fld_setFld ..

theorem exec_updComplete {s : State} {f : Nat} {x : UpdSub} (hr : Runs s) (hf : f < 8) (hx : (fld s.core f).upd.running = some x) :
    exec (.updComplete f) s = .next (withCore s (
      if bit x.entry 89 then unitSignal (updEnded s.core f x) f (bits x.entry 90 12) (updMaster f) .unit else updEnded s.core f x)) := by
  have he : exec (.updComplete f) s = execUpdComplete f s := rfl
  rw [he, execUpdComplete, inRange_lt hf, onCore_powered _ (runs_powered hr)]
  simp only [hx]
  rfl

theorem updateCompletes : Goals.UpdateCompletes := by
  intro s f x hr hf hx
  obtain ⟨hk, hd⟩ := updEnded_spec s.core f x
  have hfld (k : Nat) : fld (updEnded s.core f x) k = fld (updFreed s.core f) k := by simp only [fld, hk.fl]
  have hself : fld (updEnded s.core f x) f = { fld s.core f with upd := { (fld s.core f).upd with running := none } } :=
    (hfld f).trans (fld_setFld ..)
  have hother (k : Nat) (h : k ≠ f) : fld (updEnded s.core f x) k = fld s.core k := (hfld k).trans (fld_setFld_ne _ _ h)
  have hsync : syncU (updEnded s.core f x) f = syncU s.core f := by rw [syncU, hself]; rfl
  refine ⟨_, exec_updComplete hr hf hx, ?_⟩
  cases bit x.entry 89 with
  | false => exact ⟨congrArg Field.upd hself, hd, by simp [withCore, hsync], hother, hk.st, rfl⟩
  | true =>
    have hu := fld_unitSignal (updEnded s.core f x) f (bits x.entry 90 12) (updMaster f) .unit
    refine ⟨(congrArg Field.upd hu).trans (congrArg Field.upd hself), hd, ?_, fun k h => ?_, hk.st, rfl⟩
    · refine (congrArg (fun y => y.sync.held) hu).trans ?_
      rw [hsync]
      rfl
    · exact (fld_setFld_ne _ _ h).trans (hother k h)

/-- Settles O26: the accesses of a block that nothing stops are only watched (`watched_engReads`, `UnitsKept.engWrite`), so of fields and
stations a pass of one block changes the engine's own record alone, and its writes are those of the block. -/
theorem updatePasses : Obligations.UpdatePasses := ⟨updateInitAndNorm, updatePrepareAndApply, updateCompletes⟩

end Sys2Proof.Machine

namespace Sys2Proof.Machine

/-! ## What the bus leaves of the units, and of the module's number (R183, R192, R205, R378, R410) -/

/-- What an access to memory leaves: what watching it leaves, and the module's number. -/
structure Accessed (c d : Core) : Prop extends Watched c d where
  own : ownMod d = ownMod c

namespace Accessed

variable {c d e : Core}

theorem refl (c : Core) : Accessed c c := ⟨Watched.refl c, rfl⟩

theorem trans (h : Accessed c d) (k : Accessed d e) : Accessed c e := ⟨h.toWatched.trans k.toWatched, k.own.trans h.own⟩

theorem foldl {α : Type} {f : Core → α → Core} (h : ∀ c x, Accessed c (f c x)) (l : List α) (c : Core) : Accessed c (l.foldl f c) := by
  induction l generalizing c with
  | nil => exact refl c
  | cons x r ih => exact (h c x).trans (ih _)

end Accessed

theorem Noted.own {c d : Core} (h : Noted c d) : ownMod d = ownMod c := h.objs _ (by decide)

theorem Watched.accessed {c d : Core} (h : Watched c d) (k : Counted c d) : Accessed c d := ⟨h, k.objs _ (by decide)⟩

section
variable (c : Core)

theorem accessed_acc (a : Access) : Accessed c { c with acc := a } := ⟨⟨⟨rfl, rfl⟩, rfl⟩, rfl⟩

theorem accessed_vigil (v : Vigil) : Accessed c { c with vigil := v } := ⟨⟨⟨rfl, rfl⟩, rfl⟩, rfl⟩

theorem accessed_draws (n : Nat) : Accessed c { c with freeCtr := n } := ⟨⟨⟨rfl, rfl⟩, rfl⟩, rfl⟩

theorem accessed_addObj {k : Nat} (n : Nat) (h : k ≠ Key.moduleId) : Accessed c (addObj c k n) :=
  ⟨watched_addObj c k n, obj_addObj_ne c n h.symm⟩

theorem accessed_raise (code : Nat) (cls : EvClass) (src tag : Nat) (args : List Nat) : Accessed c (raise c code cls src tag args) :=
  ⟨watched_raise .., (noted_raise ..).own⟩

theorem accessed_errStatus (s : Status) : Accessed c (errStatus c s) := by
  refine ⟨?_, (quiet_errStatus c s).toNoted.own⟩
  unfold errStatus
  split
  · exact Watched.refl c
  · exact watched_addObj ..

theorem accessed_refuse (m target off : Nat) (rt : Right) (tag : Nat) : Accessed c (refuse c m target off rt tag) := by
  unfold refuse
  exact (((accessed_raise ..).trans (accessed_addObj (k := Key.accessRefused) _ 1 (by decide))).trans (accessed_acc ..)).trans
    (accessed_errStatus ..)

theorem accessed_vigilMark (m u : Nat) : Accessed c (vigilMark m c u) := by
  refine ⟨watched_vigilMark c m u, ?_⟩
  unfold vigilMark
  extract_lets r _ d
  have hd : ownMod d = ownMod c := rfl
  split
  · exact ((counted_hazard ..).objs _ (by decide)).trans hd
  · exact hd

theorem accessed_vigilRead (m a n port : Nat) : Accessed c (vigilRead c m a n port) :=
  (watched_vigilRead ..).accessed (counted_vigilRead ..)

theorem accessed_vigilWrite (m a n port : Nat) : Accessed c (vigilWrite c m a n port) := by
  unfold vigilWrite
  extract_lets d
  have hd : Accessed c d := ⟨⟨⟨rfl, rfl⟩, rfl⟩, rfl⟩
  split
  · refine hd.trans (Accessed.foldl (fun c u => ?_) _ _)
    split
    · exact ((watched_portTouch ..).accessed (counted_portTouch ..)).trans (accessed_vigilMark ..)
    · exact accessed_vigilMark ..
  · exact hd

theorem accessed_closeWindows (m : Memory) (a n : Nat) : Accessed c (closeWindows m c a n) := by
  unfold closeWindows
  split
  · exact ⟨⟨⟨rfl, rfl⟩, rfl⟩, rfl⟩
  · exact Accessed.refl c

theorem accessed_shareCycles (a : Nat) : Accessed c (shareCycles c a) := by
  unfold shareCycles
  split
  · exact (accessed_draws c _).trans (accessed_addObj (k := Key.sliceShareCycles) _ _ (by decide))
  · exact Accessed.refl c

theorem accessed_gatedAccess (m a : Nat) : Accessed c (gatedAccess c m a) := by
  unfold gatedAccess
  split
  · exact (accessed_vigil c _).trans (accessed_raise ..)
  · exact Accessed.refl c

theorem accessed_noteGated (m a n : Nat) : Accessed c (noteGated c m a n) := by
  unfold noteGated
  split
  · exact accessed_gatedAccess ..
  · exact Accessed.refl c

theorem accessed_accHazard (m a : Nat) : Accessed c (accHazard c m a) := by
  unfold accHazard
  split
  · extract_lets g s t
    split
    · exact Accessed.refl c
    · exact (watched_hazard ..).accessed (counted_hazard ..)
  · exact Accessed.refl c

theorem accessed_memError (m tag x : Nat) : Accessed c (memError c m tag x) := accessed_raise ..

theorem accessed_engStop {m : Nat} {l : List (Nat × Nat × Right)} {r : Core × Status} (h : engStop c m l = some r) : Accessed c r.1 := by
  unfold engStop at h
  split at h
  · cases h; exact accessed_refuse ..
  · obtain ⟨x, -, rfl⟩ := Option.map_eq_some_iff.1 h
    exact accessed_memError ..

theorem accessed_busRead (mem : Memory) (m a n tag : Nat) : Accessed c (busRead mem c m a n tag).1 := by
  unfold busRead
  split
  · exact accessed_refuse ..
  · split
    · exact accessed_memError ..
    · extract_lets bs d
      have hd : Accessed c d := (((accessed_vigilRead ..).trans (accessed_accHazard ..)).trans (accessed_shareCycles ..)).trans
        (accessed_noteGated ..)
      exact hd.trans (accessed_draws ..)

/-- Bytes written one by one but for those that gated blocks drop (R410): nothing outside their range changes. -/
theorem writeUngated_spec (m : Memory) (k a : Nat) (bs : Bytes) :
    Accessed c (writeUngated m c k a bs).1
      ∧ ∀ b, b < a ∨ a + bs.length ≤ b → mread (writeUngated m c k a bs).2 b = mread m b := by
  suffices h : ∀ (n : Nat) (acc : Core × Memory), let w := bs.foldlIdx (fun i (r : Core × Memory) b =>
      if gatedAt c (a + i) then r
      else (vigilWrite (closeWindows r.2 r.1 (a + i) 1) k (a + i) 1, mwrite r.2 (a + i) b)) acc n
      Accessed acc.1 w.1 ∧ ∀ b, b < a + n ∨ a + n + bs.length ≤ b → mread w.2 b = mread acc.2 b from h 0 (c, m)
  induction bs with
  | nil => exact fun n acc => ⟨Accessed.refl _, fun _ _ => rfl⟩
  | cons x r ih =>
    intro n acc
    simp only [List.foldlIdx_cons, List.length_cons]
    obtain ⟨hk, hm⟩ := ih (n + 1) _
    refine ⟨Accessed.trans ?_ hk, fun b hb => (hm b (by omega)).trans ?_⟩
    · split
      · exact Accessed.refl _
      · exact (accessed_closeWindows ..).trans (accessed_vigilWrite ..)
    · split
      · rfl
      · exact mread_mwrite_ne _ _ (by omega)

end

/-! ### Writes over the bus -/

/-- An offset of the byte memories: HBM, the slice memory, the stations' windows. -/
def plainAt (a : Nat) : Prop := inHbm a = true ∨ inSlice a = true ∨ inStation a = true

section
variable {m : Memory} {c : Core} {k a : Nat} {bs : Bytes} {tag : Nat}

theorem plainAt_not_control (h : plainAt a) : inAcc a = false ∧ inCtl a = false ∧ inFieldBlk a = false ∧ inRing a = false := by
  simp only [plainAt, inHbm, inSlice, inStation, decide_eq_true_eq] at h
  simp only [inAcc, inCtl, inFieldBlk, inRing, decide_eq_false_iff_not]
  simp only [sliceBase, ringBase] at h ⊢
  omega

theorem writeAt_plain (h : plainAt a) : writeAt m c k a bs tag
    = (shareCycles (vigilWrite (closeWindows m c a bs.length) k a bs.length) a, mwriteN m a bs, .ok) := by
  obtain ⟨h1, h2, h3, h4⟩ := plainAt_not_control h
  simp [writeAt, inImem, h1, h2, h3, h4]

theorem accessed_writeAt_plain (h : plainAt a) : Accessed c (writeAt m c k a bs tag).1 := by
  rw [writeAt_plain h]
  exact ((accessed_closeWindows ..).trans (accessed_vigilWrite ..)).trans (accessed_shareCycles ..)

/-- A write that neither the tables nor a gated block stop. -/
theorem busWrite_plain (h : plainAt a) (hr : refusalOf c k a bs.length .w = none) (hg : gatedIn c a bs.length = none) :
    Accessed c (busWrite m c k a bs tag).1 ∧ (busWrite m c k a bs tag).2 = (mwriteN m a bs, .ok) := by
  simp only [busWrite, hr, hg]
  exact ⟨accessed_writeAt_plain h, by rw [writeAt_plain h]⟩

theorem busWrite_hbm_ok (h : inHbm a = true) (hr : refusalOf c k a bs.length .w = none) :
    (busWrite m c k a bs tag).2.2 = .ok := by
  simp only [busWrite, hr]
  split
  · rw [writeAt_plain (.inl h)]
  · simp [h]

theorem busWrite_refused (hr : refusalOf c k a bs.length .w ≠ none) : (busWrite m c k a bs tag).2 = (m, .access) := by
  obtain ⟨t, ht⟩ := Option.ne_none_iff_exists'.1 hr
  simp only [busWrite, ht]

theorem accessed_busWrite_hbm (h : inHbm a = true) : Accessed c (busWrite m c k a bs tag).1 := by
  have hctl := (plainAt_not_control (.inl h)).2.1
  unfold busWrite
  split
  · simp only [hctl, Bool.false_and, Bool.false_eq_true, if_false]
    exact accessed_refuse ..
  · split
    · exact accessed_writeAt_plain (.inl h)
    · simp only [h, Bool.true_or, if_true]
      exact (accessed_gatedAccess ..).trans (writeUngated_spec ..).1

theorem writeAt_keeps {b : Nat} (hb : b < a ∨ a + bs.length ≤ b) : mread (writeAt m c k a bs tag).2.1 b = mread m b := by
  have h : (writeAt m c k a bs tag).2.1 = m ∨ (writeAt m c k a bs tag).2.1 = mwriteN m a bs := by
    simp only [writeAt]
    split_ifs
    all_goals simp
  rcases h with h | h
  · rw [h]
  · rw [h, mread_mwriteN_ne _ _ hb]

/-- A write over the bus changes no byte outside its own. -/
theorem busWrite_keeps {b : Nat} (hb : b < a ∨ a + bs.length ≤ b) : mread (busWrite m c k a bs tag).2.1 b = mread m b := by
  unfold busWrite
  split
  · rfl
  · split
    · exact writeAt_keeps hb
    · split
      · exact (writeUngated_spec ..).2 b hb
      · rfl

end

end Sys2Proof.Machine

namespace Sys2Proof.Machine

/-! ## The reduction engine (O46): what is kept of a channel and its execution -/

/-- From `c` to `d` neither the module's number changed nor a field's reduction engine. -/
structure RedsKept (c d : Core) : Prop where
  own : ownMod d = ownMod c
  red : ∀ f, (fld d f).red = (fld c f).red

namespace RedsKept

variable {c d e : Core}

theorem refl (c : Core) : RedsKept c c := ⟨rfl, fun _ => rfl⟩

theorem trans (h : RedsKept c d) (k : RedsKept d e) : RedsKept c e := ⟨k.own.trans h.own, fun f => (k.red f).trans (h.red f)⟩

theorem foldl {α : Type} {f : Core → α → Core} (h : ∀ c x, RedsKept c (f c x)) (l : List α) (c : Core) : RedsKept c (l.foldl f c) := by
  induction l generalizing c with
  | nil => exact refl c
  | cons x r ih => exact (h c x).trans (ih _)

/-- A core with the fields of another, and its number. -/
theorem of_fl (hf : d.fl = c.fl) (ho : ownMod d = ownMod c) : RedsKept c d := ⟨ho, fun f => by simp only [fld, hf]⟩

end RedsKept

theorem Noted.redsKept {c d : Core} (h : Noted c d) : RedsKept c d :=
  ⟨h.own, fun f => by obtain ⟨u, hu⟩ := h.fields f; rw [hu]⟩

theorem Accessed.redsKept {c d : Core} (h : Accessed c d) : RedsKept c d := .of_fl h.fl h.own

/-- What progress leaves of an execution: the submission and its order, its step and E_ref, and the records of children, which only
their packets add to; results once written stay so. Where the contribution is in (`p`) it stays, and SOURCE_FAIL once set; where no
results are formed (`q`) they stay. -/
structure RunKept (p q : Prop) (r u : RedRun) : Prop where
  redno : u.redno = r.redno
  rseq : u.rseq = r.rseq
  sem : u.sem = r.sem
  step : u.step = r.step
  eRef : u.eRef = r.eRef
  recs : u.recs = r.recs
  written : r.written = true → u.written = true
  own : p → u.own = r.own
  fail : p → bit r.flags 5 = true → bit u.flags 5 = true
  results : q → u.results = r.results

theorem RunKept.refl {p q : Prop} (r : RedRun) : RunKept p q r r :=
  ⟨rfl, rfl, rfl, rfl, rfl, rfl, id, fun _ => rfl, fun _ => id, fun _ => rfl⟩

theorem RunKept.trans {p q : Prop} {r u v : RedRun} (h : RunKept p q r u) (k : RunKept p q u v) : RunKept p q r v where
  redno := k.redno.trans h.redno
  rseq := k.rseq.trans h.rseq
  sem := k.sem.trans h.sem
  step := k.step.trans h.step
  eRef := k.eRef.trans h.eRef
  recs := k.recs.trans h.recs
  written := k.written ∘ h.written
  own hp := (k.own hp).trans (h.own hp)
  fail hp := k.fail hp ∘ h.fail hp
  results hq := (k.results hq).trans (h.results hq)

/-- From `c` to `d` on channel `n` of field `f`: an execution under way goes on as `RunKept` says; the order of the channel and the
engine's queue stay, and the module's number. -/
structure ChannelKept (p q : Prop) (f n : Nat) (c d : Core) : Prop where
  own : ownMod d = ownMod c
  queue : (fld d f).red.queue = (fld c f).red.queue
  next : (chanOf d f n).next = (chanOf c f n).next
  run : ∀ r, (chanOf c f n).run = some r → ∃ u, (chanOf d f n).run = some u ∧ RunKept p q r u

namespace ChannelKept

variable {p q : Prop} {f n : Nat} {c d e : Core}

theorem refl (c : Core) : ChannelKept p q f n c c := ⟨rfl, rfl, rfl, fun r h => ⟨r, h, .refl r⟩⟩

theorem trans (h : ChannelKept p q f n c d) (k : ChannelKept p q f n d e) : ChannelKept p q f n c e where
  own := k.own.trans h.own
  queue := k.queue.trans h.queue
  next := k.next.trans h.next
  run r hr := by
    obtain ⟨u, hu, hru⟩ := h.run r hr
    obtain ⟨v, hv, huv⟩ := k.run u hu
    exact ⟨v, hv, hru.trans huv⟩

theorem foldl {α : Type} {g : Core → α → Core} (h : ∀ c x, ChannelKept p q f n c (g c x)) (l : List α) (c : Core) :
    ChannelKept p q f n c (l.foldl g c) := by
  induction l generalizing c with
  | nil => exact refl c
  | cons x r ih => exact (h c x).trans (ih _)

/-- A step that may be followed by another. -/
theorem thenIf {b : Prop} [Decidable b] (h : ChannelKept p q f n c d) (k : ChannelKept p q f n d e) :
    ChannelKept p q f n c (if b then e else d) := by
  split
  · exact h.trans k
  · exact h

theorem mono {p' q' : Prop} (hp : p' → p) (hq : q' → q) (h : ChannelKept p q f n c d) : ChannelKept p' q' f n c d := by
  refine ⟨h.own, h.queue, h.next, fun r hr => ?_⟩
  obtain ⟨u, hu, k⟩ := h.run r hr
  exact ⟨u, hu, { k with own := k.own ∘ hp, fail := k.fail ∘ hp, results := k.results ∘ hq }⟩

end ChannelKept

theorem RedsKept.chanOf {c d : Core} (h : RedsKept c d) (f n : Nat) : chanOf d f n = chanOf c f n := by simp only [Machine.chanOf, h.red]

theorem RedsKept.channelKept {p q : Prop} {f n : Nat} {c d : Core} (h : RedsKept c d) : ChannelKept p q f n c d :=
  ⟨h.own, by rw [h.red], by rw [h.chanOf], fun r hr => ⟨r, by rw [h.chanOf, hr], .refl r⟩⟩

/-! ### Changes of a channel -/

section
variable (c : Core) (f n : Nat)

@[simp] theorem chanOf_setChan (x : Channel) : chanOf (setChan c f n x) f n = x := by simp [chanOf, setChan]

theorem queue_setChan (x : Channel) : (fld (setChan c f n x) f).red.queue = (fld c f).red.queue := by simp [setChan]

theorem chanOf_modRun (g : RedRun → RedRun) : chanOf (modRun c f n g) f n = { chanOf c f n with run := (chanOf c f n).run.map g } :=
  chanOf_setChan ..

end

section
variable {p q : Prop} {c : Core} {f n : Nat}

theorem channelKept_setChan {x : Channel} (hn : x.next = (chanOf c f n).next)
    (hr : ∀ r, (chanOf c f n).run = some r → ∃ u, x.run = some u ∧ RunKept p q r u) : ChannelKept p q f n c (setChan c f n x) :=
  ⟨rfl, queue_setChan .., by rw [chanOf_setChan, hn], by rwa [chanOf_setChan]⟩

/-- The execution under way is changed in place. -/
theorem channelKept_modRun {g : RedRun → RedRun} (h : ∀ r, (chanOf c f n).run = some r → RunKept p q r (g r)) :
    ChannelKept p q f n c (modRun c f n g) :=
  channelKept_setChan rfl fun r hr => ⟨g r, by rw [hr]; rfl, h r hr⟩

theorem channelKept_countElems (m : Nat) : ChannelKept p q f n c (countElems c f m) := by
  have hc : chanOf (countElems c f m) f n = chanOf c f n := by simp [chanOf, countElems]
  exact ⟨rfl, by simp [countElems], by rw [hc], fun r hr => ⟨r, by rw [hc, hr], .refl r⟩⟩

end

/-! ### Packets leave (R329 to R331, R336) -/

/-- `d` is `c` after packets of an execution were sent: the channel is as it was, but that a loss may have become known. -/
structure Sent (f n : Nat) (c d : Core) : Prop where
  own : ownMod d = ownMod c
  queue : (fld d f).red.queue = (fld c f).red.queue
  chan : ∃ b, chanOf d f n = { chanOf c f n with run := (chanOf c f n).run.map fun r => { r with lost := r.lost || b } }

theorem RedsKept.sent {f n : Nat} {c d : Core} (h : RedsKept c d) : Sent f n c d :=
  ⟨h.own, by rw [h.red], false, by rw [h.chanOf]; simp⟩

theorem Sent.trans {f n : Nat} {c d e : Core} (h : Sent f n c d) (k : Sent f n d e) : Sent f n c e := by
  obtain ⟨a, ha⟩ := h.chan
  obtain ⟨b, hb⟩ := k.chan
  refine ⟨k.own.trans h.own, k.queue.trans h.queue, a || b, ?_⟩
  rw [hb, ha]
  simp [Function.comp_def, Bool.or_assoc]

theorem Sent.foldl {α : Type} {f n : Nat} {g : Core → α → Core} (h : ∀ c x, Sent f n c (g c x)) (l : List α) (c : Core) :
    Sent f n c (l.foldl g c) := by
  induction l generalizing c with
  | nil => exact (RedsKept.refl c).sent
  | cons x r ih => exact (h c x).trans (ih _)

theorem Sent.channelKept {p q : Prop} {f n : Nat} {c d : Core} (h : Sent f n c d) : ChannelKept p q f n c d := by
  obtain ⟨b, hb⟩ := h.chan
  refine ⟨h.own, h.queue, by rw [hb], fun r hr => ⟨{ r with lost := r.lost || b }, by rw [hb, hr]; rfl, ?_⟩⟩
  exact ⟨rfl, rfl, rfl, rfl, rfl, rfl, id, fun _ => rfl, fun _ => id, fun _ => rfl⟩

section
variable (c : Core) (f n : Nat)

theorem sent_lost : Sent f n c (modRun c f n fun r => { r with lost := true }) :=
  ⟨rfl, queue_setChan .., true, by rw [chanOf_modRun]; simp⟩

theorem redsKept_enqueue (i typ issuer tag addr status op : Nat) (pl : Bytes) (cause : Cause) :
    RedsKept c (enqueue c i typ issuer tag addr status op pl cause) := .of_fl rfl rfl

theorem sent_sendEngine (m typ tag addr : Nat) (bs : Bytes) : Sent f n c (sendEngine c f n m typ tag addr bs) := by
  unfold sendEngine
  split
  · exact (redsKept_enqueue ..).sent
  · exact (accessed_refuse ..).redsKept.sent.trans (sent_lost ..)
  · exact sent_lost ..

theorem sent_sendPartials (m : Nat) (r : RedRun) (lo hi : Nat) : Sent f n c (sendPartials c f n m r lo hi) :=
  Sent.foldl (fun c _ => sent_sendEngine c ..) _ c

theorem sent_sendResults (ms : List Nat) (r : RedRun) (lo : Nat) (vs : List Nat) : Sent f n c (sendResults c f n ms r lo vs) :=
  Sent.foldl (fun c _ => Sent.foldl (fun c _ => sent_sendEngine c ..) _ c) ms c

end

/-! ### The parts of progress -/

theorem bit_or (a b i : Nat) : bit (a ||| b) i = (bit a i || bit b i) := Nat.testBit_or ..

section
variable {c : Core} {d : RedDecl} {ch : ChannelDecl}

theorem channelKept_absorbOne (s : Staged) : ChannelKept True True ch.field ch.num c (absorbOne d ch c s) := by
  simp only [absorbOne]
  split
  · exact .refl c
  next r hr =>
    split
    · exact .refl c
    · refine ChannelKept.thenIf (.trans (channelKept_modRun fun r' hr' => ?_) (channelKept_countElems _))
        (sent_sendPartials ..).channelKept
      cases hr.symm.trans hr'
      refine ⟨rfl, rfl, rfl, rfl, rfl, rfl, id, fun _ => rfl, fun _ hb => ?_, fun _ => rfl⟩
      dsimp only
      split
      · simp [bit_or, hb]
      · exact hb

theorem channelKept_absorb : ChannelKept True True ch.field ch.num c (absorb d ch c) := by
  simp only [absorb]
  split
  · exact .refl c
  next r hr =>
    refine ChannelKept.trans ?_ (ChannelKept.foldl (fun _ s => channelKept_absorbOne s) _ _)
    exact channelKept_setChan rfl fun r' hr' => ⟨r', hr', .refl r'⟩

end

/-! ### Results (R322, R330, R338) -/

theorem redsKept_setStrm (c : Core) (g i : Nat) (x : Stream) : RedsKept c (setStrm c g i x) := .of_fl rfl rfl

theorem redsKept_armStream (c : Core) (g st d : Nat) : RedsKept c (armStream c g st d).1 := by
  have harm : ownMod (addObj c Key.armBusy 1) = ownMod c := obj_addObj_ne _ _ (by decide)
  unfold armStream
  extract_lets x r y
  have hr : RedsKept c r.1 := by
    unfold r
    split_ifs
    · exact .refl c
    · exact .refl c
    · exact .of_fl rfl harm
    · exact .refl c
    · exact .of_fl rfl rfl
    · exact .of_fl rfl rfl
  exact (hr.trans (redsKept_setStrm ..)).trans (accessed_errStatus ..).redsKept

theorem redsKept_busWrite (mem : Memory) (c : Core) (m a : Nat) (bs : Bytes) (tag : Nat) : RedsKept c (busWrite mem c m a bs tag).1 := by
  unfold busWrite
  split
  · extract_lets d slot g st
    have hd : RedsKept c d := (accessed_refuse ..).redsKept
    split
    · exact hd.trans (redsKept_setStrm ..)
    · exact hd
  · split
    · simp only [writeAt]
      split_ifs
      · exact (accessed_errStatus c .range).redsKept
      · exact (accessed_refuse ..).redsKept
      · exact .refl c
      · exact (accessed_errStatus c .range).redsKept
      · exact redsKept_armStream ..
      · exact (redsKept_setStrm ..).trans (accessed_errStatus _ .range).redsKept
      · exact (accessed_refuse ..).redsKept
      · exact (((accessed_closeWindows ..).trans (accessed_vigilWrite ..)).trans (accessed_shareCycles ..)).redsKept
    · extract_lets d
      have hd : Accessed c d := accessed_gatedAccess ..
      split
      · exact (hd.trans (writeUngated_spec ..).1).redsKept
      · exact hd.redsKept

section
variable {mem : Memory} {c : Core} {d : RedDecl} {ch : ChannelDecl}

theorem channelKept_writeResults (step : Nat) (vs : List Nat) :
    ChannelKept True True ch.field ch.num c (writeResults mem c d ch.field ch.num step vs).1 := by
  unfold writeResults
  split
  · exact channelKept_modRun fun r _ => ⟨rfl, rfl, rfl, rfl, rfl, rfl, fun _ => rfl, fun _ => rfl, fun _ => id, fun _ => rfl⟩
  · refine (redsKept_busWrite ..).channelKept.trans (channelKept_modRun fun r _ => ?_)
    split
    · exact ⟨rfl, rfl, rfl, rfl, rfl, rfl, fun _ => rfl, fun _ => rfl, fun _ => id, fun _ => rfl⟩
    · exact ⟨rfl, rfl, rfl, rfl, rfl, rfl, fun _ => rfl, fun _ => rfl, fun _ hb => by simp [bit_or, hb], fun _ => rfl⟩

/-- The execution with its results formed (R322, R338). -/
def formedRun (d : RedDecl) (r : RedRun) : RedRun :=
  let k := csumK d.seed r.step
  if d.kind = .max then
    takeMax k { r with results := r.vals.map Int.toNat, csumOut := csum k r.vals }
  else
    let zs := r.vals.map (sumResult r.eRef)
    let top := r.vals.foldl (fun o s => if s = 0 then o else maxObs o (some (obsExp s.natAbs (r.eRef - 107)))) r.eObs
    { r with results := zs.map fun z => z.1, csumOut := csum k r.vals, eObs := top,
             flags := if zs.any fun z => z.2 then r.flags ||| 4 else r.flags }

/-- A flag added to others leaves those that are set. -/
theorem bit_flagged {b : Prop} [Decidable b] {a k i : Nat} (h : bit a i = true) : bit (if b then a ||| k else a) i = true := by
  split
  · simp [bit_or, h]
  · exact h

theorem runKept_formedRun (r : RedRun) : RunKept True False r { formedRun d r with summed := true } := by
  simp only [formedRun]
  split
  · exact ⟨rfl, rfl, rfl, rfl, rfl, rfl, id, fun _ => rfl, fun _ => bit_flagged, False.elim⟩
  · exact ⟨rfl, rfl, rfl, rfl, rfl, rfl, id, fun _ => rfl, fun _ => bit_flagged, False.elim⟩

theorem channelKept_formResults {r : RedRun} (hr : (chanOf c ch.field ch.num).run = some r) :
    ChannelKept True False ch.field ch.num c (formResults mem c d ch r).1 := by
  have h : ChannelKept True False ch.field ch.num c (modRun c ch.field ch.num fun _ => { formedRun d r with summed := true }) :=
    channelKept_modRun fun r' hr' => by cases hr.symm.trans hr'; exact runKept_formedRun r
  exact h.trans (((channelKept_writeResults ..).mono id False.elim).trans (sent_sendResults ..).channelKept)

/-- The sum of a participant is sent on, or gives the results at the root: only there are any formed, and written (R329, R330). -/
theorem sumStep_spec : ChannelKept True (ownPos c ch ≠ 0) ch.field ch.num c (sumStep mem c d ch).1
    ∧ (ownPos c ch ≠ 0 → (sumStep mem c d ch).2 = mem) := by
  simp only [sumStep]
  split
  · exact ⟨.refl c, fun _ => rfl⟩
  next r hr =>
    split
    · exact ⟨.refl c, fun _ => rfl⟩
    split
    next h0 => exact ⟨(channelKept_formResults hr).mono id (absurd h0), fun h => absurd h0 h⟩
    · refine ⟨ChannelKept.trans (channelKept_modRun fun r' _ => ?_) (sent_sendPartials ..).channelKept, fun _ => rfl⟩
      exact ⟨rfl, rfl, rfl, rfl, rfl, rfl, id, fun _ => rfl, fun _ => id, fun _ => rfl⟩

/-! ### Agreement records (R327, R330) -/

/-- The decided record goes down the tree: the execution has it, and its own record counts as sent. -/
theorem decide'_spec {r : RedRun} (hr : (chanOf c ch.field ch.num).run = some r) (s : RedRun) (x : Record) :
    ChannelKept True True ch.field ch.num c (decide' c ch s x)
      ∧ ∃ b, (chanOf (decide' c ch s x) ch.field ch.num).run
        = some { r with decided := some x, recSent := true, lost := r.lost || b } := by
  have hs : Sent ch.field ch.num (modRun c ch.field ch.num fun r => { r with decided := some x, recSent := true }) (decide' c ch s x) :=
    Sent.foldl (fun c _ => sent_sendEngine c ..) _ _
  refine ⟨ChannelKept.trans (channelKept_modRun fun r' _ => ?_) hs.channelKept, ?_⟩
  · exact ⟨rfl, rfl, rfl, rfl, rfl, rfl, id, fun _ => rfl, fun _ => id, fun _ => rfl⟩
  · obtain ⟨b, hb⟩ := hs.chan
    exact ⟨b, by rw [hb, chanOf_modRun, hr]; rfl⟩

theorem channelKept_recordStep : ChannelKept True True ch.field ch.num c (recordStep c d ch) := by
  simp only [recordStep]
  split
  · exact .refl c
  next r hr =>
    split_ifs
    · exact .refl c
    · exact (decide'_spec hr ..).1
    · refine ChannelKept.trans (channelKept_modRun fun r' _ => ?_) (sent_sendEngine ..).channelKept
      exact ⟨rfl, rfl, rfl, rfl, rfl, rfl, id, fun _ => rfl, fun _ => id, fun _ => rfl⟩

end

/-! ### Arrivals of a permutation (R342) -/

theorem redsKept_sendRemote (c : Core) (module name : Nat) (op : SyncOp) {k : Nat} (h : op.back = .engine k) :
    RedsKept c (sendRemote c module name op none) := by
  unfold sendRemote
  split
  · exact .of_fl rfl rfl
  · rw [h]
    exact (accessed_refuse ..).redsKept
  · rw [remoteLost, h]
    exact .refl c
  · rw [remoteLost, h]
    exact .refl c

theorem redsKept_arrivalSignal (f : Nat) (a : Nat × Nat) (c : Core) (m : Move) : RedsKept c (arrivalSignal f a c m) := by
  unfold arrivalSignal
  split
  · exact (quiet_holdOp c a.1 _).toNoted.redsKept
  · exact redsKept_sendRemote (k := redMaster f) _ _ _ _ rfl

theorem channelKept_permuteSignal (c : Core) (f n : Nat) : ChannelKept True True f n c (permuteSignal c f n) := by
  simp only [permuteSignal]
  split
  next r im hr him =>
    split
    · exact .refl c
    · split
      · exact .refl c
      · have h : ChannelKept True True f n c (setChan c f n { chanOf c f n with run := some { r with signalled := true } }) := by
          refine channelKept_setChan rfl fun r' hr' => ⟨_, rfl, ?_⟩
          cases hr.symm.trans hr'
          exact ⟨rfl, rfl, rfl, rfl, rfl, rfl, id, fun _ => rfl, fun _ => id, fun _ => rfl⟩
        split
        · exact h
        · exact h.trans (RedsKept.foldl (fun c m => redsKept_arrivalSignal ..) _ _).channelKept
  · exact .refl c

/-! ### Everything an execution can do at once -/

section
variable (mem : Memory) (c : Core) (d : RedDecl) (ch : ChannelDecl)

theorem pump_spec : ChannelKept True (ownPos c ch ≠ 0) ch.field ch.num c (pump mem c d ch).1
    ∧ (ownPos c ch ≠ 0 → (pump mem c d ch).2 = mem) := by
  have ha : ChannelKept True True ch.field ch.num c (absorb d ch c) := channelKept_absorb
  obtain ⟨hs, hm⟩ := sumStep_spec (mem := mem) (c := absorb d ch c) (d := d) (ch := ch)
  have hpos : ownPos (absorb d ch c) ch = ownPos c ch := by rw [ownPos, ha.own, ownPos]
  rw [hpos] at hs hm
  exact ⟨(((ha.mono id fun _ => trivial).trans hs).trans (channelKept_recordStep.mono id fun _ => trivial)).trans
    ((channelKept_permuteSignal ..).mono id fun _ => trivial), hm⟩

theorem channelKept_pumpChan : ChannelKept True (ownPos c ch ≠ 0) ch.field ch.num c (pumpChan mem c ch).1 := by
  unfold pumpChan
  split
  · split
    · exact (pump_spec ..).1
    · exact .refl c
  · exact .refl c

theorem pumpChan_idle (h : (chanOf c ch.field ch.num).run = none) : pumpChan mem c ch = (c, mem) := by simp only [pumpChan, h]

end

end Sys2Proof.Machine

namespace Sys2Proof.Machine

/-! ## COLL packets (O46; R331 to R334) -/

/-- A packet that its context takes in turn (R294, R298). -/
theorem accept_inTurn {s : State} {rx : Rx} (h : Goals.inTurn s rx) :
    accept s.core rx = (Goals.taken s rx, some rx.pkt.dstCtx) := by
  obtain ⟨-, hdst, hcrc, hkind, hstate, hseq, hrun⟩ := h
  cases hr : running s.core with
  | false => simp [accept, Goals.taken, hdst, hcrc, hkind, hstate, hseq, hr]
  | true =>
    obtain ⟨hslot, hpeer⟩ := hrun hr
    simp [accept, Goals.taken, hdst, hcrc, hkind, hstate, hseq, hslot, hpeer]

/-- The sequence number of a channel's execution under way, or of its next one (R334). -/
def currentSeq (x : Channel) : Nat := (x.run.map fun r => r.rseq).getD x.next

section
variable {s : State} {rx : Rx} {part : Nat} {ch : ChannelDecl} (h : Goals.collFor s rx part ch)
include h

theorem acceptColl_eq : acceptColl s.core rx part =
    let m := currentSeq (chanOf s.core ch.field ch.num)
    if bits rx.pkt.addr 42 16 = m ∨ bits rx.pkt.addr 42 16 = (m + 1) % 65536 then (Goals.taken s rx, some ch)
    else (orderFault (Goals.taken s rx) ch (bits rx.pkt.addr 42 16) m, none) := by
  obtain ⟨hin, htyp, hpart, hch⟩ := h
  have hch : chanDecl (Goals.taken s rx) (bits rx.pkt.addr 58 6) = some ch := hch
  have hchan : chanOf (Goals.taken s rx) ch.field ch.num = chanOf s.core ch.field ch.num := rfl
  have hgo : ¬(rx.pkt.typ ≠ 8 ∨ bits rx.pkt.addr 40 2 ≠ part) := by simp [htyp, hpart]
  simp only [acceptColl, accept_inTurn hin, hch, if_neg hgo, hchan]
  cases hr : (chanOf s.core ch.field ch.num).run with
  | none => simp only [currentSeq, hr, Option.map_none, Option.getD_none]
  | some r => simp only [currentSeq, hr, Option.map_some, Option.getD_some]

theorem acceptColl_current (hq : bits rx.pkt.addr 42 16 = currentSeq (chanOf s.core ch.field ch.num)) :
    acceptColl s.core rx part = (Goals.taken s rx, some ch) := by
  rw [acceptColl_eq h]
  exact if_pos (.inl hq)

theorem acceptColl_next (hq : bits rx.pkt.addr 42 16 = (currentSeq (chanOf s.core ch.field ch.num) + 1) % 65536) :
    acceptColl s.core rx part = (Goals.taken s rx, some ch) := by
  rw [acceptColl_eq h]
  exact if_pos (.inr hq)

end

theorem currentSeq_idle {x : Channel} (h : x.run = none) : currentSeq x = x.next := by simp [currentSeq, h]

theorem currentSeq_running {x : Channel} {r : RedRun} (h : x.run = some r) : currentSeq x = r.rseq := by simp [currentSeq, h]

/-! ### PARTIALs (R332, R334) -/

/-- The elements that a PARTIAL holds of its reduction. -/
def packetVals (im : Image) (rx : Rx) : List Int :=
  partialVals rx.pkt.payload (min 28 (((redDecl im rx.pkt.opTag).map fun d => d.n).getD 0 - bits rx.pkt.addr 0 32))

/-- The entry that a PARTIAL leaves among those staged: zeros where its place was refused (R502). -/
def stagedEntry (im : Image) (rx : Rx) (bad : Bool) : Staged :=
  { rseq := bits rx.pkt.addr 42 16, redno := rx.pkt.opTag, src := rx.pkt.srcMod, first := bits rx.pkt.addr 0 32,
    vals := if bad then (packetVals im rx).map fun _ => 0 else packetVals im rx, bad := bad }

/-- The write that stages a PARTIAL, by a core that has taken its packet. -/
def stageWrite (m : Memory) (c : Core) (ch : ChannelDecl) (q : Nat) : Core × Memory × Status :=
  stageBytes m (draw c).2 ch.field (draw c).1 (stagingHalf ch q)

/-- Staging writes the half of the region, as far as the tables permit it. -/
theorem stageWrite_spec (m : Memory) (c : Core) (ch : ChannelDecl) (q : Nat) (hh : inHbm (stagingHalf ch q).1 = true) :
    let w := stageWrite m c ch q
    let ok := refusalOf c (redMaster ch.field) (stagingHalf ch q).1 (stagingHalf ch q).2 .w
    Accessed c w.1 ∧ (ok = none → w.2.2 = .ok) ∧ (ok ≠ none → w.2.2 = .access ∧ w.2.1 = m)
      ∧ ∀ b, b < (stagingHalf ch q).1 ∨ (stagingHalf ch q).1 + (stagingHalf ch q).2 ≤ b → mread w.2.1 b = mread m b := by
  have hlen : ((List.range (stagingHalf ch q).2).map (Config.undefinedByte (draw c).1)).length = (stagingHalf ch q).2 := by simp
  have hacc : refusalOf (draw c).2 = refusalOf c := rfl
  have hw := accessed_busWrite_hbm (m := m) (c := (draw c).2) (k := redMaster ch.field)
    (bs := (List.range (stagingHalf ch q).2).map (Config.undefinedByte (draw c).1)) (tag := 0) hh
  refine ⟨(accessed_draws c _).trans hw, fun hr => ?_, fun hr => ?_, fun b hb => ?_⟩
  · exact busWrite_hbm_ok hh (by rwa [hlen, hacc])
  · have hx := busWrite_refused (m := m) (c := (draw c).2) (k := redMaster ch.field) (a := (stagingHalf ch q).1)
      (bs := (List.range (stagingHalf ch q).2).map (Config.undefinedByte (draw c).1)) (tag := 0) (by rwa [hlen, hacc])
    exact ⟨congrArg Prod.snd hx, congrArg Prod.fst hx⟩
  · exact busWrite_keeps (by rwa [hlen])

/-- The core in which a PARTIAL that was written as `w` says is staged, and counted unless refused (R348). -/
def partialStaged (im : Image) (rx : Rx) (ch : ChannelDecl) (x : Channel) (w : Core × Memory × Status) : Core :=
  let bad : Bool := w.2.2 ≠ .ok
  let c := setChan w.1 ch.field ch.num { x with staged := x.staged ++ [stagedEntry im rx bad] }
  if bad then c else addObj c Key.stagingBytes (18 * (packetVals im rx).length)

theorem partialStaged_spec (im : Image) (rx : Rx) (ch : ChannelDecl) (x : Channel) (w : Core × Memory × Status) :
    chanOf (partialStaged im rx ch x w) ch.field ch.num = { x with staged := x.staged ++ [stagedEntry im rx (w.2.2 ≠ .ok)] }
      ∧ (partialStaged im rx ch x w).st = w.1.st := by
  unfold partialStaged
  extract_lets bad c
  have hc : chanOf c ch.field ch.num = { x with staged := x.staged ++ [stagedEntry im rx bad] } := chanOf_setChan ..
  cases bad with
  | true => exact ⟨hc, rfl⟩
  | false => exact ⟨hc, rfl⟩

section
variable {s : State} {rx : Rx} {ch : ChannelDecl} {im : Image} (h : Goals.collFor s rx 0 ch)
  (hidle : (chanOf s.core ch.field ch.num).run = none)
include h hidle

theorem exec_collPartial (him : s.core.alm.image = some im) (hq : bits rx.pkt.addr 42 16 = (chanOf s.core ch.field ch.num).next)
    (hno : rednoAt (Goals.taken s rx) im ch (bits rx.pkt.addr 42 16) = none
      ∨ rednoAt (Goals.taken s rx) im ch (bits rx.pkt.addr 42 16) = some rx.pkt.opTag) :
    let w := stageWrite s.mem (Goals.taken s rx) ch (bits rx.pkt.addr 42 16)
    exec (.collPartial rx) s = .next { s with core := partialStaged im rx ch (chanOf s.core ch.field ch.num) w, mem := w.2.1 } := by
  intro w
  have he : exec (.collPartial rx) s = execCollPartial rx s := rfl
  have hchan : chanOf (Goals.taken s rx) ch.field ch.num = chanOf s.core ch.field ch.num := rfl
  have hany : ((rednoAt (Goals.taken s rx) im ch (bits rx.pkt.addr 42 16)).any fun n => n ≠ rx.pkt.opTag) = false := by
    rcases hno with hno | hno <;> simp [hno]
  have hrun : (chanOf (partialStaged im rx ch (chanOf s.core ch.field ch.num) w) ch.field ch.num).run = none := by
    rw [(partialStaged_spec ..).1]
    exact hidle
  have hpump := pumpChan_idle w.2.1 (partialStaged im rx ch (chanOf s.core ch.field ch.num) w) ch hrun
  have hseq := acceptColl_current h (hq.trans (currentSeq_idle hidle).symm)
  rw [he, execCollPartial, onBoth_powered _ (runs_powered h.1.1)]
  simp only [hseq, him, hchan, hany, Bool.false_eq_true, if_false]
  exact congrArg (fun p : Core × Memory => (.next { s with core := p.1, mem := p.2 } : Out)) hpump

end

/-! ### REDUCTION_ORDER (R334) -/

/-- A packet of another execution is an event; the record of the current one carries the flag. -/
theorem orderFault_spec (c : Core) (ch : ChannelDecl) (q m : Nat) :
    chanOf (orderFault c ch q m) ch.field ch.num
        = { chanOf c ch.field ch.num with order := if (chanOf c ch.field ch.num).order.contains m then (chanOf c ch.field ch.num).order
                                                     else (chanOf c ch.field ch.num).order ++ [m] }
      ∧ (fld (orderFault c ch q m) ch.field).red.queue = (fld c ch.field).red.queue ∧ (orderFault c ch q m).st = c.st
      ∧ (orderFault c ch q m).ev.counts = tset c.ev.counts 0x0612 (min (tgetD c.ev.counts 0x0612 0 + 1) (2 ^ 32 - 1)) := by
  unfold orderFault
  extract_lets x d
  have hn : Noted d (raise d 0x0612 .step (redMaster ch.field) 0 [ch.num, q, m]) := noted_raise ..
  refine ⟨?_, ?_, hn.st, raise_counts ..⟩
  · rw [hn.redsKept.chanOf]
    exact chanOf_setChan ..
  · rw [hn.redsKept.red]
    exact queue_setChan ..

section
variable {s : State} {rx : Rx} {ch : ChannelDecl} {im : Image} (h : Goals.collFor s rx 0 ch)
  (hidle : (chanOf s.core ch.field ch.num).run = none)
include h hidle

theorem exec_collPartial_order (h0 : bits rx.pkt.addr 42 16 ≠ (chanOf s.core ch.field ch.num).next)
    (h1 : bits rx.pkt.addr 42 16 ≠ ((chanOf s.core ch.field ch.num).next + 1) % 65536) :
    exec (.collPartial rx) s
      = .next (withCore s (orderFault (Goals.taken s rx) ch (bits rx.pkt.addr 42 16) (chanOf s.core ch.field ch.num).next)) := by
  have he : exec (.collPartial rx) s = execCollPartial rx s := rfl
  have hq : acceptColl s.core rx 0
      = (orderFault (Goals.taken s rx) ch (bits rx.pkt.addr 42 16) (chanOf s.core ch.field ch.num).next, none) := by
    rw [acceptColl_eq h, currentSeq_idle hidle]
    exact if_neg fun k => k.elim h0 h1
  rw [he, execCollPartial, onBoth_powered _ (runs_powered h.1.1), hq]
  rfl

theorem partialStagedAsNext (him : s.core.alm.image = some im) (hq : bits rx.pkt.addr 42 16 = (chanOf s.core ch.field ch.num).next)
    (hno : rednoAt (Goals.taken s rx) im ch (bits rx.pkt.addr 42 16) = none
      ∨ rednoAt (Goals.taken s rx) im ch (bits rx.pkt.addr 42 16) = some rx.pkt.opTag)
    (hh : inHbm (stagingHalf ch (bits rx.pkt.addr 42 16)).1 = true) :
    let half := stagingHalf ch (bits rx.pkt.addr 42 16)
    let ok := refusalOf (Goals.taken s rx) (redMaster ch.field) half.1 half.2 .w
    NextWith (exec (.collPartial rx) s) fun t =>
      (∃ bad, (chanOf t.core ch.field ch.num).staged = (chanOf s.core ch.field ch.num).staged ++ [stagedEntry im rx bad]
        ∧ (ok = none → bad = false) ∧ (ok ≠ none → bad = true ∧ t.mem = s.mem))
      ∧ (chanOf t.core ch.field ch.num).run = none ∧ BytesKept s t half.1 half.2 ∧ t.core.st = s.core.st := by
  intro half ok
  obtain ⟨hacc, hok, hbad, hkeep⟩ := stageWrite_spec s.mem (Goals.taken s rx) ch (bits rx.pkt.addr 42 16) hh
  refine ⟨_, exec_collPartial h hidle him hq hno, ?_⟩
  generalize stageWrite s.mem (Goals.taken s rx) ch (bits rx.pkt.addr 42 16) = w at *
  obtain ⟨hchan, hst⟩ := partialStaged_spec im rx ch (chanOf s.core ch.field ch.num) w
  dsimp only
  rw [hchan]
  refine ⟨⟨decide (w.2.2 ≠ .ok), rfl, fun hr => ?_, fun hr => ?_⟩, hidle, hkeep, hst.trans hacc.st⟩
  · simp [hok hr]
  · obtain ⟨hs, hm⟩ := hbad hr
    exact ⟨by simp [hs], hm⟩

end

theorem partialsAreStaged : Goals.PartialsAreStaged := by
  intro s rx ch im h him
  dsimp only
  refine ⟨fun hidle hq hno hh => ?_, fun hidle h0 h1 => ⟨_, exec_collPartial_order h hidle h0 h1, ?_⟩⟩
  · obtain ⟨t, ht, ⟨bad, hs, hok, hbad⟩, hrun, hkeep, hst⟩ := partialStagedAsNext h hidle him hq hno hh
    refine ⟨t, ht, ⟨_, hs, rfl, rfl, rfl, rfl, fun hr => ?_, fun hr => ?_⟩, hrun, hkeep, hst⟩
    · obtain rfl := hok hr
      exact ⟨rfl, rfl⟩
    · obtain ⟨rfl, hm⟩ := hbad hr
      exact ⟨List.map_const' .., rfl, hm⟩
  · obtain ⟨hchan, -, hst, hev⟩ := orderFault_spec (Goals.taken s rx) ch (bits rx.pkt.addr 42 16) (chanOf s.core ch.field ch.num).next
    have hx : chanOf (Goals.taken s rx) ch.field ch.num = chanOf s.core ch.field ch.num := rfl
    rw [hx] at hchan
    refine ⟨?_, ?_, ?_, rfl, hst⟩
    · simp only [Goals.raised, withCore, hev, tgetD_tset_self]
      rfl
    · simp only [withCore, hchan]
    · simp only [withCore, hchan]
      split
      next hc => exact List.contains_iff_mem.1 hc
      · simp

end Sys2Proof.Machine

namespace Sys2Proof.Machine

/-! ### RESULTs (R329, R330, R338) -/

/-- The results that a packet holds of a reduction from an element on. -/
def resultVals (d : RedDecl) (rx : Rx) : List Nat := elems 4 (min 128 (d.n - bits rx.pkt.addr 0 32)) rx.pkt.payload

/-- The execution with a packet's results. -/
def resultsJoined (d : RedDecl) (rx : Rx) (r : RedRun) : RedRun := { r with results := r.results ++ resultVals d rx }

/-- The core that has taken a packet of results. -/
def resultsTaken (s : State) (rx : Rx) (ch : ChannelDecl) (d : RedDecl) (r : RedRun) : Core :=
  modRun (Goals.taken s rx) ch.field ch.num fun _ => resultsJoined d rx r

/-- The last results of a reduction are written, and what can follow follows. -/
def resultsWhole (m : Memory) (c : Core) (d : RedDecl) (ch : ChannelDecl) (r : RedRun) : Core × Memory :=
  let c := if d.kind = .max then modRun c ch.field ch.num (takeMax (csumK d.seed r.step)) else c
  let w := writeResults m c d ch.field ch.num r.step r.results
  pump w.2 w.1 d ch

section
variable {s : State} {rx : Rx} {ch : ChannelDecl} {im : Image} {d : RedDecl} {r : RedRun} (h : Goals.collFor s rx 1 ch)
  (him : s.core.alm.image = some im) (hr : (chanOf s.core ch.field ch.num).run = some r) (hd : redDecl im r.redno = some d)
  (hq : bits rx.pkt.addr 42 16 = r.rseq) (hf : bits rx.pkt.addr 0 32 = r.results.length)
  (ht : takesResults d ch (ownPos s.core ch) = true) (hc : d.chain = true ∨ resultTargets d ch (ownPos s.core ch) = [])
include h him hr hd hq hf ht hc

theorem exec_collResult :
    let w := if (resultsJoined d rx r).results.length < d.n then (resultsTaken s rx ch d r, s.mem)
      else resultsWhole s.mem (resultsTaken s rx ch d r) d ch (resultsJoined d rx r)
    exec (.collResult rx) s = .next { s with core := w.1, mem := w.2 } := by
  intro w
  have he : exec (.collResult rx) s = execCollResult rx s := rfl
  have hrun : (chanOf (Goals.taken s rx) ch.field ch.num).run = some r := hr
  have hacc := acceptColl_current h (hq.trans (currentSeq_running hr).symm)
  have hgo : ¬(bits rx.pkt.addr 42 16 ≠ r.rseq ∨ bits rx.pkt.addr 0 32 ≠ r.results.length
      ∨ (!takesResults d ch (ownPos s.core ch)) = true) := by
    simp [hq, hf, ht]
  have hpos : ownPos (Goals.taken s rx) ch = ownPos s.core ch := rfl
  have hsend : (if d.chain = true then resultsTaken s rx ch d r else sendResults (resultsTaken s rx ch d r) ch.field ch.num
      (resultTargets d ch (ownPos s.core ch)) (resultsJoined d rx r) (bits rx.pkt.addr 0 32) (resultVals d rx))
      = resultsTaken s rx ch d r := by
    rcases hc with hc | hc
    · rw [if_pos hc]
    · rw [hc]
      exact ite_self _
  rw [he, execCollResult, onBoth_powered _ (runs_powered h.1.1)]
  simp only [hacc, him, hrun, hd, hpos, if_neg hgo]
  simp only [resultsTaken, resultsJoined, resultVals] at hsend
  rw [hsend]
  rfl

end

/-! ### Where results are written (R139, R318) -/

theorem resultAt_entry {c : Core} {im : Image} (him : c.alm.image = some im) {d : RedDecl} {e : Nat} (he : d.result = some e)
    (hb : ∀ b ∈ im.buckets, b.redno ≠ d.redno) (step : Nat) : resultAt c d step = some e := by
  have hnone : bucketOf im d.redno = none := List.find?_eq_none.2 fun b hm => by simpa using hb b hm
  simp [resultAt, him, he, hnone]

theorem resultAt_bucket {c : Core} {im : Image} (him : c.alm.image = some im) {d : RedDecl} {e : Nat} (he : d.result = some e)
    {b : BucketDecl} (hb : bucketOf im d.redno = some b) {sh : ShardDecl}
    (hs : (im.shards.find? fun h => h.mine && h.stage = b.stage
      && decide (h.start ≤ b.start ∧ b.start < h.start + 1024 * h.blocks)) = some sh)
    (step : Nat) : resultAt c d step = some ((if step % 2 = 0 then sh.grad0 else sh.grad1) + 4 * (b.start - sh.start)) := by
  simp only [resultAt, him, he, hb, Option.bind_some, hs, Option.map_some, Option.getD_some]

/-- Results written where neither the tables nor a gated block stop them: the bytes stand there, and the execution knows. -/
theorem writeResults_plain {m : Memory} {c : Core} {d : RedDecl} {f n step a : Nat} {vs : List Nat} (ha : resultAt c d step = some a)
    (hp : plainAt (gaOff a)) (hg : gatedIn c (gaOff a) (4 * vs.length) = none)
    (hr : refusalOf c (redMaster f) (gaOff a) (4 * vs.length) .w = none) :
    (writeResults m c d f n step vs).2 = mwriteN m (gaOff a) (elemBytes 4 vs)
      ∧ ownMod (writeResults m c d f n step vs).1 = ownMod c
      ∧ chanOf (writeResults m c d f n step vs).1 f n
          = { chanOf c f n with run := (chanOf c f n).run.map fun r => { r with written := true } } := by
  have hlen : (elemBytes 4 vs).length = 4 * vs.length := by rw [length_elemBytes, Nat.mul_comm]
  have hw := busWrite_plain (m := m) (c := c) (k := redMaster f) (bs := elemBytes 4 vs) (tag := 0) hp (by rwa [hlen]) (by rwa [hlen])
  simp only [writeResults, ha]
  generalize busWrite m c (redMaster f) (gaOff a) (elemBytes 4 vs) 0 = w at hw ⊢
  obtain ⟨hk, hw2⟩ := hw
  refine ⟨congrArg Prod.fst hw2, hk.own, ?_⟩
  rw [chanOf_modRun, hk.redsKept.chanOf, hw2]
  simp only [if_true]

/-- The last results of a sum reach memory, and no other byte changes (R329, R330). -/
theorem resultsWhole_spec {m : Memory} {c : Core} {d : RedDecl} {ch : ChannelDecl} {r : RedRun} {a : Nat} (hk : d.kind = .sum)
    (hrun : (chanOf c ch.field ch.num).run = some r) (hpos : ownPos c ch ≠ 0) (ha : resultAt c d r.step = some a)
    (hp : plainAt (gaOff a)) (hg : gatedIn c (gaOff a) (4 * r.results.length) = none)
    (hr : refusalOf c (redMaster ch.field) (gaOff a) (4 * r.results.length) .w = none) :
    (resultsWhole m c d ch r).2 = mwriteN m (gaOff a) (elemBytes 4 r.results)
      ∧ ∃ u, (chanOf (resultsWhole m c d ch r).1 ch.field ch.num).run = some u ∧ u.results = r.results ∧ u.written = true
        ∧ u.redno = r.redno := by
  have hno : (if d.kind = .max then modRun c ch.field ch.num (takeMax (csumK d.seed r.step)) else c) = c := if_neg (by rw [hk]; decide)
  obtain ⟨hm, hown, hchan⟩ := writeResults_plain (m := m) (n := ch.num) ha hp hg hr
  unfold resultsWhole
  dsimp only
  rw [hno]
  generalize writeResults m c d ch.field ch.num r.step r.results = w at *
  obtain ⟨hkept, hmem⟩ := pump_spec w.2 w.1 d ch
  have hpos' : ownPos w.1 ch ≠ 0 := by rwa [ownPos, hown]
  obtain ⟨u, hu, hru⟩ := hkept.run { r with written := true } (by rw [hchan, hrun]; rfl)
  exact ⟨(hmem hpos').trans hm, u, hu, hru.results hpos', hru.written rfl, hru.redno⟩

theorem resultsAreWritten : Goals.ResultsAreWritten := by
  intro s rx ch im d r h him
  dsimp only
  intro hr hd hq hf ht hc
  have hexec := exec_collResult h him hr hd hq hf ht hc
  have hrun : (chanOf (resultsTaken s rx ch d r) ch.field ch.num).run = some (resultsJoined d rx r) := by
    rw [resultsTaken, chanOf_modRun, show (chanOf (Goals.taken s rx) ch.field ch.num).run = some r from hr]
    rfl
  have hlen : (resultsJoined d rx r).results.length = bits rx.pkt.addr 0 32 + (resultVals d rx).length := by
    rw [resultsJoined, List.length_append, hf]
  refine ⟨fun hn => ⟨_, hexec, ?_⟩, fun e he hb => resultAt_entry him he hb _,
    fun e b sh he hb hs => resultAt_bucket him he hb hs _, fun a hn hk ha hp hg hrf => ⟨_, hexec, ?_⟩⟩
  · rw [if_pos (hlen.trans_lt hn)]
    exact ⟨hrun, rfl⟩
  · rw [if_neg (by rw [hlen]; exact Nat.not_lt.2 hn)]
    have hpos : ownPos s.core ch ≠ 0 := by
      simp only [takesResults, Bool.and_eq_true, decide_eq_true_eq] at ht
      exact ht.1.1
    obtain ⟨hm, hu⟩ := resultsWhole_spec (m := s.mem) hk hrun hpos ha hp hg hrf
    generalize resultsWhole s.mem (resultsTaken s rx ch d r) d ch (resultsJoined d rx r) = w at hm hu ⊢
    have hbytes : (elemBytes 4 (resultsJoined d rx r).results).length = 4 * (resultsJoined d rx r).results.length := by
      rw [length_elemBytes, Nat.mul_comm]
    exact ⟨hm, bytesKept_of_write hm hbytes, hu⟩

end Sys2Proof.Machine

namespace Sys2Proof.Machine

/-! ### Agreement records (R327, R330) -/

/-- The position of the participant that sent a packet. -/
def senderPos (rx : Rx) (ch : ChannelDecl) : Nat := ch.participants.idxOf rx.pkt.srcMod

/-- Whether the sender of a packet is one of this module's children. -/
abbrev fromChild (s : State) (rx : Rx) (ch : ChannelDecl) : Prop :=
  senderPos rx ch ∈ childPos ch.fanin (ownPos s.core ch) ch.participants.length

section
variable {s : State} {rx : Rx} {ch : ChannelDecl} {r : RedRun} (h : Goals.collFor s rx 2 ch)
  (hr : (chanOf s.core ch.field ch.num).run = some r)
include h hr

theorem exec_collAgree_now (hq : bits rx.pkt.addr 42 16 = r.rseq) (hk : fromChild s rx ch) :
    let w := pumpChan s.mem (modRun (Goals.taken s rx) ch.field ch.num fun r =>
      { r with recs := r.recs ++ [(senderPos rx ch, parseRecord rx.pkt.payload)] }) ch
    exec (.collAgree rx) s = .next { s with core := w.1, mem := w.2 } := by
  intro w
  have he : exec (.collAgree rx) s = execCollAgree rx s := rfl
  have hrun : (chanOf (Goals.taken s rx) ch.field ch.num).run = some r := hr
  have hk' : (childPos ch.fanin (ownPos (Goals.taken s rx) ch) ch.participants.length).contains
      (ch.participants.idxOf rx.pkt.srcMod) = true :=
    List.contains_iff_mem.2 hk
  rw [he, execCollAgree, onBoth_powered _ (runs_powered h.1.1)]
  simp only [acceptColl_current h (hq.trans (currentSeq_running hr).symm), hrun, hk', hq, decide_true, if_true]
  rfl

theorem exec_collAgree_early (hq : bits rx.pkt.addr 42 16 = (r.rseq + 1) % 65536) (hn : bits rx.pkt.addr 42 16 ≠ r.rseq)
    (hk : fromChild s rx ch) :
    exec (.collAgree rx) s = .next (withCore s (setChan (Goals.taken s rx) ch.field ch.num
      { chanOf s.core ch.field ch.num with
          early := (chanOf s.core ch.field ch.num).early
            ++ [(bits rx.pkt.addr 42 16, senderPos rx ch, parseRecord rx.pkt.payload)] })) := by
  have he : exec (.collAgree rx) s = execCollAgree rx s := rfl
  have hrun : (chanOf (Goals.taken s rx) ch.field ch.num).run = some r := hr
  have hk' : (childPos ch.fanin (ownPos (Goals.taken s rx) ch) ch.participants.length).contains
      (ch.participants.idxOf rx.pkt.srcMod) = true :=
    List.contains_iff_mem.2 hk
  rw [he, execCollAgree, onBoth_powered _ (runs_powered h.1.1)]
  have hacc := acceptColl_next h (by rw [currentSeq_running hr, hq])
  simp only [hacc, hrun, hk', hn.symm, decide_false, Bool.false_eq_true, if_true, if_false]
  rw [hr]
  rfl

theorem exec_collAgree_decided (hq : bits rx.pkt.addr 42 16 = r.rseq) (hk : ¬fromChild s rx ch) (hj : ownPos s.core ch ≠ 0)
    (hp : senderPos rx ch = parentPos ch.fanin (ownPos s.core ch)) (hd : r.decided = none) :
    exec (.collAgree rx) s = .next (withCore s (decide' (Goals.taken s rx) ch r (parseRecord rx.pkt.payload))) := by
  have he : exec (.collAgree rx) s = execCollAgree rx s := rfl
  have hrun : (chanOf (Goals.taken s rx) ch.field ch.num).run = some r := hr
  have hk' : (childPos ch.fanin (ownPos (Goals.taken s rx) ch) ch.participants.length).contains
      (ch.participants.idxOf rx.pkt.srcMod) = false :=
    Bool.eq_false_iff.2 fun hc => hk (List.contains_iff_mem.1 hc)
  have hgo : (decide (r.rseq = bits rx.pkt.addr 42 16) && decide (ownPos (Goals.taken s rx) ch ≠ 0)
      && decide (ch.participants.idxOf rx.pkt.srcMod = parentPos ch.fanin (ownPos (Goals.taken s rx) ch)) && r.decided.isNone) = true := by
    have h1 : ownPos (Goals.taken s rx) ch ≠ 0 := hj
    have h2 : ch.participants.idxOf rx.pkt.srcMod = parentPos ch.fanin (ownPos (Goals.taken s rx) ch) := hp
    simp only [hq, h1, h2, hd, decide_true, Option.isNone_none, Bool.and_true, ne_eq, not_false_eq_true]
  rw [he, execCollAgree, onBoth_powered _ (runs_powered h.1.1)]
  simp only [acceptColl_current h (hq.trans (currentSeq_running hr).symm), hrun, hk', Bool.false_eq_true, if_false, hgo, if_true]
  rfl

end

theorem agreementRecordsArrive : Goals.AgreementRecordsArrive := by
  intro s rx ch h
  dsimp only
  refine ⟨fun r hr hq hk => ⟨_, exec_collAgree_now h hr hq hk, ?_⟩,
    fun r hr hq hn hk => ⟨_, exec_collAgree_early h hr hq hn hk, chanOf_setChan .., rfl⟩,
    fun r hr hq hk hj hp hd => ⟨_, exec_collAgree_decided h hr hq hk hj hp hd, rfl, ?_⟩⟩
  · have hrun : (chanOf (Goals.taken s rx) ch.field ch.num).run = some r := hr
    obtain ⟨u, hu, hru⟩ := (channelKept_pumpChan s.mem (modRun (Goals.taken s rx) ch.field ch.num fun r =>
      { r with recs := r.recs ++ [(senderPos rx ch, parseRecord rx.pkt.payload)] }) ch).run _ (by rw [chanOf_modRun, hrun]; rfl)
    exact ⟨u, hu, hru.recs, hru.redno⟩
  · obtain ⟨-, b, hb⟩ := decide'_spec (c := Goals.taken s rx) (ch := ch) hr r (parseRecord rx.pkt.payload)
    exact ⟨_, hb, rfl, rfl, rfl⟩

end Sys2Proof.Machine

namespace Sys2Proof.Machine

/-! ### The ready wait (R229, R317) -/

section
variable (c : Core)

theorem quiet_slotWat (unit f s n phase : Nat) : Quiet c (slotWat c unit f s n phase) := (quiet_countOp c f).trans (quiet_setSync _ f _)

theorem noted_slotTake (unit f s n issuer : Nat) : Noted c (slotTake c unit f s n issuer).1 := by
  unfold slotTake
  extract_lets op x r
  split
  · exact .refl c
  · split
    · split
      · have hr : Noted c r.1 := (quiet_setSync c f _).toNoted.trans (noted_applyOp _ f op)
        split
        · exact hr.trans (quiet_slotWat ..).toNoted
        · exact hr
      · exact .refl c
    · split
      · refine .ite ?_ (quiet_slotWat ..).toNoted
        exact (((quiet_slotWat ..).trans (quiet_errStatus ..)).trans (quiet_sendWatch ..)).toNoted
      · exact noted_applyOp c f op

theorem noted_engineTake (f fs k n : Nat) : Noted c (engineTake c f fs k n).1 := by
  unfold engineTake
  extract_lets held
  split
  · exact .refl c
  · exact noted_slotTake ..

/-- The outcome of a submission's ready wait; one that names no semaphore is ready. -/
def readyTake (f : Nat) (d : RedDecl) : Core × Status := match d.ready with
  | none => (c, .ok)
  | some r => engineTake c f r.1 r.2.1 r.2.2

theorem noted_readyTake (f : Nat) (d : RedDecl) : Noted c (readyTake c f d).1 := by
  unfold readyTake
  split
  · exact .refl c
  · exact noted_engineTake ..

theorem readyTake_eq {f : Nat} {d : RedDecl} {st : Status} (h : match d.ready with
      | none => st = .ok
      | some r => (engineTake c f r.1 r.2.1 r.2.2).2 = st) : (readyTake c f d).2 = st := by
  unfold readyTake
  cases hr : d.ready with
  | none => simpa only [hr, eq_comm] using h
  | some r => simpa only [hr] using h

end

/-! ### The execution begins (R333, R334) -/

theorem channelKept_orderFault {p q : Prop} (c : Core) (ch : ChannelDecl) (k m : Nat) :
    ChannelKept p q ch.field ch.num c (orderFault c ch k m) := by
  unfold orderFault
  extract_lets x d
  have hd : ChannelKept p q ch.field ch.num c d := channelKept_setChan rfl fun r hr => ⟨r, hr, .refl r⟩
  exact hd.trans (noted_raise ..).redsKept.channelKept

/-- The submission leaves the queue, and is the channel's execution with the next order number. -/
theorem beginRun_spec (c : Core) (d : RedDecl) (ch : ChannelDecl) (sub : Nat × Option Nat) :
    let x := chanOf c ch.field ch.num
    let b := beginRun c d ch sub
    (fld b ch.field).red.queue = (fld c ch.field).red.queue.erase sub ∧ (chanOf b ch.field ch.num).next = (x.next + 1) % 65536
      ∧ ∃ r, (chanOf b ch.field ch.num).run = some r ∧ r.redno = d.redno ∧ r.rseq = x.next ∧ r.sem = sub.2
        ∧ r.step = obj c Key.stepNumber ∧ r.eRef = (if d.kind = .sum then eRefOf c d else 0) := by
  intro x b
  unfold b beginRun
  extract_lets f y e c' x' m blank run lost wrong x''
  have hx : x' = x := by simp [x', x, c', chanOf, f, y, e]
  have hkept : ChannelKept True True ch.field ch.num (setChan c' ch.field ch.num x'')
      (wrong.foldl (fun c _ => orderFault c ch m m) (setChan c' ch.field ch.num x'')) :=
    .foldl (fun c _ => channelKept_orderFault c ch m m) _ _
  obtain ⟨u, hu, hru⟩ := hkept.run { run with lost := lost } (by rw [chanOf_setChan])
  refine ⟨?_, ?_, u, hu, hru.redno, ?_, hru.sem, hru.step, hru.eRef⟩
  · rw [hkept.queue, queue_setChan]
    simp [c', f, y, e]
  · rw [hkept.next, chanOf_setChan, ← hx]
  · rw [hru.rseq, ← hx]
    rfl

/-! ### The contribution enters (R321, R342, R502) -/

section
variable {mem : Memory} {c : Core} {im : Image} {d : RedDecl} {ch : ChannelDecl}

theorem redsKept_readPiece (f : Nat) (er : Int) (acc : SrcAcc) (b : Nat) : RedsKept acc.1 (readPiece mem im d f er acc b).1 := by
  unfold readPiece
  extract_lets w n a i reads _ e
  split
  next ht => exact (accessed_engStop _ ht).redsKept
  · split
    · exact .refl _
    · have he : RedsKept acc.1 e := (accessed_vigilRead ..).redsKept
      split
      · exact he
      · exact he

theorem redsKept_contribution (f : Nat) (er : Int) : RedsKept c (contribution mem c im d f er).1 := by
  unfold contribution
  extract_lets none' r
  split
  · exact .refl c
  · split
    · exact .refl c
    · have hr : RedsKept c r.1 := List.foldlRecOn (motive := fun acc : SrcAcc => RedsKept c acc.1) _ _ (.refl c)
        fun acc h b _ => h.trans (redsKept_readPiece ..)
      split
      · split
        · exact hr.trans (.of_fl rfl rfl)
        · exact hr
      · exact hr

theorem redsKept_readMove (f : Nat) (m : Move) : RedsKept c (readMove mem c f m).1 := by
  refine List.foldlRecOn (motive := fun acc : Core × Bytes × Option Status => RedsKept c acc.1) _ _ (.refl c) fun acc h i _ => ?_
  have hr := h.trans (accessed_busRead acc.1 mem (redMaster f) (m.src + 512 * i) (min 512 (m.length - 512 * i)) 0).redsKept
  dsimp only
  split
  · exact hr
  · exact hr
  · exact hr

/-- The execution under way gets another contribution, checksum, source status or count of open writes. -/
theorem channelKept_contributed {f n : Nat} {g : RedRun → RedRun} (h : ∀ r, ∃ own vals eObs k flags fail w,
      g r = { r with own := own, vals := vals, eObs := eObs, csumIn := k, flags := flags, srcFail := fail, openW := w }) :
    ChannelKept False True f n c (modRun c f n g) :=
  channelKept_modRun fun r _ => by
    obtain ⟨own, vals, eObs, k, flags, fail, w, hg⟩ := h r
    rw [hg]
    exact ⟨rfl, rfl, rfl, rfl, rfl, rfl, id, False.elim, False.elim, fun _ => rfl⟩

theorem channelKept_sendMove (acc : Core × Memory) (p : Move × Nat) :
    ChannelKept False True ch.field ch.num acc.1 (sendMove d ch acc p).1 := by
  unfold sendMove
  extract_lets f m a q
  split
  · exact .refl _
  next r _ =>
    extract_lets k sum e w
    have he : ChannelKept False True f ch.num acc.1 e :=
      (redsKept_readMove ..).channelKept.trans (channelKept_contributed fun r => by
        dsimp only
        split
        · exact ⟨_, _, _, _, _, _, _, rfl⟩
        · exact ⟨_, _, _, _, _, _, _, rfl⟩)
    split
    · have hw : ChannelKept False True f ch.num acc.1 w.1 := he.trans (redsKept_busWrite ..).channelKept
      split
      · exact hw
      · exact hw.trans (channelKept_contributed fun r => ⟨_, _, _, _, _, _, _, rfl⟩)
    · exact he.trans (.foldl (fun c i => (channelKept_contributed fun r => ⟨_, _, _, _, _, _, _, rfl⟩).trans
        (sent_sendEngine ..).channelKept) _ _)

/-- The execution gets its contribution; zeros and SOURCE_FAIL where the ready wait failed (R502). -/
theorem contribute_spec (ready : Bool) {r : RedRun} (hr : (chanOf c ch.field ch.num).run = some r) :
    ChannelKept False True ch.field ch.num c (contribute mem c im d ch ready).1
      ∧ (ready = false → ∃ u, (chanOf (contribute mem c im d ch ready).1 ch.field ch.num).run = some u
          ∧ u.own = List.replicate d.n 0 ∧ bit u.flags 5 = true) := by
  unfold contribute
  extract_lets f
  simp only [f, hr]
  cases ready with
  | false =>
    refine ⟨channelKept_contributed fun r => ⟨_, _, _, _, _, _, _, rfl⟩, fun _ => ?_⟩
    simp only [Bool.not_false, if_true]
    rw [chanOf_modRun, hr]
    exact ⟨_, rfl, rfl, (by decide : bit 32 5 = true)⟩
  | true =>
    refine ⟨?_, nofun⟩
    simp only [Bool.not_true, Bool.false_eq_true, if_false]
    split
    · exact List.foldlRecOn (motive := fun acc : Core × Memory => ChannelKept False True ch.field ch.num c acc.1) _ _ (.refl c)
        fun acc h p _ => h.trans (channelKept_sendMove ..)
    · refine ((redsKept_contribution ..).channelKept.trans (channelKept_modRun fun r' hr' => ?_)).trans (channelKept_countElems _)
      rw [(redsKept_contribution ..).chanOf, hr] at hr'
      cases hr'
      exact ⟨rfl, rfl, rfl, rfl, rfl, rfl, id, False.elim, False.elim, fun _ => rfl⟩

end

end Sys2Proof.Machine

namespace Sys2Proof.Machine

/-! ### Reductions start (R317, R333, R502) -/

/-- The first submission of a channel starts with its ready wait answered as `st`. -/
def startAs (m : Memory) (c : Core) (im : Image) (d : RedDecl) (ch : ChannelDecl) (sub : Nat × Option Nat) (st : Status) : Core × Memory :=
  let w := contribute m (beginRun c d ch sub) im d ch (st = .ok)
  pump w.2 w.1 d ch

/-- The submission is the channel's execution, in its order; with zeros and SOURCE_FAIL where its ready wait failed. -/
theorem startAs_spec (m : Memory) (c : Core) (im : Image) (d : RedDecl) (ch : ChannelDecl) (sub : Nat × Option Nat) (st : Status) :
    let x := chanOf c ch.field ch.num
    let b := (startAs m c im d ch sub st).1
    ∃ r, (chanOf b ch.field ch.num).run = some r ∧ r.redno = d.redno ∧ r.rseq = x.next ∧ r.sem = sub.2 ∧ r.step = obj c Key.stepNumber
      ∧ r.eRef = (if d.kind = .sum then eRefOf c d else 0) ∧ (chanOf b ch.field ch.num).next = (x.next + 1) % 65536
      ∧ (fld b ch.field).red.queue = (fld c ch.field).red.queue.erase sub
      ∧ (st ≠ .ok → r.own = List.replicate d.n 0 ∧ bit r.flags 5 = true) := by
  intro x b
  obtain ⟨hqueue, hnext, r, hr, hredno, hrseq, hsem, hstep, hE⟩ := beginRun_spec c d ch sub
  unfold b startAs
  dsimp only
  generalize beginRun c d ch sub = e at *
  obtain ⟨hw, hfail⟩ := contribute_spec (mem := m) (im := im) (d := d) (decide (st = .ok)) hr
  generalize contribute m e im d ch (decide (st = .ok)) = w at *
  have hp : ChannelKept True (ownPos w.1 ch ≠ 0) ch.field ch.num w.1 (pump w.2 w.1 d ch).1 := (pump_spec w.2 w.1 d ch).1
  obtain ⟨u, hu, hru⟩ := hw.run r hr
  obtain ⟨v, hv, huv⟩ := hp.run u hu
  refine ⟨v, hv, (huv.redno.trans hru.redno).trans hredno, (huv.rseq.trans hru.rseq).trans hrseq, (huv.sem.trans hru.sem).trans hsem,
    (huv.step.trans hru.step).trans hstep, (huv.eRef.trans hru.eRef).trans hE, (hp.next.trans hw.next).trans hnext,
    (hp.queue.trans hw.queue).trans hqueue, fun hst => ?_⟩
  obtain ⟨u', hu', hown, hflag⟩ := hfail (decide_eq_false hst)
  cases hu.symm.trans hu'
  exact ⟨(huv.own trivial).trans hown, huv.fail trivial hflag⟩

theorem redDecl_redno {im : Image} {n : Nat} {d : RedDecl} (h : redDecl im n = some d) : d.redno = n := by
  simpa using List.find?_some h

/-- The submission `redno` is the first that waits on a channel, and nothing but an execution under way keeps it there. -/
structure FirstOn (s : State) (im : Image) (redno : Nat) (d : RedDecl) (ch : ChannelDecl) (sem : Option Nat) : Prop where
  runs : Runs s
  field : ch.field < 8
  image : s.core.alm.image = some im
  decl : redDecl im redno = some d
  chan : chanDecl s.core d.channel = some ch
  first : ∃ rest, Goals.waitingOn s im ch.field d.channel = (redno, sem) :: rest
  ungated : redGated s.core ch.field = false
  room : ((fld s.core ch.field).red.channels.filter fun p => p.2.run.isSome).length < 8
  voted : d.vote = true → s.core.alm.vote.own ≠ none
  sent : unsent s.core ch.field ch.num = false

section
variable {s : State} {im : Image} {redno : Nat} {d : RedDecl} {ch : ChannelDecl} {sem : Option Nat} (h : FirstOn s im redno d ch sem)
include h

theorem exec_reductionStart (hrun : (chanOf s.core ch.field ch.num).run = none) :
    let t := readyTake s.core ch.field d
    let w := if t.2 = .taken ∨ t.2 = .busy then (t.1, s.mem) else startAs s.mem t.1 im d ch (redno, sem) t.2
    exec (.reductionStart ch.field redno) s = .next { s with core := w.1, mem := w.2 } := by
  intro t w
  obtain ⟨rest, hfirst⟩ := h.first
  simp only [Goals.waitingOn] at hfirst
  have he : exec (.reductionStart ch.field redno) s = execReductionStart ch.field redno s := rfl
  have hgo : ¬(ch.field ≠ ch.field ∨ redno ≠ redno ∨ redGated s.core ch.field = true
      ∨ 8 ≤ ((fld s.core ch.field).red.channels.filter fun p => p.2.run.isSome).length
      ∨ (chanOf s.core ch.field ch.num).run.isSome = true ∨ unsent s.core ch.field ch.num = true
      ∨ (d.vote = true ∧ s.core.alm.vote.own.isNone = true)) := by
    have hroom := h.room
    have hvote := h.voted
    simp only [h.ungated, hrun, h.sent, Option.isNone_iff_eq_none]
    grind
  rw [he, execReductionStart, inRange_lt h.field, onBoth_powered _ (runs_powered h.runs)]
  simp only [h.image, h.decl, hfirst, h.chan, if_neg hgo]
  rfl

theorem exec_reductionStart_behind (hrun : (chanOf s.core ch.field ch.num).run ≠ none) :
    exec (.reductionStart ch.field redno) s = .next s := by
  obtain ⟨rest, hfirst⟩ := h.first
  simp only [Goals.waitingOn] at hfirst
  have he : exec (.reductionStart ch.field redno) s = execReductionStart ch.field redno s := rfl
  rw [he, execReductionStart, inRange_lt h.field, onBoth_powered _ (runs_powered h.runs)]
  simp only [h.image, h.decl, hfirst, h.chan]
  rw [if_pos]
  exact .inr (.inr (.inr (.inr (.inl (Option.isSome_iff_ne_none.2 hrun)))))

end

theorem reductionStarts : Goals.ReductionStarts := by
  intro s f redno im d ch sem rest hruns hf him hd hch hfield hfirst hgate hroom hvote hsent
  subst hfield
  have h : FirstOn s im redno d ch sem := ⟨hruns, hf, him, hd, hch, ⟨rest, hfirst⟩, hgate, hroom, hvote, hsent⟩
  dsimp only
  refine ⟨fun st hrun htook htaken hbusy => ?_, fun r hrun hr hst => ?_, exec_reductionStart_behind h⟩
  · have ht : (readyTake s.core ch.field d).2 = st := readyTake_eq _ htook
    have hn := noted_readyTake s.core ch.field d
    have hexec := exec_reductionStart h hrun
    generalize readyTake s.core ch.field d = t at *
    subst ht
    dsimp only at hexec
    rw [if_neg (not_or.2 ⟨htaken, hbusy⟩)] at hexec
    have hslots : eRefOf t.1 d = eRefOf s.core d := by rw [eRefOf, eRefOf, (congrArg Core.slots hn.parts :)]; rfl
    have hstep : obj t.1 Key.stepNumber = obj s.core Key.stepNumber := hn.objs _ (by decide)
    have hspec := startAs_spec s.mem t.1 im d ch (redno, sem) t.2
    rw [hn.redsKept.chanOf, hn.redsKept.red, hslots, hstep, redDecl_redno hd] at hspec
    generalize startAs s.mem t.1 im d ch (redno, sem) t.2 = w at hexec hspec
    exact ⟨_, hexec, hspec⟩
  · have ht : readyTake s.core ch.field d = engineTake s.core ch.field r.1 r.2.1 r.2.2 := by rw [readyTake, hr]
    have hexec := exec_reductionStart h hrun
    rw [ht] at hexec
    dsimp only at hexec
    rw [if_pos (by simpa using hst)] at hexec
    exact hexec

end Sys2Proof.Machine

namespace Sys2Proof.Machine

/-! ### Completion (R328, R335, R336, R348, R502) -/

/-- From `c` to `d` neither a station changed nor a field's reduction engine nor what waits at its sync unit, nor the count of
completed reductions. -/
structure Closing (c d : Core) : Prop where
  st : d.st = c.st
  red : ∀ f, (fld d f).red = (fld c f).red
  held : ∀ f, (syncU d f).held = (syncU c f).held
  done : obj d Key.redDone = obj c Key.redDone

namespace Closing

variable {c d e : Core}

theorem refl (c : Core) : Closing c c := ⟨rfl, fun _ => rfl, fun _ => rfl, rfl⟩

theorem trans (h : Closing c d) (k : Closing d e) : Closing c e :=
  ⟨k.st.trans h.st, fun f => (k.red f).trans (h.red f), fun f => (k.held f).trans (h.held f), k.done.trans h.done⟩

theorem of_fl (hs : d.st = c.st) (hf : d.fl = c.fl) (ho : obj d Key.redDone = obj c Key.redDone) : Closing c d :=
  ⟨hs, fun f => by simp only [fld, hf], fun f => by simp only [syncU, fld, hf], ho⟩

end Closing

section
variable (c : Core) (d : RedDecl) (ch : ChannelDecl) (r : RedRun)

theorem closing_raise (code : Nat) (cls : EvClass) (src tag : Nat) (args : List Nat) : Closing c (raise c code cls src tag args) :=
  have hn := noted_raise c code cls src tag args
  .of_fl hn.st (raise_fl ..) (hn.objs _ (by decide))

theorem closing_redEvents (x : Record) : Closing c (redEvents c d ch r x) := by
  unfold redEvents
  extract_lets p args e
  have he : Closing c e := by
    unfold e
    split
    · exact closing_raise ..
    · exact .refl c
  split
  · exact he.trans (closing_raise ..)
  · exact he

theorem closing_redMarks (st : Status) (o m : Bool) : Closing c (redMarks c d st o m) := by
  unfold redMarks
  split
  · exact .refl c
  · exact .of_fl rfl rfl rfl

theorem closing_recordClip (g step k : Nat) : Closing c (recordClip c g step k) := by
  unfold recordClip
  refine List.foldlRecOn (motive := Closing c) _ _ (.refl c) fun e he i _ => he.trans ⟨rfl, fun f => ?_, fun f => ?_, rfl⟩
  · by_cases hf : f = i
    · rw [hf, fld_setFld]
    · rw [fld_setFld_ne _ _ hf]
  · by_cases hf : f = i
    · rw [hf, syncU, syncU, fld_setFld]
    · rw [syncU, syncU, fld_setFld_ne _ _ hf]

theorem closing_redUses (im : Image) (st : Status) : Closing c (redUses c im d r st) := by
  unfold redUses
  extract_lets _ _ c1 c2 c3
  have h1 : Closing c c1 := by
    unfold c1
    split
    · exact .of_fl rfl rfl rfl
    · exact .refl c
  have h2 : Closing c1 c2 := by
    unfold c2
    split
    · split
      · exact .of_fl rfl rfl rfl
      · exact .refl c1
    · exact .refl c1
  have h3 : Closing c2 c3 := by
    unfold c3
    split
    · exact closing_recordClip ..
    · exact .refl c2
  refine ((h1.trans h2).trans h3).trans ?_
  split
  · split
    · exact .of_fl rfl rfl rfl
    · exact .refl c3
  · exact .refl c3

/-- The row of RED_STATUS of an execution that ends. -/
def IsEndRow (row : RedStatus) : Prop :=
  row.status = endStatus d ch r ∧ row.rseq = r.rseq ∧ row.eRef = r.eRef
    ∧ ∀ x, r.decided = some x → row.eObs = x.eObs ∧ row.flags = x.flags % 32

theorem finishRed_spec (im : Image) :
    let t := finishRed c im d ch r
    (∃ row, tget (fld t ch.field).red.status d.redno = some row ∧ IsEndRow d ch r row)
      ∧ (chanOf t ch.field ch.num).run = none
      ∧ (r.decided.isSome → (chanOf t ch.field ch.num).decidedSeq = r.rseq)
      ∧ obj t Key.redDone = min (obj c Key.redDone + 1) (objMax Key.redDone)
      ∧ (∀ k, r.sem = some k → (syncU t ch.field).held = (syncU c ch.field).held ++
          [{ issuer := redMaster ch.field, kind := .add, sem := k, n := 1, cookie := 0, slot := 0, back := .unit }])
      ∧ (r.sem = none → (syncU t ch.field).held = (syncU c ch.field).held) ∧ t.st = c.st := by
  unfold finishRed
  extract_lets f dr free shown p c1 st c2 c3 y row _ c4 last _ c5 _ c6 c7 x c8 t
  have h3 : Closing c c3 := by
    have h1 : Closing c c1 := by
      unfold c1
      split
      · exact closing_redEvents ..
      · exact .of_fl rfl rfl rfl
    have h2 : Closing c c2 := h1.trans (closing_redMarks ..)
    unfold c3
    split
    · exact h2.trans (closing_raise ..)
    · exact h2
  have h5 : Closing c4 c5 := by
    unfold c5
    split
    · exact .refl c4
    · exact .of_fl rfl rfl rfl
  have h7 : Closing c6 c7 := closing_redUses ..
  have hst : c8.st = c.st := h7.st.trans (h5.st.trans h3.st)
  have hred : (fld c7 f).red = { y.red with status := tset y.red.status d.redno row } :=
    (h7.red f).trans ((h5.red f).trans (congrArg Field.red (fld_setFld ..)))
  have hstatus : (fld c8 f).red.status = tset y.red.status d.redno row := by
    simp only [c8, setChan, fld_setFld, hred]
  have hdone : obj c8 Key.redDone = min (obj c Key.redDone + 1) (objMax Key.redDone) := by
    have h6 : obj c6 Key.redDone = min (obj c5 Key.redDone + 1) (objMax Key.redDone) := obj_addObj ..
    have h4 : obj c4 Key.redDone = obj c3 Key.redDone := rfl
    calc obj c8 Key.redDone = obj c6 Key.redDone := h7.done
      _ = _ := by rw [h6, h5.done, h4, h3.done]
  have hheld : (syncU c8 f).held = (syncU c f).held := by
    have h8 : syncU c8 f = syncU c7 f := by simp [c8, setChan, syncU]
    have h4 : syncU c4 f = syncU c3 f := by simp [c4, y, syncU]
    have h6 : syncU c6 f = syncU c5 f := rfl
    rw [h8, h7.held, h6, h5.held, h4, h3.held]
  have hchan : (chanOf c8 f ch.num).run = none ∧ (chanOf c8 f ch.num).decidedSeq = if r.decided.isSome then r.rseq else x.decidedSeq := by
    simp only [c8, chanOf_setChan, and_self]
  have hrow : IsEndRow d ch r row := ⟨rfl, rfl, rfl, fun v hv => by simp only [row, shown, hv, and_self]⟩
  have ht : (fld t f).red = (fld c8 f).red ∧ t.st = c8.st ∧ obj t Key.redDone = obj c8 Key.redDone := by
    unfold t
    split
    · exact ⟨by rw [fld_unitSignal], rfl, rfl⟩
    · exact ⟨rfl, rfl, rfl⟩
  obtain ⟨htred, htst, htdone⟩ := ht
  have htchan : chanOf t f ch.num = chanOf c8 f ch.num := by simp only [chanOf, htred]
  refine ⟨⟨row, ?_, hrow⟩, ?_, fun hd => ?_, htdone.trans hdone, fun k hk => ?_, fun hk => ?_, htst.trans hst⟩
  · rw [htred, hstatus, tget_tset_self]
  · rw [htchan, hchan.1]
  · rw [htchan, hchan.2, if_pos hd]
  · rw [← hheld]
    simp only [t, hk]
    rw [syncU, fld_unitSignal]
  · rw [← hheld]
    simp only [t, hk, f]

end

/-- What an execution's end leaves of the results: they stay but where they were written under a status that is not OK (R502). -/
theorem resultsLost_spec (mem : Memory) (c : Core) (d : RedDecl) (ch : ChannelDecl) (r : RedRun) :
    let v := resultsLost mem c d ch r
    Closing c v.1 ∧ (endStatus d ch r = .ok ∨ d.result = none ∨ d.kind = .permute ∨ r.written = false → v.2 = mem)
      ∧ ∀ a, resultAt c d r.step = some a → ∀ b, b < gaOff a ∨ gaOff a + 4 * d.n ≤ b → mread v.2 b = mread mem b := by
  unfold resultsLost
  split
  · exact ⟨.refl c, fun _ => rfl, fun _ _ _ _ => rfl⟩
  next a ha =>
    split
    · exact ⟨.refl c, fun _ => rfl, fun _ _ _ _ => rfl⟩
    next hlost =>
      refine ⟨.of_fl rfl rfl rfl, fun h => (hlost ?_).elim, fun e he b hb => ?_⟩
      · have hresult : d.result ≠ none := fun hn => by simp [resultAt, hn] at ha
        rcases h with h | h | h | h
        · exact .inl h
        · exact absurd h hresult
        · exact .inr (.inl h)
        · exact .inr (.inr (by simp [h]))
      · cases ha.symm.trans he
        exact busWrite_keeps (by simpa using hb)

section
variable {s : State} {im : Image} {ch : ChannelDecl} {d : RedDecl} {r : RedRun} (hruns : Runs s) (hf : ch.field < 8)
  (him : s.core.alm.image = some im) (hch : chanDecl s.core ch.num = some ch) (hr : (chanOf s.core ch.field ch.num).run = some r)
  (hd : redDecl im r.redno = some d) (hp : pumpChan s.mem s.core ch = (s.core, s.mem))
include hruns hf him hch hr hd hp

theorem exec_reductionComplete :
    let v := resultsLost s.mem s.core d ch r
    let w := if redComplete s.core d ch r then (finishRed v.1 im d ch r, v.2) else (s.core, s.mem)
    exec (.reductionComplete ch.field ch.num) s = .next { s with core := w.1, mem := w.2 } := by
  intro v w
  have he : exec (.reductionComplete ch.field ch.num) s = execReductionComplete ch.field ch.num s := rfl
  rw [he, execReductionComplete, inRange_lt hf, onBoth_powered _ (runs_powered hruns)]
  simp only [hch, him, hp, hr, hd, decide_true, Bool.true_and]
  rfl

/-- An execution that is complete ends: its status stands, its channel is free, its completion is counted and signalled, and memory
keeps its bytes but for results that are lost. -/
theorem completeEnds (hc : redComplete s.core d ch r = true) : NextWith (exec (.reductionComplete ch.field ch.num) s) fun t =>
    ((∃ row, tget (fld t.core ch.field).red.status r.redno = some row ∧ IsEndRow d ch r row)
      ∧ (chanOf t.core ch.field ch.num).run = none ∧ obj t.core Key.redDone = min (obj s.core Key.redDone + 1) (objMax Key.redDone)
      ∧ (∀ k, r.sem = some k → (syncU t.core ch.field).held = (syncU s.core ch.field).held ++
          [{ issuer := redMaster ch.field, kind := .add, sem := k, n := 1, cookie := 0, slot := 0, back := .unit }])
      ∧ (r.sem = none → (syncU t.core ch.field).held = (syncU s.core ch.field).held) ∧ t.core.st = s.core.st
      ∧ (endStatus d ch r = .ok ∨ d.result = none ∨ d.kind = .permute ∨ r.written = false → t.mem = s.mem)
      ∧ ∀ a, resultAt s.core d r.step = some a → BytesKept s t (gaOff a) (4 * d.n))
    ∧ (r.decided.isSome → (chanOf t.core ch.field ch.num).decidedSeq = r.rseq) := by
  have hexec := exec_reductionComplete hruns hf him hch hr hd hp
  obtain ⟨hclose, hmem, hkeep⟩ := resultsLost_spec s.mem s.core d ch r
  dsimp only at hexec
  rw [if_pos hc] at hexec
  generalize resultsLost s.mem s.core d ch r = v at *
  obtain ⟨hrow, hrun, hseq, hdone, hsome, hnone, hst⟩ := finishRed_spec v.1 d ch r im
  rw [redDecl_redno hd] at hrow
  rw [hclose.done] at hdone
  rw [hclose.held] at hsome hnone
  generalize finishRed v.1 im d ch r = e at *
  exact ⟨_, hexec, ⟨hrow, hrun, hdone, hsome, hnone, hst.trans hclose.st, hmem, hkeep⟩, hseq⟩

end

theorem chanDecl_num {c : Core} {n : Nat} {ch : ChannelDecl} (h : chanDecl c n = some ch) : ch.num = n := by
  unfold chanDecl at h
  split at h
  · cases h
  · have hp := List.find?_some h
    simp only [Bool.and_eq_true, decide_eq_true_eq] at hp
    exact hp.1

theorem redComplete_undecided {c : Core} {d : RedDecl} {ch : ChannelDecl} {r : RedRun} (h : r.decided = none) :
    redComplete c d ch r = r.lost := by simp only [redComplete, h]

/-- A decided execution whose results are written is complete (R335). -/
theorem redComplete_written {c : Core} {d : RedDecl} {ch : ChannelDecl} {r : RedRun} {x : Record} (h : r.decided = some x)
    (hw : r.written = true) : redComplete c d ch r = true := by
  simp only [redComplete, h, hw, Bool.true_or]
  split <;> rfl

theorem reductionCompletes : Goals.ReductionCompletes := by
  intro s f num im d ch r hruns hf him hch hfield hr hd hp
  obtain rfl := chanDecl_num hch
  subst hfield
  dsimp only
  have hends := completeEnds hruns hf him hch hr hd hp
  refine ⟨fun x hx hw => ?_, fun hn hl => ?_, fun hn hl => ?_⟩
  · have hstatus : endStatus d ch r = r.srcFail.getD (x.status d.kind ch.participants.length) := by simp only [endStatus, hx]
    obtain ⟨t, ht, ⟨⟨row, hrow, h1, h2, h3, h4⟩, h⟩, hseq⟩ := hends (redComplete_written hx hw)
    rw [hstatus] at h1 h
    exact ⟨t, ht, ⟨⟨row, hrow, h1, h2, h3, h4⟩, h⟩, hseq (by rw [hx]; rfl)⟩
  · have hstatus : endStatus d ch r = .lost := by simp only [endStatus, hn]
    obtain ⟨t, ht, ⟨⟨row, hrow, h1, h2, h3, h4⟩, h⟩, -⟩ := hends ((redComplete_undecided hn).trans hl)
    rw [hstatus] at h1 h
    exact ⟨t, ht, ⟨row, hrow, h1, h2, h3, h4⟩, h⟩
  · have hexec := exec_reductionComplete hruns hf him hch hr hd hp
    dsimp only at hexec
    rw [if_neg (by rw [redComplete_undecided hn, hl]; decide)] at hexec
    exact hexec

/-- Settles O46: an execution starts, takes its partials, results and records, and completes. -/
theorem reductionProgress : Obligations.ReductionProgress :=
  ⟨reductionStarts, partialsAreStaged, resultsAreWritten, agreementRecordsArrive, reductionCompletes⟩

end Sys2Proof.Machine

namespace Sys2Proof.Machine

/-! ## Objects of gating, the access tables and the interleave granule (O41) -/

/-- An object of a run-dependent write (R374, R411): a value that fits is stored where the Almanac's state permits it, is STATE where it
does not, and RANGE where it does not fit. -/
structure TakesWhere (f : WriteRule) (s : State) (c : Core) (k v : Nat) (fits still : Prop) : Prop where
  ok : fits → still → ∃ e, f s.fuse s.mem c = (e, .ok) ∧ obj e k = v ∧ e.st = c.st ∧ e.fl = c.fl ∧ e.alm = c.alm
  state : fits → ¬still → f s.fuse s.mem c = (c, .state)
  range : ¬fits → f s.fuse s.mem c = (c, .range)

section
variable {s : State} {h : Hdr} {x : Session} {k v : Nat} {fits still : Prop} {f : WriteRule}

theorem gatingWrite (hw : Goals.writes s h x k) (hf : TakesWhere f s (Goals.received s h x) k v fits still) (h1 : k ∉ bookkeepingKeys)
    (h2 : k ∉ rxKeys) :
    let keeps := fun (t : State) => t.mem = s.mem ∧ t.core.st = s.core.st ∧ t.core.fl = s.core.fl ∧ t.core.alm = s.core.alm
    (fits → still → NextWith (writeItem k h f s) fun t => Goals.wrote t h x k .ok ∧ obj t.core k = v ∧ keeps t)
    ∧ (fits → ¬still → NextWith (writeItem k h f s) fun t => Goals.wrote t h x k .state ∧ obj t.core k = obj s.core k ∧ keeps t)
    ∧ (¬fits → NextWith (writeItem k h f s) fun t => Goals.wrote t h x k .range ∧ obj t.core k = obj s.core k ∧ keeps t) := by
  have refused {st : Status} (hr : f s.fuse s.mem (Goals.received s h x) = (Goals.received s h x, st)) :
      NextWith (writeItem k h f s) fun t => Goals.wrote t h x k st ∧ obj t.core k = obj s.core k
        ∧ t.mem = s.mem ∧ t.core.st = s.core.st ∧ t.core.fl = s.core.fl ∧ t.core.alm = s.core.alm := by
    obtain ⟨t, ht, hwr, ho, hm, -, hst, hfl, ha, -⟩ := writeItem_refused hw hr h1 h2
    exact ⟨t, ht, hwr, ho, hm, hst, hfl, ha⟩
  refine ⟨fun hfit hst => ?_, fun hfit hst => refused (hf.state hfit hst), fun hfit => refused (hf.range hfit)⟩
  obtain ⟨e, he, hv, hs, hl, ha⟩ := hf.ok hfit hst
  exact writeItem_nextWith hw he fun d hd => ⟨hd, hv, rfl, hs, hl, ha⟩

end

theorem gateWritable_iff {c d : Core} (h : almState c = almState d) :
    gateWritable c = true ↔ almState d = 0 ∨ almState d = 2 ∨ almState d = 6 := by
  simp [gateWritable, h, or_assoc]

theorem almState_received {s : State} {h : Hdr} {x : Session} (hp : h.port < 3) : almState (Goals.received s h x) = almState s.core :=
  obj_received hp (by decide)

/-- A gating object whose rule is the common one (R411). -/
theorem takesWhere_gateRule {s : State} {c d : Core} {k bound v : Nat} {fits : Prop} (ha : almState c = almState d) (hb : fits ↔ v < bound) :
    TakesWhere (fun _ _ c => gateRule k bound v c) s c k v fits (almState d = 0 ∨ almState d = 2 ∨ almState d = 6) where
  ok hf hs := ⟨setObj c k v, by
    simp only [gateRule, if_neg (Nat.not_le.2 (hb.1 hf)), if_pos ((gateWritable_iff ha).2 hs)], by simp⟩
  state hf hs := by
    simp only [gateRule, if_neg (Nat.not_le.2 (hb.1 hf)), if_neg (mt (gateWritable_iff ha).1 hs)]
  range hf := by simp only [gateRule, if_pos (Nat.not_lt.1 (mt hb.2 hf))]

/-- What a lost Ethernet link leaves alone (R416). -/
theorem hostDown_keeps (c : Core) (p : Nat) {k : Nat} (h1 : k ≠ Key.port p 2) (h2 : k ≠ Key.port p 3) (h3 : k ∉ bookkeepingKeys) :
    let d := hostDown c p
    obj d k = obj c k ∧ d.st = c.st ∧ d.fl = c.fl ∧ d.alm = c.alm := by
  dsimp only
  unfold hostDown
  split
  · refine ⟨?_, (noted_raise _ _ _ _ _ _).st, raise_fl _ _ _ _ _ _, raise_alm _ _ _ _ _ (by decide)⟩
    rw [(noted_raise _ _ _ _ _ _).objs k h3, obj_setObj_ne _ _ h2, obj_setObj_ne _ _ h1]
  · exact ⟨rfl, rfl, rfl, rfl⟩

theorem hostDowns_keep (l : List Nat) (hl : ∀ p ∈ l, p < 2) (c : Core) :
    let d := l.foldl hostDown c
    obj d Key.gateHostports = obj c Key.gateHostports ∧ d.st = c.st ∧ d.fl = c.fl ∧ d.alm = c.alm := by
  induction l generalizing c with
  | nil => exact ⟨rfl, rfl, rfl, rfl⟩
  | cons p l ih =>
    have hp : p < 2 := hl p List.mem_cons_self
    obtain ⟨h1, h2, h3, h4⟩ := hostDown_keeps c p (k := Key.gateHostports) (by simp only [Key.gateHostports, Key.port]; omega)
      (by simp only [Key.gateHostports, Key.port]; omega) (by decide)
    obtain ⟨k1, k2, k3, k4⟩ := ih (fun q hq => hl q (List.mem_cons_of_mem _ hq)) (hostDown c p)
    exact ⟨k1.trans h1, k2.trans h2, k3.trans h3, k4.trans h4⟩

/-- GATE_HOSTPORTS: beside the common rule, the gated ports lose their links (R416). -/
theorem takesWhere_gateHostports {s : State} {c d : Core} {v : Nat} (ha : almState c = almState d) :
    TakesWhere (fun _ _ c =>
        let r := gateRule Key.gateHostports 4 v c
        if r.2 = .ok then (((List.range 2).filter fun p => !bit v p).foldl hostDown r.1, .ok) else r)
      s c Key.gateHostports v (v < 4) (almState d = 0 ∨ almState d = 2 ∨ almState d = 6) := by
  have base := takesWhere_gateRule (s := s) (c := c) (d := d) (k := Key.gateHostports) (bound := 4) (v := v) (fits := v < 4) ha Iff.rfl
  refine ⟨fun hf hs => ?_, fun hf hs => ?_, fun hf => ?_⟩
  · obtain ⟨e, he, hv, hst, hfl, hal⟩ := base.ok hf hs
    obtain ⟨k1, k2, k3, k4⟩ := hostDowns_keep ((List.range 2).filter fun p => !bit v p)
      (fun p hp => List.mem_range.1 (List.mem_filter.1 hp).1) e
    dsimp only at he ⊢
    rw [he]
    exact ⟨_, rfl, k1.trans hv, k2.trans hst, k3.trans hfl, k4.trans hal⟩
  · have he := base.state hf hs
    dsimp only at he ⊢
    rw [he]
    rfl
  · have he := base.range hf
    dsimp only at he ⊢
    rw [he]
    rfl

theorem leNat_lt (bs : Bytes) : leNat bs < 256 ^ bs.length := by
  induction bs with
  | nil => simp [leNat]
  | cons b r ih =>
    have := b.isLt
    simp only [leNat, List.length_cons, pow_succ]
    omega

/-- GATE_STATIONS, whose value is 24 bytes (R409). -/
theorem takesWhere_gateStations {s : State} {c d : Core} {data : Bytes} (ha : almState c = almState d) :
    TakesWhere (fun _ _ c => if data.length ≠ 24 then (c, .range) else gateRule Key.gateStations (2 ^ 192) (leNat data) c)
      s c Key.gateStations (leNat data) (data.length = 24) (almState d = 0 ∨ almState d = 2 ∨ almState d = 6) := by
  have base (hl : data.length = 24) := takesWhere_gateRule (s := s) (c := c) (d := d) (k := Key.gateStations) (bound := 2 ^ 192)
    (v := leNat data) (fits := data.length = 24) ha ⟨fun h => by have := leNat_lt data; rw [h] at this; exact this, fun _ => hl⟩
  refine ⟨fun hf hs => ?_, fun hf hs => ?_, fun hf => if_pos hf⟩
  · simp only [hf, ne_eq, not_true, if_false]
    exact (base hf).ok hf hs
  · simp only [hf, ne_eq, not_true, if_false]
    exact (base hf).state hf hs

/-- VIGIL_ENABLE (R374). -/
theorem takesWhere_vigilEnable {s : State} {c d : Core} {v : Nat} (ha : almState c = almState d) :
    TakesWhere (fun _ _ c => if 2 ≤ v then (c, .range) else if emptyOrStopped c then (setObj c Key.vigilEnable v, .ok) else (c, .state))
      s c Key.vigilEnable v (v < 2) (almState d = 0 ∨ almState d = 6) := by
  have he : emptyOrStopped c = true ↔ almState d = 0 ∨ almState d = 6 := by simp [emptyOrStopped, ha]
  refine ⟨fun hf hs => ⟨setObj c Key.vigilEnable v, ?_, by simp⟩, fun hf hs => ?_, fun hf => if_pos (Nat.not_lt.1 hf)⟩
  · rw [if_neg (Nat.not_le.2 hf), if_pos (he.2 hs)]
  · rw [if_neg (Nat.not_le.2 hf), if_neg (mt he.1 hs)]

theorem gatingWrites : Goals.GatingWrites := by
  intro s h x data v still row hrow k hw
  have ha : almState (Goals.received s h x) = almState s.core := almState_received hw.1.2.1
  simp only [List.mem_cons, List.not_mem_nil, or_false] at hrow
  rcases hrow with rfl | rfl | rfl | rfl | rfl
  · exact gatingWrite hw (takesWhere_gateStations ha) (by decide) (by decide)
  · exact gatingWrite hw (takesWhere_gateRule ha Iff.rfl) (by decide) (by decide)
  · exact gatingWrite hw (takesWhere_gateRule ha Iff.rfl) (by decide) (by decide)
  · exact gatingWrite hw (takesWhere_gateHostports ha) (by decide) (by decide)
  · exact gatingWrite hw (takesWhere_vigilEnable ha) (by decide) (by decide)

/-! ### ACCESS_EDIT (R187, R190, R191) -/

theorem mem_of_tget {α : Type} {t : Tab α} {k : Nat} {v : α} (h : tget t k = some v) : (k, v) ∈ t := by
  induction t with
  | nil => cases h
  | cons p r ih =>
    obtain ⟨j, w⟩ := p
    simp only [tget] at h
    split at h
    · next hj => cases h; subst hj; exact List.mem_cons_self
    · exact List.mem_cons_of_mem _ (ih h)

/-- An entry in an access table permits what it covers (R187). -/
theorem tablePermits_of_entry {acc : Access} {t e : Nat} {y : AccEntry} (he : e < 64) (hy : tget acc.entries (t * 64 + e) = some y)
    {m a : Nat} {rt : Right} (h : entryPermits y.value m a rt = true) : tablePermits acc t m a rt = true := by
  rw [tablePermits, Bool.or_eq_true, List.any_eq_true]
  exact .inr ⟨_, mem_of_tget hy, by simp only [h, Bool.and_true, decide_eq_true_eq]; omega⟩

section
variable {data : Bytes} {op t e : Nat} {c : Core}

/-- The entries that ACCESS_EDIT may not touch (R190, R191): the first two of a target, and those of a running image. -/
def shutEntry (c : Core) (t e : Nat) : Prop := e < 2 ∨ ∃ y, tget c.acc.entries (t * 64 + e) = some y ∧ y.writer = .start

/-- The core with other entries in its access tables. -/
def withEntries (c : Core) (l : Tab AccEntry) : Core := { c with acc := { c.acc with entries := l } }

theorem accessEditRule_edit (h : Goals.edit data op t e) :
    accessEditRule op data c = if e < 2 ∨ ((tget c.acc.entries (t * 64 + e)).map fun x => x.writer) = some .start then (c, .state)
      else if op = 0 then
        (withEntries c (tset c.acc.entries (t * 64 + e) { value := bits (leNat data) 64 128, writer := .edit }), .ok)
      else (withEntries c (tdel c.acc.entries (t * 64 + e)), .ok) := by
  obtain ⟨hl, rfl, rfl, rfl, hz, hr, ht, he⟩ := h
  have hno : ¬(data.length ≠ 24 ∨ 155 ≤ bits (leNat data) 0 16 ∨ 64 ≤ bits (leNat data) 16 8 ∨ bits (leNat data) 24 8 ≠ bits (leNat data) 24 8
      ∨ bits (leNat data) 32 32 ≠ 0 ∨ (!accReservedZero (bits (leNat data) 64 128)) = true) := by
    simp only [hl, hz, hr, not_or]
    exact ⟨by simp, by omega, by omega, by simp, by simp, by simp⟩
  rw [accessEditRule, if_neg hno]
  rfl

theorem shutEntry_iff :
    (e < 2 ∨ ((tget c.acc.entries (t * 64 + e)).map fun x => x.writer) = some .start) ↔ shutEntry c t e := by
  simp only [shutEntry, Option.map_eq_some_iff]

theorem accessEditRule_shut (h : Goals.edit data op t e) (hs : shutEntry c t e) : accessEditRule op data c = (c, .state) := by
  rw [accessEditRule_edit h, if_pos (shutEntry_iff.2 hs)]

theorem accessEditRule_range (h : ∀ t e, ¬Goals.edit data op t e) : accessEditRule op data c = (c, .range) := by
  rw [accessEditRule, if_pos]
  by_contra hno
  simp only [not_or, not_not, Bool.not_eq_true', Bool.not_eq_false] at hno
  obtain ⟨h1, h2, h3, h4, h5, h6⟩ := hno
  exact h _ _ ⟨h1, rfl, rfl, h4, h5, h6, by omega, by omega⟩

end

theorem exec_accessEdit {i : Instr} {h : Hdr} {data : Bytes} {op : Nat}
    (hi : (i, op) ∈ [(Instr.accessEditWrite h data, 0), (.accessEditClear h data, 1)]) (s : State) :
    exec i s = writeItem Key.accessEdit h (fun _ _ c => accessEditRule op data c) s := by
  simp only [List.mem_cons, Prod.mk.injEq, List.not_mem_nil, or_false] at hi
  rcases hi with ⟨rfl, rfl⟩ | ⟨rfl, rfl⟩ <;> rfl

theorem accessEditsOneEntry : Goals.AccessEditsOneEntry := by
  intro s h x data t e hw k shut others
  have open_ {op : Nat} (he : Goals.edit data op t e) (hs : ¬shut) :=
    (accessEditRule_edit (c := Goals.received s h x) he).trans (if_neg (mt shutEntry_iff.1 hs))
  refine ⟨fun he hs => ?_, fun he hs => ?_, fun i op hi he hs => ?_, fun i op hi hno => ?_⟩
  · obtain ⟨-, -, -, -, -, -, -, he64⟩ := id he
    have hr := (open_ he hs).trans (if_pos rfl)
    refine writeItem_nextWith hw hr fun d hd => ?_
    refine ⟨hd, ?_, ⟨fun j hj => ?_, rfl, rfl⟩, fun m a rt hp => ?_⟩
    · exact tget_tset_self ..
    · exact tget_tset_ne _ _ hj
    · refine tablePermits_of_entry he64 (y := { value := bits (leNat data) 64 128, writer := .edit }) ?_ hp
      exact tget_tset_self ..
  · have hr := (open_ he hs).trans (if_neg Nat.one_ne_zero)
    refine writeItem_nextWith hw hr fun d hd => ?_
    refine ⟨hd, ?_, fun j hj => ?_, rfl, rfl⟩
    · exact tget_tdel_self ..
    · exact tget_tdel_ne _ hj
  · rw [exec_accessEdit hi]
    exact writeItem_refused hw (accessEditRule_shut he hs) (by decide) (by decide)
  · rw [exec_accessEdit hi]
    exact writeItem_refused hw (accessEditRule_range hno) (by decide) (by decide)

/-! ### HBM_GRANULE and the end of its wipe (R181, R461) -/

/-- The objects that say that an HBM wipe with a cause is over: HBM_WIPING of the granule's wipe, WIPE_STATUS of a reset's. -/
def wipeEnded (c : Core) (k : Nat) : Core :=
  let c := { c with boot := { c.boot with hbmWipe := none } }
  if k = 0x10 then setObj c Key.hbmWiping 0 else setObj c Key.wipeStatus 1

/-- What the end of an HBM wipe leaves of the core (R181, R461). -/
def hbmWiped (c : Core) (k us : Nat) : Core :=
  soundAgain (raise (setObj (wipeEnded c k) Key.wipeTime us) 0x0203 .info mgmt 0 [k, us]) inHbm

theorem exec_hbmWipeDone {s : State} {k : Nat} (us : Nat) (hr : Runs s) (hk : s.core.boot.hbmWipe = some k)
    (hw : wipeReady s.core k = true) :
    exec (.hbmWipeDone us) s = .next { s with core := hbmWiped s.core k us, mem := s.mem.filter fun p => !inHbm p.1 } := by
  change execHbmWipeDone us s = _
  rw [execHbmWipeDone, onBoth_powered _ (runs_powered hr)]
  simp only [hk, hw, if_true]
  rfl

theorem obj_wipeEnded (c : Core) (n k : Nat) :
    obj (wipeEnded c n) k
      = if n = 0x10 then (if k = Key.hbmWiping then 0 else obj c k) else if k = Key.wipeStatus then 1 else obj c k := by
  have set (j v : Nat) : obj (setObj { c with boot := { c.boot with hbmWipe := none } } j v) k = if k = j then v else obj c k := by
    by_cases hk : k = j
    · rw [if_pos hk, hk, obj_setObj]
    · rw [if_neg hk, obj_setObj_ne _ _ hk]; rfl
  unfold wipeEnded
  split <;> exact set _ _

theorem obj_hbmWiped (c : Core) (n us : Nat) {k : Nat} (h : k ∉ bookkeepingKeys) :
    obj (hbmWiped c n us) k = if k = Key.wipeTime then us else obj (wipeEnded c n) k := by
  have hs (c : Core) : obj (soundAgain c inHbm) k = obj c k := rfl
  rw [hbmWiped, hs, (noted_raise _ _ _ _ _ _).objs k h]
  split
  · next hk => rw [hk, obj_setObj]
  · next hk => exact obj_setObj_ne _ _ hk

theorem mread_wipeHbm (m : Memory) (a : Nat) : mread (m.filter fun p => !inHbm p.1) a = if inHbm a then 0 else mread m a := by
  rw [mread_filter m (fun a => !inHbm a) a]
  cases inHbm a <;> rfl

theorem granuleWipesHbm : Goals.GranuleWipesHbm := by
  intro s h x v us hw
  have ha : loaded (Goals.received s h x) = loaded s.core := by rw [loaded, loaded, almState_received hw.1.2.1]
  refine ⟨fun h8 h16 hl => ?_, fun h8 h16 hl => ?_, fun hv => ?_⟩
  · refine writeItem_nextWith hw (e := { setObj (setObj (Goals.received s h x) Key.hbmGranule v) Key.hbmWiping 1 with
      boot := { s.core.boot with hbmWipe := some 0x10 } }) ?_ fun d hd => ⟨hd, ?_, ?_, rfl, ?_⟩
    · rw [if_neg (by omega), if_neg (by rw [ha, hl]; decide)]
      rfl
    · exact (obj_setObj_ne _ _ (by decide)).trans (obj_setObj _ _ _)
    · exact obj_setObj _ _ _
    · refine ⟨_, exec_hbmWipeDone us hw.1.1 rfl rfl, ?_, ?_, fun a => mread_wipeHbm _ a⟩
      · rw [obj_hbmWiped _ _ _ (by decide), if_neg (by decide), obj_wipeEnded, if_pos rfl, if_pos rfl]
      · rw [obj_hbmWiped _ _ _ (by decide), if_pos rfl]
  · exact writeItem_refused hw (by rw [if_neg (by omega), if_pos (by rw [ha, hl])]) (by decide) (by decide)
  · exact writeItem_refused hw (if_pos hv) (by decide) (by decide)

/-- Settles O41: the gating objects, ACCESS_EDIT and HBM_GRANULE, each by what its rule answers. -/
theorem gatingAccessAndGranule : Obligations.GatingAccessAndGranule := ⟨gatingWrites, accessEditsOneEntry, granuleWipesHbm⟩

end Sys2Proof.Machine

namespace Sys2Proof.Machine

/-! ## Resets (O55; R35, R451, R460, R481, R488) -/

/-! ### Events where no session is open -/

section
variable (c : Core)

theorem notifyEvent_of_no_sessions (r : EvRec) (h : c.host.sessions = []) : notifyEvent c r = c := by
  simp [notifyEvent, h]

theorem logEvent_of_no_sessions (r : EvRec) (h : c.host.sessions = []) :
    (logEvent c r).host = c.host ∧ (logEvent c r).fab = c.fab := by
  unfold logEvent
  extract_lets full lost _ d e f
  have hf : f.host = c.host ∧ f.fab = c.fab := by unfold f; split <;> exact ⟨rfl, rfl⟩
  rw [notifyEvent_of_no_sessions f r (by rw [hf.1, h])]
  exact hf

/-- Where no session is open, no one is told of an event, so nothing leaves (R447). -/
theorem raise_of_no_sessions (code : Nat) (cls : EvClass) (src tag : Nat) (args : List Nat) (h : c.host.sessions = []) :
    (raise c code cls src tag args).host = c.host ∧ (raise c code cls src tag args).fab = c.fab := by
  unfold raise
  extract_lets _ d e _ f
  have he : e.host = c.host ∧ e.fab = c.fab := by unfold e; split <;> exact ⟨rfl, rfl⟩
  have hf : f.host = c.host ∧ f.fab = c.fab := by unfold f; split <;> exact he
  split
  · obtain ⟨h1, h2⟩ := logEvent_of_no_sessions f _ (by rw [hf.1, h])
    exact ⟨h1.trans hf.1, h2.trans hf.2⟩
  · exact hf

end

/-! ### The core after a reset -/

/-- The power record after a reset (R451, log entry 6): pins and supply stay, the retention register is cleared. -/
def resetPower (p : Power) (held : Bool) : Power :=
  { Power.reset with stageEn := p.stageEn, stage := p.stage, pwrgood := p.pwrgood, held := held, faultN := held && p.faultN,
                     housekeeping := p.housekeeping }

/-- The core after a reset, before the boot ROM tells a changed life-cycle state (R460, R461). -/
def freshCore (c : Core) (cause : Nat) (held : Bool) : Core :=
  setObj { Core.reset with power := resetPower c.power held
                           boot := { Boot.reset with epochDraw := (draw c).1, nonceDraw := (draw (draw c).2).1 }
                           host := { HostSide.reset with out := c.host.out }
                           freeCtr := (draw (draw c).2).2.freeCtr } Key.resetCause cause

/-- What the boot ROM's report of a changed life-cycle state leaves alone where no session is open (R476). -/
structure BootReported (c d : Core) : Prop where
  parts : d = eventParts c d
  objs : ∀ k, k ∉ bookkeepingKeys → obj d k = obj c k
  alm : d.alm = c.alm
  host : d.host = c.host
  fab : d.fab = c.fab

theorem bootReported_lifecycleEvent (fu : Fuses) (retained : Option Nat) {c : Core} (h : c.host.sessions = []) :
    BootReported c (lifecycleEvent fu retained c) := by
  have same : BootReported c c := ⟨rfl, fun _ _ => rfl, rfl, rfl, rfl⟩
  unfold lifecycleEvent
  split
  · split
    · obtain ⟨hh, hf⟩ := raise_of_no_sessions c 0x0202 .info mgmt 0 [_, fu.lc] h
      exact ⟨raise_parts _ _ _ _ _ _, (noted_raise _ _ _ _ _ _).objs, raise_alm _ _ _ _ _ (by decide), hh, hf⟩
    · exact same
  · exact same

/-- LIFECYCLE_CHANGED is raised where the retained state differs from the fused one (R476). -/
theorem counts_lifecycleEvent (fu : Fuses) (old : Nat) {c : Core} (h : c.ev.counts = []) :
    tgetD (lifecycleEvent fu (some old) c).ev.counts 0x0202 0 = if old = fu.lc then 0 else 1 := by
  simp only [lifecycleEvent]
  split
  · rw [raise_counts, tgetD_tset_self, h]; rfl
  · next he => simp [h, not_not.1 he, tgetD, tget]

/-! ### A reset of the module -/

/-- A burn that is cut short keeps the life-cycle state, and draws at most one number (R463, R476; log entry 84). -/
theorem cutBurn_spec (fu : Fuses) (c : Core) :
    (cutBurn fu c).2 = { c with freeCtr := (cutBurn fu c).2.freeCtr } ∧ (c.boot.burn = none → (cutBurn fu c).1 = fu) := by
  unfold cutBurn
  split
  · exact ⟨rfl, fun _ => rfl⟩
  · next b hb => exact ⟨rfl, fun h => by rw [h] at hb; cases hb⟩

theorem resetModule_spec (s : State) (cause : Nat) (held : Bool) :
    let t := resetModule s cause held
    Goals.wasReset s t cause held ∧ t.core.host.out = s.core.host.out ∧ t.core.power = resetPower s.core.power held := by
  obtain ⟨hcore, hfuse⟩ := cutBurn_spec s.fuse s.core
  have hlc : (cutBurn s.fuse s.core).2.power.retainedLc = s.core.power.retainedLc := by rw [hcore]
  have ht : (resetModule s cause held).core
      = lifecycleEvent (cutBurn s.fuse s.core).1 s.core.power.retainedLc (freshCore (cutBurn s.fuse s.core).2 cause held) := by
    rw [← hlc]; rfl
  have hb := bootReported_lifecycleEvent (cutBurn s.fuse s.core).1 s.core.power.retainedLc
    (c := freshCore (cutBurn s.fuse s.core).2 cause held) rfl
  rw [← ht] at hb
  have hp : (resetModule s cause held).core.power = resetPower s.core.power held := by
    rw [hb.parts, hcore]; rfl
  have ho : (resetModule s cause held).core.host = { HostSide.reset with out := s.core.host.out } := by
    rw [hb.host, hcore]; rfl
  have hobj {k : Nat} (hk : k ∉ bookkeepingKeys) := hb.objs k hk
  have hboot := congrArg Core.boot hb.parts
  refine ⟨⟨(hobj (by decide)).trans (obj_setObj _ _ _), hobj (by decide), hobj (by decide), hb.alm, (congrArg Core.st hb.parts :),
    (congrArg Core.fl hb.parts :), hb.fab, (congrArg Core.acc hb.parts :), (congrArg Core.clk hb.parts :), (congrArg Core.scale hb.parts :),
    congrArg HostSide.sessions ho, congrArg Boot.rom hboot, congrArg Boot.sramDone hboot, congrArg Boot.trained hboot,
    congrArg Boot.burn hboot, congrArg Power.held hp, congrArg Power.retained hp, congrArg Power.retainedLc hp, rfl, rfl, hfuse,
    fun old hold => ?_⟩, (congrArg HostSide.out ho :), hp⟩
  rw [ht, hold]
  exact counts_lifecycleEvent _ old rfl

theorem resetsLeaveTheResetState : Goals.ResetsLeaveTheResetState := by
  intro s
  refine ⟨fun cause hc hs => ?_, fun hr hrom => ?_, fun hr hrom => ?_, fun n hr => ⟨fun hn => ?_, fun hn => ?_, fun h1 h2 => ?_⟩,
    fun mv hs he h1 h2 => ?_, fun mv h => ?_⟩
  · obtain ⟨h1, h2, -⟩ := resetModule_spec s cause s.core.power.held
    exact ⟨_, (inRange_lt hc).trans (congrArg Host.Outcome.next (if_pos hs)), h1, h2⟩
  · obtain ⟨h1, h2, -⟩ := resetModule_spec s 8 false
    exact ⟨_, congrArg Host.Outcome.next (if_pos (by simp [runs_powered hr, hrom])), h1, h2⟩
  · exact congrArg Host.Outcome.next (if_neg (by simp [hrom]))
  · refine ⟨resetModule s 1 true, ?_, (resetModule_spec s 1 true).1⟩
    change execResetN n s = _
    simp [execResetN, runs_powered hr, hn, Nat.not_lt.2 hn]
  · change execResetN n s = _
    simp [execResetN, Nat.not_le.2 hn, show ¬10000 ≤ n by omega]
  · let d := withCore s (draw s.core).2
    by_cases hp : Config.pulseRecognised (draw s.core).1 = true
    · refine ⟨resetModule d 1 true, ?_, .inl (resetModule_spec d 1 true).1⟩
      change execResetN n s = _
      simp only [execResetN, h1, h2, hp, decide_true, Bool.and_self, if_true, Bool.or_true, Bool.and_true]
      exact congrArg Host.Outcome.next (if_pos (runs_powered hr))
    · refine ⟨d, ?_, .inr rfl⟩
      change execResetN n s = _
      simp only [execResetN, h1, h2, hp, decide_true, Bool.and_self, if_true, Bool.and_false, Bool.or_false, Nat.not_le.2 h2, decide_false,
        Bool.false_eq_true, if_false]
      rfl
  · let d := withCore s (modPower s.core fun p => { p with stage := true, pwrgood := false, housekeeping := true })
    obtain ⟨hw, -, hp⟩ := resetModule_spec d (s.core.power.retained.getD 0) true
    refine ⟨resetModule d (s.core.power.retained.getD 0) true, congrArg Host.Outcome.next (if_pos (by simp [hs, he, h1, h2])), hw, ?_, ?_, ?_⟩
    all_goals rw [hp]; rfl
  · refine congrArg Host.Outcome.next (if_neg ?_)
    simp only [Bool.and_eq_true, Bool.not_eq_true', decide_eq_true_eq]
    rintro ⟨⟨h1, h2⟩, h3, h4⟩
    rcases h with h | h | h | h
    · rw [h1] at h; cases h
    · rw [h2] at h; cases h
    · omega
    · omega

/-! ## The wipe of memory (O55; R181, R461, R462, R490) -/

/-- The SRAM wipe spares HBM alone (R461). -/
theorem mread_wipeSram (m : Memory) (a : Nat) : mread (m.filter fun p => inHbm p.1) a = if inHbm a then mread m a else 0 :=
  mread_filter m inHbm a

theorem wipeReady_iff {c : Core} {k : Nat} (hk : k ≠ 0x10) :
    wipeReady c k = true ↔ c.boot.sramDone = true ∧ ∀ i, i < 32 → i ∈ c.boot.trained := by
  simp [wipeReady, hk]

theorem exec_hbmWipeDone_waits {s : State} (us : Nat) (hr : Runs s) (h : ∀ k, s.core.boot.hbmWipe = some k → wipeReady s.core k = false) :
    exec (.hbmWipeDone us) s = .next s := by
  change execHbmWipeDone us s = _
  rw [execHbmWipeDone, onBoth_powered _ (runs_powered hr)]
  cases hk : s.core.boot.hbmWipe with
  | none => rfl
  | some k => simp only [h k hk, Bool.false_eq_true, if_false]

theorem boot_wipeEnded (c : Core) (k : Nat) : (wipeEnded c k).boot = { c.boot with hbmWipe := none } := by
  unfold wipeEnded; split <;> rfl

/-- What the end of a wipe says: the wipe is no longer under way, WIPE_DONE is raised, and HBM holds no error (R461). -/
theorem hbmWiped_spec (c : Core) (k us : Nat) :
    let d := hbmWiped c k us
    d.boot.hbmWipe = none ∧ tgetD d.ev.counts 0x0203 0 = min (tgetD c.ev.counts 0x0203 0 + 1) (2 ^ 32 - 1)
      ∧ ∀ a, inHbm a = true → a ∉ d.ecc.double := by
  let e := setObj (wipeEnded c k) Key.wipeTime us
  have hb : (raise e 0x0203 .info mgmt 0 [k, us]).boot = e.boot := (noted_raise ..).boot
  have hev : (wipeEnded c k).ev = c.ev := by unfold wipeEnded; split <;> rfl
  refine ⟨?_, ?_, fun a ha hm => ?_⟩
  · exact (congrArg Boot.hbmWipe (hb.trans (boot_wipeEnded c k)) :)
  · change tgetD (raise e 0x0203 .info mgmt 0 [k, us]).ev.counts 0x0203 0 = _
    rw [raise_counts, tgetD_tset_self]
    exact congrArg (fun v : EventLog => min (tgetD v.counts 0x0203 0 + 1) (2 ^ 32 - 1)) hev
  · have := (List.mem_filter.1 hm).2
    rw [ha] at this
    cases this

/-- A stack is trained; the first one starts the wipe of a reset (R461). -/
def stackTrained (c : Core) (k : Nat) : Core :=
  { c with boot := { c.boot with
      trained := c.boot.trained ++ [k]
      hbmWipe := if (c.boot.hbmWipe.isNone && c.boot.trained.isEmpty && decide (obj c Key.wipeStatus = 0)) = true then some (obj c Key.resetCause)
        else c.boot.hbmWipe } }

/-- A stack's wipe took too long (R462, R490). -/
def wipeFailed (c : Core) : Core :=
  faultLow (setObj (setObj { c with boot := { c.boot with hbmWipe := none } } Key.hbmWiping 0) Key.wipeStatus 2)

theorem wipesClearMemory : Goals.WipesClearMemory := by
  intro s hr c
  have hpow := runs_powered hr
  refine ⟨fun hd => ?_, fun k hk hnt => ?_, fun k us hk => ⟨fun hne hd ht => ?_, fun hne h => ?_, fun i hi => ?_⟩, fun hn => ⟨fun us => ?_, fun i hi => ?_⟩⟩
  · refine ⟨{ s with core := soundAgain { c with boot := { c.boot with sramDone := true } } fun a => !inHbm a
                     mem := s.mem.filter fun p => inHbm p.1 }, ?_, rfl, rfl, fun a => mread_wipeSram _ a⟩
    change execSramWipeDone s = _
    rw [execSramWipeDone, onBoth_powered _ hpow, if_neg (by rw [hd]; decide)]
  · refine ⟨withCore s (stackTrained c k), ?_, rfl, rfl, rfl, fun h1 h2 h3 => ?_, fun h1 => ?_⟩
    · change execHbmTrainingDone k s = _
      rw [execHbmTrainingDone, inRange_lt hk, onCore_powered _ hpow, if_neg (by simpa using hnt)]
      rfl
    · change (if _ then _ else _) = _
      simp [h1, h2, h3]
    · change (if _ then _ else _) = _
      simp [h1]
  · have hw := (wipeReady_iff (c := c) hne).2 ⟨hd, ht⟩
    obtain ⟨h1, h2, h3⟩ := hbmWiped_spec c k us
    refine ⟨_, exec_hbmWipeDone us hr hk hw, ?_, ?_, h1, h2, fun a => mread_wipeHbm _ a, h3⟩
    · rw [obj_hbmWiped _ _ _ (by decide), if_neg (by decide), obj_wipeEnded, if_neg hne, if_pos rfl]
    · rw [obj_hbmWiped _ _ _ (by decide), if_pos rfl]
  · refine exec_hbmWipeDone_waits us hr fun j hj => ?_
    obtain rfl : k = j := Option.some.inj (hk.symm.trans hj)
    rw [← Bool.not_eq_true, wipeReady_iff hne]
    rintro ⟨hd, ht⟩
    rcases h with h | ⟨i, hi, hn⟩
    · rw [h] at hd; cases hd
    · exact hn (ht i hi)
  · refine ⟨withCore s (wipeFailed c), ?_, ?_, rfl, rfl, rfl⟩
    · change execWipeTimeout i s = _
      rw [execWipeTimeout, inRange_lt hi, onCore_powered _ hpow, if_neg (by rw [hk]; exact Bool.false_ne_true)]
      rfl
    · exact obj_setObj _ _ _
  · exact exec_hbmWipeDone_waits us hr fun k hk => by rw [hn] at hk; cases hk
  · change execWipeTimeout i s = _
    rw [execWipeTimeout, inRange_lt hi, onCore_powered _ hpow, if_pos (by rw [hn]; rfl)]

/-! ## Handover and the fused versions (O55; R464, R467, R468) -/

/-- An announcement leaves on a port, and nothing but what leaves changes (R417). -/
theorem announceAll_spec (fu : Fuses) (c : Core) (p : Nat) :
    let d := announceAll fu c p
    d = replyParts c d ∧ (∀ m ∈ c.host.out, m ∈ d.host.out) ∧ .announce p none false (announceBody fu c) ∈ d.host.out := by
  dsimp only
  unfold announceAll
  extract_lets d
  have hd : d = replyParts c d := send_reply c _
  have hm : ∀ m ∈ d.host.out, m ∈ (send d (.announce p none true (announceBody fu d))).host.out := fun m hm => by
    rw [send_out]; exact List.mem_append_left _ hm
  have hout : d.host.out = c.host.out ++ [.announce p none false (announceBody fu c)] := send_out ..
  split
  · exact ⟨replyParts_trans hd (send_reply _ _), fun m h => hm m (hout ▸ List.mem_append_left _ h), hm _ (hout ▸ by simp)⟩
  · exact ⟨hd, fun m h => hout ▸ List.mem_append_left _ h, hout ▸ by simp⟩

theorem announceAlls_spec (fu : Fuses) (l : List Nat) (c : Core) :
    let d := l.foldl (announceAll fu) c
    d = replyParts c d ∧ (∀ m ∈ c.host.out, m ∈ d.host.out) ∧ ∀ p ∈ l, ∃ bs, OutMsg.announce p none false bs ∈ d.host.out := by
  induction l generalizing c with
  | nil => exact ⟨rfl, fun _ h => h, fun p hp => by cases hp⟩
  | cons q l ih =>
    obtain ⟨hq, hqm, hqa⟩ := announceAll_spec fu c q
    obtain ⟨hd, hm, ha⟩ := ih (announceAll fu c q)
    refine ⟨replyParts_trans hq hd, fun m h => hm m (hqm m h), fun p hp => ?_⟩
    rcases List.mem_cons.1 hp with rfl | hp
    · exact ⟨_, hm _ hqa⟩
    · exact ha p hp

/-- The core with the verified firmware running, before it announces itself (R467). -/
def firmwareRuns (c : Core) (version key : Nat) : Core :=
  { setObj c Key.fwVersion version with boot := { c.boot with rom := false, fwKey := key, verified := none } }

theorem handoverRunsTheFirmware : Goals.HandoverRunsTheFirmware := by
  intro s hr c
  refine ⟨fun v key hv hrom hw => ?_, fun h => ?_⟩
  · let e := firmwareRuns c v key
    obtain ⟨hd, -, ha⟩ := announceAlls_spec s.fuse ((List.range 3).filter (linked e)) e
    refine ⟨withCore s (((List.range 3).filter (linked e)).foldl (announceAll s.fuse) e), ?_, ?_, ?_, fun k hk => ?_, rfl, rfl, ?_, fun p hp h1 => ?_⟩
    · change execHandover s = _
      rw [execHandover, onFuse_powered _ (runs_powered hr)]
      simp only [hv, hrom, hw, c]
      rfl
    · exact (congrArg Core.boot hd :)
    · exact (congrArg (obj · Key.fwVersion) hd).trans (obj_setObj _ _ _)
    · exact (congrArg (obj · k) hd).trans (obj_setObj_ne _ _ (by simpa using hk))
    · exact (congrArg Core.st hd :)
    · refine ha p (List.mem_filter.2 ⟨List.mem_range.2 hp, ?_⟩)
      have hne : Key.port p 2 ≠ Key.fwVersion := by simp only [Key.port, Key.fwVersion]; omega
      have : obj e (Key.port p 2) = obj c (Key.port p 2) := obj_setObj_ne _ _ hne
      simp [linked, this, h1]
  · change execHandover s = _
    rw [execHandover, onFuse_powered _ (runs_powered hr)]
    cases hv : s.core.boot.verified with
    | none => rfl
    | some v =>
      have hno : ¬(s.core.boot.rom && decide (obj s.core Key.wipeStatus = 1)) = true := by
        simp only [Bool.and_eq_true, decide_eq_true_eq]
        rintro ⟨h1, h2⟩
        rcases h with h | h | h
        · exact absurd (hv.symm.trans h) (by simp)
        · exact absurd (h1.symm.trans h) (by simp)
        · exact h h2
      simp only [if_neg hno]

section
variable {s : State} {h : Hdr} {x : Session} {key : Nat}

/-- A write whose rule may burn fuses: what it leaves of the core is left alone beside the response. -/
theorem writeItemF_nextWith (hw : Goals.writes s h x key) {f : Fuses → Memory → Core → Fuses × Core × Status} {fu : Fuses} {st : Status}
    (hf : f s.fuse s.mem (Goals.received s h x) = (fu, Goals.received s h x, st)) :
    NextWith (writeItemF key h f noMore s) fun t => Goals.wrote t h x key st ∧ t.fuse = fu ∧ t.mem = s.mem := by
  obtain ⟨d, he, hd⟩ := writeItemM_spec hw (fun fu mem c => let r := f fu mem c; (r.1, r.2.1, mem, r.2.2))
  simp only [hf] at he hd
  exact ⟨_, he, hd, rfl, rfl⟩

end

theorem fwRaiseMin_spec {s : State} {h : Hdr} {x : Session} {v : Nat} (hw : Goals.writes s h x Key.fwRaiseMin) :
    let ans := fun (st : Status) (fu : Fuses) => NextWith (exec (.fwRaiseMin h v) s) fun t =>
      Goals.wrote t h x Key.fwRaiseMin st ∧ t.fuse = fu ∧ t.mem = s.mem
    (s.core.boot.rom = true → ans .state s.fuse)
    ∧ (s.core.boot.rom = false → s.fuse.minVersion < v → v ≤ obj s.core Key.fwVersion → s.fuse.raises < 32 →
      ans .ok { s.fuse with minVersion := v, raises := s.fuse.raises + 1 })
    ∧ (s.core.boot.rom = false → s.fuse.minVersion < v → v ≤ obj s.core Key.fwVersion → 32 ≤ s.fuse.raises → ans .state s.fuse)
    ∧ (s.core.boot.rom = false → v = s.fuse.minVersion → v ≤ obj s.core Key.fwVersion → ans .ok s.fuse)
    ∧ (s.core.boot.rom = false → v < s.fuse.minVersion ∨ obj s.core Key.fwVersion < v → ans .range s.fuse) := by
  have hv : obj (Goals.received s h x) Key.fwVersion = obj s.core Key.fwVersion := obj_received hw.1.2.1 (by decide)
  have hexec : exec (.fwRaiseMin h v) s = writeItemF Key.fwRaiseMin h _ noMore s := rfl
  rw [hexec]
  refine ⟨fun hrom => ?_, fun hrom h1 h2 h3 => ?_, fun hrom h1 h2 h3 => ?_, fun hrom h1 h2 => ?_, fun hrom h1 => ?_⟩
  all_goals refine writeItemF_nextWith hw ?_
  · simp [hrom]
  · simp [hrom, hv, show ¬(v < s.fuse.minVersion ∨ obj s.core Key.fwVersion < v) by omega, show v ≠ s.fuse.minVersion by omega, Nat.not_le.2 h3]
  · simp [hrom, hv, show ¬(v < s.fuse.minVersion ∨ obj s.core Key.fwVersion < v) by omega, show v ≠ s.fuse.minVersion by omega, h3]
  · simp [hrom, hv, h1, h1 ▸ h2]
  · simp [hrom, hv, h1]

/-- No key but `v` is left unrevoked (R468). -/
theorem others_isEmpty_iff (l : List Nat) (v : Nat) :
    ((List.range 4).filter fun k => k ≠ v && !l.contains k).isEmpty = true ↔ ¬∃ k, k < 4 ∧ k ≠ v ∧ k ∉ l := by
  simp [List.filter_eq_nil_iff]

theorem eonelRevoke_spec {s : State} {h : Hdr} {x : Session} {v : Nat} (hw : Goals.writes s h x Key.eonelRevoke) :
    let others := ∃ k, k < 4 ∧ k ≠ v ∧ k ∉ s.fuse.revokedKeys
    let ans := fun (st : Status) (fu : Fuses) => NextWith (exec (.eonelRevoke h v) s) fun t =>
      Goals.wrote t h x Key.eonelRevoke st ∧ t.fuse = fu ∧ t.mem = s.mem
    (4 ≤ v → ans .range s.fuse)
    ∧ (v < 4 → s.core.boot.rom = false → s.core.boot.fwKey = v → ans .state s.fuse)
    ∧ (v < 4 → s.core.boot.rom = true ∨ s.core.boot.fwKey ≠ v → v ∉ s.fuse.revokedKeys →
      (others → ans .ok { s.fuse with revokedKeys := s.fuse.revokedKeys ++ [v] }) ∧ (¬others → ans .state s.fuse))
    ∧ (v < 4 → s.core.boot.rom = true ∨ s.core.boot.fwKey ≠ v → v ∈ s.fuse.revokedKeys → ans .ok s.fuse) := by
  intro others ans
  have hexec : exec (.eonelRevoke h v) s = writeItemF Key.eonelRevoke h _ noMore s := rfl
  have inUse (h1 : s.core.boot.rom = true ∨ s.core.boot.fwKey ≠ v) : ¬(!s.core.boot.rom && decide (s.core.boot.fwKey = v)) = true := by
    rcases h1 with h1 | h1 <;> simp [h1]
  have hoth := others_isEmpty_iff s.fuse.revokedKeys v
  refine ⟨fun h4 => ?_, fun h4 hrom hk => ?_, fun h4 hu hn => ⟨fun ho => ?_, fun ho => ?_⟩, fun h4 hu hm => ?_⟩
  all_goals
    simp only [ans]
    rw [hexec]
    refine writeItemF_nextWith hw ?_
  · rw [if_pos h4]
  · rw [if_neg (Nat.not_le.2 h4), if_pos (.inl (by simp [hrom, hk]))]
  · rw [if_neg (Nat.not_le.2 h4), if_neg, if_neg (by simpa using hn)]
    rintro (hi | ⟨hi, -⟩)
    · exact inUse hu hi
    · exact hoth.1 hi ho
  · rw [if_neg (Nat.not_le.2 h4), if_pos (.inr ⟨hoth.2 ho, by simpa using hn⟩)]
  · rw [if_neg (Nat.not_le.2 h4), if_neg, if_pos (by simpa using hm)]
    rintro (hi | ⟨-, hi⟩)
    · exact inUse hu hi
    · simp [hm] at hi

theorem fusedFirmwareVersions : Goals.FusedFirmwareVersions :=
  fun _ _ _ _ => ⟨fwRaiseMin_spec, eonelRevoke_spec⟩

/-- Settles O55: resets by what `resetModule` leaves, the wipe, the handover, and the two writes that burn fuses. -/
theorem resetsAndBoot : Obligations.ResetsAndBoot :=
  ⟨resetsLeaveTheResetState, wipesClearMemory, handoverRunsTheFirmware, fusedFirmwareVersions⟩

end Sys2Proof.Machine

namespace Sys2Proof.Machine

/-! ## The record of a stream (O23, O24, O36) -/

section
variable (c : Core) (g st : Nat) (x : Stream)

/-- The station with another record of one of its streams. -/
def withStrm (y : Station) (st : Nat) (x : Stream) : Station := { y with streams := tset y.streams st x }

@[simp] theorem strm_withStrm (y : Station) : strm (withStrm y st x) st = x := tgetD_tset_self ..

theorem strm_withStrm_ne (y : Station) {k : Nat} (h : k ≠ st) : strm (withStrm y st x) k = strm y k := tgetD_tset_ne _ _ _ h

@[simp] theorem withStrm_withStrm (y : Station) (z : Stream) : withStrm (withStrm y st z) st x = withStrm y st x := by simp [withStrm]

@[simp] theorem stn_setStrm_self : stn (setStrm c g st x) g = withStrm (stn c g) st x := stn_setStn ..

theorem stn_setStrm_ne {k : Nat} (h : k ≠ g) : stn (setStrm c g st x) k = stn c k := stn_setStn_ne _ _ h

theorem strm_setStrm_self : strm (stn (setStrm c g st x) g) st = x := by simp

@[simp] theorem setStrm_setStrm (y : Stream) : setStrm (setStrm c g st y) g st x = setStrm c g st x := by
  simp [setStrm]

@[simp] theorem stn_errStatus (s : Status) (k : Nat) : stn (errStatus c s) k = stn c k := by simp [stn]

end

/-- Of stations and fields no more changed than one stream. -/
structure StrmOnly (g st : Nat) (c d : Core) : Prop where
  others : ∀ k, k ≠ g → stn d k = stn c k
  self : ∀ x, withStrm (stn d g) st x = withStrm (stn c g) st x
  fl : d.fl = c.fl

section
variable {c d e : Core} {g st : Nat}

theorem UnitsKept.strmOnly (h : UnitsKept c d) : StrmOnly g st c d := ⟨fun k _ => h.stn k, fun x => by rw [h.stn], h.fl⟩

theorem StrmOnly.trans (h : StrmOnly g st c d) (k : StrmOnly g st d e) : StrmOnly g st c e :=
  ⟨fun j hj => (k.others j hj).trans (h.others j hj), fun x => (k.self x).trans (h.self x), k.fl.trans h.fl⟩

theorem strmOnly_setStrm (c : Core) (g st : Nat) (x : Stream) : StrmOnly g st c (setStrm c g st x) :=
  ⟨fun _ hk => stn_setStrm_ne c g st x hk, fun y => by simp, rfl⟩

theorem StrmOnly.seq (h : StrmOnly g st c d) : (stn d g).seq = (stn c g).seq := (congrArg Station.seq (h.self Stream.reset) :)

end

/-! ### Arming (R195 to R197) -/

section
variable (c : Core) (g st d : Nat)

/-- What an arming attempt answers, and the stream as it leaves it but for LAST_ARM (R196, R197). -/
def armVerdict : Status × Stream :=
  let x := strm (stn c g) st
  if running c = false ∨ x.state = 2 then (.state, x)
  else if x.pending.isSome then (.busy, x)
  else if descOk c g d = false then (.range, x)
  else (.ok, if x.state = 0 then activate c x d else { x with pending := some d })

/-- What an arming attempt has done before LAST_ARM records its status. -/
def armAttempt : Core × Status :=
  let x := strm (stn c g) st
  if !running c then (c, .state)
  else if x.state = 2 then (c, .state)
  else if x.pending.isSome then (addObj c Key.armBusy 1, .busy)
  else if !descOk c g d then (c, .range)
  else if x.state = 0 then (setStrm c g st (activate c x d), .ok)
  else (setStrm c g st { x with pending := some d }, .ok)

/-- LAST_ARM and the error counter record an attempt's status. -/
def recordArm (r : Core × Status) : Core :=
  errStatus (setStrm r.1 g st { strm (stn r.1 g) st with lastArm := r.2.code }) r.2

theorem armStream_eq : armStream c g st d = (recordArm g st (armAttempt c g st d), (armAttempt c g st d).2) := rfl

theorem armAttempt_spec :
    let r := armAttempt c g st d
    r.2 = (armVerdict c g st d).1 ∧ StrmOnly g st c r.1 ∧ strm (stn r.1 g) st = (armVerdict c g st d).2 := by
  have kept : StrmOnly g st c c := (Accessed.refl c).toUnitsKept.strmOnly
  have busy : StrmOnly g st c (addObj c Key.armBusy 1) := (watched_addObj ..).toUnitsKept.strmOnly
  unfold armAttempt armVerdict
  by_cases hr : running c = false
  · simp [hr, kept]
  by_cases hx : (strm (stn c g) st).state = 2
  · simp [hx, kept]
  by_cases hp : (strm (stn c g) st).pending.isSome = true
  · simp [hr, hx, hp, busy]
  by_cases hd : descOk c g d = false
  · simp [hr, hx, hp, hd, kept]
  by_cases h0 : (strm (stn c g) st).state = 0
  all_goals simp [hr, hx, hp, hd, h0, strmOnly_setStrm]

/-- An arming attempt touches its stream alone (R196). -/
theorem armStream_spec :
    let r := armStream c g st d
    r.2 = (armVerdict c g st d).1 ∧ StrmOnly g st c r.1
      ∧ strm (stn r.1 g) st = { (armVerdict c g st d).2 with lastArm := (armVerdict c g st d).1.code } := by
  obtain ⟨hst, honly, hx⟩ := armAttempt_spec c g st d
  rw [armStream_eq]
  refine ⟨hst, (honly.trans (strmOnly_setStrm ..)).trans (accessed_errStatus ..).toUnitsKept.strmOnly, ?_⟩
  rw [recordArm, stn_errStatus, strm_setStrm_self, hx, hst]

end

section
variable {c : Core} {g st d : Nat}

/-- The attempts that a stream refuses leave it as it was (R196). -/
theorem armVerdict_refused {code : Nat}
    (h : (code = 2 ∧ (running c = false ∨ (strm (stn c g) st).state = 2))
      ∨ (code = 1 ∧ running c = true ∧ (strm (stn c g) st).state ≠ 2 ∧ (strm (stn c g) st).pending.isSome = true)
      ∨ (code = 3 ∧ running c = true ∧ (strm (stn c g) st).state ≠ 2 ∧ (strm (stn c g) st).pending = none ∧ descOk c g d = false)) :
    (armVerdict c g st d).1.code = code ∧ (armVerdict c g st d).2 = strm (stn c g) st := by
  rcases h with ⟨rfl, h⟩ | ⟨rfl, hr, hx, hp⟩ | ⟨rfl, hr, hx, hp, hd⟩
  · simp [armVerdict, h, Status.code]
  · simp [armVerdict, hr, hx, hp, Status.code]
  · simp [armVerdict, hr, hx, hp, hd, Status.code]

/-- A descriptor that its stream takes (R195, R197). -/
theorem armVerdict_taken (hr : running c = true) (hx : (strm (stn c g) st).state ≠ 2) (hp : (strm (stn c g) st).pending = none)
    (hd : descOk c g d = true) :
    armVerdict c g st d
      = (.ok, if (strm (stn c g) st).state = 0 then activate c (strm (stn c g) st) d else { strm (stn c g) st with pending := some d }) := by
  simp [armVerdict, hr, hx, hp, hd]

end

/-! ### STR (R263) -/

theorem exec_str {s : State} {g w a : Nat} (h : AtWord s g w .str) (ha : a = namedAddr (stn s.core g) (bits w 48 4) (bits w 26 22))
    (h64 : a % 64 = 0) (hn : a + 64 ≤ stSize) (hs : Goals.sound s g [a] 64) :
    let r := armStream (vigilRead s.core g (stBase g + a) 64) g (bits w 52 4) (mnum s.mem (stBase g + a) 64)
    exec (.str g) s = .next (withCore s (holdCycles (lastStatus (issued r.1 g) g r.2) g 9 6)) := by
  have hexec : exec (.str g) s = inRange g 192 (onCoreMem _ s) := rfl
  rw [hexec, onCoreMem_atWord _ h]
  simp only [atPc_of_atWord h, ← ha, readStop_none h64 hn hs]
  rfl

/-- The station behind an issue that is held for some cycles, with a status recorded. -/
theorem stn_holdCycles (c : Core) (g row n : Nat) (v : Status) (hn : n ≠ 0) :
    let d := holdCycles (lastStatus (issued c g) g v) g row n
    stn d g = { stn c g with seq := { issuedSeq (stn c g).seq with lastStatus := v.code, state := .waiting, waitCause := row, left := n } }
      ∧ ∀ k, k ≠ g → stn d k = stn c k := by
  simp only [holdCycles, if_neg hn, lastStatus, issued_eq, stn_modSeq_self, stn_issueAs_self]
  exact ⟨trivial, fun k hk => by rw [stn_modSeq_ne _ _ hk, stn_modSeq_ne _ _ hk, stn_issueAs_ne _ _ hk]⟩

/-- The core that STR leaves: an arming attempt, and an issue that is held until its status is known (R253, R263). -/
def strIssued (c : Core) (g st d : Nat) : Core :=
  holdCycles (lastStatus (issued (armStream c g st d).1 g) g (armStream c g st d).2) g 9 6

theorem strIssued_spec (c : Core) (g st d : Nat) :
    let e := strIssued c g st d
    let v := armVerdict c g st d
    strm (stn e g) st = { v.2 with lastArm := v.1.code } ∧ (stn e g).seq.lastStatus = v.1.code
      ∧ (stn e g).seq = { issuedSeq (stn c g).seq with lastStatus := (stn e g).seq.lastStatus, state := .waiting, waitCause := 9, left := 6 }
      ∧ ∀ k, k ≠ g → stn e k = stn c k := by
  obtain ⟨hstatus, honly, hstrm⟩ := armStream_spec c g st d
  obtain ⟨hself, hothers⟩ := stn_holdCycles (armStream c g st d).1 g 9 6 (armStream c g st d).2 (by decide)
  have hseq := honly.seq
  simp only [strIssued, hself]
  refine ⟨hstrm, by rw [hstatus], by rw [hseq], fun k hk => (hothers k hk).trans (honly.others k hk)⟩

theorem strArmsItsStream : Goals.StrArmsItsStream := by
  intro s g w h a st d c x h64 hn hs
  obtain ⟨hy, hlast, hseq, hothers⟩ := strIssued_spec c g st d
  have hc : UnitsKept s.core c := (watched_vigilRead ..).toUnitsKept
  rw [hc.stn] at hseq
  have hexec : exec (.str g) s = .next (withCore s (strIssued c g st d)) := exec_str h rfl h64 hn hs
  generalize strIssued c g st d = e at hexec hy hlast hseq hothers
  refine ⟨withCore s e, hexec, fun code hcode => ?_, fun hr hx hp hd => ?_, hseq, fun k hk => (hothers k hk).trans (hc.stn k), rfl⟩
  · obtain ⟨h1, h2⟩ := armVerdict_refused (d := d) hcode
    rw [h1] at hy hlast
    rw [h2] at hy
    exact ⟨hy, hlast⟩
  · have hv := armVerdict_taken hr hx hp hd
    rw [hv] at hy hlast
    refine ⟨hlast, fun h0 => ?_, fun h1 => ?_⟩
    · exact hy.trans (by rw [if_pos h0]; rfl)
    · exact hy.trans (by rw [if_neg (by rw [h1]; decide)]; rfl)

/-! ## Writes into control blocks (O23; R196, R242) -/

/-- A request's units begin at multiples of 256, the one it begins in and the ones up to its last byte (R187). -/
theorem mem_units256 {u a n : Nat} (h : u ∈ units256 a n) : u % 256 = 0 ∧ a < u + 256 ∧ u ≤ a + (n - 1) := by
  obtain ⟨i, hi, rfl⟩ := List.mem_map.1 h
  rw [List.mem_range] at hi
  omega

theorem gatedIn_none {c : Core} {a n : Nat} (h : ∀ u, u % 256 = 0 → a < u + 256 → u ≤ a + (n - 1) → gatedAt c u = false) :
    gatedIn c a n = none := by
  rw [gatedIn, List.find?_eq_none.2, Option.map_none]
  intro u hu
  obtain ⟨h1, h2, h3⟩ := mem_units256 hu
  rw [h u h1 h2 h3]
  decide

section
variable {g o : Nat} (hg : g < 192) (ho : o < 0x20000)
include ho

theorem ctlBase_offset : (ctlBase g + o - 0xF0000000000) / 0x20000 = g ∧ (ctlBase g + o - 0xF0000000000) % 0x20000 = o := by
  simp only [ctlBase]
  omega

include hg

/-- An offset of a station's control block lies in no other range (R176). -/
theorem inCtl_ctlBase : inHbm (ctlBase g + o) = false ∧ inStation (ctlBase g + o) = false ∧ inAcc (ctlBase g + o) = false
    ∧ inCtl (ctlBase g + o) = true := by
  refine ⟨decide_eq_false ?_, decide_eq_false ?_, decide_eq_false ?_, decide_eq_true ?_⟩
  all_goals simp only [ctlBase]; omega

/-- Of a control block the clock gate of the station reaches the instruction memory alone (R409, R410). -/
theorem gatedAt_ctlBase (c : Core) : gatedAt c (ctlBase g + o) = (decide (o < 0x18000) && stGated c g) := by
  obtain ⟨h1, h2, h3, h4⟩ := inCtl_ctlBase hg ho
  obtain ⟨h5, h6⟩ := ctlBase_offset (g := g) ho
  simp [gatedAt, h1, h2, h3, h4, h5, h6]

theorem inImem_ctlBase : inImem (ctlBase g + o) = decide (o < 0x10000) := by
  rw [inImem, (inCtl_ctlBase hg ho).2.2.2, (ctlBase_offset (g := g) ho).2, Bool.true_and]

end

section
variable {s : State} {m g st a : Nat} {data : Bytes}

/-- The offset of a stream's PENDING slot (R196, R212). -/
def slotAddr (g st : Nat) : Nat := ctlBase g + (0x18000 + 0x100 * st + 0x40)

theorem slotAddr_spec (hg : g < 192) (hst : st < 16) :
    inAcc (slotAddr g st) = false ∧ inImem (slotAddr g st) = false ∧ inCtl (slotAddr g st) = true
      ∧ (slotAddr g st - 0xF0000000000) / 0x20000 = g ∧ (slotAddr g st - 0xF0000000000) % 0x20000 = 0x18000 + 0x100 * st + 0x40
      ∧ slotAddr g st % 0x100 = 0x40 ∧ slotAddr g st % 64 = 0 := by
  have ho : 0x18000 + 0x100 * st + 0x40 < 0x20000 := by omega
  obtain ⟨-, -, hacc, hctl⟩ := inCtl_ctlBase hg ho
  obtain ⟨hdiv, hmod⟩ := ctlBase_offset (g := g) ho
  simp only [slotAddr]
  refine ⟨hacc, ?_, hctl, hdiv, hmod, ?_, ?_⟩
  · rw [inImem_ctlBase hg ho, decide_eq_false (by omega)]
  all_goals simp only [ctlBase]; omega

theorem writeAt_slot (hg : g < 192) (hst : st < 16) (hl : data.length = 64) (mem : Memory) (c : Core) (tag : Nat) :
    writeAt mem c m (slotAddr g st) data tag = ((armStream c g st (leNat data)).1, mem, (armStream c g st (leNat data)).2) := by
  obtain ⟨h1, h2, h3, h4, h5, h6, h7⟩ := slotAddr_spec hg hst
  have hidx : (0x18000 + 0x100 * st + 0x40 - 0x18000) / 0x100 = st := by
    rw [Nat.add_assoc, Nat.add_sub_cancel_left]; omega
  have hslot : (inCtl (slotAddr g st) && decide (0x18000 ≤ (slotAddr g st - 0xF0000000000) % 0x20000) && decide (0x40 ≤ slotAddr g st % 0x100)
      && decide (slotAddr g st % 0x100 < 0x80) && decide ((slotAddr g st - 0xF0000000000) % 0x20000 < 0x19000)) = true := by
    rw [h3, h5, h6, decide_eq_true (p := 98304 ≤ _) (by omega), decide_eq_true (p := _ < 102400) (by omega)]
    rfl
  unfold writeAt
  rw [if_neg (by rw [h1]; decide), if_neg (by rw [h2]; decide), if_pos hslot, if_pos (by rw [h7, hl]; rfl), h4, h5, hidx]

theorem gatedIn_slot (hg : g < 192) (hst : st < 16) (c : Core) : gatedIn c (slotAddr g st) 64 = none :=
  gatedIn_none fun u h1 h2 h3 => by
    have hb : ctlBase g % 256 = 0 := by simp only [ctlBase]; omega
    obtain ⟨o, rfl⟩ : ∃ o, u = ctlBase g + o := ⟨u - ctlBase g, by simp only [slotAddr] at h2; omega⟩
    simp only [slotAddr] at h2 h3
    rw [gatedAt_ctlBase hg (by omega), decide_eq_false (by omega), Bool.false_and]

/-- A permitted write of a whole unit into a PENDING slot is an arming attempt (R196). -/
theorem exec_streamArm (hr : Runs s) (hg : g < 192) (hst : st < 16) (hl : data.length = 64)
    (hp : refusalOf s.core m (slotAddr g st) 64 .w = none) :
    exec (.streamArm m (slotAddr g st) data) s = .next (withCore s (armStream s.core g st (leNat data)).1) := by
  obtain ⟨-, -, hctl, -, hmod, -, -⟩ := slotAddr_spec hg hst
  have hslots : (inCtl (slotAddr g st) && decide (0x18000 ≤ (slotAddr g st - 0xF0000000000) % 0x20000
      ∧ (slotAddr g st - 0xF0000000000) % 0x20000 < 0x19000)) = true := by
    rw [hctl, hmod, decide_eq_true (by omega)]; rfl
  change execStreamArm m _ data s = _
  rw [execStreamArm, onBoth_powered _ (runs_powered hr), if_pos hslots]
  simp only [busWrite, hl, hp, gatedIn_slot hg hst, writeAt_slot hg hst hl]
  rfl

/-- A permitted write into the instruction memory of a station that runs replaces whole aligned words, and is RANGE otherwise (R242). -/
theorem exec_instructionWrite (hr : Runs s) (hg : g < 192) (hn : 0 < data.length) (ha : a + data.length ≤ 0x10000)
    (hp : refusalOf s.core m (ctlBase g + a) data.length .w = none) (hs : stGated s.core g = false) :
    exec (.instructionWrite m (ctlBase g + a) data) s
      = if a % 8 = 0 ∧ data.length % 8 = 0 then .next { s with mem := mwriteN s.mem (ctlBase g + a) data }
        else .next (withCore s (errStatus s.core .range)) := by
  have hgate : gatedIn s.core (ctlBase g + a) data.length = none := gatedIn_none fun u h1 h2 h3 => by
    have hb : ctlBase g % 256 = 0 := by simp only [ctlBase]; omega
    obtain ⟨o, rfl⟩ : ∃ o, u = ctlBase g + o := ⟨u - ctlBase g, by omega⟩
    rw [gatedAt_ctlBase hg (by omega), hs, Bool.and_false]
  have hfrom : inImem (ctlBase g + a) = true := by rw [inImem_ctlBase hg (by omega), decide_eq_true (by omega)]
  have hto : inImem (ctlBase g + a + (data.length - 1)) = true := by
    rw [Nat.add_assoc, inImem_ctlBase hg (by omega), decide_eq_true (by omega)]
  have h8 : (ctlBase g + a) % 8 = a % 8 := by simp only [ctlBase]; omega
  have hacc := (inCtl_ctlBase hg (o := a) (by omega)).2.2.1
  change execInstructionWrite m _ data s = _
  rw [execInstructionWrite, onBoth_powered _ (runs_powered hr), if_pos (by rw [hfrom, hto]; rfl)]
  simp only [busWrite, hp, hgate, writeAt, hacc, hfrom, hto, h8, hn, Bool.not_true, Bool.false_eq_true, if_false, if_true, Bool.and_true,
    Bool.and_eq_true, decide_eq_true_eq, decide_true]
  split <;> rfl

theorem writesIntoControlBlocks : Goals.WritesIntoControlBlocks := by
  intro s m g st a data hr hg hst
  refine ⟨fun hl hp => ?_, fun hn ha hp hs => ⟨fun h => ?_, fun h => ?_⟩⟩
  · have he : ctlBase g + 0x18000 + 0x100 * st + 0x40 = slotAddr g st := by simp only [slotAddr]; omega
    rw [he] at hp ⊢
    exact exec_streamArm hr hg hst hl hp
  · rw [exec_instructionWrite hr hg hn ha hp hs, if_pos h]
  · rw [exec_instructionWrite hr hg hn ha hp hs, if_neg h]

end

/-- Settles O23: STR by what its arming attempt leaves, and writes into control blocks by where they fall. -/
theorem streamArming : Obligations.StreamArming := ⟨strArmsItsStream, writesIntoControlBlocks⟩

end Sys2Proof.Machine

namespace Sys2Proof.Machine

/-! ## A detach that faults its stream (O24)

MCAST_DETACH raises its event before it chooses the flow of the packet that tells the member. An event is notified to the sessions, and
a notification counts its bytes on the session's context. The counterexample keeps two contexts of the member's flow out of their rising order,
the open one, whose port the tables close to the station, behind the aborted one; the open one has the number of a session. Its count puts its
record in front, and the detach finds it where the hypothesis about the egress had found the aborted one. -/

/-- Module group 2, of the one member 2. -/
def loneMember : ModGroup := { num := 2, members := [(2, 7)], detachTime := 1 }

/-- A flow of station 0 to that member. -/
def memberFlow : FlowDecl := { num := 4, peer := 2, issuers := [0], routes := [] }

/-- An image that declares the group and the flow, and nothing else. -/
def groupImage : Image :=
  { code := [], desc := [], sems := [], watchRes := [], scales := [], tensors := [], wcDelta := 0, groups := [], scheds := [], shards := [],
    maskBase := 0, buckets := [], ties := [], reds := [], channels := [], refSlots := [], modGroups := [loneMember], recvSets := [],
    widths := [], ksplits := [], buffers := [], access := [], bindings := [], auditK := 0, retained := 0, frameTicks := 2000, mMin := 8,
    mMax := 18, reserve := 0, loop := 8, domain := 0, lMax := 10, jobModules := [0], members := [], templates := [], prologue := [],
    cycle := [0], flows := [memberFlow], windows := [] }

/-- An MCAST of one row to group 2 that detaches, its EMPTY_REF on semaphore 16 of field 0. -/
def detachingMcast : Nat := 5 * 2 ^ 60 + 2 ^ 53 + 2 * 2 ^ 8 * 2 ^ 320 + (2 ^ 15 + 16) * 2 ^ 432

/-- Station 0 with that stream, which waits for the member's credit. -/
def waitingSender : Station :=
  { Station.reset with streams := [(0, { Stream.reset with state := 1, active := detachingMcast, waits := true })] }

/-- The member's flow on two contexts: an aborted one and an open one, out of order. -/
def unorderedCtxs : Tab Ctx :=
  [(5, { Ctx.reset with state := 3, peerMod := 2, flow := 4 }), (2, { Ctx.reset with state := 1, peerMod := 2, flow := 4 })]

/-- A session that subscribes to the events of every class. -/
def subscriber : Session :=
  { key := [], h := 7, kept := [], port := 1, source := 99, heard := 0, mask := 255, noteNext := 0, notes := [], missed := 0, bulk := [],
    report := none }

/-- A module that runs, with the image in force, the stream, the contexts and the session. -/
def unorderedState : State :=
  let c := State.reset.core
  withCore State.reset { c with
    power := { c.power with stage := true, held := false },
    st := [(0, waitingSender)],
    alm := { c.alm with image := some groupImage },
    fab := { c.fab with ctxs := unorderedCtxs },
    host := { c.host with sessions := [(2, subscriber)] } }

/-- The state of stream 0 of station 0 behind an outcome, if there is one. -/
def senderAfter (o : Out) : Option Nat := match o with
  | .next t => some (strm (stn t.core 0) 0).state
  | _ => none

/-- The aborted context carries the station's traffic to the member before the detach. -/
theorem egress_unorderedState : egressNow unorderedState.core 0 2 0 .w = .lost 5 := by decide +kernel

/-- The open one behind its event, where the tables refuse the packet: the stream is FAULTED. -/
theorem senderAfter_mcastDetach : senderAfter (exec (.mcastDetach 0 0 0) unorderedState) = some 2 := by decide +kernel

theorem not_mcastDetachExcludesTheMember : ¬ Goals.McastDetachExcludesTheMember := by
  intro h
  have hmember : (mcMembers unorderedState.core detachingMcast)[0]? = some (some 2) := by decide +kernel
  obtain ⟨t, ht, -, hstream, -⟩ := h unorderedState 0 0 0 loneMember (by decide +kernel) (by decide) (by decide) (by decide +kernel)
    (by decide +kernel) (by decide +kernel) (by decide +kernel) (by decide +kernel) (by decide +kernel) (by decide +kernel)
    (by decide +kernel)
    (fun m tg n hm => by
      cases Option.some.inj (Option.some.inj (hmember.symm.trans hm))
      rw [egress_unorderedState]
      exact Egress.noConfusion)
    (by decide +kernel) (by decide +kernel) (by decide +kernel) (by decide +kernel)
  have hfaulted := senderAfter_mcastDetach
  rw [ht, senderAfter, hstream] at hfaulted
  exact absurd hfaulted (by decide +kernel)

/-- Refutes O24 in its last clause: a stream that detaches a member is FAULTED where the event's notification reorders the contexts that
`egressNow` looks through (`senderAfter_mcastDetach`). -/
theorem not_streamProgress : ¬ Obligations.StreamProgress := by
  rintro ⟨-, -, -, -, hdetach⟩
  exact not_mcastDetachExcludesTheMember hdetach

end Sys2Proof.Machine

namespace Sys2Proof.Machine

/-! ## Requests from the fabric (O36; R302, R206, R236): what an access leaves of the flows -/

/-- Every context's queue stays, and its peer. -/
structure QueuesKept (c d : Core) : Prop where
  queue : ∀ i, (ctxOf d i).queue = (ctxOf c i).queue
  peer : ∀ i, (ctxOf d i).peerMod = (ctxOf c i).peerMod

namespace QueuesKept

variable {c d e : Core}

theorem refl (c : Core) : QueuesKept c c := ⟨fun _ => rfl, fun _ => rfl⟩

theorem trans (h : QueuesKept c d) (k : QueuesKept d e) : QueuesKept c e :=
  ⟨fun i => (k.queue i).trans (h.queue i), fun i => (k.peer i).trans (h.peer i)⟩

theorem foldl {α : Type} {f : Core → α → Core} (h : ∀ c x, QueuesKept c (f c x)) (l : List α) (c : Core) : QueuesKept c (l.foldl f c) := by
  induction l generalizing c with
  | nil => exact refl c
  | cons x r ih => exact (h c x).trans (ih _)

theorem of_ctxs (h : d.fab.ctxs = c.fab.ctxs) : QueuesKept c d := ⟨fun i => by rw [ctxOf, h, ctxOf], fun i => by rw [ctxOf, h, ctxOf]⟩

theorem ite {p : Prop} [Decidable p] (h : QueuesKept c d) (k : QueuesKept c e) : QueuesKept c (if p then d else e) := by split <;> assumption

end QueuesKept

section
variable (c : Core)

theorem queuesKept_sentOn (i n : Nat) : QueuesKept c (sentOn c i n) := by
  rcases sentOn_eq_setCtx c i n with h | h
  · rw [h]; exact .refl c
  · rw [h]
    refine ⟨fun j => ?_, fun j => ?_⟩
    all_goals
      by_cases hj : j = i
      · subst hj; simp
      · simp [ctxOf, setCtx, tgetD_tset_ne _ _ _ hj]

theorem queuesKept_sendNote (i n : Nat) (r : Resp) : QueuesKept c (sendNote c i n r) := by
  unfold sendNote
  split
  · exact (queuesKept_sentOn c i r.payload.length).trans (.of_ctxs (by simp))
  · exact .refl c

theorem queuesKept_notifyOne (r : EvRec) (i : Nat) : QueuesKept c (notifyOne r c i) := by
  unfold notifyOne notify
  split
  · exact .refl c
  · split_ifs
    · exact .refl c
    · exact .of_ctxs rfl
    · split
      · exact .refl c
      · refine QueuesKept.trans (d := setSession c i _) (.of_ctxs rfl) (queuesKept_sendNote ..)

theorem queuesKept_addObj (k n : Nat) : QueuesKept c (addObj c k n) := .of_ctxs rfl

theorem queuesKept_errStatus (s : Status) : QueuesKept c (errStatus c s) := .ite (.refl c) (.of_ctxs rfl)

theorem queuesKept_logEvent (r : EvRec) : QueuesKept c (logEvent c r) := by
  unfold logEvent
  extract_lets full lost _ d e f
  have hf : QueuesKept c f := by
    unfold f
    split <;> exact .of_ctxs rfl
  exact hf.trans (.foldl (fun c i => queuesKept_notifyOne c _ i) _ f)

theorem queuesKept_raise (code : Nat) (cls : EvClass) (src tag : Nat) (args : List Nat) : QueuesKept c (raise c code cls src tag args) := by
  unfold raise
  extract_lets _ d e _ f
  have he : QueuesKept d e := by
    unfold e
    split
    · exact .of_ctxs rfl
    · exact .refl d
  have hd : QueuesKept c d := .of_ctxs rfl
  have hf : QueuesKept e f := by
    unfold f
    split
    · exact .of_ctxs rfl
    · exact .refl e
  refine ((hd.trans he).trans hf).trans ?_
  split
  · exact queuesKept_logEvent ..
  · exact queuesKept_addObj ..

theorem queuesKept_hazard (kind m other addr pc : Nat) : QueuesKept c (hazard c kind m other addr pc) := by
  unfold hazard
  extract_lets _ d e
  have he : QueuesKept c e := .of_ctxs rfl
  exact he.trans (queuesKept_raise ..)

theorem queuesKept_portTouch (m port : Nat) (wrote : Bool) (u : Nat) : QueuesKept c (portTouch c m port wrote u) := by
  unfold portTouch
  extract_lets now p d _
  have hd : QueuesKept c d := by
    unfold d
    split
    · split
      · have hp : QueuesKept c p.2 := .of_ctxs rfl
        exact .ite (hp.trans (queuesKept_hazard ..)) hp
      · exact .refl c
    · exact .refl c
  exact hd.trans (.of_ctxs rfl)

theorem queuesKept_vigilJudge (m u : Nat) : QueuesKept c (vigilJudge m c u) := by
  unfold vigilJudge
  split
  · exact .refl c
  · split_ifs
    · exact .refl c
    · exact queuesKept_hazard ..
    · extract_lets h
      exact .ite (.refl c) (.ite (queuesKept_addObj ..) (queuesKept_hazard ..))

theorem queuesKept_vigilMark (m u : Nat) : QueuesKept c (vigilMark m c u) := by
  unfold vigilMark
  extract_lets r _ d
  have hd : QueuesKept c d := .of_ctxs rfl
  split
  · exact hd.trans (queuesKept_hazard ..)
  · exact hd

/-- A unit of an access, through a port where it goes through one. -/
theorem queuesKept_touched (p : Prop) [Decidable p] (m port : Nat) (wrote : Bool) (u : Nat) :
    QueuesKept c (if p then portTouch c m port wrote u else c) := .ite (queuesKept_portTouch ..) (.refl c)

theorem queuesKept_vigilRead (m a n port : Nat) : QueuesKept c (vigilRead c m a n port) := by
  unfold vigilRead
  extract_lets d
  have hd : QueuesKept c d := by
    unfold d eccCount
    extract_lets k
    exact .ite (.refl c) (queuesKept_addObj ..)
  exact .ite (hd.trans (.foldl (fun c u => (queuesKept_touched c _ m port false u).trans (queuesKept_vigilJudge ..)) _ _)) hd

theorem queuesKept_vigilWrite (m a n port : Nat) : QueuesKept c (vigilWrite c m a n port) := by
  unfold vigilWrite
  extract_lets d
  have hd : QueuesKept c d := .of_ctxs rfl
  exact .ite (hd.trans (.foldl (fun c u => (queuesKept_touched c _ m port true u).trans (queuesKept_vigilMark ..)) _ _)) hd

theorem queuesKept_closeWindows (m : Memory) (a n : Nat) : QueuesKept c (closeWindows m c a n) := by
  unfold closeWindows
  split <;> exact .of_ctxs rfl

theorem queuesKept_shareCycles (a : Nat) : QueuesKept c (shareCycles c a) := by
  unfold shareCycles
  split <;> exact .of_ctxs rfl

theorem queuesKept_refuse (m target off : Nat) (rt : Right) (tag : Nat) : QueuesKept c (refuse c m target off rt tag) := by
  unfold refuse
  extract_lets d e
  have hd : QueuesKept c d := queuesKept_raise ..
  clear_value d
  exact hd.trans (.of_ctxs rfl)

theorem queuesKept_memError (m tag x : Nat) : QueuesKept c (memError c m tag x) := queuesKept_raise ..

theorem queuesKept_vigil (v : Vigil) : QueuesKept c { c with vigil := v } := .of_ctxs rfl

theorem queuesKept_gatedAccess (m a : Nat) : QueuesKept c (gatedAccess c m a) := by
  unfold gatedAccess
  split
  · exact (queuesKept_vigil c _).trans (queuesKept_raise ..)
  · exact .refl c

theorem queuesKept_noteGated (m a n : Nat) : QueuesKept c (noteGated c m a n) := by
  unfold noteGated
  split
  · exact queuesKept_gatedAccess ..
  · exact .refl c

theorem queuesKept_accHazard (m a : Nat) : QueuesKept c (accHazard c m a) := by
  unfold accHazard
  split
  · extract_lets g s t
    exact .ite (.refl c) (queuesKept_hazard ..)
  · exact .refl c

end

/-! ### Reads and atomics over the bus -/

section
variable (m : Memory) (c : Core) (k a n tag : Nat)

theorem queuesKept_busRead : QueuesKept c (busRead m c k a n tag).1 := by
  unfold busRead
  split
  · exact queuesKept_refuse ..
  · split
    · exact queuesKept_memError ..
    · extract_lets bs d
      have hd : QueuesKept c d := (((queuesKept_vigilRead ..).trans (queuesKept_accHazard ..)).trans (queuesKept_shareCycles ..)).trans
        (queuesKept_noteGated ..)
      exact hd.trans (.of_ctxs rfl)

theorem queuesKept_busAtomic (op : Nat) (bs : Bytes) : QueuesKept c (busAtomic m c k a op bs tag).1 := by
  unfold busAtomic
  extract_lets n
  split
  · exact queuesKept_refuse ..
  · split
    · exact queuesKept_gatedAccess ..
    · split
      · exact queuesKept_memError ..
      · exact (((queuesKept_vigilRead ..).trans (queuesKept_closeWindows ..)).trans (queuesKept_vigilWrite ..)).trans
          (queuesKept_shareCycles ..)

end

/-- Between two offsets of byte memory that lie close together there is nothing else. -/
theorem plainAt_between {a b : Nat} (ha : plainAt a) (hb : plainAt b) {x : Nat} (h1 : a ≤ x) (h2 : x ≤ b) (h : b < a + 512) : plainAt x := by
  simp only [plainAt, inHbm, inSlice, inStation, decide_eq_true_eq] at ha hb ⊢
  simp only [sliceBase] at ha hb ⊢
  omega

section
variable {m : Memory} {c : Core} {k a n tag : Nat}

theorem mapByte_plain (h : plainAt a) : mapByte m c a = mread m a := by
  obtain ⟨-, h2, h3, h4⟩ := plainAt_not_control h
  simp [mapByte, h2, h3, h4]

theorem busRead_refused (h : refusalOf c k a n .r ≠ none) : (busRead m c k a n tag).2 = .refused := by
  obtain ⟨t, ht⟩ := Option.ne_none_iff_exists'.1 h
  simp only [busRead, ht]

theorem busRead_bad {x : Nat} (h : refusalOf c k a n .r = none) (hx : eccBad c [a] n = some x) :
    busRead m c k a n tag = (memError c k tag x, .bad) := by simp only [busRead, h, hx]

/-- A read of byte memory that nothing stops, in which no block is gated (R183, R187, R410). -/
theorem busRead_plain (h0 : plainAt a) (h1 : plainAt (a + (n - 1))) (hn : n ≤ 512) (h : refusalOf c k a n .r = none)
    (he : eccBad c [a] n = none) (hb : ∀ i, i < n → gatedAt c (a + i) = false) :
    (busRead m c k a n tag).2 = .data (mreadN m a n) := by
  simp only [busRead, h, he, ReadAns.data.injEq]
  refine List.map_congr_left fun i hi => ?_
  rw [List.mem_range] at hi
  rw [hb i hi, mapByte_plain (plainAt_between h0 h1 (by omega) (by omega) (by omega))]
  rfl

theorem busAtomic_refused {op : Nat} {bs : Bytes} (h : refusalOf c k a (atomicTarget op) .a ≠ none) :
    (busAtomic m c k a op bs tag).2 = (m, .refused) := by
  obtain ⟨t, ht⟩ := Option.ne_none_iff_exists'.1 h
  simp only [busAtomic, ht]

/-- An atomic that nothing stops (R206). -/
theorem busAtomic_carried {op : Nat} {bs : Bytes} (h : refusalOf c k a (atomicTarget op) .a = none) (hg : gatedAt c a = false)
    (he : eccBad c [a] (atomicTarget op) = none) :
    (busAtomic m c k a op bs tag).2 = (mwriteN m a (leBytes (atomicTarget op) (atomicNew op (mnum m a (atomicTarget op)) bs)),
      .data (leBytes (atomicTarget op) (mnum m a (atomicTarget op)))) := by
  simp [busAtomic, h, hg, he]

end

theorem raised_memError (c : Core) (m tag x : Nat) :
    tgetD (memError c m tag x).ev.counts 0x0703 0 = min (tgetD c.ev.counts 0x0703 0 + 1) (2 ^ 32 - 1) := by
  rw [memError, raise_counts, tgetD_tset_self]

/-! ### What this module answers -/

/-- A response queued behind what a context holds (R296, R302). -/
theorem answered_reply {c d : Core} {s : State} (h : QueuesKept c d) (m : Memory) (i : Nat) {typ : Nat} (p : Packet) (status : Nat)
    (bs : Bytes) (ht : typ ≠ 0 ∧ typ ≠ 8) :
    Goals.answered c { s with core := reply d i typ p status bs, mem := m } i typ p status bs := by
  have hpl : (if typ = 0 ∨ typ = 8 then bs else padUnits bs) = padUnits bs := if_neg (by omega)
  refine ⟨_, (congrArg Ctx.queue (ctxOf_setCtx ..)).trans (congrArg (· ++ _) (h.queue i)), rfl, rfl, rfl, rfl, hpl, h.peer i⟩

/-- The kinds of sync operations by the code of their packets (R236). -/
theorem syncKind_of_op {o : Nat} {k : SyncKind} (hk : (o, k) ∈ [(0, SyncKind.add), (1, .sub), (2, .tak), (3, .wat)]) :
    o ≤ 3 ∧ (if o = 0 then SyncKind.add else if o = 1 then .sub else if o = 2 then .tak else .wat) = k := by
  simp only [List.mem_cons, Prod.mk.injEq, List.not_mem_nil, or_false] at hk
  rcases hk with ⟨rfl, rfl⟩ | ⟨rfl, rfl⟩ | ⟨rfl, rfl⟩ | ⟨rfl, rfl⟩
  all_goals decide

section
variable {s : State} {rx : Rx} (h : Goals.inTurn s rx)
include h

theorem exec_fabricWrite (ht : rx.pkt.typ = 0) (ha : addrHere (Goals.taken s rx) rx.pkt (max 1 rx.pkt.payload.length) = true) :
    let w := busWrite s.mem (Goals.taken s rx) (peerMaster rx.pkt) (gaOff rx.pkt.addr) rx.pkt.payload 0
    exec (.fabricWrite rx) s
      = .next { s with core := if w.2.2 = .ok then w.1 else sendAck w.1 rx.pkt.dstCtx rx.pkt.seq w.2.2.code, mem := w.2.1 } := by
  have he : exec (.fabricWrite rx) s = execFabricWrite rx s := rfl
  rw [he, execFabricWrite, onBoth_powered _ (runs_powered h.1)]
  simp only [accept_inTurn h, ht, ha]
  rfl

/-- How a response of a type answers what a bus access found (R302). -/
def answerWith (c : Core) (i typ : Nat) (p : Packet) (a : ReadAns) : Core := match a with
  | .refused => reply c i typ p Status.access.code []
  | .bad => reply c i typ p Status.integrity.code []
  | .data bs => reply c i typ p 0 bs

theorem exec_fabricRead {n : Nat} (hn : n = leNat (rx.pkt.payload.take 4)) (ht : rx.pkt.typ = 1) (h0 : 0 < n) (h1 : n ≤ 512)
    (ha : addrHere (Goals.taken s rx) rx.pkt n = true) :
    let b := busRead s.mem (Goals.taken s rx) (peerMaster rx.pkt) (gaOff rx.pkt.addr) n 0
    exec (.fabricRead rx) s = .next (withCore s (answerWith b.1 rx.pkt.dstCtx 2 rx.pkt b.2)) := by
  have he : exec (.fabricRead rx) s = execFabricRead rx s := rfl
  have hgo : ¬((!addrHere (Goals.taken s rx) rx.pkt n) = true ∨ 512 < n ∨ n = 0) := by
    rw [ha]
    simp only [Bool.not_true, Bool.false_eq_true, false_or]
    omega
  rw [he, execFabricRead, onCoreMem_powered _ (runs_powered h.1)]
  simp only [accept_inTurn h, ← hn, if_neg (not_not_intro ht), if_neg hgo]
  rfl

theorem exec_fabricAtomic (ht : rx.pkt.typ = 3) (hop : rx.pkt.op ≤ 4) (hl : atomicOperand rx.pkt.op ≤ rx.pkt.payload.length)
    (ha : addrHere (Goals.taken s rx) rx.pkt (atomicTarget rx.pkt.op) = true) (h0 : gaOff rx.pkt.addr % atomicTarget rx.pkt.op = 0)
    (hp : plainAt (gaOff rx.pkt.addr)) :
    let b := busAtomic s.mem (Goals.taken s rx) (peerMaster rx.pkt) (gaOff rx.pkt.addr) rx.pkt.op
      (rx.pkt.payload.take (atomicOperand rx.pkt.op)) 0
    exec (.fabricAtomic rx) s = .next { s with core := answerWith b.1 rx.pkt.dstCtx 4 rx.pkt b.2.2, mem := b.2.1 } := by
  have he : exec (.fabricAtomic rx) s = execFabricAtomic rx s := rfl
  have hmem : (inHbm (gaOff rx.pkt.addr) || inSlice (gaOff rx.pkt.addr) || inStation (gaOff rx.pkt.addr)) = true := by
    simpa only [plainAt, Bool.or_eq_true, or_assoc] using hp
  have hgo : ¬((!addrHere (Goals.taken s rx) rx.pkt (atomicTarget rx.pkt.op)) = true ∨ gaOff rx.pkt.addr % atomicTarget rx.pkt.op ≠ 0
      ∨ 4 < rx.pkt.op ∨ rx.pkt.payload.length < atomicOperand rx.pkt.op
      ∨ (!(inHbm (gaOff rx.pkt.addr) || inSlice (gaOff rx.pkt.addr) || inStation (gaOff rx.pkt.addr))) = true) := by
    rw [ha, hmem]
    simp only [Bool.not_true, Bool.false_eq_true, false_or, or_false]
    omega
  rw [he, execFabricAtomic, onBoth_powered _ (runs_powered h.1)]
  simp only [accept_inTurn h, if_neg (not_not_intro ht), if_neg hgo]
  rfl

theorem exec_fabricSync {k : SyncKind} (ht : rx.pkt.typ = 5)
    (hk : (rx.pkt.op, k) ∈ [(0, SyncKind.add), (1, .sub), (2, .tak), (3, .wat)]) (hm : bits rx.pkt.addr 16 12 = ownMod s.core) :
    let op : SyncOp := { issuer := peerMaster rx.pkt, kind := k, sem := bits rx.pkt.addr 0 12, n := leNat (rx.pkt.payload.take 4),
                         cookie := leNat ((rx.pkt.payload.drop 4).take 4), slot := leNat ((rx.pkt.payload.drop 8).take 4), back := .unit }
    let a := applyOp (Goals.taken s rx) (bits rx.pkt.addr 12 3) op
    exec (.fabricSync rx) s = .next (withCore s (reply a.1 rx.pkt.dstCtx 6 rx.pkt a.2.code [])) := by
  have he : exec (.fabricSync rx) s = execFabricSync rx s := rfl
  obtain ⟨hop, hkind⟩ := syncKind_of_op hk
  have hgo : ¬(bits rx.pkt.addr 16 12 ≠ ownMod s.core ∨ 3 < rx.pkt.op) :=
    fun hbad => hbad.elim (fun hne => hne hm) (Nat.not_lt.2 hop)
  rw [he, execFabricSync, onCore_powered _ (runs_powered h.1)]
  simp only [accept_inTurn h, if_neg (not_not_intro ht), if_neg hgo, hkind]
  rfl

end

/-! ### What the answers bring -/

/-- The core once a response is matched to its request, which is gone (R302). -/
def requestTaken (c : Core) (tag : Nat) : Core := { c with fab := { c.fab with reqs := tdel c.fab.reqs tag } }

theorem takeReq_some {c : Core} {tag i a : Nat} {cause : Cause} (hq : tget c.fab.reqs tag = some (i, a, cause)) :
    takeReq c tag = (requestTaken c tag, some (a, cause)) := by
  simp only [takeReq, hq]
  rfl

section
variable (c : Core)

theorem requests_foldl {α : Type} {f : Core → α → Core} (h : ∀ c x, (f c x).fab.reqs = c.fab.reqs) (l : List α) (c : Core) :
    (l.foldl f c).fab.reqs = c.fab.reqs := by
  induction l generalizing c with
  | nil => rfl
  | cons x r ih => exact (ih _).trans (h c x)

theorem Noted.requests {c d : Core} (h : Noted c d) : d.fab.reqs = c.fab.reqs := congrArg (·.fab.reqs) h.parts

theorem requests_signalFull (g d : Nat) : (signalFull c g d).fab.reqs = c.fab.reqs := by
  unfold signalFull
  extract_lets r rec' e
  split
  · split
    · exact requests_foldl (fun c f => (quiet_holdOp c f _).toNoted.requests) _ e
    · rfl
  · split <;> rfl

/-- What a faulted stream still signals and poisons leaves the module's requests waiting (R202). -/
theorem requests_settleFault (g st : Nat) : (settleFault c g st).fab.reqs = c.fab.reqs := by
  unfold settleFault
  extract_lets x d due c1 fields c2
  have h1 : c1.fab.reqs = c.fab.reqs := requests_foldl (fun c _ => requests_signalFull c g d) due c
  have h2 : c2.fab.reqs = c1.fab.reqs := by
    unfold c2
    split
    · exact requests_foldl (fun c f => (quiet_holdPoison c f _ g 5).toNoted.requests) fields c1
    · rfl
  split
  · rfl
  · split
    · exact (quiet_holdPoison c2 _ _ g 5).toNoted.requests.trans (h2.trans h1)
    · exact h2.trans h1

theorem requests_ackXfer (g st x row : Nat) : (ackXfer c g st x row).fab.reqs = c.fab.reqs := requests_settleFault ..

theorem requests_vigilWrite (m a n port : Nat) : (vigilWrite c m a n port).fab.reqs = c.fab.reqs := by rw [vigilWrite_parts]; rfl

end

/-- A status is found again by its code (R236). -/
theorem status_of_code (st : Status) : (([Status.ok, .busy, .state, .range, .access, .noctx, .deadline, .profile, .width, .auth, .integrity,
    .lost, .taken].find? fun x => x.code = st.code).getD .range) = st := by cases st <;> rfl

section
variable {s : State} {rx : Rx} (h : Goals.inTurn s rx)
include h

theorem exec_readData {i a g st x row off n : Nat} (ht : rx.pkt.typ = 2) (hs : rx.pkt.status = 0)
    (hq : tget (Goals.taken s rx).fab.reqs rx.pkt.opTag = some (i, a, .read g st x row off n)) :
    let w := putPiece s.mem (requestTaken (Goals.taken s rx) rx.pkt.opTag) g st row off (rx.pkt.payload.take n)
    exec (.readData rx) s = .next { s with core := ackXfer w.1 g st x row, mem := w.2 } := by
  have he : exec (.readData rx) s = execReadData rx s := rfl
  rw [he, execReadData, onBoth_powered _ (runs_powered h.1)]
  simp only [accept_inTurn h, if_neg (not_not_intro ht), takeReq_some hq, if_neg (not_not_intro hs)]

theorem exec_atomicRet {i a g st x row : Nat} (ht : rx.pkt.typ = 4) (hs : rx.pkt.status = 0)
    (hq : tget (Goals.taken s rx).fab.reqs rx.pkt.opTag = some (i, a, .atomic g st x row)) :
    let d := (strm (stn s.core g) st).active
    let place := stBase g + bits (sArg d) 0 44 + row * atomicTarget (bits (sArg d) 60 4)
    let old := rx.pkt.payload.take (atomicTarget (bits (sArg d) 60 4))
    let c := vigilWrite (requestTaken (Goals.taken s rx) rx.pkt.opTag) g place old.length 3
    exec (.atomicRet rx) s
      = .next { s with core := ackXfer (addObj c Key.streamBytes old.length) g st x row, mem := mwriteN s.mem place old } := by
  have he : exec (.atomicRet rx) s = execAtomicRet rx s := rfl
  rw [he, execAtomicRet, onBoth_powered _ (runs_powered h.1)]
  simp only [accept_inTurn h, if_neg (not_not_intro ht), takeReq_some hq, if_neg (not_not_intro hs)]
  rfl

theorem exec_syncReply {i a g pc : Nat} {st : Status} (ht : rx.pkt.typ = 6) (hs : rx.pkt.status = st.code)
    (hq : tget (Goals.taken s rx).fab.reqs rx.pkt.opTag = some (i, a, .sync (.tak g pc) none)) :
    let c := requestTaken (Goals.taken s rx) rx.pkt.opTag
    exec (.syncReply rx) s = .next (withCore s { c with net := c.net ++ [.reply (.tak g pc) st] }) := by
  have he : exec (.syncReply rx) s = execSyncReply rx s := rfl
  rw [he, execSyncReply, onCore_powered _ (runs_powered h.1)]
  simp only [accept_inTurn h, if_neg (not_not_intro ht), takeReq_some hq, hs]
  exact congrArg (fun v => Host.Outcome.next (withCore s (awayReply (requestTaken (Goals.taken s rx) rx.pkt.opTag) (.tak g pc) v)))
    (status_of_code st)

theorem exec_fabricWatch {x : Proxy} (ht : rx.pkt.typ = 7) (hx : tget (Goals.taken s rx).fab.proxies rx.pkt.opTag = some x)
    (hw : x.waiter ≠ goneWaiter) :
    let c := Goals.taken s rx
    exec (.fabricWatch rx) s = .next (withCore s
      { c with fab := { c.fab with proxies := tdel c.fab.proxies rx.pkt.opTag },
               net := c.net ++ [.watch x.waiter x.slot (parseWatch rx.pkt.payload)] }) := by
  have he : exec (.fabricWatch rx) s = execFabricWatch rx s := rfl
  rw [he, execFabricWatch, onCore_powered _ (runs_powered h.1)]
  simp only [accept_inTurn h, hx, if_neg (not_not_intro ht), if_neg hw]
  rfl

end

theorem remoteAnswersArrive : Goals.RemoteAnswersArrive := by
  intro s rx h c p free
  refine ⟨fun i a g st x row off n ht hs hq => exec_readData h ht hs hq, fun i a g st x row ht hs hq => ?_,
    fun i a g pc st ht hs hq => exec_syncReply h ht hs hq, fun x ht hx hw => exec_fabricWatch h ht hx hw⟩
  intro d
  refine ⟨_, exec_atomicRet h ht hs hq, rfl, ?_⟩
  rw [requests_ackXfer, addObj_fab, requests_vigilWrite]
  exact tget_tdel_self ..

/-! ### The requests, clause by clause -/

/-- A cumulative acknowledgement with a status leaves the module (R294, R302). -/
theorem sendAck_sent (c : Core) (i seq status : Nat) :
    ∃ port q, OutMsg.control port q ∈ (sendAck c i seq status).host.out ∧ q.typ = 9 ∧ q.seq = seq ∧ q.status = status := by
  refine ⟨egressPort c i, ackPkt c i 9 seq status, ?_, rfl, rfl, rfl⟩
  simp only [sendAck, sendOf, sendControl, send_out, List.mem_append, List.mem_singleton, or_true]

section
variable {s : State} {rx : Rx} (h : Goals.inTurn s rx)
include h

theorem fabricWrite_served (ht : rx.pkt.typ = 0) (hne : rx.pkt.payload ≠ [])
    (ha : addrHere (Goals.taken s rx) rx.pkt rx.pkt.payload.length = true) (ho : plainAt (gaOff rx.pkt.addr)) :
    (refusalOf (Goals.taken s rx) (peerMaster rx.pkt) (gaOff rx.pkt.addr) rx.pkt.payload.length .w = none →
      gatedIn (Goals.taken s rx) (gaOff rx.pkt.addr) rx.pkt.payload.length = none → NextWith (exec (.fabricWrite rx) s) fun t =>
        t.mem = mwriteN s.mem (gaOff rx.pkt.addr) rx.pkt.payload ∧ BytesKept s t (gaOff rx.pkt.addr) rx.pkt.payload.length
          ∧ t.core.st = s.core.st)
    ∧ (refusalOf (Goals.taken s rx) (peerMaster rx.pkt) (gaOff rx.pkt.addr) rx.pkt.payload.length .w ≠ none →
      NextWith (exec (.fabricWrite rx) s) fun t =>
        t.mem = s.mem ∧ ∃ port q, OutMsg.control port q ∈ t.core.host.out ∧ q.typ = 9 ∧ q.seq = rx.pkt.seq ∧ q.status = 4) := by
  have hlen : max 1 rx.pkt.payload.length = rx.pkt.payload.length := max_eq_right (List.length_pos_of_ne_nil hne)
  have hexec := exec_fabricWrite h ht (by rwa [hlen])
  refine ⟨fun hr hg => ?_, fun hr => ?_⟩
  · obtain ⟨hacc, hw⟩ := busWrite_plain (m := s.mem) (tag := 0) ho hr hg
    generalize busWrite s.mem _ _ _ _ 0 = w at hexec hacc hw
    simp only [hw, if_true] at hexec
    exact ⟨_, hexec, rfl, bytesKept_of_write rfl rfl, hacc.st⟩
  · have hw := busWrite_refused (m := s.mem) (tag := 0) hr
    generalize busWrite s.mem _ _ _ _ 0 = w at hexec hw
    simp only [hw, reduceCtorEq, if_false] at hexec
    exact ⟨_, hexec, rfl, sendAck_sent ..⟩

theorem fabricRead_served {n : Nat} (hn : n = leNat (rx.pkt.payload.take 4)) (ht : rx.pkt.typ = 1) (h0 : 0 < n) (h1 : n ≤ 512)
    (ha : addrHere (Goals.taken s rx) rx.pkt n = true) (ho : plainAt (gaOff rx.pkt.addr)) (ho' : plainAt (gaOff rx.pkt.addr + (n - 1)))
    (hb : ∀ i, i < n → gatedAt (Goals.taken s rx) (gaOff rx.pkt.addr + i) = false) :
    let c := Goals.taken s rx
    let i := rx.pkt.dstCtx
    let refusal := refusalOf c (peerMaster rx.pkt) (gaOff rx.pkt.addr) n .r
    (refusal = none → eccBad c [gaOff rx.pkt.addr] n ≠ none → NextWith (exec (.fabricRead rx) s) fun t =>
        Goals.answered c t i 2 rx.pkt Status.integrity.code [] ∧ t.mem = s.mem ∧ Goals.raised s t 0x0703)
      ∧ (refusal = none → eccBad c [gaOff rx.pkt.addr] n = none → NextWith (exec (.fabricRead rx) s) fun t =>
        Goals.answered c t i 2 rx.pkt 0 (mreadN s.mem (gaOff rx.pkt.addr) n) ∧ t.mem = s.mem ∧ t.core.st = s.core.st)
      ∧ (refusal ≠ none → NextWith (exec (.fabricRead rx) s) fun t => Goals.answered c t i 2 rx.pkt 4 [] ∧ t.mem = s.mem) := by
  intro c i refusal
  have hexec := exec_fabricRead h hn ht h0 h1 ha
  have hq := queuesKept_busRead s.mem (Goals.taken s rx) (peerMaster rx.pkt) (gaOff rx.pkt.addr) n 0
  refine ⟨fun hr he => ?_, fun hr he => ?_, fun hr => ?_⟩
  · obtain ⟨x, hx⟩ := Option.ne_none_iff_exists'.1 he
    rw [busRead_bad hr hx] at hexec hq
    exact ⟨_, hexec, answered_reply hq s.mem i rx.pkt _ [] (by decide), rfl, raised_memError ..⟩
  · have hd := busRead_plain (m := s.mem) (tag := 0) ho ho' h1 hr he hb
    have hacc := accessed_busRead (Goals.taken s rx) s.mem (peerMaster rx.pkt) (gaOff rx.pkt.addr) n 0
    generalize busRead s.mem _ _ _ n 0 = b at hexec hq hd hacc
    simp only [hd] at hexec
    exact ⟨_, hexec, answered_reply hq s.mem i rx.pkt _ _ (by decide), rfl, hacc.st⟩
  · have hd := busRead_refused (m := s.mem) (tag := 0) hr
    generalize busRead s.mem _ _ _ n 0 = b at hexec hq hd
    simp only [hd] at hexec
    exact ⟨_, hexec, answered_reply hq s.mem i rx.pkt _ [] (by decide), rfl⟩

theorem fabricAtomic_served (ht : rx.pkt.typ = 3) (hop : rx.pkt.op ≤ 4) (hl : atomicOperand rx.pkt.op ≤ rx.pkt.payload.length)
    (ha : addrHere (Goals.taken s rx) rx.pkt (atomicTarget rx.pkt.op) = true) (h0 : gaOff rx.pkt.addr % atomicTarget rx.pkt.op = 0)
    (hp : plainAt (gaOff rx.pkt.addr)) (hg : gatedAt (Goals.taken s rx) (gaOff rx.pkt.addr) = false)
    (he : eccBad (Goals.taken s rx) [gaOff rx.pkt.addr] (atomicTarget rx.pkt.op) = none) :
    let c := Goals.taken s rx
    let i := rx.pkt.dstCtx
    let o := gaOff rx.pkt.addr
    let n := atomicTarget rx.pkt.op
    (refusalOf c (peerMaster rx.pkt) o n .a = none → NextWith (exec (.fabricAtomic rx) s) fun t =>
        t.mem = mwriteN s.mem o (leBytes n (atomicNew rx.pkt.op (mnum s.mem o n) (rx.pkt.payload.take (atomicOperand rx.pkt.op))))
          ∧ BytesKept s t o n ∧ Goals.answered c t i 4 rx.pkt 0 (leBytes n (mnum s.mem o n)))
      ∧ (refusalOf c (peerMaster rx.pkt) o n .a ≠ none → NextWith (exec (.fabricAtomic rx) s) fun t =>
        Goals.answered c t i 4 rx.pkt 4 [] ∧ t.mem = s.mem) := by
  intro c i o n
  have hexec := exec_fabricAtomic h ht hop hl ha h0 hp
  have hq := queuesKept_busAtomic s.mem (Goals.taken s rx) (peerMaster rx.pkt) (gaOff rx.pkt.addr) 0 rx.pkt.op
    (rx.pkt.payload.take (atomicOperand rx.pkt.op))
  refine ⟨fun hr => ?_, fun hr => ?_⟩
  · have hd := busAtomic_carried (m := s.mem) (tag := 0) (bs := rx.pkt.payload.take (atomicOperand rx.pkt.op)) hr hg he
    generalize busAtomic s.mem _ _ _ _ _ 0 = b at hexec hq hd
    simp only [hd] at hexec
    exact ⟨_, hexec, rfl, bytesKept_of_write rfl (length_leBytes ..), answered_reply hq _ i rx.pkt _ _ (by decide)⟩
  · have hd := busAtomic_refused (m := s.mem) (tag := 0) (bs := rx.pkt.payload.take (atomicOperand rx.pkt.op)) hr
    generalize busAtomic s.mem _ _ _ _ _ 0 = b at hexec hq hd
    simp only [hd] at hexec
    exact ⟨_, hexec, answered_reply hq _ i rx.pkt _ [] (by decide), rfl⟩

end

theorem remoteRequestsAreServed : Goals.RemoteRequestsAreServed := by
  intro s rx h c p i o m mem
  refine ⟨fun ht hne ha ho hg => ?_, fun ht h0 h1 ha ho ho' _ hb => fabricRead_served h rfl ht h0 h1 ha ho ho' hb,
    fun ht hop hl ha hal ho hg he => fabricAtomic_served h ht hop hl ha hal ho hg he, fun k ht hk hm => exec_fabricSync h ht hk hm⟩
  obtain ⟨hok, hrefused⟩ := fabricWrite_served h ht hne ha ho
  exact ⟨fun hr => hok hr hg, hrefused⟩

/-- Settles O36: a packet taken in its turn is one bus access or one sync operation under the flow's master (`exec_fabricWrite` to
`exec_fabricSync`), whose answer stands behind what the flow's queue held (`answered_reply`); a response finds its request by its tag. -/
theorem remoteRequests : Obligations.RemoteRequests := ⟨remoteRequestsAreServed, remoteAnswersArrive⟩

end Sys2Proof.Machine

namespace Sys2Proof.Machine

/-! ## A session's operation that leaves on its own context (O50)

A request is heard before it is carried out: its session's context is given the tick and the payload bytes (`hearCtx`). The counterexample
keeps two contexts of the flow to module 2 out of their rising order, and the second has the number of the session. Hearing the request
puts that record in front, so the operation leaves on it, where the hypothesis about the flow had found the other one. -/

/-- The flow to module 2 on two contexts, out of order. -/
def swappedCtxs : Tab Ctx :=
  [(5, { Ctx.reset with state := 1, peerMod := 2 }), (2, { Ctx.reset with state := 1, peerMod := 2 })]

/-- A module that runs an Almanac, with those contexts, the session on the second of them, and the egress port's table open to it. -/
def swappedState : State :=
  let c := State.reset.core
  withCore State.reset { c with
    dict := [(Key.almanacState, 4)],
    power := { c.power with stage := true, held := false },
    acc := { c.acc with entries := [(139 * 64 + 1, { value := wholeEntry 139 0x1000 0xF000, writer := .claim })] },
    fab := { c.fab with ctxs := swappedCtxs },
    host := { c.host with sessions := [(2, subscriber)] } }

/-- The session's next request. -/
def nextHdr : Hdr := { ctx := 2, seq := 8, port := 1, tagOk := true, udp := 50471, len := 0, source := 99 }

/-- Semaphore 0 of field 0 of module 2 (R214). -/
def awayName : Nat := 2 * 2 ^ 16

/-- How many packets context 5 holds behind an outcome, if there is one. -/
def queuedOnFirst (o : Out) : Option Nat := match o with
  | .next t => some (ctxOf t.core 5).queue.length
  | _ => none

/-- The operation does not leave on context 5. -/
theorem queuedOnFirst_syncSigAdd : queuedOnFirst (exec (.syncSigAdd nextHdr awayName 1) swappedState) = some 0 := by decide +kernel

theorem not_sessionsOperateSemaphores : ¬ Goals.SessionsOperateSemaphores := by
  intro h
  obtain ⟨-, -, -, -, -, haway⟩ := h swappedState nextHdr subscriber awayName 1 0
    { valid := false, poison := false, owner := 0, cap := 0, count := 0, cause := 0, pframe := 0 } (by decide +kernel)
  obtain ⟨t, ht, -, -, -, -, p, hp, -⟩ := haway (.syncSigAdd nextHdr awayName 1) .add (by simp) 5 (by decide +kernel) (by decide +kernel)
    (by decide +kernel) (by decide +kernel) (by decide) (by decide +kernel) (by decide +kernel)
  have hqueued := queuedOnFirst_syncSigAdd
  rw [ht, queuedOnFirst, hp] at hqueued
  exact absurd hqueued (by simp)

/-- Refutes O50 in its clause on another module's semaphore: the operation leaves on the session's own context where hearing the request
reorders the contexts that `hostFlow` looks through (`queuedOnFirst_syncSigAdd`). -/
theorem not_sessions : ¬ Obligations.Sessions := by
  rintro ⟨-, -, hoperate, -⟩
  exact not_sessionsOperateSemaphores hoperate

end Sys2Proof.Machine

namespace Sys2Proof.Machine

/-! ## What a sync unit is after an operation (O28, O29, O30; R217 to R227, R354) -/

theorem foldl_keeps {α β : Type} (p : Core → β) {f : Core → α → Core} (h : ∀ c x, p (f c x) = p c) (l : List α) (c : Core) :
    p (l.foldl f c) = p c := by
  induction l generalizing c with
  | nil => rfl
  | cons x r ih => exact (ih _).trans (h c x)

section
variable (c : Core) (f s : Nat)

theorem syncU_of_fl {c d : Core} (h : d.fl = c.fl) (f : Nat) : syncU d f = syncU c f := by rw [syncU, fld, h, syncU, fld]

theorem semOf_of_fl {c d : Core} (h : d.fl = c.fl) (f k : Nat) : semOf d f k = semOf c f k := by rw [semOf, syncU_of_fl h, semOf]

theorem semOf_setSem_ne (x : Sem) {k : Nat} (h : k ≠ s) : semOf (setSem c f s x) f k = semOf c f k := by
  rw [semOf, syncU_setSem, semOf]
  exact tgetD_tset_ne _ _ _ h

theorem vigilSig_fl (m : Nat) : (vigilSig c f s m).fl = c.fl := by unfold vigilSig; split <;> rfl

theorem sendWatch_host (dest slot : Nat) (m : WatchMsg) : (sendWatch c dest slot m).host = c.host := by
  unfold sendWatch
  extract_lets d
  have hd : d.host = c.host := by unfold d; split <;> rfl
  split
  · split
    · exact hd
    · exact hd
  · exact hd

theorem vigilPass_host (m : Nat) : (vigilPass c f s m).host = c.host := by
  unfold vigilPass
  split
  · split <;> rfl
  · rfl

theorem vigilSig_host (m : Nat) : (vigilSig c f s m).host = c.host := by unfold vigilSig; split <;> rfl

/-- An overflow or underflow changes of its unit the LAST_FAULT registers alone (R220). -/
theorem syncU_semFault (op : SyncOp) (kind : Nat) : ∃ r, syncU (semFault c f op kind) f = { syncU c f with lastFault := r } := by
  unfold semFault
  extract_lets x r u d e
  exact ⟨r, (syncU_of_fl (accessed_raise e ..).fl f).trans (syncU_setSync c f _)⟩

/-- Whether a watch on the semaphore fires at a count (R226). -/
def watchDue (s n : Nat) (p : Nat × Watch) : Bool := decide (p.2.sem = s) && decide (p.2.thresh ≤ n)

theorem watchDue_eq_false {s n : Nat} {p : Nat × Watch} : watchDue s n p = false ↔ (p.2.sem = s → n < p.2.thresh) := by
  simp only [watchDue, Bool.and_eq_false_iff, decide_eq_false_iff_not, Nat.not_le, imp_iff_not_or]

/-- The watches whose condition holds are freed, and the wait slots' messages are on their way (R226, R229). -/
theorem syncU_evalWatches : ∃ l, syncU (evalWatches c f s) f
    = { syncU c f with watches := (syncU c f).watches.filter fun p => !watchDue s (semOf c f s).count p, waits := l } := by
  unfold evalWatches
  extract_lets n hit due slots l d e
  have he : e.fl = d.fl := foldl_sendWatch_fl d _ (fun d p => (vigilPass_fl _ _ _ _).trans (sendWatch_fl d _ _ _)) hit
  have hs := foldl_sendWatch_fl e (fun c x => sendWatch c x.unit 0 (slotMsg c f x .ok 0 n)) (fun d x => sendWatch_fl d _ _ _) slots
  exact ⟨_, (syncU_of_fl (hs.trans he) f).trans (syncU_setSync c f _)⟩

end

/-! ### What a unit can do with a permitted operation (R219) -/

/-- The outcomes of a permitted operation: it is refused and leaves the units; an overflow or underflow; a count moved, and the watches and
gates judged; a watch registered, and they are judged; a poisoning or a gate judgement, which take their turn elsewhere. -/
inductive Applied (c : Core) (f : Nat) (op : SyncOp) : Core × Status → Prop
  | refused {d : Core} {st : Status} (h : d.fl = c.fl) (hs : d.host = c.host) (hst : st ≠ .ok) : Applied c f op (d, st)
  | faulted (kind : Nat) : Applied c f op (semFault c f op kind, .range)
  | counted {d : Core} {n : Nat} (hd : d.fl = (setSem c f op.sem { semOf c f op.sem with count := n }).fl) (hs : d.host = c.host)
      (hn : (semOf c f op.sem).count ≤ (semOf c f op.sem).cap → n ≤ (semOf c f op.sem).cap) : Applied c f op (evalSem d f op.sem, .ok)
  | watching (w : Nat) (x : Watch) :
      Applied c f op (evalSem (setSync c f { syncU c f with watches := tset (syncU c f).watches w x }) f op.sem, .ok)
  | nothing (hk : op.kind = .poison ∨ op.kind = .gate) : Applied c f op (c, .ok)

theorem applied_applyTak (c : Core) (f : Nat) (op : SyncOp) : Applied c f op (applyTak c f op.sem op.n op.issuer) := by
  unfold applyTak
  extract_lets x
  split
  · exact .refused rfl rfl (by decide)
  · exact .counted (vigilPass_fl ..) (vigilPass_host ..) fun h => (Nat.sub_le _ _).trans h

theorem applied_applyWat (c : Core) (f : Nat) (op : SyncOp) : Applied c f op (applyWat c f op) := by
  unfold applyWat
  split
  · exact .refused rfl rfl (by decide)
  · exact .watching _ _

theorem applied_applyPermitted (c : Core) (f : Nat) (op : SyncOp) : Applied c f op (applyPermitted c f op) := by
  unfold applyPermitted
  extract_lets x bound
  split; · exact .refused rfl rfl (by decide)
  split; · exact .refused rfl rfl (by decide)
  split; · exact .refused rfl rfl (by decide)
  split
  · refine .refused ?_ ?_ (by decide)
    · split
      · exact sendWatch_fl c _ _ _
      · rfl
    · split
      · exact sendWatch_host c _ _ _
      · rfl
  split
  · split
    · exact .faulted 2
    · exact .counted (vigilSig_fl ..) (vigilSig_host ..) fun _ => Nat.not_lt.1 ‹_›
  · split
    · exact .faulted 1
    · exact .counted (vigilSig_fl ..) (vigilSig_host ..) fun h => (Nat.sub_le _ _).trans h
  · exact applied_applyTak c f op
  · exact applied_applyWat c f op
  · exact .nothing (.inl ‹_›)
  · exact .nothing (.inr ‹_›)

section
variable {c : Core} {f : Nat} {op : SyncOp}

theorem applyOp_permitted (h : semPermits c f op = true) :
    applyOp c f op = (errStatus (applyPermitted (countOp c f) f op).1 (applyPermitted (countOp c f) f op).2,
      (applyPermitted (countOp c f) f op).2) := if_pos h

theorem applyOp_refused (h : semPermits c f op = false) :
    applyOp c f op = (refuse (countOp c f) op.issuer (129 + f) (semAddr f op.sem) op.kind.right, .access) :=
  if_neg (c := semPermits c f op = true) (by rw [h]; decide)

end

/-! ### The counts that an operation leaves -/

/-- The queue of field `f`'s unit stays, and of its semaphores only counts changed, none past its capacity that was within it. -/
structure CountsMove (f : Nat) (c d : Core) : Prop where
  held : (syncU d f).held = (syncU c f).held
  sems : ∀ k, ∃ n, semOf d f k = { semOf c f k with count := n } ∧ ((semOf c f k).count ≤ (semOf c f k).cap → n ≤ (semOf c f k).cap)

namespace CountsMove

variable {f : Nat} {c d e : Core}

theorem trans (h : CountsMove f c d) (k : CountsMove f d e) : CountsMove f c e where
  held := k.held.trans h.held
  sems j := by
    obtain ⟨n, hn, hcap⟩ := h.sems j
    obtain ⟨n', hn', hcap'⟩ := k.sems j
    rw [hn] at hn' hcap'
    exact ⟨n', hn', fun hj => hcap' (hcap hj)⟩

theorem of_sems (hh : (syncU d f).held = (syncU c f).held) (hs : (syncU d f).sems = (syncU c f).sems) : CountsMove f c d :=
  ⟨hh, fun k => ⟨_, by rw [semOf, hs]; rfl, id⟩⟩

theorem of_fl (h : d.fl = c.fl) : CountsMove f c d := of_sems (by rw [syncU_of_fl h]) (by rw [syncU_of_fl h])

theorem refl (c : Core) : CountsMove f c c := of_fl rfl

end CountsMove

section
variable (c : Core) (f s : Nat)

theorem countsMove_setSem {n : Nat} (h : (semOf c f s).count ≤ (semOf c f s).cap → n ≤ (semOf c f s).cap) :
    CountsMove f c (setSem c f s { semOf c f s with count := n }) where
  held := by rw [syncU_setSem]
  sems k := by
    by_cases hk : k = s
    · subst hk; exact ⟨n, semOf_setSem .., h⟩
    · exact ⟨_, by rw [semOf_setSem_ne c f s _ hk], id⟩

theorem countsMove_evalWatches : CountsMove f c (evalWatches c f s) := by
  obtain ⟨l, h⟩ := syncU_evalWatches c f s
  exact .of_sems (by rw [h]) (by rw [h])

theorem countsMove_evalGates (n : Nat) : CountsMove f c (evalGates c f s n) := by
  induction n generalizing c with
  | zero => exact .refl c
  | succ n ih =>
    rw [evalGates]
    split
    · exact .refl c
    · extract_lets x d u e
      have hd : CountsMove f c d := countsMove_setSem c f s fun h => (Nat.sub_le _ _).trans h
      have he : CountsMove f d e := .of_sems (by rw [syncU_setSync]) (by rw [syncU_setSync])
      exact ((hd.trans he).trans (countsMove_evalWatches e f s)).trans (ih _)

theorem countsMove_evalSem : CountsMove f c (evalSem c f s) :=
  ((countsMove_evalWatches c f s).trans (countsMove_evalGates _ f s _)).trans (.of_fl (readyCheck_fl _))

/-- A count moved to one within the capacity, and what follows (R219). -/
theorem countsMove_counted {d : Core} {n : Nat} (hd : d.fl = (setSem c f s { semOf c f s with count := n }).fl)
    (h : (semOf c f s).count ≤ (semOf c f s).cap → n ≤ (semOf c f s).cap) : CountsMove f c (evalSem d f s) :=
  ((countsMove_setSem c f s h).trans (.of_fl hd)).trans (countsMove_evalSem d f s)

theorem countsMove_semFault (op : SyncOp) (kind : Nat) : CountsMove f c (semFault c f op kind) := by
  obtain ⟨r, h⟩ := syncU_semFault c f op kind
  exact .of_sems (by rw [h]) (by rw [h])

theorem countsMove_applyPermitted (op : SyncOp) : CountsMove f c (applyPermitted c f op).1 := by
  have h := applied_applyPermitted c f op
  generalize applyPermitted c f op = r at h
  cases h with
  | refused h _ _ => exact .of_fl h
  | faulted kind => exact countsMove_semFault ..
  | counted hd _ hn => exact countsMove_counted c f op.sem hd hn
  | watching w x =>
    refine CountsMove.trans (d := setSync c f _) (.of_sems ?_ ?_) (countsMove_evalSem _ f _)
    all_goals rw [syncU_setSync]
  | nothing _ => exact .refl c

theorem countsMove_countOp : CountsMove f c (countOp c f) := .of_sems (by rw [syncU_countOp]) (by rw [syncU_countOp])

theorem countsMove_applyOp (op : SyncOp) : CountsMove f c (applyOp c f op).1 := by
  cases hp : semPermits c f op
  · rw [applyOp_refused hp]
    exact (countsMove_countOp c f).trans (.of_fl (accessed_refuse ..).fl)
  · rw [applyOp_permitted hp]
    exact ((countsMove_countOp c f).trans (countsMove_applyPermitted _ f op)).trans (.of_fl (errStatus_fl ..))

end

/-- Settles O30: every operation moves counts within their capacities (`countsMove_applyOp`). -/
theorem countsStayWithinCapacity : Obligations.CountsStayWithinCapacity := by
  intro c f op hc k
  obtain ⟨n, hn, hcap⟩ := (countsMove_applyOp c f op).sems k
  rw [hn]
  exact ⟨hcap (hc k), rfl, rfl⟩

/-! ### The watches that an operation leaves (O29; R226) -/

/-- Every watch on a semaphore waits for a count that is not reached. -/
def NoneDue (c : Core) (f s : Nat) : Prop := ∀ p ∈ (syncU c f).watches, p.2.sem = s → (semOf c f s).count < p.2.thresh

section
variable (c : Core) (f s : Nat)

theorem NoneDue.of_fl {c d : Core} {f s : Nat} (h : NoneDue c f s) (hd : d.fl = c.fl) : NoneDue d f s := by
  rw [NoneDue, syncU_of_fl hd, semOf_of_fl hd]
  exact h

theorem noneDue_evalWatches : NoneDue (evalWatches c f s) f s := by
  obtain ⟨l, h⟩ := syncU_evalWatches c f s
  have hs : semOf (evalWatches c f s) f s = semOf c f s := by rw [semOf, h, semOf]
  intro p hp hsem
  rw [h, List.mem_filter] at hp
  rw [hs]
  exact watchDue_eq_false.1 (by simpa using hp.2) hsem

theorem noneDue_evalGates (n : Nat) (h : NoneDue c f s) : NoneDue (evalGates c f s n) f s := by
  induction n generalizing c with
  | zero => exact h
  | succ n ih =>
    rw [evalGates]
    split
    · exact h
    · exact ih _ (noneDue_evalWatches _ f s)

theorem noneDue_evalSem : NoneDue (evalSem c f s) f s :=
  (noneDue_evalGates _ f s _ (noneDue_evalWatches c f s)).of_fl (readyCheck_fl _)

end

/-- Settles O29: whatever a unit answers with OK ends in a judgement of the watches (`noneDue_evalSem`). -/
theorem noWatchIsMissed : Obligations.NoWatchIsMissed := by
  intro c f op hok hk
  change NoneDue (applyOp c f op).1 f op.sem
  cases hp : semPermits c f op
  · rw [applyOp_refused hp] at hok
    cases hok
  · rw [applyOp_permitted hp] at hok ⊢
    refine NoneDue.of_fl ?_ (errStatus_fl ..)
    have hr := applied_applyPermitted (countOp c f) f op
    generalize applyPermitted (countOp c f) f op = r at hok hr
    cases hr with
    | refused _ _ hst => exact absurd hok hst
    | faulted => cases hok
    | counted => exact noneDue_evalSem _ _ _
    | watching => exact noneDue_evalSem _ _ _
    | nothing hkind => rcases hkind with hkind | hkind <;> simp [hkind] at hk

end Sys2Proof.Machine

namespace Sys2Proof.Machine

/-! ## The reply to an operation (O28; R219, R220, R437): sessions keep the places of their responses -/

/-- Every session is still open, with its key and its responses. -/
structure ResponsesKept (c d : Core) : Prop where
  sessions : ∀ k x, sessionOf c k = some x → ∃ y, sessionOf d k = some y ∧ y.key = x.key ∧ y.kept = x.kept

namespace ResponsesKept

variable {c d e : Core}

theorem of_sessions (h : d.host.sessions = c.host.sessions) : ResponsesKept c d :=
  ⟨fun k x hx => ⟨x, by rw [sessionOf, h]; exact hx, rfl, rfl⟩⟩

theorem refl (c : Core) : ResponsesKept c c := of_sessions rfl

theorem trans (h : ResponsesKept c d) (k : ResponsesKept d e) : ResponsesKept c e := by
  refine ⟨fun i x hx => ?_⟩
  obtain ⟨y, hy, h1, h2⟩ := h.sessions i x hx
  obtain ⟨z, hz, h3, h4⟩ := k.sessions i y hy
  exact ⟨z, hz, h3.trans h1, h4.trans h2⟩

theorem foldl {α : Type} {f : Core → α → Core} (h : ∀ c x, ResponsesKept c (f c x)) (l : List α) (c : Core) :
    ResponsesKept c (l.foldl f c) := by
  induction l generalizing c with
  | nil => exact refl c
  | cons x r ih => exact (h c x).trans (ih _)

end ResponsesKept

theorem sessionOf_setSession_ne (c : Core) {i k : Nat} (x : Session) (h : k ≠ i) : sessionOf (setSession c i x) k = sessionOf c k :=
  tget_tset_ne _ _ h

section
variable (c : Core)

theorem responsesKept_setSession {i : Nat} {x y : Session} (hx : sessionOf c i = some x) (hkey : y.key = x.key) (hkept : y.kept = x.kept) :
    ResponsesKept c (setSession c i y) := by
  refine ⟨fun k z hz => ?_⟩
  by_cases hk : k = i
  · subst hk
    obtain rfl : x = z := Option.some.inj (hx.symm.trans hz)
    exact ⟨y, sessionOf_setSession .., hkey, hkept⟩
  · exact ⟨z, (sessionOf_setSession_ne c y hk).trans hz, rfl, rfl⟩

theorem sentOn_host (i n : Nat) : (sentOn c i n).host = c.host := by unfold sentOn; split <;> rfl

theorem sendNote_sessions (i n : Nat) (r : Resp) : (sendNote c i n r).host.sessions = c.host.sessions := by
  unfold sendNote
  split
  · rw [send_sessions, sentOn_host]
  · rfl

theorem responsesKept_notifyOne (r : EvRec) (i : Nat) : ResponsesKept c (notifyOne r c i) := by
  unfold notifyOne
  split
  · exact .refl c
  · next x hx =>
    split_ifs
    · exact .refl c
    · exact responsesKept_setSession c hx rfl rfl
    · simp only [notify, hx]
      refine ResponsesKept.trans (d := setSession c i _) (responsesKept_setSession c hx ?_ ?_) (.of_sessions (sendNote_sessions ..))
      all_goals rfl

theorem responsesKept_logEvent (r : EvRec) : ResponsesKept c (logEvent c r) := by
  unfold logEvent
  extract_lets full lost _ d e g
  have hg : ResponsesKept c g := .of_sessions (by unfold g; split <;> rfl)
  exact hg.trans (.foldl (fun c i => responsesKept_notifyOne c _ i) _ g)

theorem responsesKept_raise (code : Nat) (cls : EvClass) (src tag : Nat) (args : List Nat) :
    ResponsesKept c (raise c code cls src tag args) := by
  unfold raise
  extract_lets _ d e _ g
  have he : ResponsesKept c e := .of_sessions (by unfold e; split <;> rfl)
  have hg : ResponsesKept e g := .of_sessions (by unfold g; split <;> rfl)
  refine (he.trans hg).trans ?_
  split
  · exact responsesKept_logEvent ..
  · exact .of_sessions rfl

theorem errStatus_host (st : Status) : (errStatus c st).host = c.host := by rw [errStatus_parts]

theorem responsesKept_refuse (m target off : Nat) (rt : Right) (tag : Nat) : ResponsesKept c (refuse c m target off rt tag) := by
  unfold refuse
  extract_lets d e
  have hd : ResponsesKept c d := responsesKept_raise ..
  exact hd.trans (.of_sessions (congrArg HostSide.sessions (errStatus_host _ _) :))

theorem responsesKept_semFault (f : Nat) (op : SyncOp) (kind : Nat) : ResponsesKept c (semFault c f op kind) := by
  unfold semFault
  extract_lets x r u d e
  have he : ResponsesKept c e := .of_sessions rfl
  exact he.trans (responsesKept_raise ..)

end

/-! ### Judging watches and gates leaves the host side's sessions -/

section
variable (c : Core) (f s : Nat)

theorem evalWatches_host : (evalWatches c f s).host = c.host := by
  unfold evalWatches
  extract_lets n hit due slots l d e
  have he : e.host = d.host := foldl_keeps (·.host) (fun d p => (vigilPass_host _ _ _ _).trans (sendWatch_host d _ _ _)) hit d
  have hs := foldl_keeps (·.host) (f := fun c x => sendWatch c x.unit 0 (slotMsg c f x .ok 0 n)) (fun d x => sendWatch_host d _ _ _) slots e
  exact hs.trans he

theorem evalGates_host (n : Nat) : (evalGates c f s n).host = c.host := by
  induction n generalizing c with
  | zero => rfl
  | succ n ih =>
    rw [evalGates]
    split
    · rfl
    · exact (ih _).trans (evalWatches_host _ f s)

theorem evalSem_sessions : (evalSem c f s).host.sessions = c.host.sessions := by
  unfold evalSem
  extract_lets d
  rw [readyCheck_parts]
  exact (congrArg HostSide.sessions (evalGates_host d f s _)).trans (congrArg HostSide.sessions (evalWatches_host c f s))

theorem responsesKept_applyPermitted (op : SyncOp) : ResponsesKept c (applyPermitted c f op).1 := by
  have h := applied_applyPermitted c f op
  generalize applyPermitted c f op = r at h
  cases h with
  | refused _ hs _ => exact .of_sessions (congrArg HostSide.sessions hs)
  | faulted kind => exact responsesKept_semFault ..
  | counted _ hs _ => exact .of_sessions ((evalSem_sessions ..).trans (congrArg HostSide.sessions hs))
  | watching => exact .of_sessions (evalSem_sessions ..)
  | nothing => exact .refl c

theorem responsesKept_applyOp (op : SyncOp) : ResponsesKept c (applyOp c f op).1 := by
  have hc : ResponsesKept c (countOp c f) := .of_sessions rfl
  cases hp : semPermits c f op
  · rw [applyOp_refused hp]
    exact hc.trans (responsesKept_refuse ..)
  · rw [applyOp_permitted hp]
    exact (hc.trans (responsesKept_applyPermitted _ f op)).trans (.of_sessions (congrArg HostSide.sessions (errStatus_host ..) :))

end

/-! ### The reply (R219, R220) -/

section
variable (c : Core)

theorem unitsKept_hostReply (ctx seq typ port dest : Nat) (st : Status) : UnitsKept c (hostReply c ctx seq typ port dest st) := by
  unfold hostReply
  split
  · exact ⟨rfl, rfl⟩
  · split
    · extract_lets r kept
      have hs (d : Core) (n : Nat) : (sentOn d ctx n).st = d.st ∧ (sentOn d ctx n).fl = d.fl := by
        unfold sentOn; split <;> exact ⟨rfl, rfl⟩
      exact ⟨(send_st ..).trans (hs _ _).1, (send_fl ..).trans (hs _ _).2⟩
    · exact ⟨rfl, rfl⟩

theorem unitsKept_askStop (src : Nat) : UnitsKept c (askStop c src) := by
  unfold askStop
  split <;> exact ⟨rfl, rfl⟩

theorem askStop_net (src : Nat) : (askStop c src).net = c.net := by
  unfold askStop
  split <;> rfl

/-- A fault that asks for a stop is recorded while an Almanac runs (R372). -/
theorem askStop_fault (src : Nat) (h : running c = true) : (askStop c src).alm.fault ≠ none := by
  unfold askStop
  split
  · exact Option.some_ne_none _
  · next hn => simpa [h] using hn

theorem hostReply_net (ctx seq typ port dest : Nat) (st : Status) : (hostReply c ctx seq typ port dest st).net = c.net := by
  unfold hostReply
  split
  · rfl
  · split
    · rw [send_net]
      unfold sentOn; split <;> rfl
    · rfl

/-- The response of a session whose place waits for it leaves last (R437). -/
theorem hostReply_last {x : Session} {ctx seq : Nat} (typ port dest : Nat) (st : Status) (hx : sessionOf c ctx = some x)
    (hk : x.kept.contains (seq, none) = true) :
    let r : Resp := { typ := typ, status := st.code, payload := [] }
    (hostReply c ctx seq typ port dest st).host.out.getLast? = some (.bamcen port dest ctx seq r (tagOf x.key ctx 1 seq r)) := by
  simp only [hostReply, hx, hk, if_true, send_out, List.getLast?_append, List.getLast?_singleton, Option.some_or]

variable (op : SyncOp) (st : Status)

theorem unitsKept_giveReply (b : Back) : UnitsKept c (giveReply c b st) := by
  cases b with
  | unit => exact ⟨rfl, rfl⟩
  | engine m =>
    rw [giveReply]
    split
    · exact unitsKept_askStop c m
    · exact ⟨rfl, rfl⟩
  | host => exact unitsKept_hostReply ..
  | sig | comp | tak | wat => exact ⟨rfl, rfl⟩

variable {op st} in
/-- A RANGE answer to a unit that awaits none asks for a fault stop (R220). -/
theorem answerOp_asks (hb : op.back = .unit) (hst : st = .range) (hu : isUnit op.issuer = true) : answerOp c op st = askStop c op.issuer :=
  if_pos (by simp [hb, hst, hu])

variable {op st} in
theorem answerOp_back (hb : op.back ≠ .unit) : answerOp c op st = giveReply c op.back st :=
  if_neg (by simp [hb])

theorem unitsKept_answerOp : UnitsKept c (answerOp c op st) := by
  unfold answerOp
  split
  · exact unitsKept_askStop ..
  · exact unitsKept_giveReply ..

theorem net_subset_answerOp : c.net ⊆ (answerOp c op st).net := by
  unfold answerOp
  split
  · rw [askStop_net]; exact List.Subset.refl _
  · cases op.back with
    | unit => exact List.Subset.refl _
    | engine m =>
      rw [giveReply]
      split
      · rw [askStop_net]; exact List.Subset.refl _
      · exact List.Subset.refl _
    | host => rw [giveReply, hostReply_net]; exact List.Subset.refl _
    | sig | comp | tak | wat => exact List.subset_append_left ..

end

theorem Noted.running {c d : Core} (h : Noted c d) : running d = running c :=
  running_congr (h.objs Key.almanacState (by decide))

/-- The reply to an operation goes where it is awaited, as long as sessions and the Almanac's state stay until it leaves. -/
theorem replied_answerOp {s : State} {c : Core} (op : SyncOp) (st : Status) (hr : running c = running s.core)
    (hk : ResponsesKept s.core c) : Goals.replied s (withCore s (answerOp c op st)) op st := by
  unfold Goals.replied
  intro faults
  cases hb : op.back with
  | unit =>
    intro hu hst hrun
    rw [withCore, answerOp_asks c hb hst hu]
    exact askStop_fault _ _ (hr.trans hrun)
  | engine m =>
    intro hst hrun
    rw [withCore, answerOp_back c (by rw [hb]; exact nofun), hb, giveReply, if_pos hst]
    exact askStop_fault _ _ (hr.trans hrun)
  | host ctx seq typ port dest =>
    intro x hx hkept
    obtain ⟨y, hy, hkey, hkept'⟩ := hk.sessions ctx x hx
    rw [← hkept'] at hkept
    rw [withCore, answerOp_back c (by rw [hb]; exact nofun), hb, ← hkey]
    exact hostReply_last c typ port dest st hy hkept
  | sig | comp | tak | wat =>
    rw [withCore, answerOp_back c (by rw [hb]; exact nofun), hb]
    exact List.mem_append_right _ (List.mem_singleton_self _)

/-! ### The operation at the front of a unit's queue (R219) -/

/-- The core in which the unit of field `f` has `rest` left in its queue. -/
def queueLeft (c : Core) (f : Nat) (rest : List SyncOp) : Core := setSync c f { syncU c f with held := rest }

/-- The commands of a sync unit, with the kinds of operation that they apply (R217). -/
abbrev unitCommands (f : Nat) : List (Instr × SyncKind) :=
  [(Instr.semSigAdd f, SyncKind.add), (.semSigSub f, .sub), (.semTak f, .tak), (.semWat f, .wat)]

/-- A step applied an operation with the outcome `r` and replied: units, messages, memory and stations stand as the operation left them. -/
structure Handled (s : State) (op : SyncOp) (r : Core × Status) (t : State) : Prop where
  fl : t.core.fl = r.1.fl
  net : r.1.net ⊆ t.core.net
  mem : t.mem = s.mem
  st : t.core.st = s.core.st
  replied : Goals.replied s t op r.2

section
variable {s : State} {f : Nat} {op : SyncOp} {rest : List SyncOp}

/-- A sync unit's command for the kind of an operation. -/
theorem exec_syncUnit {i : Instr} (hi : (i, op.kind) ∈ unitCommands f) :
    exec i s = inRange f 8 (onCore (fun c => applyHeld c f op.kind) s) := by
  simp only [List.mem_cons, Prod.mk.injEq, List.not_mem_nil, or_false] at hi
  rcases hi with ⟨rfl, hk⟩ | ⟨rfl, hk⟩ | ⟨rfl, hk⟩ | ⟨rfl, hk⟩
  all_goals rw [hk]; rfl

theorem applyHeld_first {c : Core} (h : (syncU c f).held = op :: rest) :
    applyHeld c f op.kind = applyPoisons (answerOp (applyOp (queueLeft c f rest) f op).1 op (applyOp (queueLeft c f rest) f op).2) f rest.length := by
  simp only [applyHeld, h, if_true]
  rfl

/-- The operation is applied over the queue behind it and replied to; no poisoning follows. -/
theorem exec_held {i : Instr} (h : Goals.opFirst s f op rest) (hi : (i, op.kind) ∈ unitCommands f) :
    NextWith (exec i s) fun t => Handled s op (applyOp (queueLeft s.core f rest) f op) t ∧ (syncU t.core f).held = rest := by
  obtain ⟨hruns, hf, hheld, hhead⟩ := h
  have hq : Quiet s.core (queueLeft s.core f rest) := quiet_setSync ..
  have hn : Noted s.core (applyOp (queueLeft s.core f rest) f op).1 := hq.toNoted.trans (noted_applyOp ..)
  have hk : ResponsesKept s.core (applyOp (queueLeft s.core f rest) f op).1 :=
    ResponsesKept.trans (d := queueLeft s.core f rest) (.of_sessions rfl) (responsesKept_applyOp ..)
  have hrest : (syncU (applyOp (queueLeft s.core f rest) f op).1 f).held = rest :=
    (countsMove_applyOp ..).held.trans (congrArg SyncUnit.held (syncU_setSync ..))
  rw [exec_syncUnit hi, inRange_lt hf, onCore_powered _ (runs_powered hruns), applyHeld_first hheld]
  generalize applyOp (queueLeft s.core f rest) f op = r at hn hk hrest
  have hu := unitsKept_answerOp r.1 op r.2
  have hheld' : (syncU (answerOp r.1 op r.2) f).held = rest := by rw [syncU_of_fl hu.fl, hrest]
  rw [applyPoisons_of_head _ (by rw [hheld']; exact hhead)]
  exact ⟨_, rfl, ⟨hu.fl, net_subset_answerOp .., rfl, hu.st.trans hn.st, replied_answerOp op r.2 hn.running hk⟩, hheld'⟩

end

end Sys2Proof.Machine

namespace Sys2Proof.Machine

/-! ## ADD, SUB and TAK, and the gates that a new count meets (O28; R217, R219, R354) -/

/-- A list with at most one element of a kind: taking that element out leaves those not of the kind. -/
theorem filter_of_mem_unique {α : Type} [BEq α] [LawfulBEq α] {q : α → Bool} {l : List α} {a : α} (ha : a ∈ l) (hq : q a = true)
    (h : (l.filter q).length ≤ 1) : l.filter q = [a] ∧ l.erase a = l.filter fun x => !q x := by
  induction l with
  | nil => cases ha
  | cons x r ih =>
    by_cases hx : q x = true
    · rw [List.filter_cons_of_pos hx, List.length_cons] at h
      have hnone : r.filter q = [] := List.eq_nil_of_length_eq_zero (by omega)
      have hall : ∀ y ∈ r, q y = false := fun y hy => by simpa using List.filter_eq_nil_iff.1 hnone y hy
      obtain rfl : a = x := (List.mem_cons.1 ha).resolve_right fun har => by simp [hall a har] at hq
      refine ⟨by rw [List.filter_cons_of_pos hx, hnone], ?_⟩
      rw [List.erase_cons_head, List.filter_cons_of_neg (by simp [hx]), List.filter_eq_self.2 fun y hy => by simp [hall y hy]]
    · have hne : x ≠ a := fun e => hx (e ▸ hq)
      rw [List.filter_cons_of_neg hx] at h
      obtain ⟨h1, h2⟩ := ih ((List.mem_cons.1 ha).resolve_left hne.symm) h
      rw [List.filter_cons_of_neg hx, List.erase_cons_tail (by simpa using hne), List.filter_cons_of_pos (by simp [hx]), h1, h2]
      exact ⟨rfl, rfl⟩

/-- Whether an armed gate on a semaphore is met by a count (R354). -/
def gateDue (s v : Nat) (p : Nat × Nat) : Bool := decide (p.1 = s ∧ p.2 ≤ v)

section
variable (c : Core) (f s : Nat)

theorem semOf_evalWatches (k : Nat) : semOf (evalWatches c f s) f k = semOf c f k := by
  obtain ⟨l, h⟩ := syncU_evalWatches c f s
  rw [semOf, h]
  rfl

theorem gates_evalWatches : (syncU (evalWatches c f s) f).gates = (syncU c f).gates := by
  obtain ⟨l, h⟩ := syncU_evalWatches c f s
  rw [h]

variable {c f s} in
/-- No gate that the count meets is armed: judging changes nothing. -/
theorem evalGates_unmet (n : Nat) (h : ∀ p ∈ (syncU c f).gates, gateDue s (semOf c f s).count p = false) : evalGates c f s n = c := by
  cases n with
  | zero => rfl
  | succ n =>
    have hnone : (syncU c f).gates.find? (fun g => g.1 = s && decide (g.2 ≤ (semOf c f s).count)) = none :=
      List.find?_eq_none.2 fun p hp => by simpa [gateDue] using h p hp
    rw [evalGates, hnone]

/-- The semaphores, gates and queue of a unit whose semaphore's count has met the armed gates. -/
structure GatesJudged (f s : Nat) (c d : Core) : Prop where
  sem : semOf d f s = { semOf c f s with
    count := (semOf c f s).count - (((syncU c f).gates.filter (gateDue s (semOf c f s).count)).map fun p => p.2).sum }
  gates : (syncU d f).gates = (syncU c f).gates.filter fun p => !gateDue s (semOf c f s).count p
  others : ∀ k, k ≠ s → semOf d f k = semOf c f k

/-- A gate that is met takes its count, and is armed no more (R354). -/
def gateTaken (g : Nat × Nat) : Core :=
  let d := setSem c f s { semOf c f s with count := (semOf c f s).count - g.2 }
  setSync d f { syncU d f with gates := (syncU d f).gates.erase g }

theorem syncU_gateTaken (g : Nat × Nat) : syncU (gateTaken c f s g) f = { syncU c f with
    sems := tset (syncU c f).sems s { semOf c f s with count := (semOf c f s).count - g.2 }, gates := (syncU c f).gates.erase g } := by
  rw [gateTaken, syncU_setSync, syncU_setSem]

variable {c f s} in
theorem evalGates_some (n : Nat) {g : Nat × Nat}
    (h : (syncU c f).gates.find? (fun g => g.1 = s && decide (g.2 ≤ (semOf c f s).count)) = some g) :
    evalGates c f s (n + 1) = evalGates (evalWatches (gateTaken c f s g) f s) f s n := by
  rw [evalGates, h]
  rfl

variable {c f s} in
/-- With one gate at most on the semaphore, one that is met takes its count and is armed no more (R354). -/
theorem gatesJudged_evalGates (h : ((syncU c f).gates.filter fun p => p.1 = s).length ≤ 1) :
    GatesJudged f s c (evalGates c f s (syncU c f).gates.length) := by
  cases hg : (syncU c f).gates.find? (fun g => g.1 = s && decide (g.2 ≤ (semOf c f s).count)) with
  | none =>
    have hno : ∀ p ∈ (syncU c f).gates, gateDue s (semOf c f s).count p = false := fun p hp => by
      simpa [gateDue] using List.find?_eq_none.1 hg p hp
    rw [evalGates_unmet _ hno]
    refine ⟨?_, ?_, fun _ _ => rfl⟩
    · rw [List.filter_eq_nil_iff.2 fun p hp => by simp [hno p hp]]
      rfl
    · rw [List.filter_eq_self.2 fun p hp => by simp [hno p hp]]
  | some g =>
    have hmem := List.mem_of_find?_eq_some hg
    have hdue : gateDue s (semOf c f s).count g = true := by simpa [gateDue] using List.find?_some hg
    have hone : ((syncU c f).gates.filter (gateDue s (semOf c f s).count)).length ≤ 1 :=
      (List.monotone_filter_right _ fun p hp => by simpa using (of_decide_eq_true hp).1).length_le.trans h
    obtain ⟨hfilter, herase⟩ := filter_of_mem_unique hmem hdue hone
    obtain ⟨n, hn⟩ := Nat.exists_eq_succ_of_ne_zero (List.length_pos_of_mem hmem).ne'
    have hd := syncU_gateTaken c f s g
    have hs : semOf (evalWatches (gateTaken c f s g) f s) f s = { semOf c f s with count := (semOf c f s).count - g.2 } := by
      rw [semOf_evalWatches, semOf, hd]
      exact tgetD_tset_self ..
    have hgates : (syncU (evalWatches (gateTaken c f s g) f s) f).gates
        = (syncU c f).gates.filter fun p => !gateDue s (semOf c f s).count p := by
      rw [gates_evalWatches, hd]
      exact herase
    rw [hn, evalGates_some n hg]
    rw [evalGates_unmet n fun p hp => ?_]
    · refine ⟨?_, hgates, fun k hk => ?_⟩
      · rw [hs, hfilter]
        rfl
      · rw [semOf_evalWatches, semOf, hd]
        exact tgetD_tset_ne _ _ _ hk
    · rw [hgates, List.mem_filter] at hp
      rw [hs]
      have hx : (semOf c f s).count - g.2 ≤ (semOf c f s).count := Nat.sub_le _ _
      simp only [gateDue, Bool.not_eq_true', decide_eq_false_iff_not] at hp ⊢
      omega

variable {c f s} in
theorem GatesJudged.of_fl {d e : Core} (h : GatesJudged f s c d) (he : e.fl = d.fl) : GatesJudged f s c e where
  sem := by rw [semOf_of_fl he, h.sem]
  gates := by rw [syncU_of_fl he, h.gates]
  others k hk := by rw [semOf_of_fl he, h.others k hk]

variable {c f s} in
/-- What follows an applied operation (R219, R354). -/
theorem gatesJudged_evalSem (h : ((syncU c f).gates.filter fun p => p.1 = s).length ≤ 1) : GatesJudged f s c (evalSem c f s) := by
  have hw := gatesJudged_evalGates (c := evalWatches c f s) (f := f) (s := s) (by rw [gates_evalWatches]; exact h)
  unfold evalSem
  extract_lets d
  refine GatesJudged.of_fl (d := evalGates d f s (syncU d f).gates.length) ⟨?_, ?_, fun k hk => ?_⟩ (readyCheck_fl _)
  · rw [hw.sem, semOf_evalWatches, gates_evalWatches]
  · rw [hw.gates, semOf_evalWatches, gates_evalWatches]
  · rw [hw.others k hk, semOf_evalWatches]

end

/-! ### The answers to a permitted operation (R219) -/

section
variable {c : Core} {f s n issuer : Nat}

theorem applyTak_taken (h : (semOf c f s).count < n) : applyTak c f s n issuer = (addObj c Key.takenCount 1, .taken) := if_pos h

theorem applyTak_ok (h : n ≤ (semOf c f s).count) : applyTak c f s n issuer
    = (evalSem (vigilPass (setSem c f s { semOf c f s with count := (semOf c f s).count - n }) f s issuer) f s, .ok) :=
  if_neg (Nat.not_lt.2 h)

end

/-- The core in which the unit has taken the first operation of its queue and counted it. -/
def taking (c : Core) (f : Nat) (rest : List SyncOp) : Core := countOp (queueLeft c f rest) f

section
variable (c : Core) (f : Nat) (rest : List SyncOp)

theorem syncU_taking : syncU (taking c f rest) f = { syncU c f with held := rest, ops := (syncU c f).ops + 1 } := by
  rw [taking, syncU_countOp, queueLeft, syncU_setSync]

theorem semOf_taking (k : Nat) : semOf (taking c f rest) f k = semOf c f k := by
  rw [semOf, syncU_taking]
  rfl

theorem quiet_taking : Quiet c (taking c f rest) := (quiet_setSync c f _).trans (quiet_countOp _ f)

end

/-- An operation passes the checks before its effect in the unit that applies it (R219). -/
structure Enabled (c : Core) (f : Nat) (op : SyncOp) : Prop where
  runs : running c = true
  valid : (semOf c f op.sem).valid = true
  sound : (semOf c f op.sem).poison = false
  pos : 0 < op.n
  bound : op.n ≤ (if op.kind = .tak ∨ op.kind = .wat then (semOf c f op.sem).cap else 65535)

section
variable {c : Core} {f : Nat} {op : SyncOp} (h : Enabled c f op)
include h

theorem applyPermitted_add (hk : op.kind = .add) : applyPermitted c f op
    = if (semOf c f op.sem).cap < (semOf c f op.sem).count + op.n then (semFault c f op 2, .range)
      else (evalSem (vigilSig (setSem c f op.sem { semOf c f op.sem with count := (semOf c f op.sem).count + op.n }) f op.sem op.issuer)
        f op.sem, .ok) := by
  obtain ⟨hr, hv, hp, h0, hb⟩ := h
  have hn : ¬(op.n = 0 ∨ 65535 < op.n) := by simp [hk] at hb; omega
  simp [applyPermitted, hk, hr, hv, hp, hn]

theorem applyPermitted_sub (hk : op.kind = .sub) : applyPermitted c f op
    = if (semOf c f op.sem).count < op.n then (semFault c f op 1, .range)
      else (evalSem (vigilSig (setSem c f op.sem { semOf c f op.sem with count := (semOf c f op.sem).count - op.n }) f op.sem op.issuer)
        f op.sem, .ok) := by
  obtain ⟨hr, hv, hp, h0, hb⟩ := h
  have hn : ¬(op.n = 0 ∨ 65535 < op.n) := by simp [hk] at hb; omega
  simp [applyPermitted, hk, hr, hv, hp, hn]

theorem applyPermitted_tak (hk : op.kind = .tak) : applyPermitted c f op = applyTak c f op.sem op.n op.issuer := by
  obtain ⟨hr, hv, hp, h0, hb⟩ := h
  have hn : ¬(op.n = 0 ∨ (semOf c f op.sem).cap < op.n) := by simp [hk] at hb; omega
  simp [applyPermitted, hk, hr, hv, hp, hn]

theorem applyPermitted_wat (hk : op.kind = .wat) : applyPermitted c f op = applyWat c f op := by
  obtain ⟨hr, hv, hp, h0, hb⟩ := h
  have hn : ¬(op.n = 0 ∨ (semOf c f op.sem).cap < op.n) := by simp [hk] at hb; omega
  simp [applyPermitted, hk, hr, hv, hp, hn]

end

section
variable {s : State} {f : Nat} {op : SyncOp} {rest : List SyncOp}

theorem enabled_taking (h : Goals.opEnabled s f op) : Enabled (taking s.core f rest) f op := by
  obtain ⟨-, hr, hv, hp, h0, hb⟩ := h
  refine ⟨(quiet_taking ..).toNoted.running.trans hr, ?_, ?_, h0, ?_⟩
  all_goals rw [semOf_taking]
  · exact hv
  · exact hp
  · cases hk : op.kind <;> simpa [hk] using hb

/-- The effect of a permitted operation at the front of a unit's queue. -/
theorem applyOp_taking (h : semPermits s.core f op = true) :
    let r := applyPermitted (taking s.core f rest) f op
    applyOp (queueLeft s.core f rest) f op = (errStatus r.1 r.2, r.2) := applyOp_permitted h

/-- A count, the gates and the other semaphores that an operation with a status leaves. -/
def countsLeft (s t : State) (f : Nat) (op : SyncOp) (rest : List SyncOp) (n : Nat) (left : List (Nat × Nat)) (st : Status) : Prop :=
  semOf t.core f op.sem = { semOf s.core f op.sem with count := n } ∧ (syncU t.core f).gates = left ∧ (syncU t.core f).held = rest
    ∧ Goals.replied s t op st ∧ t.mem = s.mem ∧ t.core.st = s.core.st ∧ ∀ k, k ≠ op.sem → semOf t.core f k = semOf s.core f k

section
variable {i : Instr} (h : Goals.opFirst s f op rest) (he : semPermits s.core f op = true)
  (hi : (i, op.kind) ∈ unitCommands f)
include h he hi

/-- An operation that is answered without a change of count or gates. -/
theorem nextWith_countStays {d : Core} {st : Status} (hr : applyPermitted (taking s.core f rest) f op = (d, st))
    (hs : (syncU d f).sems = (syncU s.core f).sems) (hg : (syncU d f).gates = (syncU s.core f).gates) :
    NextWith (exec i s) fun t => countsLeft s t f op rest (semOf s.core f op.sem).count (syncU s.core f).gates st := by
  obtain ⟨t, ht, hh, hrest⟩ := exec_held h hi
  rw [applyOp_taking he, hr] at hh
  have hu : syncU t.core f = syncU d f := syncU_of_fl (hh.fl.trans (errStatus_fl ..)) f
  exact ⟨t, ht, by rw [semOf, hu, hs]; rfl, by rw [hu, hg], hrest, hh.replied, hh.mem, hh.st, fun k _ => by rw [semOf, hu, hs]; rfl⟩

/-- An operation that moves the count: the gates it meets take theirs. -/
theorem nextWith_countMoves {d : Core} {v : Nat} (h1 : ((syncU s.core f).gates.filter fun p => p.1 = op.sem).length ≤ 1)
    (hr : applyPermitted (taking s.core f rest) f op = (evalSem d f op.sem, .ok))
    (hd : d.fl = (setSem (taking s.core f rest) f op.sem { semOf (taking s.core f rest) f op.sem with count := v }).fl) :
    NextWith (exec i s) fun t => countsLeft s t f op rest
      (v - (((syncU s.core f).gates.filter (gateDue op.sem v)).map fun p => p.2).sum)
      ((syncU s.core f).gates.filter fun p => !gateDue op.sem v p) .ok := by
  obtain ⟨t, ht, hh, hrest⟩ := exec_held h hi
  rw [applyOp_taking he, hr] at hh
  have hg : (syncU d f).gates = (syncU s.core f).gates := by rw [syncU_of_fl hd, syncU_setSem, syncU_taking]
  have hsem : semOf d f op.sem = { semOf s.core f op.sem with count := v } := by rw [semOf_of_fl hd, semOf_setSem, semOf_taking]
  have hother (k : Nat) (hk : k ≠ op.sem) : semOf d f k = semOf s.core f k := by
    rw [semOf_of_fl hd, semOf_setSem_ne _ _ _ _ hk, semOf_taking]
  obtain ⟨hs, hgates, hothers⟩ := gatesJudged_evalSem (c := d) (f := f) (s := op.sem) (by rw [hg]; exact h1)
  rw [hg, hsem] at hs hgates
  have hfl : t.core.fl = (evalSem d f op.sem).fl := hh.fl
  refine ⟨t, ht, ?_, ?_, hrest, hh.replied, hh.mem, hh.st, fun k hk => ?_⟩
  · rw [semOf_of_fl hfl, hs]
  · rw [syncU_of_fl hfl, hgates]
  · rw [semOf_of_fl hfl, hothers k hk, hother k hk]

end

end

theorem semaphoreCounts : Goals.SemaphoreCounts := by
  intro s f op rest h he gates h1 e answered met moves
  have hp := he.1
  have hen : Enabled (taking s.core f rest) f op := enabled_taking he
  have hsem := semOf_taking s.core f rest op.sem
  have hfault (kind : Nat) : (syncU (semFault (taking s.core f rest) f op kind) f).sems = (syncU s.core f).sems
      ∧ (syncU (semFault (taking s.core f rest) f op kind) f).gates = (syncU s.core f).gates := by
    obtain ⟨r, hr⟩ := syncU_semFault (taking s.core f rest) f op kind
    rw [hr, syncU_taking]
    exact ⟨rfl, rfl⟩
  refine ⟨fun hk => ?_, fun hk => ?_, fun hk => ?_⟩
  · have hr := applyPermitted_add hen hk
    have hi : (Instr.semSigAdd f, op.kind) ∈ unitCommands f := by simp [hk]
    split
    next hn =>
      rw [if_neg (by rw [hsem]; exact Nat.not_lt.2 hn), hsem] at hr
      exact nextWith_countMoves h hp hi h1 hr (by rw [vigilSig_fl, hsem])
    next hn =>
      rw [if_pos (by rw [hsem]; exact Nat.not_le.1 hn)] at hr
      exact nextWith_countStays h hp hi hr (hfault 2).1 (hfault 2).2
  · have hr := applyPermitted_sub hen hk
    have hi : (Instr.semSigSub f, op.kind) ∈ unitCommands f := by simp [hk]
    split
    next hn =>
      rw [if_neg (by rw [hsem]; exact Nat.not_lt.2 hn), hsem] at hr
      exact nextWith_countMoves h hp hi h1 hr (by rw [vigilSig_fl, hsem])
    next hn =>
      rw [if_pos (by rw [hsem]; exact Nat.not_le.1 hn)] at hr
      exact nextWith_countStays h hp hi hr (hfault 1).1 (hfault 1).2
  · have hr := applyPermitted_tak hen hk
    have hi : (Instr.semTak f, op.kind) ∈ unitCommands f := by simp [hk]
    split
    next hn =>
      rw [applyTak_ok (by rw [hsem]; exact hn), hsem] at hr
      exact nextWith_countMoves h hp hi h1 hr (by rw [vigilPass_fl, hsem])
    next hn =>
      rw [applyTak_taken (by rw [hsem]; exact Nat.not_le.1 hn)] at hr
      have hu : syncU (addObj (taking s.core f rest) Key.takenCount 1) f = _ := syncU_taking s.core f rest
      exact nextWith_countStays h hp hi hr (by rw [hu]) (by rw [hu])

end Sys2Proof.Machine

namespace Sys2Proof.Machine

/-! ## The refusals of a sync unit (O28; R218, R219) -/

section
variable {c : Core} {f : Nat} {op : SyncOp}

theorem applyPermitted_state (hr : running c = false) : applyPermitted c f op = (c, .state) := by simp [applyPermitted, hr]

theorem applyPermitted_invalid (hr : running c = true) (hv : (semOf c f op.sem).valid = false) : applyPermitted c f op = (c, .range) := by
  simp [applyPermitted, hr, hv]

/-- The largest operand of an operation (R217). -/
def operandBound (c : Core) (f : Nat) (op : SyncOp) : Nat :=
  if op.kind = .tak ∨ op.kind = .wat then (semOf c f op.sem).cap else 65535

/-- What a valid semaphore is asked, once an Almanac runs (R219). -/
theorem applyPermitted_valid (hr : running c = true) (hv : (semOf c f op.sem).valid = true) :
    (op.n = 0 ∨ operandBound c f op < op.n → applyPermitted c f op = (c, .range))
      ∧ (0 < op.n → op.n ≤ operandBound c f op → (semOf c f op.sem).poison = true →
        applyPermitted c f op = (if op.kind = .wat then lostWat c f op else c, .lost)) := by
  unfold applyPermitted
  extract_lets x bound
  have hx : x.valid = true := hv
  have hb : bound = operandBound c f op := by unfold bound operandBound x; cases op.kind <;> rfl
  refine ⟨fun hn => ?_, fun h0 hn hp => ?_⟩
  · simp [hr, hx, hb, hn]
  · have hx' : x.poison = true := hp
    simp [hr, hx, hb, hx', h0.ne', Nat.not_lt.2 hn]

end

/-- The answer of the checks that stand before an operation's effect (R218, R219). -/
theorem applyOp_stops {s : State} {f : Nat} {op : SyncOp} {rest : List SyncOp} {st : Status} {e : Sem} {bound : Nat}
    (he : e = semOf s.core f op.sem) (hb : bound = operandBound s.core f op)
    (h : (st = Status.access ∧ semPermits s.core f op = false)
      ∨ (st = .state ∧ semPermits s.core f op = true ∧ running s.core = false)
      ∨ (st = .range ∧ semPermits s.core f op = true ∧ running s.core = true ∧ e.valid = false)
      ∨ (st = .range ∧ semPermits s.core f op = true ∧ running s.core = true ∧ e.valid = true ∧ (op.n = 0 ∨ bound < op.n))
      ∨ (st = .lost ∧ semPermits s.core f op = true ∧ running s.core = true ∧ e.valid = true ∧ 0 < op.n ∧ op.n ≤ bound
        ∧ e.poison = true)) :
    (applyOp (queueLeft s.core f rest) f op).2 = st ∧ (applyOp (queueLeft s.core f rest) f op).1.fl = (taking s.core f rest).fl := by
  have hrun : running (taking s.core f rest) = running s.core := (quiet_taking ..).toNoted.running
  have hsem := semOf_taking s.core f rest op.sem
  have hbound : operandBound (taking s.core f rest) f op = operandBound s.core f op := by rw [operandBound, hsem, operandBound]
  rw [he, ← hsem, ← hrun, hb, ← hbound] at h
  have hkeeps {d : Core} (hp : semPermits s.core f op = true) (hr : applyPermitted (taking s.core f rest) f op = (d, st))
      (hd : d.fl = (taking s.core f rest).fl) : (applyOp (queueLeft s.core f rest) f op).2 = st
        ∧ (applyOp (queueLeft s.core f rest) f op).1.fl = (taking s.core f rest).fl := by
    rw [applyOp_taking hp, hr]
    exact ⟨rfl, (errStatus_fl ..).trans hd⟩
  rcases h with ⟨rfl, hp⟩ | ⟨rfl, hp, hr⟩ | ⟨rfl, hp, hr, hv⟩ | ⟨rfl, hp, hr, hv, hn⟩ | ⟨rfl, hp, hr, hv, h0, hn, hpo⟩
  · rw [applyOp_refused (c := queueLeft s.core f rest) hp]
    exact ⟨rfl, (accessed_refuse ..).fl⟩
  · exact hkeeps hp (applyPermitted_state hr) rfl
  · exact hkeeps hp (applyPermitted_invalid hr hv) rfl
  · exact hkeeps hp ((applyPermitted_valid hr hv).1 hn) rfl
  · refine hkeeps hp ((applyPermitted_valid hr hv).2 h0 hn hpo) ?_
    split
    · exact sendWatch_fl ..
    · rfl

theorem semaphoreRefusals : Goals.SemaphoreRefusals := by
  intro s f op rest i h hi e bound p r st hst
  obtain ⟨t, ht, hh, hrest⟩ := exec_held h hi
  obtain ⟨hstatus, hfl⟩ := applyOp_stops (rest := rest) rfl rfl hst
  have hu : syncU t.core f = _ := (syncU_of_fl (hh.fl.trans hfl) f).trans (syncU_taking s.core f rest)
  refine ⟨t, ht, by rw [hu], hrest, by rw [hu], ?_, hh.mem, hh.st⟩
  rw [← hstatus]
  exact hh.replied

/-! ## WAT (O28; R219, R225, R226) -/

section
variable {c : Core} {f : Nat} {op : SyncOp}

/-- The watch that a WAT registers. -/
def watchOf (op : SyncOp) : Watch := { sem := op.sem, thresh := op.n, dest := op.issuer, slot := op.slot, cookie := op.cookie }

/-- The core in which the unit of field `f` keeps a WAT's watch under a number. -/
def watchKept (c : Core) (f w : Nat) (op : SyncOp) : Core :=
  setSync c f { syncU c f with watches := tset (syncU c f).watches w (watchOf op) }

theorem applyWat_busy (h : freeWatch (syncU c f) op.issuer = none) : applyWat c f op = (addObj c Key.watchBusy 1, .busy) := by
  rw [applyWat, h]

theorem applyWat_kept {w : Nat} (h : freeWatch (syncU c f) op.issuer = some w) :
    applyWat c f op = (evalSem (watchKept c f w op) f op.sem, .ok) := by
  rw [applyWat, h]
  rfl

/-- A free watch number has no watch in the table. -/
theorem freeWatch_free {u : SyncUnit} {issuer w : Nat} (h : freeWatch u issuer = some w) : tget u.watches w = none := by
  unfold freeWatch at h
  extract_lets mine share at h
  split at h
  · cases h
  · simpa using List.find?_some h

/-- A unit whose count meets no armed gate: what follows an operation is the judging of watches. -/
theorem evalSem_noGate (h : ∀ p ∈ (syncU c f).gates, p.1 = op.sem → (semOf c f op.sem).count < p.2) :
    evalSem c f op.sem = readyCheck (evalWatches c f op.sem) := by
  unfold evalSem
  extract_lets d
  rw [evalGates_unmet _ fun p hp => ?_]
  rw [semOf_evalWatches]
  rw [gates_evalWatches] at hp
  simp only [gateDue, decide_eq_false_iff_not, not_and, not_le]
  exact h p hp

end

/-! ### The messages of watches that fire (R226, R230) -/

section
variable (c : Core)

theorem net_subset_sendWatch (dest slot : Nat) (m : WatchMsg) : c.net ⊆ (sendWatch c dest slot m).net := by
  unfold sendWatch
  extract_lets d
  have hd : d.net = c.net := by unfold d; split <;> rfl
  rw [← hd]
  split
  · split <;> exact List.Subset.refl _
  · exact List.subset_append_left ..

theorem mem_net_sendWatch {dest : Nat} (slot : Nat) (m : WatchMsg) (h : dest < 0x8000) : NetMsg.watch dest slot m ∈ (sendWatch c dest slot m).net := by
  unfold sendWatch
  extract_lets d
  rw [if_neg (Nat.not_le.2 h)]
  exact List.mem_append_right _ (List.mem_singleton_self _)

theorem vigilPass_net (f s m : Nat) : (vigilPass c f s m).net = c.net := by
  unfold vigilPass
  split
  · split <;> rfl
  · rfl

theorem net_subset_foldl {α : Type} {g : Core → α → Core} (h : ∀ c x, c.net ⊆ (g c x).net) (l : List α) (c : Core) :
    c.net ⊆ (l.foldl g c).net := by
  induction l generalizing c with
  | nil => exact List.Subset.refl _
  | cons x r ih => exact List.Subset.trans (h c x) (ih _)

theorem readyCheck_net : (readyCheck c).net = c.net := by rw [readyCheck_parts]; rfl

/-- A watch message names the module and the frame, which bookkeeping leaves. -/
theorem Noted.watchMsg {c d : Core} (h : Noted c d) (f w : Nat) (x : Watch) (st : Status) (cause n : Nat) :
    watchMsg d f w x st cause n = watchMsg c f w x st cause n := by
  simp only [Machine.watchMsg, semName, h.own, h.objs Key.frameCount (by decide)]

/-- One watch fires (R226): its message leaves, and the Vigil passes the fence on. -/
def fire (f s n : Nat) (c : Core) (p : Nat × Watch) : Core :=
  vigilPass (sendWatch c p.2.dest p.2.slot (watchMsg c f p.1 p.2 .ok 0 n)) f s p.2.dest

theorem quiet_fire (f s n : Nat) (p : Nat × Watch) : Quiet c (fire f s n c p) := (quiet_sendWatch ..).trans (quiet_vigilPass ..)

theorem net_subset_fire (f s n : Nat) (p : Nat × Watch) : c.net ⊆ (fire f s n c p).net := by
  rw [fire, vigilPass_net]
  exact net_subset_sendWatch ..

/-- Of watches that fire in turn each one's message leaves. -/
theorem mem_net_fired {f s n : Nat} {l : List (Nat × Watch)} {p : Nat × Watch} (h : p ∈ l) (hd : p.2.dest < 0x8000) :
    NetMsg.watch p.2.dest p.2.slot (watchMsg c f p.1 p.2 .ok 0 n) ∈ (l.foldl (fire f s n) c).net := by
  induction l generalizing c with
  | nil => cases h
  | cons q r ih =>
    rcases List.mem_cons.1 h with rfl | h
    · refine net_subset_foldl (fun c q => net_subset_fire c f s n q) r _ ?_
      rw [fire, vigilPass_net]
      exact mem_net_sendWatch c _ _ hd
    · rw [← (quiet_fire c f s n q).toNoted.watchMsg]
      exact ih (fire f s n c q) h

/-- Judging the watches sends the message of each whose condition holds (R226). -/
theorem mem_net_evalWatches {f s : Nat} {p : Nat × Watch} (h : p ∈ (syncU c f).watches) (hs : p.2.sem = s)
    (hn : p.2.thresh ≤ (semOf c f s).count) (hd : p.2.dest < 0x8000) :
    NetMsg.watch p.2.dest p.2.slot (watchMsg c f p.1 p.2 .ok 0 (semOf c f s).count) ∈ (evalWatches c f s).net := by
  unfold evalWatches
  extract_lets n hit due slots l d e
  refine net_subset_foldl (fun c x => net_subset_sendWatch ..) slots e ?_
  have hq : Quiet c d := quiet_setSync ..
  rw [← hq.toNoted.watchMsg]
  exact mem_net_fired d (List.mem_filter.2 ⟨h, by simp [hs, n, hn]⟩) hd

end

/-! ### The watch that a WAT keeps -/

section
variable {α : Type}

theorem mem_tset {t : Tab α} {k : Nat} {v : α} {p : Nat × α} (h : p ∈ tset t k v) : p = (k, v) ∨ p ∈ t := by
  induction t with
  | nil => exact .inl (List.mem_singleton.1 h)
  | cons q r ih =>
    simp only [tset] at h
    split at h
    · exact List.mem_cons.1 h
    · split at h
      · exact (List.mem_cons.1 h).imp_right (List.mem_cons_of_mem _)
      · rcases List.mem_cons.1 h with rfl | h
        · exact .inr List.mem_cons_self
        · exact (ih h).imp_right (List.mem_cons_of_mem _)

theorem not_mem_of_tget_none {t : Tab α} {k : Nat} (h : tget t k = none) (v : α) : (k, v) ∉ t := by
  induction t with
  | nil => exact List.not_mem_nil
  | cons q r ih =>
    simp only [tget] at h
    split at h
    · cases h
    · next hne =>
      rw [List.mem_cons, not_or]
      exact ⟨fun e => hne (congrArg Prod.fst e).symm, ih h⟩

end

section
variable {s : State} {f : Nat} {op : SyncOp} {rest : List SyncOp} (h : Goals.opFirst s f op rest) (he : Goals.opEnabled s f op)
  (hk : op.kind = .wat)
include h he hk

/-- A WAT that finds no watch free (R225). -/
theorem exec_semWat_busy (hw : freeWatch (syncU s.core f) op.issuer = none) : NextWith (exec (.semWat f) s) fun t =>
    (syncU t.core f).watches = (syncU s.core f).watches ∧ Goals.replied s t op .busy ∧ (syncU t.core f).held = rest
      ∧ semOf t.core f op.sem = semOf s.core f op.sem := by
  obtain ⟨t, ht, hh, hrest⟩ := exec_held h (show (Instr.semWat f, op.kind) ∈ unitCommands f by simp [hk])
  have hu := syncU_taking s.core f rest
  have hw' : freeWatch (syncU (taking s.core f rest) f) op.issuer = none := by rw [hu]; exact hw
  rw [applyOp_taking he.1, applyPermitted_wat (enabled_taking he) hk, applyWat_busy hw'] at hh
  have hut : syncU t.core f = _ := (syncU_of_fl (hh.fl.trans (errStatus_fl ..)) f).trans hu
  refine ⟨t, ht, by rw [hut], hh.replied, hrest, ?_⟩
  rw [semOf, hut]
  rfl

/-- A WAT whose watch is kept, and judged with those on its semaphore (R219, R226). -/
theorem exec_semWat_kept {w : Nat} (hgates : ∀ p ∈ (syncU s.core f).gates, p.1 = op.sem → (semOf s.core f op.sem).count < p.2)
    (hw : freeWatch (syncU s.core f) op.issuer = some w) :
    let kept := tset (syncU s.core f).watches w (watchOf op)
    let n := (semOf s.core f op.sem).count
    NextWith (exec (.semWat f) s) fun t =>
      (syncU t.core f).watches = kept.filter (fun p => !watchDue op.sem n p) ∧ Goals.replied s t op .ok ∧ (syncU t.core f).held = rest
        ∧ semOf t.core f op.sem = semOf s.core f op.sem
        ∧ ∀ p ∈ kept, p.2.sem = op.sem → p.2.thresh ≤ n → p.2.dest < 0x8000 →
          NetMsg.watch p.2.dest p.2.slot (watchMsg s.core f p.1 p.2 .ok 0 n) ∈ t.core.net := by
  intro kept n
  obtain ⟨t, ht, hh, hrest⟩ := exec_held h (show (Instr.semWat f, op.kind) ∈ unitCommands f by simp [hk])
  have hu := syncU_taking s.core f rest
  have hw' : freeWatch (syncU (taking s.core f rest) f) op.issuer = some w := by rw [hu]; exact hw
  rw [applyOp_taking he.1, applyPermitted_wat (enabled_taking he) hk, applyWat_kept hw', errStatus_ok] at hh
  have hq : Quiet s.core (watchKept (taking s.core f rest) f w op) := (quiet_taking ..).trans (quiet_setSync ..)
  have hku : syncU (watchKept (taking s.core f rest) f w op) f = _ := syncU_setSync ..
  rw [hu] at hku
  generalize watchKept (taking s.core f rest) f w op = d at hh hq hku
  have hds : semOf d f op.sem = semOf s.core f op.sem := by rw [semOf, hku]; rfl
  have hdw : (syncU d f).watches = kept := by rw [hku]
  rw [evalSem_noGate (by rw [hku, hds]; exact hgates)] at hh
  obtain ⟨l, hl⟩ := syncU_evalWatches d f op.sem
  rw [hdw, hds] at hl
  have hut : syncU t.core f = _ := (syncU_of_fl (hh.fl.trans (readyCheck_fl _)) f).trans hl
  refine ⟨t, ht, by rw [hut], hh.replied, hrest, ?_, fun p hp hs hn hd => hh.net ?_⟩
  · rw [semOf, hut, ← hds]
    rfl
  · have hn' : n = (semOf d f op.sem).count := by rw [hds]
    rw [readyCheck_net, ← hq.toNoted.watchMsg, hn']
    exact mem_net_evalWatches d (by rw [hdw]; exact hp) hs (by rw [hds]; exact hn) hd

end

theorem watRegistersAWatch : Goals.WatRegistersAWatch := by
  intro s f op rest h he hk hlow e hgates x
  refine ⟨exec_semWat_busy h he hk, fun w hw hlt hnone => ?_, fun w hw hle => ?_⟩
  all_goals obtain ⟨t, ht, hwatches, hreplied, hrest, hsem, hsent⟩ := exec_semWat_kept h he hk hgates hw
  · refine ⟨t, ht, hwatches.trans (List.filter_eq_self.2 fun p hp => ?_), hreplied, hrest, hsem⟩
    rw [Bool.not_eq_true', watchDue_eq_false]
    rcases mem_tset hp with rfl | hp
    · exact fun _ => hlt
    · exact hnone p hp
  · refine ⟨t, ht, ?_, hreplied, hrest, hsem, hsent (w, x) (mem_of_tget (tget_tset_self ..)) rfl hle hlow⟩
    rw [hwatches]
    by_contra hne
    obtain ⟨v, hv⟩ := Option.ne_none_iff_exists'.1 hne
    obtain ⟨hmem, hdue⟩ := List.mem_filter.1 (mem_of_tget hv)
    rcases mem_tset hmem with heq | hmem
    · obtain rfl : v = x := congrArg Prod.snd heq
      rw [Bool.not_eq_true', watchDue_eq_false] at hdue
      exact absurd hle (Nat.not_le.2 (hdue rfl))
    · exact not_mem_of_tget_none (freeWatch_free hw) v hmem

/-- Settles O28: the operation at the front of a unit's queue is applied over the queue behind it and replied to (`exec_held`); a moved
count goes through the gates it meets (`nextWith_countMoves`), the checks before the effect leave the units (`applyOp_stops`), and a WAT's
watch is judged with the rest (`exec_semWat_kept`). -/
theorem semaphoreOperations : Obligations.SemaphoreOperations := ⟨semaphoreCounts, semaphoreRefusals, watRegistersAWatch⟩

end Sys2Proof.Machine

namespace Sys2Proof.Machine

/-! ## Operations that leave a station for another module (O27, O31; R235, R236, R302) -/

/-- A SYNC packet of an operation stands last in a context's queue; stations and fields stay. -/
structure Departs (c d : Core) (i name : Nat) (op : SyncOp) : Prop extends UnitsKept c d where
  packet : ∃ p, (ctxOf d i).queue = (ctxOf c i).queue ++ [p] ∧ p.pkt.typ = 5 ∧ p.pkt.op = op.kind.code ∧ p.pkt.issuer = op.issuer
    ∧ p.pkt.addr = name ∧ p.pkt.payload = padUnits (syncPayload op)

section
variable {c : Core} {op : SyncOp} {n i name : Nat}

theorem ctxOf_of_fab {d : Core} (h : d.fab = c.fab) (i : Nat) : ctxOf d i = ctxOf c i := by
  simp only [ctxOf, h]

/-- An open flow whose egress port's table permits the operation carries it. -/
theorem egressNow_go {issuer len : Nat} {rt : Right} (hf : flowAny c issuer n = some i) (h1 : (ctxOf c i).state = 1)
    (hp : tablePermits c.acc (portTarget c (egressPort c i)) issuer n rt = true) : egressNow c issuer n len rt = .go i := by
  cases hs : storeRoom c i len
  all_goals simp [egressNow, egress, hf, h1, hp, hs]

theorem departs_sendRemote (proxy : Option (Nat × Proxy)) (hf : flowAny c op.issuer n = some i) (h1 : (ctxOf c i).state = 1)
    (hp : tablePermits c.acc (portTarget c (egressPort c i)) op.issuer n op.kind.right = true) :
    Departs c (sendRemote c n name op proxy) i name op ∧ ∀ y q, proxy = some (y, q) →
      tget (sendRemote c n name op proxy).fab.proxies y = some q := by
  simp only [sendRemote, egressNow_go hf h1 hp]
  cases proxy with
  | none => exact ⟨⟨⟨rfl, rfl⟩, _, congrArg Ctx.queue (ctxOf_setCtx ..), rfl, rfl, rfl, rfl, rfl⟩, nofun⟩
  | some p =>
    refine ⟨⟨⟨rfl, rfl⟩, _, congrArg Ctx.queue (ctxOf_setCtx ..), rfl, rfl, rfl, rfl, rfl⟩, fun y q hq => ?_⟩
    cases hq
    exact tget_tset_self ..

/-- The number of a semaphore's name: module, field, semaphore (R214). -/
theorem semName_eq (m f k : Nat) : fieldAt 16 m + fieldAt 12 f + k = m * 65536 + f * 4096 + k := by
  simp only [fieldAt, Nat.shiftLeft_eq]

theorem held_holdOp (c : Core) (f : Nat) (op : SyncOp) : (syncU (holdOp c f op) f).held = (syncU c f).held ++ [op] :=
  congrArg SyncUnit.held (syncU_setSync ..)

end

/-! ## SIGs (O27; R223, R264) -/

theorem sigEntersItsQueue : Goals.SigEntersItsQueue := by
  intro s g w i o k hi h x op home hcount
  have hexec : exec i s = inRange g 192 (onCoreMem (fun m c => sigIssue m c g o k) s) := by
    simp only [List.mem_cons, Prod.mk.injEq, List.not_mem_nil, or_false] at hi
    rcases hi with ⟨rfl, rfl, rfl⟩ | ⟨rfl, rfl, rfl⟩
    all_goals rfl
  have hhome : (if wordHere s.core (bits w 28 12) (bit w 12) then none else some (bits w 28 12)) = home := by
    simp only [home, wordHere, Bool.or_eq_true, decide_eq_true_eq]
  have hroom : ¬16 ≤ sigCount (stn s.core g) := Nat.not_le.2 hcount
  rw [hexec, onCoreMem_atWord _ h]
  simp only [sigIssue, atPc_of_atWord h, if_neg hroom, hhome, issued_setStn]
  rfl

theorem sigLeavesItsQueue : Goals.SigLeavesItsQueue := by
  intro s g pc f op rest hr hg x
  have hexec : exec (.sigRelease g) s = inRange g 192 (onCore _ s) := rfl
  rw [hexec, inRange_lt hg, onCore_powered _ (runs_powered hr)]
  refine ⟨fun hfq => ?_, fun n i hfq hf h1 hp => ?_, fun a b hfq => ?_⟩
  all_goals simp only [show (stn s.core g).fq = _ from hfq]
  · exact ⟨_, rfl, stn_setStn .., held_holdOp .., fun k hk => stn_setStn_ne _ _ hk, rfl, rfl⟩
  · obtain ⟨⟨hu, p, hqueue, htyp, -, hissuer, haddr, hpay⟩, -⟩ :=
      departs_sendRemote (name := fieldAt 16 n + fieldAt 12 f + op.sem) none hf h1 hp
    generalize sendRemote s.core n (fieldAt 16 n + fieldAt 12 f + op.sem) op none = d at hu hqueue
    refine ⟨_, rfl, ?_, hu.fl, fun k hk => ?_, p, hqueue, htyp, hissuer, haddr.trans (semName_eq n f op.sem), hpay⟩
    · exact (stn_setStn ..).trans (by rw [hu.stn])
    · exact (stn_setStn_ne _ _ hk).trans (hu.stn k)

/-- Settles O27: the SIG at PC issues into the queue, and the first without a fence before it is held at its unit or departs
(`departs_sendRemote`). -/
theorem sigQueue : Obligations.SigQueue := ⟨sigEntersItsQueue, sigLeavesItsQueue⟩

/-! ## TAK (O31; R253, R265) -/

section
variable (c : Core) (g : Nat)

/-- A station behind an issue that holds its sequencer (R253). -/
theorem stn_holdIssued (row : Nat) (h : Hold) :
    stn (holdSeq (issued c g) g row h) g
        = { stn c g with seq := { issuedSeq (stn c g).seq with state := .waiting, waitCause := row, hold := h } }
      ∧ ∀ k, k ≠ g → stn (holdSeq (issued c g) g row h) k = stn c k := by
  simp only [holdSeq, issued_eq, stn_modSeq_self, stn_issueAs_self]
  exact ⟨trivial, fun k hk => by rw [stn_modSeq_ne _ _ hk, stn_issueAs_ne _ _ hk]⟩

/-- A station behind an issue answered at once (R254). -/
theorem stn_answeredIssue (st : Status) :
    stn (lastStatus (issued c g) g st) g = { stn c g with seq := { issuedSeq (stn c g).seq with lastStatus := st.code } }
      ∧ ∀ k, k ≠ g → stn (lastStatus (issued c g) g st) k = stn c k := by
  simp only [lastStatus, issued_eq, stn_modSeq_self, stn_issueAs_self]
  exact ⟨trivial, fun k hk => by rw [stn_modSeq_ne _ _ hk, stn_issueAs_ne _ _ hk]⟩

end

theorem wordHere_iff {c : Core} {m : Nat} {self : Bool} : wordHere c m self = true ↔ self = true ∨ m = ownMod c := by
  simp only [wordHere, Bool.or_eq_true, decide_eq_true_eq]

section
variable {s : State} {g w : Nat} (h : AtWord s g w .tak)
include h

/-- The operation of a TAK word (R265). -/
def takOp (g w pc : Nat) : SyncOp :=
  { issuer := g, kind := .tak, sem := bits w 9 12, n := bits w 36 20, cookie := 0, slot := 0, back := .tak g pc }

theorem exec_tak_here (hh : wordHere s.core (bits w 24 12) (bit w 8) = true) :
    exec (.tak g) s = .next (withCore s
      (holdOp (holdSeq (issued s.core g) g 10 .reply) (bits w 21 3) (takOp g w (stn s.core g).seq.pc))) := by
  have hexec : exec (.tak g) s = inRange g 192 (onCoreMem _ s) := rfl
  rw [hexec, onCoreMem_atWord _ h]
  simp only [atPc_of_atWord h, hh, if_true]
  rfl

theorem exec_tak_away (hh : wordHere s.core (bits w 24 12) (bit w 8) = false) :
    exec (.tak g) s = .next (withCore s (holdSeq (issued (sendRemote s.core (bits w 24 12)
      (wordSem s.core (bits w 24 12) (bits w 21 3) (bits w 9 12) false) (takOp g w (stn s.core g).seq.pc) none) g) g 10 .reply)) := by
  have hexec : exec (.tak g) s = inRange g 192 (onCoreMem _ s) := rfl
  rw [hexec, onCoreMem_atWord _ h]
  simp only [atPc_of_atWord h, hh, Bool.false_eq_true, if_false]
  rfl

end

/-! ## WAT (O31; R235, R266) -/

section
variable {s : State} {g w idx : Nat} {i : Instr} {o : Op} {blk : Bool}

/-- The operation of a WAT word under a watch index (R266). -/
def watOp (g w idx pc : Nat) (blk : Bool) : SyncOp :=
  { issuer := g, kind := .wat, sem := bits w 9 12, n := bits w 36 20, cookie := bits w 0 8, slot := idx, back := .wat g idx pc blk }

/-- The watch that a WAT word puts in use (R266). -/
def wordWatch (c : Core) (w : Nat) (blk : Bool) : WatchIdx :=
  { cookie := bits w 0 8, block := blk, sem := wordSem c (bits w 24 12) (bits w 21 3) (bits w 9 12) (bit w 8), thresh := bits w 36 20,
    inbox := none }

/-- What holds a WAT's sequencer. -/
def watHold (idx : Nat) (blk : Bool) : Hold := if blk then .message idx else .reply

theorem exec_wat (hi : (i, o, blk) ∈ [(Instr.watPost g, Op.watPost, false), (.watBlock g, .watBlock, true)]) (h : AtWord s g w o) :
    exec i s = .next (withCore s (watIssue s.mem s.core g o blk)) := by
  have hexec : exec i s = inRange g 192 (onCoreMem (fun m c => watIssue m c g o blk) s) := by
    simp only [List.mem_cons, Prod.mk.injEq, List.not_mem_nil, or_false] at hi
    rcases hi with ⟨rfl, rfl, rfl⟩ | ⟨rfl, rfl, rfl⟩
    all_goals rfl
  rw [hexec, onCoreMem_atWord _ h]
  rfl

section
variable (h : AtWord s g w o)
include h

theorem watIssue_busy (hf : freeIdx (stn s.core g) = none) :
    watIssue s.mem s.core g o blk = addObj (watAnswered s.core g .busy) Key.watchBusy 1 := by
  simp only [watIssue, atPc_of_atWord h, hf]

theorem watIssue_state (hf : freeIdx (stn s.core g) = some idx) (hc : ∃ p ∈ (stn s.core g).watches, p.2.cookie = bits w 0 8) :
    watIssue s.mem s.core g o blk = watAnswered s.core g .state := by
  have hany : ((stn s.core g).watches.any fun p => p.2.cookie = bits w 0 8) = true := by simpa using hc
  simp only [watIssue, atPc_of_atWord h, hf, hany, if_true]

variable (hf : freeIdx (stn s.core g) = some idx) (hc : ∀ p ∈ (stn s.core g).watches, p.2.cookie ≠ bits w 0 8)
include hf hc

theorem watIssue_here (hh : wordHere s.core (bits w 24 12) (bit w 8) = true) :
    watIssue s.mem s.core g o blk = holdSeq (issued (holdOp (setWatch s.core g idx (wordWatch s.core w blk)) (bits w 21 3)
      (watOp g w idx (stn s.core g).seq.pc blk)) g) g 10 (watHold idx blk) := by
  have hany : ((stn s.core g).watches.any fun p => p.2.cookie = bits w 0 8) = false := by simpa using hc
  simp only [watIssue, atPc_of_atWord h, hf, hany, hh, if_true, Bool.false_eq_true, if_false]
  rfl

theorem watIssue_away {y : Nat} (hh : wordHere s.core (bits w 24 12) (bit w 8) = false) (hy : freeProxy s.core = some y) :
    let q : Proxy := { home := bits w 24 12, waiter := g, slot := idx, sem := (wordWatch s.core w blk).sem, n := bits w 36 20,
                       cookie := bits w 0 8 }
    watIssue s.mem s.core g o blk = holdSeq (issued (sendRemote (setWatch s.core g idx (wordWatch s.core w blk)) (bits w 24 12)
      (wordWatch s.core w blk).sem { watOp g w idx (stn s.core g).seq.pc blk with slot := y } (some (y, q))) g) g 10 (watHold idx blk) := by
  have hany : ((stn s.core g).watches.any fun p => p.2.cookie = bits w 0 8) = false := by simpa using hc
  simp only [watIssue, atPc_of_atWord h, hf, hany, hh, hy, Bool.false_eq_true, if_false]
  rfl

end

end

/-- A WAT or WAIT answered at once ends its instruction, and nothing else of the stations and the fields changes. -/
theorem watAnswered_effect (c : Core) (g : Nat) (st : Status) :
    stn (watAnswered c g st) g = { stn c g with seq := { issuedSeq (stn c g).seq with lastStatus := st.code } }
      ∧ (∀ k, k ≠ g → stn (watAnswered c g st) k = stn c k) ∧ (watAnswered c g st).fl = c.fl := by
  obtain ⟨hg, hothers⟩ := stn_answeredIssue c g st
  simp only [watAnswered, stn_errStatus, errStatus_fl]
  exact ⟨hg, hothers, (issued_fl ..)⟩

theorem stn_setWatch (c : Core) (g i : Nat) (v : WatchIdx) :
    stn (setWatch c g i v) g = { stn c g with watches := tset (stn c g).watches i v }
      ∧ ∀ k, k ≠ g → stn (setWatch c g i v) k = stn c k :=
  ⟨stn_setStn .., fun _ hk => stn_setStn_ne _ _ hk⟩

theorem wordSem_away {c : Core} {m f k : Nat} {self : Bool} (h : wordHere c m self = false) :
    wordSem c m f k self = m * 65536 + f * 4096 + k := by
  have hself : self = false := by cases self <;> simp_all [wordHere]
  simp only [wordSem, hself, Bool.false_eq_true, if_false, semName_eq]

theorem takAndWatHoldTheSequencer : Goals.TakAndWatHoldTheSequencer := by
  intro s g w x here f heldBy away sends flow
  have haway : ¬here → wordHere s.core (bits w 24 12) (bit w 8) = false := fun hh => by
    rwa [← Bool.not_eq_true, wordHere_iff]
  refine ⟨fun h hh => ?_, fun k h hh ⟨hf, h1, hp⟩ => ?_, fun i o blk idx k y hi h hh hfree hc hy ⟨hf, h1, hp⟩ => ?_,
    fun i o blk idx hi h hh hfree hc => ?_, fun i o st hi h hst => ?_⟩
  · obtain ⟨hg, hothers⟩ := stn_holdIssued s.core g 10 .reply
    refine ⟨_, exec_tak_here h (wordHere_iff.2 hh), hg, hothers, rfl, takOp g w x.seq.pc, ?_, rfl, rfl, rfl, rfl, rfl⟩
    exact (held_holdOp ..).trans (congrArg (·.held ++ _) (syncU_of_fl ((holdSeq_fl ..).trans (issued_fl ..)) _))
  · have hexec := exec_tak_away h (haway hh)
    obtain ⟨⟨hu, p, hqueue, hpkt⟩, -⟩ := departs_sendRemote (op := takOp g w (stn s.core g).seq.pc)
      (name := wordSem s.core (bits w 24 12) (bits w 21 3) (bits w 9 12) false) none hf h1 hp
    generalize sendRemote s.core _ _ (takOp g w _) none = d at hexec hu hqueue
    obtain ⟨htyp, hop, hissuer, haddr, hpay⟩ := hpkt
    obtain ⟨hg, hothers⟩ := stn_holdIssued d g 10 .reply
    refine ⟨_, hexec, hg.trans (by rw [hu.stn]), fun k hk => (hothers k hk).trans (hu.stn k), rfl, ?_,
      p, ?_, htyp, hop, hissuer, haddr.trans (semName_eq ..), hpay⟩
    · exact (holdSeq_fl ..).trans ((issued_fl ..).trans hu.fl)
    · exact (congrArg Ctx.queue (ctxOf_of_fab ((holdSeq_fab ..).trans (issued_fab ..)) k)).trans hqueue
  · have hexec := exec_wat hi h
    rw [watIssue_away h hfree hc (haway hh) hy] at hexec
    obtain ⟨⟨hu, p, hqueue, hpkt⟩, hproxy⟩ := departs_sendRemote (c := setWatch s.core g idx (wordWatch s.core w blk))
      (op := { watOp g w idx (stn s.core g).seq.pc blk with slot := y }) (name := (wordWatch s.core w blk).sem)
      (some (y, { home := bits w 24 12, waiter := g, slot := idx, sem := (wordWatch s.core w blk).sem, n := bits w 36 20,
                  cookie := bits w 0 8 })) hf h1 hp
    generalize sendRemote (setWatch s.core g idx _) _ _ _ _ = d at hexec hu hqueue hproxy
    obtain ⟨htyp, hop, hissuer, haddr, hpay⟩ := hpkt
    obtain ⟨hg, hothers⟩ := stn_holdIssued d g 10 (watHold idx blk)
    obtain ⟨hwatch, hkept⟩ := stn_setWatch s.core g idx (wordWatch s.core w blk)
    have hfab : (holdSeq (issued d g) g 10 (watHold idx blk)).fab = d.fab := (holdSeq_fab ..).trans (issued_fab ..)
    refine ⟨_, hexec, (congrArg Station.seq hg).trans (by rw [hu.stn, hwatch]; rfl),
      ⟨p, ?_, htyp, hop, hissuer, haddr.trans (wordSem_away (haway hh)), hpay⟩, ⟨_, (congrArg (fun x => tget x.proxies y) hfab).trans (hproxy y _ rfl), rfl, rfl, rfl⟩,
      fun k hk => (hothers k hk).trans ((hu.stn k).trans (hkept k hk)), rfl, ?_⟩
    · exact (congrArg Ctx.queue (ctxOf_of_fab hfab k)).trans hqueue
    · exact (holdSeq_fl ..).trans ((issued_fl ..).trans hu.fl)
  · have hexec := exec_wat hi h
    rw [watIssue_here h hfree hc (wordHere_iff.2 hh)] at hexec
    obtain ⟨hg, hothers⟩ := stn_holdIssued (holdOp (setWatch s.core g idx (wordWatch s.core w blk)) (bits w 21 3)
      (watOp g w idx (stn s.core g).seq.pc blk)) g 10 (watHold idx blk)
    obtain ⟨hwatch, hkept⟩ := stn_setWatch s.core g idx (wordWatch s.core w blk)
    refine ⟨_, hexec, (congrArg Station.seq hg).trans ?_, (congrArg Station.watches hg).trans (congrArg Station.watches hwatch),
      fun k hk => (hothers k hk).trans (hkept k hk), rfl, watOp g w idx x.seq.pc blk, ?_, rfl, rfl, rfl, rfl, rfl, rfl, rfl⟩
    · exact congrArg (fun z : Station => { issuedSeq z.seq with state := .waiting, waitCause := 10, hold := watHold idx blk }) hwatch
    · exact (congrArg SyncUnit.held (syncU_of_fl ((holdSeq_fl ..).trans (issued_fl ..)) _)).trans (held_holdOp ..)
  · replace hi : ∃ blk, (i, o, blk) ∈ [(Instr.watPost g, Op.watPost, false), (.watBlock g, .watBlock, true)] := by
      simpa [← exists_or] using hi
    obtain ⟨blk, hi⟩ := hi
    have hexec := exec_wat hi h
    rcases hst with ⟨hfree, rfl⟩ | ⟨hfree, hc, rfl⟩
    · rw [watIssue_busy h hfree] at hexec
      obtain ⟨hg, hothers, hfl⟩ := watAnswered_effect s.core g .busy
      exact ⟨_, hexec, hg, hfl, hothers⟩
    · obtain ⟨idx, hidx⟩ := Option.ne_none_iff_exists'.1 hfree
      rw [watIssue_state h hidx hc] at hexec
      obtain ⟨hg, hothers, hfl⟩ := watAnswered_effect s.core g .state
      exact ⟨_, hexec, hg, hfl, hothers⟩

/-! ## WAIT (O31; R230, R266) -/

theorem exec_watWait {s : State} {g w : Nat} (h : AtWord s g w .watWait) :
    exec (.watWait g) s = .next (withCore s (match (stn s.core g).watches.find? fun p => p.2.cookie = bits w 0 8 with
      | none => watAnswered s.core g .state
      | some p => match p.2.inbox with
        | some x => takeInbox (issued s.core g) g p.1 x
        | none => holdSeq (issued s.core g) g 10 (.inbox (bits w 0 8)))) := by
  have hexec : exec (.watWait g) s = inRange g 192 (onCoreMem _ s) := rfl
  rw [hexec, onCoreMem_atWord _ h]
  simp only [atPc_of_atWord h]
  rfl

/-- An inbox entry taken: its status is LAST_STATUS and its watch is free (R230). -/
theorem stn_takeInbox (c : Core) (g idx : Nat) (m : WatchMsg) :
    stn (takeInbox c g idx m) g = { stn c g with seq := { (stn c g).seq with lastStatus := m.status.code },
                                                 watches := tdel (stn c g).watches idx }
      ∧ ∀ k, k ≠ g → stn (takeInbox c g idx m) k = stn c k := by
  simp only [takeInbox, freeWatchIdx, lastStatus, stn_setStn, stn_modSeq_self]
  exact ⟨trivial, fun k hk => by rw [stn_setStn_ne _ _ hk, stn_modSeq_ne _ _ hk]⟩

theorem waitTakesItsInboxEntry : Goals.WaitTakesItsInboxEntry := by
  intro s g w idx v h x
  have hexec := exec_watWait h
  refine ⟨fun hfind => ⟨fun m hm => ?_, fun hm => ?_⟩, fun hnone => ?_⟩
  · simp only [show (stn s.core g).watches.find? _ = _ from hfind, hm] at hexec
    obtain ⟨hg, hothers⟩ := stn_takeInbox (issued s.core g) g idx m
    rw [issued_eq] at hexec hg hothers
    rw [stn_issueAs_self] at hg
    exact ⟨_, hexec, hg, fun k hk => (hothers k hk).trans (stn_issueAs_ne _ _ hk), rfl⟩
  · simp only [show (stn s.core g).watches.find? _ = _ from hfind, hm] at hexec
    obtain ⟨hg, hothers⟩ := stn_holdIssued s.core g 10 (.inbox (bits w 0 8))
    exact ⟨_, hexec, hg, hothers, rfl⟩
  · have hfind : (stn s.core g).watches.find? (fun p => p.2.cookie = bits w 0 8) = none := by simpa using hnone
    simp only [hfind] at hexec
    obtain ⟨hg, hothers, -⟩ := watAnswered_effect s.core g .state
    exact ⟨_, hexec, hg, hothers, rfl⟩

/-- Settles O31: `exec_tak_here`, `exec_tak_away`, `exec_wat` and `exec_watWait` say what each word does; what holds the sequencer
is `stn_holdIssued`, and what leaves for another module `departs_sendRemote`. -/
theorem takWatWait : Obligations.TakWatWait := ⟨takAndWatHoldTheSequencer, waitTakesItsInboxEntry⟩

end Sys2Proof.Machine

namespace Sys2Proof.Machine

/-! ## Fences are recorded (O33; R222, R267) -/

theorem stn_addFence (c : Core) (g : Nat) :
    stn (addFence c g) g = { stn c g with fq := (stn c g).fq ++ [.fence (stn c g).waitStart (stn c g).nextX],
                                          waitStart := (stn c g).nextX }
      ∧ ∀ k, k ≠ g → stn (addFence c g) k = stn c k :=
  ⟨stn_setStn .., fun _ hk => stn_setStn_ne _ _ hk⟩

theorem fencesAreRecorded : Goals.FencesAreRecorded := by
  intro s g w x y hcount
  have hroom : ¬16 ≤ fenceCount (stn s.core g) := Nat.not_le.2 hcount
  obtain ⟨hfence, hkept⟩ := stn_addFence s.core g
  refine ⟨fun h => ?_, fun h => ?_⟩
  · have hexec : exec (.fnc g) s = inRange g 192 (onCoreMem _ s) := rfl
    rw [hexec, onCoreMem_atWord _ h]
    simp only [atPc_of_atWord h, if_neg hroom]
    refine ⟨_, rfl, ?_, fun k hk => ?_, rfl, issued_fl ..⟩
    · exact (congrArg (stn · g) (issued_eq ..)).trans ((stn_issueAs_self ..).trans (by rw [hfence]))
    · exact (congrArg (stn · k) (issued_eq ..)).trans ((stn_issueAs_ne _ _ hk).trans (hkept k hk))
  · have hexec : exec (.fncWait g) s = inRange g 192 (onCoreMem _ s) := rfl
    rw [hexec, onCoreMem_atWord _ h]
    simp only [atPc_of_atWord h, if_neg hroom]
    obtain ⟨hg, hothers⟩ := stn_holdIssued (addFence s.core g) g 12 .fences
    refine ⟨_, rfl, hg.trans ?_, fun k hk => (hothers k hk).trans (hkept k hk), rfl, (holdSeq_fl ..).trans (issued_fl ..)⟩
    rw [hfence]

/-! ## The signal order (R222, R223) -/

section
variable {pre sigs post : List FenceOrSig}

/-- An entry of the signal order that is a SIG. -/
def IsSig (e : FenceOrSig) : Prop := ∃ p n f op, e = .sig p n f op

theorem splitFence_of_sigs (a b : Nat) (post : List FenceOrSig) (h : ∀ e ∈ pre, IsSig e) :
    splitFence (pre ++ .fence a b :: post) = some (pre, (a, b), post) := by
  induction pre with
  | nil => rfl
  | cons e es ih =>
    obtain ⟨⟨p, n, f, op, rfl⟩, hes⟩ := List.forall_mem_cons.1 h
    simp only [List.cons_append, splitFence, ih hes]

theorem heldSigs_of_sigs (h : ∀ e ∈ sigs, IsSig e) (hpost : ∀ e r, post = e :: r → ¬IsSig e) : heldSigs (sigs ++ post) = (sigs, post) := by
  induction sigs with
  | nil =>
    cases post with
    | nil => rfl
    | cons e r =>
      cases e with
      | sig p n f op => exact absurd ⟨p, n, f, op, rfl⟩ (hpost _ _ rfl)
      | fence a b => rfl
  | cons e es ih =>
    obtain ⟨⟨p, n, f, op, rfl⟩, hes⟩ := List.forall_mem_cons.1 h
    simp only [List.cons_append, heldSigs, ih hes]

theorem fenceCount_of_sigs {x : Station} (h : ∀ e ∈ x.fq, IsSig e) : fenceCount x = 0 := by
  rw [fenceCount, List.length_eq_zero_iff, List.filter_eq_nil_iff]
  intro e he
  obtain ⟨p, n, f, op, rfl⟩ := h e he
  exact Bool.false_ne_true

end

/-! ## Fences retire (O33; R222, R267) -/

/-- The station whose SIGs were discarded because their fence lost a transfer. -/
def sigsDropped (x : Station) (l : List FenceOrSig) : Station :=
  { x with seq := { x.seq with sigLost := x.seq.sigLost || !l.isEmpty } }

theorem stn_sigLost (c : Core) (g : Nat) :
    stn (sigLost c g) g = { stn c g with seq := { (stn c g).seq with sigLost := true } } ∧ ∀ k, k ≠ g → stn (sigLost c g) k = stn c k :=
  ⟨(stn_addObj ..).trans (stn_modSeq_self ..), fun _ hk => (stn_addObj ..).trans (stn_modSeq_ne _ _ hk)⟩

theorem stn_foldl_sigLost (g : Nat) (l : List FenceOrSig) (c : Core) :
    stn (l.foldl (fun c _ => sigLost c g) c) g = sigsDropped (stn c g) l
      ∧ ∀ k, k ≠ g → stn (l.foldl (fun c _ => sigLost c g) c) k = stn c k := by
  induction l generalizing c with
  | nil => simp [sigsDropped]
  | cons e es ih =>
    obtain ⟨hg, hothers⟩ := ih (sigLost c g)
    obtain ⟨hlost, hkept⟩ := stn_sigLost c g
    refine ⟨hg.trans ?_, fun k hk => (hothers k hk).trans (hkept k hk)⟩
    simp [sigsDropped, hlost]

/-- The core behind the retirement of its first fence, before a sequencer that waits on its last fence goes on: what stays in the
order, up to which transfer it covered, and the SIGs that a lost one discards. -/
def fenceGone (c : Core) (g upto : Nat) (rest dropped : List FenceOrSig) : Core :=
  let d := dropped.foldl (fun c _ => sigLost c g)
    (setStn c g { stn c g with fq := rest, idleX := (stn c g).idleX.filter fun x => decide (upto ≤ x) })
  { d with vigil := { d.vigil with retired := tset d.vigil.retired g (tgetD d.vigil.retired g 0 + 1) } }

/-- A sequencer that waits on its fences goes on behind the last of them. -/
def pastFences (c : Core) (g : Nat) (st : Status) : Core :=
  if (stn c g).seq.hold = .fences ∧ fenceCount (stn c g) = 0 then releaseSeq (lastStatus c g st) g else c

theorem stn_fenceGone (c : Core) (g upto : Nat) (rest dropped : List FenceOrSig) :
    stn (fenceGone c g upto rest dropped) g = sigsDropped
        { stn c g with fq := rest, idleX := (stn c g).idleX.filter fun x => decide (upto ≤ x) } dropped
      ∧ ∀ k, k ≠ g → stn (fenceGone c g upto rest dropped) k = stn c k := by
  obtain ⟨hg, hothers⟩ := stn_foldl_sigLost g dropped
    (setStn c g { stn c g with fq := rest, idleX := (stn c g).idleX.filter fun x => decide (upto ≤ x) })
  exact ⟨hg.trans (by rw [stn_setStn]), fun k hk => (hothers k hk).trans (stn_setStn_ne _ _ hk)⟩

section
variable {c : Core} {g : Nat} (st : Status)

/-- A sequencer that waits runs on when it is released (R253). -/
theorem stn_releaseSeq (hw : (stn c g).seq.state = .waiting) :
    stn (releaseSeq c g) g = { stn c g with seq := { (stn c g).seq with state := .running, waitCause := 0, hold := .free } }
      ∧ ∀ k, k ≠ g → stn (releaseSeq c g) k = stn c k := by
  simp only [releaseSeq, stn_modSeq_self, hw, if_true]
  exact ⟨trivial, fun k hk => stn_modSeq_ne _ _ hk⟩

/-- It takes its status with it (R253). -/
theorem stn_release (hw : (stn c g).seq.state = .waiting) :
    stn (releaseSeq (lastStatus c g st) g) g
        = { stn c g with seq := { (stn c g).seq with state := .running, waitCause := 0, hold := .free, lastStatus := st.code } }
      ∧ ∀ k, k ≠ g → stn (releaseSeq (lastStatus c g st) g) k = stn c k := by
  have hself : stn (lastStatus c g st) g = { stn c g with seq := { (stn c g).seq with lastStatus := st.code } } := stn_modSeq_self ..
  obtain ⟨hrun, hothers⟩ := stn_releaseSeq (c := lastStatus c g st) (g := g) (by rw [hself]; exact hw)
  exact ⟨hrun.trans (by rw [hself]), fun k hk => (hothers k hk).trans (stn_modSeq_ne _ _ hk)⟩

theorem pastFences_of_hold (h : (stn c g).seq.hold ≠ .fences) : pastFences c g st = c := if_neg fun hh => h hh.1

/-- Whether it goes on or not, its order and SIG_LOST stay, as do the other stations. -/
theorem stn_pastFences : (stn (pastFences c g st) g).fq = (stn c g).fq ∧ (stn (pastFences c g st) g).seq.sigLost = (stn c g).seq.sigLost
    ∧ ∀ k, k ≠ g → stn (pastFences c g st) k = stn c k := by
  rw [pastFences]
  split
  · simp only [releaseSeq, lastStatus, stn_modSeq_self]
    exact ⟨trivial, trivial, fun k hk => by rw [stn_modSeq_ne _ _ hk, stn_modSeq_ne _ _ hk]⟩
  · exact ⟨rfl, rfl, fun _ _ => rfl⟩

theorem seq_pastFences_release (h : (stn c g).seq.hold = .fences) (hw : (stn c g).seq.state = .waiting) (h0 : fenceCount (stn c g) = 0) :
    (stn (pastFences c g st) g).seq = { (stn c g).seq with state := .running, waitCause := 0, hold := .free, lastStatus := st.code } := by
  rw [pastFences, if_pos ⟨h, h0⟩]
  exact congrArg Station.seq (stn_release st hw).1

end

section
variable {s : State} {g a b : Nat} {pre post : List FenceOrSig} (hr : Runs s) (hg : g < 192)
  (hfq : (stn s.core g).fq = pre ++ .fence a b :: post) (hpre : ∀ e ∈ pre, IsSig e)
include hr hg hfq hpre

theorem exec_fenceRetire_open (ho : ∃ k ∈ (stn s.core g).openX, k < b) : exec (.fenceRetire g) s = .next s := by
  have hexec : exec (.fenceRetire g) s = inRange g 192 (onCore _ s) := rfl
  have hany : ((stn s.core g).openX.any fun k => decide (k < b)) = true := by simpa using ho
  rw [hexec, inRange_lt hg, onCore_powered _ (runs_powered hr)]
  simp only [hfq, splitFence_of_sigs a b post hpre, hany, if_true]

/-- What the retirement of a fence does, by whether one of its transfers was lost. -/
theorem exec_fenceRetire {lost : Bool} (ho : ∀ k ∈ (stn s.core g).openX, b ≤ k)
    (hl : ((stn s.core g).lostX.any fun k => decide (a ≤ k ∧ k < b)) = lost) :
    exec (.fenceRetire g) s = .next (withCore s (pastFences (fenceGone s.core g b (pre ++ if lost then (heldSigs post).2 else post)
      (if lost then (heldSigs post).1 else [])) g (if lost then .lost else .ok))) := by
  have hexec : exec (.fenceRetire g) s = inRange g 192 (onCore _ s) := rfl
  have hany : ((stn s.core g).openX.any fun k => decide (k < b)) = false := by simpa using ho
  rw [hexec, inRange_lt hg, onCore_powered _ (runs_powered hr)]
  simp only [hfq, splitFence_of_sigs a b post hpre, hany, hl, Bool.false_eq_true, if_false]
  cases lost
  all_goals rfl

end

theorem fencesRetire : Goals.FencesRetire := by
  intro s g a b pre sigs post hr hg x lost isSig hfq hsigs hpost
  obtain ⟨hpre, hheld⟩ := List.forall_mem_append.1 hsigs
  refine ⟨exec_fenceRetire_open hr hg hfq hpre, fun ho => ?_⟩
  have hexec := exec_fenceRetire hr hg hfq hpre (lost := lost) ho rfl
  rw [heldSigs_of_sigs hheld hpost] at hexec
  obtain ⟨hgone, hkept⟩ := stn_fenceGone s.core g b (pre ++ if lost then post else sigs ++ post) (if lost then sigs else [])
  have hdropped : (!List.isEmpty (if lost then sigs else [])) = (lost && !sigs.isEmpty) := by
    cases lost
    all_goals rfl
  generalize fenceGone s.core g b _ _ = d at hexec hgone hkept
  have hseq : (stn d g).seq = { x.seq with sigLost := x.seq.sigLost || (lost && !sigs.isEmpty) } := by rw [hgone, ← hdropped]; rfl
  have hrest : (stn d g).fq = pre ++ if lost then post else sigs ++ post := by rw [hgone]; rfl
  obtain ⟨hfq', hsig, hothers⟩ := stn_pastFences (c := d) (g := g) (if lost then .lost else .ok)
  refine ⟨_, hexec, hfq'.trans hrest, hsig.trans (by rw [hseq]), fun hh hw hp => ?_, fun hh => ?_,
    fun k hk => (hothers k hk).trans (hkept k hk), rfl⟩
  · have hcount : fenceCount (stn d g) = 0 := fenceCount_of_sigs fun e he => hsigs e (by
      rw [hrest, hp] at he
      revert he
      cases lost <;> simp +contextual)
    have hrun := seq_pastFences_release (if lost then .lost else .ok) (by rw [hseq]; exact hh) (by rw [hseq]; exact hw) hcount
    refine ⟨(congrArg Seq.state hrun), congrArg Seq.hold hrun, (congrArg Seq.lastStatus hrun).trans ?_⟩
    cases lost
    all_goals rfl
  · have hstay := pastFences_of_hold (if lost then .lost else .ok) (by rw [hseq]; exact hh)
    simp only [withCore, hstay, hseq]

/-- Settles O33: a fence enters behind the order that stands, and its retirement is `exec_fenceRetire`. -/
theorem fences : Obligations.Fences := ⟨fencesAreRecorded, fencesRetire⟩

end Sys2Proof.Machine

namespace Sys2Proof.Machine

/-! ## Replies at their station (O32; R253, R254, R264, R265, R497) -/

section
variable {s : State} {g pc : Nat} {b : Back} {st : Status}

/-- A message inside the module is no longer under way. -/
def msgTaken (c : Core) (m : NetMsg) : Core := { c with net := c.net.erase m }

/-- The oldest reply to a station leaves the messages under way and is answered there. -/
theorem exec_syncOperationReply (hr : Runs s) (hg : g < 192) (hfind : s.core.net.find? (isReplyTo g) = some (.reply b st)) :
    exec (.syncOperationReply g) s
      = .next (withCore s (stationReply (msgTaken s.core (.reply b st)) b st)) := by
  have hexec : exec (.syncOperationReply g) s = inRange g 192 (onCore _ s) := rfl
  rw [hexec, inRange_lt hg, onCore_powered _ (runs_powered hr)]
  simp only [hfind]
  rfl

variable {c : Core}

theorem stationReply_ok (hb : b = .sig g pc ∨ b = .comp g pc) : stationReply c b .ok = c := by
  rcases hb with rfl | rfl
  all_goals rfl

theorem stationReply_lost (hb : b = .sig g pc ∨ b = .comp g pc) : stationReply c b .lost = sigLost c g := by
  rcases hb with rfl | rfl
  all_goals rfl

theorem stationReply_tak (hst : st ∈ [Status.ok, .taken, .lost]) (hhold : (stn c g).seq.hold = .reply) :
    stationReply c (.tak g pc) st = releaseSeq (lastStatus c g st) g := by
  have hend : st = .ok ∨ st = .taken ∨ st = .lost := by simpa using hst
  simp only [stationReply, if_pos hend, endReply, if_pos hhold]

theorem stationReply_refused (hb : b = .sig g pc ∨ b = .comp g pc ∨ b = .tak g pc) (hst : st ∈ [Status.range, .access, .state]) :
    stationReply c b st = syncRefused c g pc := by
  have hrefused : st = .range ∨ st = .access ∨ st = .state := by simpa using hst
  rcases hb with rfl | rfl | rfl <;> rcases hrefused with rfl | rfl | rfl
  all_goals rfl

theorem stn_of_st {d : Core} (h : d.st = c.st) (k : Nat) : stn d k = stn c k := by simp only [stn, h]

/-- A refused operation faults its sequencer with kind 5 at the instruction (R254). -/
theorem syncRefused_effect (hf : (stn c g).seq.state ≠ .faulted) :
    stn (syncRefused c g pc) g = { stn c g with seq := { faultedSeq (stn c g).seq 5 with faultPc := pc } }
      ∧ (∀ k, k ≠ g → stn (syncRefused c g pc) k = stn c k) ∧ (syncRefused c g pc).net = c.net := by
  have hstop := unitsKept_askStop (c := faultSeq c g pc 5) g
  have hfault : (faultSeq c g pc 5).st = (modSeq c g fun q => { faultedSeq q 5 with faultPc := pc }).st := by
    rw [faultSeq, if_neg hf]
    rfl
  have hnet : (faultSeq c g pc 5).net = c.net := by
    rw [faultSeq, if_neg hf]
    rfl
  have hstn : ∀ k, stn (syncRefused c g pc) k = stn (modSeq c g fun q => { faultedSeq q 5 with faultPc := pc }) k := fun k =>
    (hstop.stn k).trans (stn_of_st hfault k)
  exact ⟨(hstn g).trans (stn_modSeq_self ..), fun k hk => (hstn k).trans (stn_modSeq_ne _ _ hk), (askStop_net ..).trans hnet⟩

end

theorem repliesReachTheirStation : Goals.RepliesReachTheirStation := by
  intro s g pc b st hr hg hfind x one told
  have hexec := exec_syncOperationReply hr hg hfind
  refine ⟨fun hb hst hhold hw => ?_, fun hb => ⟨fun hst => ?_, fun hst => ?_⟩, fun hb hst hf => ?_⟩
  · subst hb
    obtain ⟨hself, hothers⟩ := stn_release (c := msgTaken s.core (.reply (.tak g pc) st)) (g := g) st hw
    rw [stationReply_tak (c := msgTaken s.core (.reply (.tak g pc) st)) hst hhold] at hexec
    exact ⟨_, hexec, hself, rfl, hothers, rfl⟩
  · subst hst
    rw [stationReply_ok hb] at hexec
    exact ⟨_, hexec, rfl, rfl, fun _ _ => rfl, rfl⟩
  · subst hst
    obtain ⟨hself, hothers⟩ := stn_sigLost (msgTaken s.core (.reply b .lost)) g
    rw [stationReply_lost hb] at hexec
    exact ⟨_, hexec, hself, rfl, hothers, rfl⟩
  · obtain ⟨hself, hothers, hnet⟩ := syncRefused_effect (c := msgTaken s.core (.reply b st)) (g := g) (pc := pc) hf
    rw [stationReply_refused hb hst] at hexec
    exact ⟨_, hexec, hself, hnet, hothers, rfl⟩

/-! ## Watch messages at their station (O32; R228, R230, R266) -/

section
variable {s : State} {unit idx : Nat} {m : WatchMsg}

/-- The oldest watch message to a unit leaves the messages under way and goes to a station's inbox or a wait slot. -/
theorem exec_watchMessage (hr : Runs s) (hu : unit < 192 ∨ 0x10000 ≤ unit)
    (hfind : s.core.net.find? (isWatchFor unit) = some (.watch unit idx m)) :
    exec (.watchMessage unit) s = .next (withCore s (if unit < 192 then stationMessage (msgTaken s.core (.watch unit idx m)) unit idx m
      else slotMessage (msgTaken s.core (.watch unit idx m)) unit m)) := by
  have hexec : exec (.watchMessage unit) s = execWatchMessage unit s := rfl
  have hunit : ¬(192 ≤ unit ∧ unit < 0x10000) := by omega
  rw [hexec, execWatchMessage, onCore_powered _ (runs_powered hr)]
  simp only [if_neg hunit, hfind]
  rfl

variable {c : Core} {g : Nat} {v : WatchIdx}

/-- A message whose watch holds the sequencer passes through the inbox and releases it. -/
theorem stationMessage_release (hv : tget (stn c g).watches idx = some v)
    (hhold : (stn c g).seq.hold = .message idx ∨ (stn c g).seq.hold = .inbox v.cookie) :
    stationMessage c g idx m = releaseSeq (takeInbox (setWatch c g idx { v with inbox := some m }) g idx m) g := by
  have hset := (stn_setWatch c g idx { v with inbox := some m }).1
  rcases hhold with hhold | hhold
  all_goals simp only [stationMessage, hv, hset, hhold, if_true]

/-- A message whose watch holds nothing stays in its inbox entry. -/
theorem stationMessage_keep (hv : tget (stn c g).watches idx = some v)
    (hhold : (stn c g).seq.hold = .free ∨ (stn c g).seq.hold = .reply) :
    stationMessage c g idx m = setWatch c g idx { v with inbox := some m } := by
  have hset := (stn_setWatch c g idx { v with inbox := some m }).1
  rcases hhold with hhold | hhold
  all_goals simp only [stationMessage, hv, hset, hhold]

end

/-! ## Watch messages in a wait slot (O32; R234, R193) -/

/-- From `c` to `d` a stream keeps its state and its fault, and every other station its record. -/
structure FaultKept (g st : Nat) (c d : Core) : Prop where
  state : (strm (stn d g) st).state = (strm (stn c g) st).state
  cause : (strm (stn d g) st).faultCause = (strm (stn c g) st).faultCause
  addr : (strm (stn d g) st).faultAddr = (strm (stn c g) st).faultAddr
  others : ∀ k, k ≠ g → stn d k = stn c k

section
variable {c d e : Core} {g st : Nat}

theorem FaultKept.of_st (h : d.st = c.st) : FaultKept g st c d := by
  have hstn := stn_of_st h
  exact ⟨by rw [hstn], by rw [hstn], by rw [hstn], fun k _ => hstn k⟩

theorem FaultKept.trans (h : FaultKept g st c d) (k : FaultKept g st d e) : FaultKept g st c e :=
  ⟨k.state.trans h.state, k.cause.trans h.cause, k.addr.trans h.addr, fun j hj => (k.others j hj).trans (h.others j hj)⟩

theorem st_signalFull (c : Core) (g d : Nat) : (signalFull c g d).st = c.st := by
  unfold signalFull
  extract_lets r rec' e
  split
  · split
    · exact foldl_keeps Core.st (fun c f => (quiet_holdOp c f _).toNoted.st) _ e
    · rfl
  · split <;> rfl

/-- What a faulted stream still signals and poisons leaves its fault as it is (R193). -/
theorem faultKept_settleFault (c : Core) (g st : Nat) : FaultKept g st c (settleFault c g st) := by
  unfold settleFault
  extract_lets x d due c1 fields c2
  split
  · exact .of_st rfl
  · have h1 : FaultKept g st c c1 :=
      ⟨by simp only [c1, strm_setStrm_self, x], by simp only [c1, strm_setStrm_self, x], by simp only [c1, strm_setStrm_self, x],
        fun k hk => (stn_setStrm_ne _ _ _ _ hk).trans (stn_of_st (foldl_keeps Core.st (fun c _ => st_signalFull c g d) due c) k)⟩
    have h2 : c2.st = c1.st := by
      unfold c2
      split
      · exact foldl_keeps Core.st (fun c f => (quiet_holdPoison c f _ g 5).toNoted.st) fields c1
      · rfl
    split
    · exact h1.trans (.of_st ((quiet_holdPoison c2 _ _ g 5).toNoted.st.trans h2))
    · exact h1.trans (.of_st h2)

/-- A stream that is ACTIVE is FAULTED with its cause and address, and settles (R193). -/
theorem streamFault_active (cause addr : Nat) (h : (strm (stn c g) st).state = 1) : ∃ y : Stream, y.state = 2 ∧ y.faultCause = cause
    ∧ y.faultAddr = addr ∧ streamFault c g st cause addr = settleFault (addObj (setStrm c g st y) Key.streamFaultCount 1) g st :=
  ⟨_, rfl, rfl, rfl, if_neg (not_not.2 h)⟩

/-- A stream that loses a transfer is FAULTED with cause 4 at the address (R193). -/
theorem streamLost_effect (what addr : Nat) (h : (strm (stn c g) st).state = 1) :
    (strm (stn (streamLost c g st what addr) g) st).state = 2 ∧ (strm (stn (streamLost c g st what addr) g) st).faultCause = 4
      ∧ (strm (stn (streamLost c g st what addr) g) st).faultAddr = addr ∧ ∀ k, k ≠ g → stn (streamLost c g st what addr) k = stn c k := by
  have hraise := (noted_raise c 0x0705 .report g (sTag (strm (stn c g) st).active) [g, st, what]).st
  rw [streamLost, if_neg (not_not.2 h)]
  generalize raise c 0x0705 .report g _ _ = d at hraise
  obtain ⟨y, hstate, hcause, haddr, heq⟩ := streamFault_active (c := d) 4 addr (by rw [stn_of_st hraise, h])
  obtain ⟨kstate, kcause, kaddr, kothers⟩ := faultKept_settleFault (addObj (setStrm d g st y) Key.streamFaultCount 1) g st
  simp only [stn_addObj, strm_setStrm_self] at kstate kcause kaddr kothers
  rw [heq]
  exact ⟨kstate.trans hstate, kcause.trans hcause, kaddr.trans haddr,
    fun k hk => (kothers k hk).trans ((stn_setStrm_ne _ _ _ _ hk).trans (stn_of_st hraise k))⟩

variable {m : WatchMsg}

theorem streamSlot_lt (hg : g < 192) (hst : st < 16) : 0x10000 ≤ streamSlot g st ∧ streamSlot g st < 0x20000 := by
  simp only [streamSlot]
  omega

/-- A message in the wait slot of a stream (R234). -/
theorem slotMessage_stream (hg : g < 192) (hst : st < 16) : slotMessage c (streamSlot g st) m =
    if m.status = .lost then streamLost (dropSlot c (bits m.sem 12 3) (streamSlot g st)) g st m.sem m.sem
    else setStrm (slotPhase c (bits m.sem 12 3) (streamSlot g st) 2) g st { strm (stn c g) st with waits := false } := by
  have hslot := streamSlot_lt hg hst
  have hmerge : ¬0x30000 ≤ streamSlot g st := by omega
  have hdfw : ¬0x20000 ≤ streamSlot g st := by omega
  have hdiv : (streamSlot g st - 0x10000) / 16 = g := by simp only [streamSlot]; omega
  have hmod : (streamSlot g st - 0x10000) % 16 = st := by simp only [streamSlot]; omega
  simp only [slotMessage, if_neg hmerge, if_neg hdfw, hdiv, hmod]

end

theorem watchMessagesReachTheirUnit : Goals.WatchMessagesReachTheirUnit := by
  intro s unit idx m hr hfind x
  refine ⟨fun v hu hv => ⟨fun hhold hw => ?_, fun hhold => ?_⟩, fun g st hg hst hu hact => ⟨fun hm => ?_, fun hm => ?_⟩⟩
  · have hexec := exec_watchMessage hr (.inl hu) hfind
    rw [if_pos hu, stationMessage_release (c := msgTaken s.core _) hv hhold] at hexec
    obtain ⟨hset, hset'⟩ := stn_setWatch (msgTaken s.core (.watch unit idx m)) unit idx { v with inbox := some m }
    generalize setWatch (msgTaken s.core _) unit idx _ = d at hexec hset hset'
    obtain ⟨htake, htake'⟩ := stn_takeInbox d unit idx m
    obtain ⟨hrun, hrun'⟩ := stn_releaseSeq (c := takeInbox d unit idx m) (g := unit) (by rw [htake, hset]; exact hw)
    refine ⟨_, hexec, (congrArg Station.seq hrun).trans (by rw [htake, hset]; rfl), ?_,
      fun k hk => (hrun' k hk).trans ((htake' k hk).trans (hset' k hk)), rfl⟩
    exact (congrArg (fun y : Station => tget y.watches idx) (hrun.trans (by rw [htake]))).trans (tget_tdel_self ..)
  · have hexec := exec_watchMessage hr (.inl hu) hfind
    rw [if_pos hu, stationMessage_keep (c := msgTaken s.core _) hv hhold] at hexec
    obtain ⟨hset, hset'⟩ := stn_setWatch (msgTaken s.core (.watch unit idx m)) unit idx { v with inbox := some m }
    exact ⟨_, hexec, hset, hset', rfl⟩
  all_goals
    have hslot := streamSlot_lt hg hst
    subst hu
    have hexec := exec_watchMessage hr (.inr hslot.1) hfind
    rw [if_neg (by omega), slotMessage_stream hg hst] at hexec
  · rw [if_neg (by rw [hm]; decide)] at hexec
    exact ⟨_, hexec, strm_setStrm_self .., fun k hk => stn_setStrm_ne _ _ _ _ hk, rfl⟩
  · rw [if_pos hm] at hexec
    obtain ⟨hstate, hcause, haddr, hothers⟩ := streamLost_effect (c := dropSlot (msgTaken s.core _) _ _) m.sem m.sem hact
    exact ⟨_, hexec, hstate, hcause, haddr, hothers, rfl⟩

/-- Settles O32: the oldest message leaves the list (`exec_syncOperationReply`, `exec_watchMessage`), and its unit answers it. -/
theorem messagesInsideTheModule : Obligations.MessagesInsideTheModule := ⟨repliesReachTheirStation, watchMessagesReachTheirUnit⟩

end Sys2Proof.Machine
